-- ==== Sys2Proof/Word.lean ====
section
/-!
DEFINITION. The word types and the exact time unit of the model of the EVT-6416-LQ (spec 00_scope.md R7, R9, R10).
-/
namespace Sys2Proof

/-- One byte, as every dictionary value, frame payload and packet carries it (R9, R248). -/
abbrev Byte := BitVec 8

/-- The time unit of the model is 1/57 ns, because every clock instant of the spec is a whole number of it:
one 100 MHz timer tick (10 ns) is 570 units, one 285 MHz conversion period is 200 units and one row slot
(70 conversion periods, R10) is 14,000 units. -/
abbrev Instant := Nat

/-- `ns n` is n nanoseconds in time units. -/
abbrev ns (n : Nat) : Instant := 57 * n

/-- `us n` is n microseconds in time units. -/
abbrev us (n : Nat) : Instant := 57000 * n

/-- `ms n` is n milliseconds in time units. -/
abbrev ms (n : Nat) : Instant := 57000000 * n

/-- One 100 MHz timer tick of 10 ns (R23, R283). -/
abbrev tickUnits : Instant := 570

/-- One 285 MHz conversion period (R23, R106). -/
abbrev periodUnits : Instant := 200

/-- One row slot of 70 conversion periods (R10, R106). -/
abbrev slotUnits : Instant := 14000

end Sys2Proof
end

