-- ==== Sys2Proof/Syntax.lean ====
section
/-!
DEFINITION. The commands of the EVT-6416-LQ: one constructor of `Instr` for every row of spec/opcode_table.json, in the
table's order, with the row's operands. The table gives the rows no fields, so the operands are the values the rule of the
row names (log entry 1).
-/
namespace Sys2Proof

/-- The two transports that reach the object dictionary (R15, R251). -/
inductive Transport where
  | ring
  | twi
  deriving DecidableEq, Repr

/-- How a ring frame ends (R225, R229): in EOF, in EOFE, or cut with no end. -/
inductive FrameEnd where
  | eof | eofe | cut
  deriving DecidableEq, Repr

/-- A Vyesh ring frame between SOF and its end (R227, R228). `len` is the LEN field and may disagree with the payload;
`viol` counts the code violations and disparity errors that the receiver met since the frame before (R247). -/
structure Frame where
  dst     : Nat
  src     : Nat
  typ     : Nat
  seq     : Nat
  hops    : Nat
  resv    : Nat
  len     : Nat
  payload : List Byte
  crc     : Nat
  fin     : FrameEnd
  viol    : Nat
  deriving DecidableEq, Repr

/-- What the foreground self-calibration measured for one image or dark converter (R113): the deviations from nominal of
the four stage weights and of the gain factor in units of 2⁻²⁴, the offset in 1/256 DN and the worst integral nonlinearity
in 1/256 LSB. -/
structure ConvMeasure where
  conv    : Nat
  weights : List Int
  gain    : Int
  offset  : Int
  inl     : Nat
  deriving DecidableEq, Repr

/-- How a mould operation goes on (R211, R212): every step passed; the image stands in the shadow slot and the journal names
the slot, and the operation goes on; the read-back of step 1 failed; both read-backs of step 3 failed; an MRAM word that the
operation needed read uncorrectable, by its address. -/
inductive MouldEnd where
  | passed | journalled | shadowFailed | slotFailed
  | unreadable (word : Nat)
  deriving DecidableEq, Repr

/-- The commands of the block, one for each row of spec/opcode_table.json. -/
inductive Instr where
  /-- R58. `levels`: active column and converter input in 1/256 DN; `dark`: shielded column and input; `refs`: converter
  (0–259) and its VREFL and VREFH inputs. A column that no list names has input 0, a converter that `refs` does not name
  the nominal 512 DN and 3,584 DN. -/
  | rowSlot (levels : List (Nat × Int)) (dark : List (Nat × Int)) (refs : List (Nat × Int × Int))
  /-- R22. -/
  | coreRow (flask : Nat)
  /-- R23. MRAM words of the row that read with an uncorrectable or with a corrected error (R33). -/
  | mapWindowFetch (flask : Nat) (bad : List Nat) (corrected : List Nat)
  /-- R24. `busy`: busy converter periods over the 65,536 pixels. -/
  | paceMeasurement (flask : Nat) (busy : Nat)
  /-- R24. `margin`: the replica loop's margin in 0.001. -/
  | replicaMeasurement (flask : Nat) (margin : Nat)
  | paceEvaluation
  /-- R27. `sub` is the subindex of object 0x6802 written. -/
  | vcoreLoopConfigWrite (tr : Transport) (sub : Nat) (v : Nat)
  | clearLowestMargin (tr : Transport) (v : Nat)
  | clearHighWaterMarks (tr : Transport) (v : Nat)
  | clearLadleSlagCounts (tr : Transport) (v : Nat)
  /-- R299. The filter of channel `ch` accepts the new level of its input. -/
  | captureInputEdge (ch : Nat) (level : Bool)
  /-- R62. The 2-sample filter of TRIG pin `pin` shows the new level. -/
  | trigPinEdge (pin : Nat) (level : Bool)
  | heldStartEventAccept
  | freeRunStartEvent
  | startOnePour (tr : Transport) (v : Nat)
  | exposureStart
  | transferSequence
  | freeRunLineTrigger
  | makeOneLine (tr : Transport) (v : Nat)
  | restartTdi (tr : Transport) (v : Nat)
  /-- R303. The accepted levels of ENC_A and ENC_B after this tick. -/
  | quadratureEdge (a : Bool) (b : Bool)
  /-- R307. The accepted level of ENC_Z. -/
  | encZEdge (level : Bool := true)
  | positionChangeSample
  | positionPreset (tr : Transport) (v : Nat)
  | positionLowWordRead (tr : Transport)
  | foregroundSelfCalibration (tr : Transport) (v : Nat)
  /-- R114. A converter that `measured` does not name measured nominal. -/
  | selfCalibrationResult (measured : List ConvMeasure)
  | trimPeriodEnd
  | clearConverterCounts (tr : Transport) (v : Nat)
  | darkRun (tr : Transport)
  | columnRun (tr : Transport)
  | flatRun (tr : Transport)
  | fullMapRun (tr : Transport)
  | seedRun (tr : Transport)
  | acquisitionStart
  | acquisitionComplete
  | calibrationWaitTundish
  | mapEntriesComputed
  /-- R154. `ok`: the read-back check of the segment passed. -/
  | mapSegmentWritten (ok : Bool)
  | setCommitComplete (ok : Bool)
  /-- R33, R135. MRAM words of the set that read with an uncorrectable or with a corrected error. -/
  | setCacheLoadComplete (bad : List Nat := []) (corrected : List Nat := [])
  | mapSwitchModeWrite (tr : Transport) (v : Nat)
  | startMapUpload (tr : Transport) (v : Nat)
  | startSetUpload (tr : Transport) (v : Nat)
  | finishUpload (tr : Transport) (v : Nat)
  | abortUpload (tr : Transport) (v : Nat)
  | uploadTimeout
  | clearCorrectionCounts (tr : Transport) (v : Nat)
  | uplinkBlockLock (ul : Nat)
  /-- R161, R165, R190. `signal`: a signal is present; `errors`: errors the PRBS31 checker found since the last such row. -/
  | uplinkLossOfLock (ul : Nat) (signal : Bool := false) (errors : Nat := 0)
  /-- R165. `high`: the BER monitor reports high BER, or stops reporting it. -/
  | uplinkHighBer (ul : Nat) (high : Bool)
  /-- R177, R180. `limits`: the credit limit of DL00 to DL31. -/
  | creditGrant (ul : Nat) (mask : Nat) (limits : List Nat)
  | bulkChunk (ul : Nat) (useq : Nat) (target : Nat) (segment : Nat) (offset : Nat) (data : List Byte)
  | segmentEnd (ul : Nat) (useq : Nat) (target : Nat) (segment : Nat) (length : Nat) (crc : Nat)
  | quiesce (ul : Nat) (lane : Nat)
  | resume (ul : Nat) (lane : Nat)
  | retrain (ul : Nat) (lane : Nat)
  | retrainEnd (lane : Nat)
  /-- R179. The bytes of an uplink packet, header first. -/
  | uplinkPacketDiscard (ul : Nat) (packet : List Byte := [])
  | stagingAbandon
  | packetDispatch (sprue : Nat)
  | packetSent (lane : Nat)
  | laneMarker (lane : Nat)
  | creditStall (sprue : Nat)
  | pourAgeDrop
  | downlinkEnableWrite (tr : Transport) (v : Nat)
  | testPatternWrite (tr : Transport) (v : Nat)
  | clearLaneCounts (tr : Transport) (v : Nat)
  /-- R192. A write of an RWS object: index, subindex and the value's bytes. -/
  | stagedWrite (tr : Transport) (index : Nat) (sub : Nat) (data : List Byte)
  | registerWrite (tr : Transport) (index : Nat) (sub : Nat) (data : List Byte)
  | mramObjectWriteComplete
  | openCommitGroup (tr : Transport) (v : Nat)
  | closeCommitGroup (tr : Transport) (v : Nat)
  | abandonCommitGroup (tr : Transport) (v : Nat)
  | groupIdleTimeout
  | handOverAtIdle
  | handOverGrant
  | pourMould (tr : Transport) (n : Nat)
  | loadMould (tr : Transport) (n : Nat)
  /-- R33, R208. MRAM words of the slot that read with an uncorrectable or with a corrected error. -/
  | mouldReadComplete (bad : List Nat := []) (corrected : List Nat := [])
  | storeMould (tr : Transport) (n : Nat)
  | eraseMould (tr : Transport) (n : Nat)
  /-- R211. -/
  | mouldOperationComplete (how : MouldEnd)
  | trainingAchieved
  | ringJoin
  /-- R224. `errors`: code violations and disparity errors met since the last loss; `signal`: a signal is still present. -/
  | lossOfTraining (errors : Nat) (signal : Bool)
  | bypassHoldWrite (tr : Transport) (v : Nat)
  | readRequest (f : Frame)
  | writeRequest (f : Frame)
  | enumerate (f : Frame)
  /-- R240. `residence`: H of the forwarded frame, ns (R239). -/
  | sync (f : Frame) (residence : Nat)
  | syncTimeout
  | ringTimeSaturated
  | tap (f : Frame)
  | tapActionTime
  | rollCall (f : Frame)
  | unknownFrameType (f : Frame)
  | frameForward (f : Frame)
  | frameInsert
  | clearRingCounts (tr : Transport) (v : Nat)
  | alertStatusWrite (tr : Transport) (v : Nat)
  | clearTransportCounts (tr : Transport) (v : Nat)
  /-- R261. The event code of R262 and its data bytes. -/
  | eventLogged (code : Nat) (data : List Byte)
  | logEntryWrite
  | logEntryRead (tr : Transport)
  | clearMramDiagnostics (tr : Transport) (v : Nat)
  /-- R272. The address byte's 7-bit address and every byte after it, CMD first. -/
  | twiWriteTransaction (addr : Nat) (bytes : List Byte)
  /-- `stop`: it ends in a STOP, not in a repeated START (R271). -/
  | twiReadHeader (addr : Nat) (bytes : List Byte) (stop : Bool)
  /-- R271. `count`: bytes the host clocks; `stop`: it ends in a STOP. -/
  | twiReadPhase (addr : Nat) (count : Nat) (stop : Bool)
  | twiWriteDiscarded (addr : Nat) (bytes : List Byte)
  | twiBusError (cause : Nat)
  | twiRstNAssert
  | twiWake (addr : Nat)
  /-- R279. `status`: how the transfer ended (R281); `image`: the bytes read. -/
  | bootMouldFetch (status : Nat) (image : List Byte)
  | sendListNow (tr : Transport) (v : Nat)
  /-- R281. `status`: the code with which the transaction of the present entry ended. -/
  | controllerTransferEnd (status : Nat)
  | controllerRetry
  | busNotFreeTimeout
  | clearTwiCounts (tr : Transport) (v : Nat)
  | timerValley (ch : Nat)
  | restartChannels (tr : Transport) (v : Nat)
  | strobePulseStart (ch : Nat)
  | strobePulseEnd (ch : Nat)
  | lfClockSwitch
  | resetPrescalers (tr : Transport) (v : Nat)
  | captureEntryRead (tr : Transport) (ch : Nat)
  | compatibleCaptureRead (tr : Transport) (ch : Nat)
  | clearCaptureCounts (tr : Transport) (v : Nat)
  | clearQuadratureCounts (tr : Transport) (v : Nat)
  | startChannels (tr : Transport) (v : Nat)
  | stopChannels (tr : Transport) (v : Nat)
  | descriptorFetch (ch : Nat)
  | dmaElementComplete (ch : Nat)
  | dmaNoResponse (ch : Nat)
  | submitRelease
  | heldPourWrite (tr : Transport) (v : Nat)
  | releaseHold (tr : Transport) (v : Nat)
  | clearDmaCounts (tr : Transport) (v : Nat)
  /-- R336. `code`: the sample code; `dv`: the diode voltage difference in nV (R334); `clamped`: a conversion was clamped
  and `code` is the clamp code (R342). -/
  | housekeepingSampleEnd (code : Nat) (dv : Int) (clamped : Bool)
  | sequenceStart (tr : Transport) (v : Nat)
  | sequenceStop (tr : Transport) (v : Nat)
  | sequencePostDelayEnd
  | injectedRequest (tr : Transport) (v : Nat)
  | injectedResultRead (tr : Transport)
  | clearHousekeepingCounts (tr : Transport) (v : Nat)
  | housekeepingSelfCalibration (tr : Transport) (v : Nat)
  /-- R340, R341. Measured offset in codes, gain deviation in 1/1000 of a per cent, deviations of the stage weights from nominal
  in units of 2⁻²⁴, VBG in µV, worst nonlinearity in 1/256 LSB. -/
  | housekeepingCalibrationEnd (offset : Int) (gain : Int) (vbg : Nat) (inl : Nat) (weights : List Int := [])
  | monitorPeriod
  | thermalComparatorTrip
  | acknowledgeQuench (tr : Transport) (v : Nat)
  | reArmEnd
  | clearThermalCounts (tr : Transport) (v : Nat)
  | powerOn
  /-- R365. The width of the low pulse in ns. -/
  | porstNPulse (width : Nat)
  | brownOut
  | resetCommand (tr : Transport) (v : Nat)
  | sequencerWatchdog
  | fuseRead
  | pllLock
  /-- R368. The signal found on LFXI, in Hz; 0 for none. -/
  | lfxiDetection (hz : Nat)
  | shakeoutComplete
  /-- R33, R372. The MRAM words that hold an uncorrectable or a corrected error at this start. -/
  | mramScan (bad : List Nat := []) (corrected : List Nat := [])
  | startMouldPour
  | startComplete
  | holdRequest (tr : Transport) (v : Nat)
  | holdEntered
  /-- R373. `testen`: the level of TESTEN now. -/
  | holdExit (tr : Transport) (v : Nat) (testen : Bool)
  | sleepRequest (tr : Transport) (v : Nat)
  /-- R379. How long TRIG0 has been low, in ns. -/
  | trig0Wake (width : Nat)
  | wakeComplete
  | fuseKeyWrite (tr : Transport) (v : Nat)
  | blowRingWriteDisable (tr : Transport) (v : Nat)
  | blowTwoWireWriteDisable (tr : Transport) (v : Nat)
  | blowFactoryCalibrationLock (tr : Transport) (v : Nat)
  | lifeCycleKeyWrite (tr : Transport) (v : Nat)
  | toReturn (tr : Transport) (v : Nat)
  | toScrap (tr : Transport) (v : Nat)
  | makerTestModeEntry
  | trstNAssert
  | extest
  /-- R375. The 47 pin levels sampled, and the cells shifted in for the preload. -/
  | samplePreload (pins : Nat) (cells : Nat)
  | idcode
  | highz
  | clamp
  | bypass
  | timerCompareMatch (ch : Nat)
  /-- R368. The levels of TESTEN and of the straps TWI_A1, TWI_A0 at the release. -/
  | resetRelease (testen : Bool) (straps : Nat)
  | wipeComplete
  /-- R381. `ok`: every programmed bit read back blown. -/
  | fuseBlowComplete (ok : Bool)
  | makerTestModeExit
  | twiRstNRelease
  deriving DecidableEq, Repr

/-! ### Second spellings: the names under which Host/Slice0/DispatchArms.lean knows two commands -/

/-- ACQUISITION_POUR with readings beside it. They have no effect: the part takes its readings row by row (R58, R146). -/
def Instr.acquisitionPour (_temp : Int) (_samples _darkRaw : List (Nat × Int)) (_dl _dr : Int) (_slag : Bool) : Instr :=
  .acquisitionStart

/-- MONITOR_SCAN with readings beside it. They have no effect: the converter takes the samples (R336, R346). -/
def Instr.monitorScan (_raws : List (Nat × Int)) : Instr := .monitorPeriod

end Sys2Proof
end

