-- ==== Sys2Proof/WellFormed.lean ====
section
/-!
DEFINITION. Which commands are well formed: every number that names one of a fixed count of things (flask, lane, column,
channel …) names one that exists, and every list that stands for a field of fixed size has that size.
-/
namespace Sys2Proof

/-- Every key of a list of pairs is below `n`. -/
def keysBelow {α : Type} (n : Nat) (l : List (Nat × α)) : Bool := l.all fun p => p.1 < n

/-- The lists name MRAM words, of which there are 1,179,648 (R32, R33). -/
def mramWordsOk (bad corrected : List Nat) : Bool := bad.all (· < 1179648) && corrected.all (· < 1179648)

/-- A frame's fields fit their places (R228). -/
def Frame.wf (f : Frame) : Bool :=
  f.dst < 256 && f.src < 256 && f.typ < 256 && f.seq < 256 && f.hops < 256 && f.resv < 256 && f.len < 65536 &&
  f.crc < 65536

/-- A value of one byte (BOOL and U8 objects, R248). -/
def byteValue (v : Nat) : Bool := v < 256

/-- The operands of a command are values that the rule of its row admits. -/
def Instr.wf : Instr → Bool
  | .rowSlot levels dark refs => keysBelow 16384 levels && keysBelow 64 dark && refs.all (fun p => p.1 < 260)
  | .coreRow f => f < 16
  | .mapWindowFetch f bad corrected => f < 16 && mramWordsOk bad corrected
  | .paceMeasurement f busy => f < 16 && 0 < busy
  | .replicaMeasurement f m => f < 16 && m < 65536
  | .vcoreLoopConfigWrite _ sub v => (sub == 1 || sub == 2 || sub == 4 || sub == 5) && byteValue v
  | .captureInputEdge ch _ => ch < 4
  | .trigPinEdge pin _ => pin < 4
  | .selfCalibrationResult l => l.all fun m => m.conv < 260 && m.weights.length == 4
  | .acquisitionStart => true
  | .setCacheLoadComplete bad corrected => mramWordsOk bad corrected
  | .mouldReadComplete bad corrected => mramWordsOk bad corrected
  | .mramScan bad corrected => mramWordsOk bad corrected
  | .uplinkBlockLock ul => ul < 2
  | .uplinkLossOfLock ul _ _ => ul < 2
  | .uplinkHighBer ul _ => ul < 2
  | .creditGrant ul mask limits => ul < 2 && mask < 2 ^ 32 && limits.length == 32 && limits.all (· < 2 ^ 32)
  | .bulkChunk ul useq target segment offset data =>
    ul < 2 && useq < 256 && target < 256 && segment < 65536 && offset < 2 ^ 32 && data.length ≤ 4096
  | .segmentEnd ul useq target segment length crc =>
    ul < 2 && useq < 256 && target < 256 && segment < 65536 && length < 2 ^ 32 && crc < 2 ^ 32
  | .quiesce ul _ => ul < 2
  | .resume ul _ => ul < 2
  | .retrain ul _ => ul < 2
  | .retrainEnd lane => lane < 32
  | .uplinkPacketDiscard ul p => ul < 2 && 20 ≤ p.length && p.length ≤ 4124
  | .packetDispatch sprue => sprue < 4
  | .packetSent lane => lane < 32
  | .laneMarker lane => lane < 32
  | .creditStall sprue => sprue < 4
  | .stagedWrite _ index sub _ => index < 65536 && sub < 256
  | .registerWrite _ index sub _ => index < 65536 && sub < 256
  | .pourMould _ n => n < 256
  | .loadMould _ n => n < 256
  | .storeMould _ n => n < 256
  | .eraseMould _ n => n < 256
  | .readRequest f => f.wf
  | .writeRequest f => f.wf
  | .enumerate f => f.wf
  | .sync f _ => f.wf
  | .tap f => f.wf
  | .rollCall f => f.wf
  | .unknownFrameType f => f.wf
  | .frameForward f => f.wf
  | .eventLogged code data => code < 65536 && data.length ≤ 16
  | .twiWriteTransaction addr _ => addr < 128
  | .twiReadHeader addr _ _ => addr < 128
  | .twiReadPhase addr _ _ => addr < 128
  | .twiWriteDiscarded addr _ => addr < 128
  | .twiWake addr => addr < 128
  | .timerValley ch => ch < 8
  | .timerCompareMatch ch => ch < 8
  | .strobePulseStart ch => ch < 8
  | .strobePulseEnd ch => ch < 8
  | .captureEntryRead _ ch => ch < 4
  | .compatibleCaptureRead _ ch => ch < 4
  | .descriptorFetch ch => ch < 8
  | .dmaElementComplete ch => ch < 8
  | .dmaNoResponse ch => ch < 8
  | .housekeepingSampleEnd code _ _ => code < 16384
  | .resetRelease _ straps => straps < 4
  | .samplePreload pins cells => pins < 2 ^ 47 && cells < 2 ^ 47
  | .paceEvaluation => true
  | .clearLowestMargin _ v => byteValue v
  | .clearHighWaterMarks _ v => byteValue v
  | .clearLadleSlagCounts _ v => byteValue v
  | .heldStartEventAccept => true
  | .freeRunStartEvent => true
  | .startOnePour _ v => byteValue v
  | .exposureStart => true
  | .transferSequence => true
  | .freeRunLineTrigger => true
  | .makeOneLine _ v => byteValue v
  | .restartTdi _ v => byteValue v
  | .quadratureEdge _ _ => true
  | .encZEdge _ => true
  | .positionChangeSample => true
  | .positionPreset _ v => v < 2 ^ 32
  | .positionLowWordRead _ => true
  | .foregroundSelfCalibration _ v => byteValue v
  | .trimPeriodEnd => true
  | .clearConverterCounts _ v => byteValue v
  | .darkRun _ => true
  | .columnRun _ => true
  | .flatRun _ => true
  | .fullMapRun _ => true
  | .seedRun _ => true
  | .acquisitionComplete => true
  | .calibrationWaitTundish => true
  | .mapEntriesComputed => true
  | .mapSegmentWritten _ => true
  | .setCommitComplete _ => true
  | .mapSwitchModeWrite _ v => byteValue v
  | .startMapUpload _ v => byteValue v
  | .startSetUpload _ v => byteValue v
  | .finishUpload _ v => byteValue v
  | .abortUpload _ v => byteValue v
  | .uploadTimeout => true
  | .clearCorrectionCounts _ v => byteValue v
  | .stagingAbandon => true
  | .pourAgeDrop => true
  | .downlinkEnableWrite _ v => v < 2 ^ 32
  | .testPatternWrite _ v => byteValue v
  | .clearLaneCounts _ v => byteValue v
  | .mramObjectWriteComplete => true
  | .openCommitGroup _ v => byteValue v
  | .closeCommitGroup _ v => byteValue v
  | .abandonCommitGroup _ v => byteValue v
  | .groupIdleTimeout => true
  | .handOverAtIdle => true
  | .handOverGrant => true
  | .mouldOperationComplete (.unreadable w) => w < 1179648
  | .mouldOperationComplete _ => true
  | .trainingAchieved => true
  | .ringJoin => true
  | .lossOfTraining _ _ => true
  | .bypassHoldWrite _ v => byteValue v
  | .syncTimeout => true
  | .ringTimeSaturated => true
  | .tapActionTime => true
  | .frameInsert => true
  | .clearRingCounts _ v => byteValue v
  | .alertStatusWrite _ v => v < 65536
  | .clearTransportCounts _ v => byteValue v
  | .logEntryWrite => true
  | .logEntryRead _ => true
  | .clearMramDiagnostics _ v => byteValue v
  | .twiBusError cause => cause < 256
  | .twiRstNAssert => true
  | .bootMouldFetch status _ => status < 256
  | .sendListNow _ v => byteValue v
  | .controllerTransferEnd status => status < 256
  | .controllerRetry => true
  | .busNotFreeTimeout => true
  | .clearTwiCounts _ v => byteValue v
  | .restartChannels _ v => byteValue v
  | .lfClockSwitch => true
  | .resetPrescalers _ v => byteValue v
  | .clearCaptureCounts _ v => byteValue v
  | .clearQuadratureCounts _ v => byteValue v
  | .startChannels _ v => byteValue v
  | .stopChannels _ v => byteValue v
  | .submitRelease => true
  | .heldPourWrite _ v => v < 2 ^ 64
  | .releaseHold _ v => byteValue v
  | .clearDmaCounts _ v => byteValue v
  | .sequenceStart _ v => byteValue v
  | .sequenceStop _ v => byteValue v
  | .sequencePostDelayEnd => true
  | .injectedRequest _ v => v < 65536
  | .injectedResultRead _ => true
  | .clearHousekeepingCounts _ v => byteValue v
  | .housekeepingSelfCalibration _ v => byteValue v
  | .housekeepingCalibrationEnd _ _ _ _ _ => true
  | .monitorPeriod => true
  | .thermalComparatorTrip => true
  | .acknowledgeQuench _ v => byteValue v
  | .reArmEnd => true
  | .clearThermalCounts _ v => byteValue v
  | .powerOn => true
  | .porstNPulse _ => true
  | .brownOut => true
  | .resetCommand _ v => v < 2 ^ 32
  | .sequencerWatchdog => true
  | .fuseRead => true
  | .pllLock => true
  | .lfxiDetection _ => true
  | .shakeoutComplete => true
  | .startMouldPour => true
  | .startComplete => true
  | .holdRequest _ v => byteValue v
  | .holdEntered => true
  | .holdExit _ v _ => byteValue v
  | .sleepRequest _ v => byteValue v
  | .trig0Wake _ => true
  | .wakeComplete => true
  | .fuseKeyWrite _ v => v < 2 ^ 32
  | .blowRingWriteDisable _ v => v < 65536
  | .blowTwoWireWriteDisable _ v => v < 65536
  | .blowFactoryCalibrationLock _ v => byteValue v
  | .lifeCycleKeyWrite _ v => v < 2 ^ 32
  | .toReturn _ v => byteValue v
  | .toScrap _ v => byteValue v
  | .makerTestModeEntry => true
  | .trstNAssert => true
  | .extest => true
  | .idcode => true
  | .highz => true
  | .clamp => true
  | .bypass => true
  | .wipeComplete => true
  | .fuseBlowComplete _ => true
  | .makerTestModeExit => true
  | .twiRstNRelease => true

end Sys2Proof
end

