-- ==== Sys2Proof/Decode.lean ====
section
/-!
DEFINITION. The decoder over the rows of spec/opcode_table.json that give bits. No row gives any: a command reaches the part
as an event or as a dictionary access, and has no word of its own.
-/
namespace Sys2Proof

/-- The command that a word of `nbits` bits spells by the table: none, because no row of the table gives bits. -/
def decodeTableWord (_nbits _w : Nat) : Option Instr := none

end Sys2Proof
end

