-- ==== Sys2Proof/Config.lean ====
section
/-!
DEFINITION. The values the spec leaves to the part or does not state. Each is an `opaque` constant with no body, so nothing
proved about the model rests on a value of it (log entries 2 and 3).
-/
namespace Sys2Proof

/-- The factory measurement or identity value of the object with key `index * 256 + sub` ('per part' in R40, R256), as the
raw unsigned value of the object's bytes. -/
opaque Config.partValue : Nat → Nat

/-- The 16-bit entry that the factory correction map holds for the pixel with index `16,384 r + c` ('per part', R125, R128),
but for its DEF bit. -/
opaque Config.factoryEntry : Nat → Nat

/-- The index `16,384 r + c` of the `n`-th pixel that the factory map flags ('per part', R53); a value that is no pixel's, or
that the limits of R53 rule out after those before it, flags none. -/
opaque Config.factoryDefect : Nat → Nat

/-- The 16-bit word at byte offset `2 w` of the factory temperature-set slot, outside the temperatures R133 states ('per
part', R132). -/
opaque Config.factoryWord : Nat → Nat

/-- The maker's reserved fuse bits [63:36] ('per part', R380). -/
opaque Config.makerFuses : Nat

/-- The factory ideality factor of the on-die diode of housekeeping channel 23, 24 or 25, in units of 10⁻⁴ (R334). -/
opaque Config.dieIdeality : Nat → Nat

/-- The content of the `n`-th byte that the spec leaves undefined: the bytes of a DMA element in progress at a no-response
stop (R327). -/
opaque Config.undefinedByte : Nat → BitVec 8

/-- A free value for the `n`-th result the spec does not state (log entry 2). -/
opaque Config.freeValue : Nat → Nat

end Sys2Proof
end

