-- ==== Sys2Proof/Machine/Bits.lean ====
section
/-!
DEFINITION. Byte order, checksums, two's complement and rounding (R9, R127, R228), as every chapter uses them.
-/
namespace Sys2Proof.Machine

/-- The `n` bytes of `v`, least significant first (R9). -/
def leBytes : Nat → Nat → List Byte
  | 0, _ => []
  | n + 1, v => BitVec.ofNat 8 v :: leBytes n (v / 256)

/-- The value of bytes stored least significant first (R9). -/
def leNat : List Byte → Nat
  | [] => 0
  | b :: bs => b.toNat + 256 * leNat bs

/-- Two's complement of `w` bits read as an integer (R9). -/
def toSigned (w v : Nat) : Int :=
  if v % 2 ^ w < 2 ^ (w - 1) then (v % 2 ^ w : Nat) else (v % 2 ^ w : Nat) - (2 ^ w : Nat)

/-- An integer as `w` bits of two's complement (R9). -/
def ofSigned (w : Nat) (i : Int) : Nat := (i % (2 ^ w : Nat)).toNat

/-- Bit `n` of `v` (R7). -/
def bitAt (v n : Nat) : Bool := v.testBit n

/-- The bits [hi:lo] of `v` (R7). -/
def field (v hi lo : Nat) : Nat := v / 2 ^ lo % 2 ^ (hi - lo + 1)

/-- `v` with bit `n` set. -/
def setBit (v n : Nat) : Nat := v ||| 2 ^ n

/-- `v` with bit `n` clear. -/
def clearBit (v n : Nat) : Nat := if v.testBit n then v - 2 ^ n else v

/-- The bits of `v` that `m` does not name, for `v` and `m` of up to 64 bits. -/
def andNot (v m : Nat) : Nat := v &&& (m ^^^ (2 ^ 64 - 1))

/-- 1 for true. -/
def b2n (b : Bool) : Nat := if b then 1 else 0

/-- ⌊a ÷ b⌋ over the integers. -/
def fdiv (a b : Int) : Int := Int.fdiv a b

/-- `a ÷ b` rounded to the nearest integer, halves up, for b > 0 (R77, R112, R151). -/
def roundDiv (a b : Int) : Int := Int.fdiv (2 * a + b) (2 * b)

/-- ⌈a ÷ b⌉ for naturals. -/
def ceilDiv (a b : Nat) : Nat := (a + b - 1) / b

/-- `x` clamped to `lo`..`hi`. -/
def clampInt (lo hi x : Int) : Int := max lo (min hi x)

/-- One bit of the CRC-32 of IEEE 802.3, reflected. -/
def crc32Bit (c : Nat) : Nat := if c % 2 = 1 then c / 2 ^^^ 0xEDB88320 else c / 2

/-- One byte of the CRC-32. -/
def crc32Byte (c : Nat) (b : Byte) : Nat :=
  crc32Bit (crc32Bit (crc32Bit (crc32Bit (crc32Bit (crc32Bit (crc32Bit (crc32Bit (c ^^^ b.toNat))))))))

/-- The CRC-32 of IEEE 802.3 over bytes in ascending order (R127). -/
def crc32 (bs : List Byte) : Nat := bs.foldl crc32Byte 0xFFFFFFFF ^^^ 0xFFFFFFFF

/-- One bit of CRC-16-CCITT, most significant bit first (R228). -/
def crc16Bit (c : Nat) : Nat :=
  if c ≥ 0x8000 then (c * 2 % 0x10000) ^^^ 0x1021 else c * 2

/-- One byte of CRC-16-CCITT. -/
def crc16Byte (c : Nat) (b : Byte) : Nat :=
  crc16Bit (crc16Bit (crc16Bit (crc16Bit (crc16Bit (crc16Bit (crc16Bit (crc16Bit (c ^^^ b.toNat * 256))))))))

/-- CRC-16-CCITT with initial value 0xFFFF and no final XOR (R228). -/
def crc16 (bs : List Byte) : Nat := bs.foldl crc16Byte 0xFFFF

/-- Element `i` of a list, or `d` beyond its end. -/
def nth {α : Type} (l : List α) (i : Nat) (d : α) : α := l.getD i d

/-- The list with element `i` replaced by `f` of it; unchanged beyond its end. -/
def modifyNth {α : Type} : List α → Nat → (α → α) → List α
  | [], _, _ => []
  | a :: l, 0, f => f a :: l
  | a :: l, i + 1, f => a :: modifyNth l i f

/-- The list with element `i` replaced. -/
def setNth {α : Type} (l : List α) (i : Nat) (a : α) : List α := modifyNth l i (fun _ => a)

/-- The value found under key `k`, or `d`. -/
def assocD {α : Type} (l : List (Nat × α)) (k : Nat) (d : α) : α :=
  match l with
  | [] => d
  | (j, a) :: t => if j = k then a else assocD t k d

/-- The sum of a list of naturals. -/
def sumNat (l : List Nat) : Nat := l.foldl (· + ·) 0

/-- The greatest of a list of naturals, 0 for none. -/
def maxNat (l : List Nat) : Nat := l.foldl max 0

/-- Numbers `lo`, `lo + 1`, …: `n` of them. -/
def rangeFrom (lo n : Nat) : List Nat := (List.range n).map (lo + ·)

end Sys2Proof.Machine
end

