-- ==== Sys2Proof/Machine/Objects.lean ====
section
/-!
DEFINITION. The object dictionary: one row for every row of the spec's object tables (R5, R15), written from those tables.
Keys are index * 256 + subindex.
-/
namespace Sys2Proof.Machine

/-- The access codes of R249. -/
inductive Access where
  | ro | rw | rws | wo | const_
  deriving DecidableEq, Repr

/-- What value check R8 and R248 give an object beside its size. -/
inductive ValueCheck where
  /-- Every value of the size. -/
  | any
  | range (lo hi : Nat)
  | oneOf (vs : List Nat)
  /-- The bits that are not reserved. -/
  | bits (mask : Nat)
  /-- A strobe bank: 0 to 3, or 0xFF (R80, R105, R160). -/
  | bank
  /-- A fusion gain: 0, or 128 to 32,768 (R77). -/
  | gain
  /-- 0 to 0x0100, or 0xFFFF (R214). -/
  | startMould
  /-- R215. -/
  | tapEntry
  /-- R337. -/
  | hkEntry
  /-- R339. -/
  | injected
  /-- `n` bytes, each at most `hi` (R190). -/
  | elems (n hi : Nat)
  /-- R280. -/
  | driverList
  /-- R349. -/
  | threshold
  /-- R133, R152. -/
  | seedPoints
  deriving DecidableEq, Repr

/-- The Default of R15: a value, or one held per part (R40, R256). -/
inductive Dflt where
  | value (v : Nat)
  | part
  deriving DecidableEq, Repr

/-- One row of an object table: first and last key, size in bytes, access, transports that may write (ring, two-wire),
whether MRAM-backed (R250), value check, Default. -/
structure ObjRow where
  first : Nat
  last  : Nat
  size  : Nat
  acc   : Access
  ring  : Bool
  twi   : Bool
  mram  : Bool
  check : ValueCheck
  dflt  : Dflt
  deriving DecidableEq, Repr

/-- The value with `n` copies of the `w`-byte value `v`. -/
def repeated : Nat → Nat → Nat → Nat
  | 0, _, _ => 0
  | n + 1, w, v => v + 256 ^ w * repeated n w v

/-- The default lighting profile, all 0x4000 (R160). -/
def profileDefault : Nat := repeated 1025 2 0x4000

/-- Common and ring objects (R218, R247, R256, R258, R259). -/
def objs1a : List ObjRow := [
  ⟨0x110001, 0x110001, 8, .ro, false, false, false, .any, .value 0⟩,
  ⟨0x110002, 0x110002, 8, .ro, false, false, false, .any, .value 0⟩,
  ⟨0x110003, 0x110003, 8, .ro, false, false, false, .any, .value 0⟩,
  ⟨0x110004, 0x110004, 8, .ro, false, false, false, .any, .value 0⟩,
  ⟨0x110005, 0x110005, 8, .ro, false, false, false, .any, .value 0⟩,
  ⟨0x110006, 0x110006, 2, .ro, false, false, false, .any, .value 65535⟩,
  ⟨0x110007, 0x110007, 4, .ro, false, false, false, .any, .value 0⟩,
  ⟨0x110008, 0x110008, 1, .ro, false, false, false, .any, .value 0⟩,
  ⟨0x120001, 0x120001, 1, .ro, false, false, false, .any, .value 254⟩,
  ⟨0x120002, 0x120002, 1, .ro, false, false, false, .any, .value 0⟩,
  ⟨0x120003, 0x120003, 1, .ro, false, false, false, .any, .value 1⟩,
  ⟨0x120004, 0x120004, 1, .ro, false, false, false, .any, .value 0⟩,
  ⟨0x120005, 0x120005, 1, .rw, false, true, false, .range 0 1, .value 0⟩,
  ⟨0x120101, 0x120101, 4, .ro, false, false, false, .any, .value 0⟩,
  ⟨0x120102, 0x120102, 4, .ro, false, false, false, .any, .value 0⟩,
  ⟨0x120103, 0x120103, 4, .ro, false, false, false, .any, .value 0⟩,
  ⟨0x120104, 0x120104, 4, .ro, false, false, false, .any, .value 0⟩,
  ⟨0x120105, 0x120105, 4, .ro, false, false, false, .any, .value 0⟩,
  ⟨0x120106, 0x120106, 4, .ro, false, false, false, .any, .value 0⟩,
  ⟨0x120107, 0x120107, 4, .ro, false, false, false, .any, .value 0⟩,
  ⟨0x120108, 0x120108, 1, .wo, true, true, false, .range 0 1, .value 0⟩,
  ⟨0x120201, 0x120201, 8, .ro, false, false, false, .any, .value 0⟩,
  ⟨0x120202, 0x120202, 2, .rw, true, true, false, .any, .value 0⟩,
  ⟨0x120203, 0x120203, 1, .ro, false, false, false, .any, .value 0⟩,
  ⟨0x120204, 0x120204, 4, .ro, false, false, false, .any, .value 0⟩,
  ⟨0x120205, 0x120205, 4, .ro, false, false, false, .any, .value 0⟩,
  ⟨0x120206, 0x120206, 2, .rw, true, true, false, .range 1 1000, .value 10⟩,
  ⟨0x120207, 0x120207, 4, .ro, false, false, false, .any, .value 0⟩,
  ⟨0x120301, 0x120301, 4, .ro, false, false, false, .any, .value 0⟩,
  ⟨0x120302, 0x120302, 4, .ro, false, false, false, .any, .value 0⟩,
  ⟨0x120303, 0x120303, 4, .ro, false, false, false, .any, .value 0⟩,
  ⟨0x120304, 0x120304, 8, .ro, false, false, false, .any, .value 0⟩,
  ⟨0x120305, 0x120305, 4, .ro, false, false, false, .any, .value 0⟩,
  ⟨0x120401, 0x120401, 1, .rw, true, true, false, .range 0 1, .value 1⟩,
  ⟨0x100001, 0x100001, 10, .const_, false, false, false, .any, .value 0x69726f75736d75726854⟩,
  ⟨0x100002, 0x100002, 6, .const_, false, false, false, .any, .value 0x7275746f7645⟩,
  ⟨0x100003, 0x100003, 11, .const_, false, false, false, .any, .value 0x514c2d363134362d545645⟩,
  ⟨0x100004, 0x100004, 2, .const_, false, false, false, .any, .value 0x3042⟩,
  ⟨0x100005, 0x100005, 4, .ro, false, false, false, .any, .part⟩,
  ⟨0x100006, 0x100006, 8, .ro, false, false, false, .any, .part⟩]

/-- Common and ring objects (R218, R247, R256, R258, R259). -/
def objs1b : List ObjRow := [
  ⟨0x100007, 0x100007, 4, .const_, false, false, false, .any, .value 65539⟩,
  ⟨0x100008, 0x100008, 2, .const_, false, false, false, .any, .value 256⟩,
  ⟨0x100009, 0x100009, 4, .ro, false, false, false, .any, .part⟩,
  ⟨0x10000A, 0x10000A, 4, .const_, false, false, false, .any, .value 0x54485255⟩,
  ⟨0x100101, 0x100101, 2, .rw, true, true, false, .bits 0xBFFF, .value 0⟩,
  ⟨0x100102, 0x100102, 2, .rw, true, true, false, .any, .value 65535⟩,
  ⟨0x100103, 0x100103, 1, .ro, false, false, false, .range 0 1, .value 0⟩,
  ⟨0x101001, 0x101001, 2, .ro, false, false, false, .any, .value 0⟩,
  ⟨0x101002, 0x101002, 2, .ro, false, false, false, .any, .value 0⟩,
  ⟨0x102001, 0x102001, 4, .ro, false, false, false, .any, .value 0⟩,
  ⟨0x102002, 0x102002, 4, .ro, false, false, false, .any, .value 0⟩,
  ⟨0x102003, 0x102003, 4, .ro, false, false, false, .any, .value 0⟩,
  ⟨0x102004, 0x102004, 4, .ro, false, false, false, .any, .value 0⟩,
  ⟨0x102005, 0x102005, 4, .ro, false, false, false, .any, .value 0⟩,
  ⟨0x102006, 0x102006, 4, .ro, false, false, false, .any, .value 0⟩,
  ⟨0x102007, 0x102007, 4, .ro, false, false, false, .any, .value 0⟩,
  ⟨0x102008, 0x102008, 4, .ro, false, false, false, .any, .value 0⟩,
  ⟨0x102009, 0x102009, 1, .wo, true, true, false, .range 0 1, .value 0⟩]

/-- Array and area-mode objects (R40, R80). -/
def objs2a : List ObjRow := [
  ⟨0x200001, 0x200001, 2, .const_, false, false, false, .any, .value 16384⟩,
  ⟨0x200002, 0x200002, 2, .const_, false, false, false, .any, .value 1024⟩,
  ⟨0x200003, 0x200003, 1, .const_, false, false, false, .any, .value 64⟩,
  ⟨0x200004, 0x200004, 2, .const_, false, false, false, .any, .value 256⟩,
  ⟨0x200005, 0x200005, 2, .const_, false, false, false, .any, .value 5000⟩,
  ⟨0x200006, 0x200006, 1, .const_, false, false, false, .any, .value 16⟩,
  ⟨0x200101, 0x200101, 1, .const_, false, false, false, .any, .value 1⟩,
  ⟨0x200102, 0x200102, 1, .const_, false, false, false, .any, .value 2⟩,
  ⟨0x200103, 0x200103, 1, .const_, false, false, false, .any, .value 3⟩,
  ⟨0x200104, 0x200104, 1, .const_, false, false, false, .any, .value 4⟩,
  ⟨0x200201, 0x200204, 4, .ro, false, false, false, .any, .part⟩,
  ⟨0x200301, 0x200304, 4, .ro, false, false, false, .any, .part⟩,
  ⟨0x200401, 0x200404, 4, .ro, false, false, false, .any, .part⟩,
  ⟨0x200501, 0x200504, 4, .ro, false, false, false, .any, .part⟩,
  ⟨0x200601, 0x200601, 4, .ro, false, false, false, .any, .part⟩,
  ⟨0x200602, 0x200602, 4, .ro, false, false, false, .any, .part⟩,
  ⟨0x200603, 0x200603, 8, .ro, false, false, false, .any, .part⟩,
  ⟨0x210001, 0x210001, 1, .rws, true, true, false, .range 0 1, .value 0⟩,
  ⟨0x210002, 0x210002, 1, .rws, true, true, false, .range 0 5, .value 0⟩,
  ⟨0x210003, 0x210003, 1, .rws, true, true, false, .range 0 3, .value 0⟩,
  ⟨0x210004, 0x210004, 1, .rws, true, true, false, .range 0 1, .value 0⟩,
  ⟨0x210005, 0x210005, 1, .rws, true, true, false, .range 0 1, .value 0⟩,
  ⟨0x210006, 0x210006, 4, .rws, true, true, false, .any, .value 0⟩,
  ⟨0x210007, 0x210007, 1, .wo, true, true, false, .range 0 1, .value 0⟩,
  ⟨0x210008, 0x210008, 1, .rws, true, false, false, .any, .value 0⟩,
  ⟨0x210101, 0x210101, 4, .ro, false, false, false, .any, .value 1024⟩,
  ⟨0x210102, 0x210102, 4, .ro, false, false, false, .any, .value 0⟩,
  ⟨0x210103, 0x210103, 4, .ro, false, false, false, .any, .value 0⟩,
  ⟨0x210104, 0x210104, 4, .ro, false, false, false, .any, .value 0⟩,
  ⟨0x210105, 0x210105, 4, .ro, false, false, false, .any, .value 0⟩,
  ⟨0x210106, 0x210106, 1, .wo, true, true, false, .range 0 1, .value 0⟩,
  ⟨0x211001, 0x211001, 1, .rws, true, true, false, .range 1 4, .value 1⟩,
  ⟨0x211002, 0x211002, 1, .rws, true, true, false, .range 0 1, .value 0⟩,
  ⟨0x211003, 0x211003, 2, .rws, true, true, false, .range 1024 4000, .value 3840⟩,
  ⟨0x211101, 0x211104, 4, .rws, true, true, false, .range 100 100000000, .value 1000⟩,
  ⟨0x211201, 0x211204, 1, .rws, true, true, false, .bank, .value 0⟩,
  ⟨0x211301, 0x211304, 2, .rws, true, true, false, .gain, .value 0⟩,
  ⟨0x211401, 0x211404, 2, .ro, false, false, false, .any, .value 0⟩,
  ⟨0x212001, 0x212001, 1, .rws, true, true, false, .range 1 8, .value 1⟩,
  ⟨0x212002, 0x212002, 1, .rws, true, true, false, .range 1 16, .value 1⟩]

/-- Array and area-mode objects (R40, R80). -/
def objs2b : List ObjRow := [
  ⟨0x212101, 0x212108, 2, .rws, true, true, false, .range 0 1023, .value 0⟩,
  ⟨0x212201, 0x212208, 2, .rws, true, true, false, .range 1 1024, .value 1024⟩,
  ⟨0x212301, 0x212310, 1, .rws, true, true, false, .any, .value 0⟩,
  ⟨0x212401, 0x212410, 1, .rws, true, true, false, .any, .value 255⟩,
  ⟨0x212501, 0x212501, 2, .ro, false, false, false, .any, .value 1024⟩,
  ⟨0x212502, 0x212502, 4, .ro, false, false, false, .any, .value 0x1000000⟩,
  ⟨0x213001, 0x213001, 1, .rws, true, true, false, .range 0 2, .value 0⟩,
  ⟨0x213002, 0x213002, 1, .rws, true, true, false, .range 0 2, .value 0⟩]

/-- Ladle, converter and TDI objects (R27, R105, R124). -/
def objs3a : List ObjRow := [
  ⟨0x320001, 0x320010, 2, .ro, false, false, false, .any, .value 0⟩,
  ⟨0x320101, 0x320110, 2, .ro, false, false, false, .any, .value 0⟩,
  ⟨0x320111, 0x320111, 1, .wo, true, true, false, .range 0 1, .value 0⟩,
  ⟨0x320201, 0x320210, 4, .ro, false, false, false, .any, .value 0⟩,
  ⟨0x320211, 0x320211, 1, .wo, true, true, false, .range 0 1, .value 0⟩,
  ⟨0x340001, 0x340001, 1, .rws, true, true, false, .bits 0xF, .value 15⟩,
  ⟨0x340002, 0x340002, 1, .rws, true, true, false, .range 0 1, .value 0⟩,
  ⟨0x340101, 0x340101, 1, .rws, true, true, false, .range 0 6, .value 0⟩,
  ⟨0x340102, 0x340102, 1, .rws, true, true, false, .range 0 3, .value 0⟩,
  ⟨0x340103, 0x340103, 1, .rws, true, true, false, .range 0 1, .value 0⟩,
  ⟨0x340104, 0x340104, 1, .rws, true, false, false, .any, .value 0⟩,
  ⟨0x340105, 0x340105, 4, .rws, true, true, false, .any, .value 0⟩,
  ⟨0x340106, 0x340106, 1, .wo, true, true, false, .range 0 1, .value 0⟩,
  ⟨0x340107, 0x340107, 1, .rws, true, true, false, .range 0 1, .value 0⟩,
  ⟨0x340201, 0x340201, 4, .rws, true, true, false, .range 256 16777216, .value 4096⟩,
  ⟨0x340202, 0x340202, 1, .rws, true, true, false, .range 0 1, .value 0⟩,
  ⟨0x340203, 0x340203, 4, .rws, true, true, false, .any, .value 0⟩,
  ⟨0x340204, 0x340204, 4, .ro, false, false, false, .any, .value 0⟩,
  ⟨0x341001, 0x341001, 4, .rws, true, true, false, .range 100 100000000, .value 1000⟩,
  ⟨0x341002, 0x341002, 1, .rws, true, true, false, .oneOf [1, 2, 4], .value 1⟩,
  ⟨0x341101, 0x341104, 1, .rws, true, true, false, .bank, .value 0⟩,
  ⟨0x342001, 0x342004, 2, .rws, true, true, false, .range 1 256, .value 16⟩,
  ⟨0x342101, 0x342104, 1, .rws, true, true, false, .any, .value 120⟩,
  ⟨0x343001, 0x343001, 1, .rws, true, true, false, .range 0 1, .value 0⟩,
  ⟨0x343101, 0x343104, 2, .rws, true, true, false, .range 0 1023, .value 0⟩,
  ⟨0x343201, 0x343204, 1, .rws, true, true, false, .range 0 7, .value 0⟩,
  ⟨0x343301, 0x343304, 2, .ro, false, false, false, .any, .value 0⟩,
  ⟨0x344001, 0x344001, 1, .rws, true, true, false, .range 0 1, .value 0⟩,
  ⟨0x344002, 0x344002, 1, .rws, true, true, false, .range 0 1, .value 0⟩,
  ⟨0x344003, 0x344003, 1, .wo, true, true, false, .range 0 1, .value 0⟩,
  ⟨0x345001, 0x345001, 2, .ro, false, false, false, .any, .value 64⟩,
  ⟨0x345002, 0x345002, 4, .ro, false, false, false, .any, .value 15720⟩,
  ⟨0x345003, 0x345003, 4, .ro, false, false, false, .any, .value 0⟩,
  ⟨0x345004, 0x345004, 2, .ro, false, false, false, .any, .value 64⟩,
  ⟨0x346001, 0x346001, 4, .ro, false, false, false, .any, .value 0⟩,
  ⟨0x346002, 0x346002, 4, .ro, false, false, false, .any, .value 0⟩,
  ⟨0x346003, 0x346003, 4, .ro, false, false, false, .any, .value 0⟩,
  ⟨0x346004, 0x346004, 4, .ro, false, false, false, .any, .value 0xffffffff⟩,
  ⟨0x346005, 0x346005, 4, .ro, false, false, false, .any, .value 0⟩,
  ⟨0x346006, 0x346006, 4, .ro, false, false, false, .any, .value 0⟩]

/-- Ladle, converter and TDI objects (R27, R105, R124). -/
def objs3b : List ObjRow := [
  ⟨0x346007, 0x346007, 1, .wo, true, true, false, .range 0 1, .value 0⟩,
  ⟨0x300001, 0x300001, 2, .const_, false, false, false, .any, .value 256⟩,
  ⟨0x300002, 0x300002, 1, .const_, false, false, false, .any, .value 4⟩,
  ⟨0x300003, 0x300003, 1, .const_, false, false, false, .any, .value 9⟩,
  ⟨0x300004, 0x300004, 1, .const_, false, false, false, .any, .value 12⟩,
  ⟨0x300101, 0x300101, 1, .wo, true, true, false, .range 0 1, .value 0⟩,
  ⟨0x300102, 0x300102, 1, .ro, false, false, false, .any, .value 0⟩,
  ⟨0x300103, 0x300103, 33, .ro, false, false, false, .any, .value 0⟩,
  ⟨0x300104, 0x300104, 4, .ro, false, false, false, .any, .value 0⟩,
  ⟨0x300201, 0x300201, 1, .rws, true, true, false, .range 0 1, .value 1⟩,
  ⟨0x300202, 0x300202, 1, .rws, true, true, false, .range 10 16, .value 12⟩,
  ⟨0x300301, 0x300301, 1, .rws, true, true, false, .range 0 1, .value 0⟩,
  ⟨0x300401, 0x300401, 1, .rws, true, false, false, .range 0 2, .value 0⟩,
  ⟨0x301001, 0x301001, 1040, .ro, false, false, false, .any, .value 0⟩,
  ⟨0x301002, 0x301002, 520, .ro, false, false, false, .any, .value 0⟩,
  ⟨0x301003, 0x301003, 1040, .ro, false, false, false, .any, .value 0⟩,
  ⟨0x301004, 0x301004, 520, .ro, false, false, false, .any, .value 0⟩,
  ⟨0x301101, 0x301101, 33, .ro, false, false, false, .any, .value 0⟩,
  ⟨0x301201, 0x301201, 520, .ro, false, false, false, .any, .value 0⟩,
  ⟨0x301202, 0x301202, 520, .ro, false, false, false, .any, .value 0⟩,
  ⟨0x310001, 0x310010, 4, .ro, false, false, false, .any, .value 0⟩,
  ⟨0x310101, 0x310110, 4, .ro, false, false, false, .any, .value 0⟩,
  ⟨0x310201, 0x310210, 4, .ro, false, false, false, .any, .value 0⟩,
  ⟨0x310301, 0x310310, 4, .ro, false, false, false, .any, .value 0⟩,
  ⟨0x310401, 0x310401, 4, .ro, false, false, false, .any, .value 0⟩,
  ⟨0x310501, 0x310501, 4, .ro, false, false, false, .any, .value 0⟩,
  ⟨0x310601, 0x310601, 1, .wo, true, true, false, .range 0 1, .value 0⟩,
  ⟨0x311001, 0x311001, 1, .rws, true, true, false, .range 0 8, .value 4⟩,
  ⟨0x311002, 0x311002, 2, .ro, false, false, false, .any, .value 0⟩,
  ⟨0x311003, 0x311003, 2, .ro, false, false, false, .any, .value 0⟩,
  ⟨0x311004, 0x311004, 4, .ro, false, false, false, .any, .value 0⟩]

/-- Correction and calibration objects (R160). -/
def objs4a : List ObjRow := [
  ⟨0x400001, 0x400001, 1, .rws, true, true, false, .range 0 1, .value 1⟩,
  ⟨0x400002, 0x400002, 1, .rws, true, true, false, .range 0 1, .value 1⟩,
  ⟨0x400003, 0x400003, 1, .rws, true, true, false, .range 0 1, .value 1⟩,
  ⟨0x400004, 0x400004, 1, .rws, true, true, false, .range 0 1, .value 1⟩,
  ⟨0x400005, 0x400005, 1, .rws, true, true, false, .range 0 1, .value 1⟩,
  ⟨0x400006, 0x400006, 1, .rws, true, true, false, .any, .value 0⟩,
  ⟨0x400101, 0x400101, 1, .rws, true, true, false, .range 0 2, .value 0⟩,
  ⟨0x400102, 0x400102, 2, .ro, false, false, false, .any, .value 0⟩,
  ⟨0x400103, 0x400103, 1, .ro, false, false, false, .any, .value 0⟩,
  ⟨0x400104, 0x400104, 2, .ro, false, false, false, .any, .value 0⟩,
  ⟨0x400105, 0x400105, 4, .ro, false, false, false, .any, .value 0⟩,
  ⟨0x400106, 0x400106, 1, .ro, false, false, false, .any, .value 0⟩,
  ⟨0x400201, 0x400203, 10, .ro, false, false, false, .any, .value 0⟩,
  ⟨0x400301, 0x400303, 1, .ro, false, false, false, .any, .value 0⟩,
  ⟨0x400401, 0x400403, 4, .ro, false, false, false, .any, .value 0⟩,
  ⟨0x401001, 0x401001, 1, .ro, false, false, false, .any, .value 0⟩,
  ⟨0x401002, 0x401002, 4, .ro, false, false, false, .any, .value 0⟩,
  ⟨0x401003, 0x401003, 1, .ro, false, false, false, .any, .value 0⟩,
  ⟨0x401004, 0x401004, 1, .ro, false, false, false, .any, .value 0⟩,
  ⟨0x401005, 0x401005, 1, .ro, false, false, false, .any, .value 0⟩,
  ⟨0x401006, 0x401006, 1, .rw, true, false, false, .range 0 1, .value 0⟩,
  ⟨0x401007, 0x401007, 1, .rws, true, true, false, .range 0 1, .value 0⟩,
  ⟨0x401101, 0x401101, 128, .ro, false, false, false, .any, .value 0⟩,
  ⟨0x401102, 0x401102, 128, .ro, false, false, false, .any, .value 0⟩,
  ⟨0x401201, 0x401201, 4, .ro, false, false, false, .any, .value 0⟩,
  ⟨0x401202, 0x401202, 4, .ro, false, false, false, .any, .value 0⟩,
  ⟨0x402001, 0x402010, 4, .ro, false, false, false, .any, .value 0⟩,
  ⟨0x402101, 0x402110, 4, .ro, false, false, false, .any, .value 0⟩,
  ⟨0x402201, 0x402210, 4, .ro, false, false, false, .any, .value 0⟩,
  ⟨0x402301, 0x402301, 1, .wo, true, true, false, .range 0 1, .value 0⟩,
  ⟨0x410001, 0x410001, 2050, .rws, true, true, false, .any, .value profileDefault⟩,
  ⟨0x420001, 0x420001, 1, .wo, true, true, false, .range 1 5, .value 0⟩,
  ⟨0x420002, 0x420002, 1, .rw, true, true, false, .range 1 2, .value 1⟩,
  ⟨0x420003, 0x420003, 4, .rw, true, true, false, .range 100 100000000, .value 1000⟩,
  ⟨0x420004, 0x420004, 1, .rw, true, true, false, .bank, .value 255⟩,
  ⟨0x420005, 0x420005, 2, .rw, true, true, false, .range 1024 3600, .value 2400⟩,
  ⟨0x420006, 0x420006, 1, .rw, true, true, false, .range 0 2, .value 0⟩,
  ⟨0x420007, 0x420007, 10, .rw, true, true, false, .seedPoints, .value 0x410037002D002300190⟩,
  ⟨0x420008, 0x420008, 1, .ro, false, false, false, .any, .value 0⟩,
  ⟨0x420009, 0x420009, 1, .ro, false, false, false, .any, .value 0⟩]

/-- Correction and calibration objects (R160). -/
def objs4b : List ObjRow := [
  ⟨0x421001, 0x421001, 1, .wo, true, false, false, .range 1 3, .value 0⟩,
  ⟨0x421002, 0x421002, 1, .wo, true, false, false, .range 0 1, .value 0⟩,
  ⟨0x421003, 0x421003, 1, .wo, true, false, false, .range 0 1, .value 0⟩,
  ⟨0x421004, 0x421004, 4, .ro, false, false, false, .any, .value 0⟩,
  ⟨0x421005, 0x421005, 1, .ro, false, false, false, .any, .value 0⟩]

/-- Timer, capture and encoder objects (R309, R312, R313). -/
def objs5a : List ObjRow := [
  ⟨0x500001, 0x500008, 1, .rws, true, true, false, .range 0 3, .value 0⟩,
  ⟨0x500101, 0x500108, 4, .rws, true, true, false, .range 0 2147483648, .value 0⟩,
  ⟨0x500201, 0x500208, 4, .rws, true, true, false, .any, .value 0⟩,
  ⟨0x500301, 0x500308, 4, .rws, true, true, false, .any, .value 0⟩,
  ⟨0x500401, 0x500408, 4, .rws, true, true, false, .range 0 100000000, .value 0⟩,
  ⟨0x500501, 0x500508, 4, .rws, true, true, false, .range 2 100000000, .value 100⟩,
  ⟨0x500601, 0x500608, 1, .rws, true, true, false, .bits 0x7, .value 0⟩,
  ⟨0x500701, 0x500708, 4, .ro, false, false, false, .any, .value 0⟩,
  ⟨0x500801, 0x500808, 1, .rw, true, true, false, .bits 0x1F, .value 0⟩,
  ⟨0x500901, 0x500901, 1, .wo, true, true, false, .any, .value 0⟩,
  ⟨0x501001, 0x501004, 1, .rws, true, true, false, .any, .value 0⟩,
  ⟨0x501101, 0x501101, 1, .ro, false, false, false, .any, .value 0⟩,
  ⟨0x501102, 0x501102, 1, .ro, false, false, false, .range 0 1, .value 0⟩,
  ⟨0x510001, 0x510004, 1, .rws, true, true, false, .range 0 6, .value 0⟩,
  ⟨0x510101, 0x510104, 1, .rws, true, true, false, .range 0 2, .value 1⟩,
  ⟨0x510201, 0x510204, 1, .rws, true, true, false, .range 0 2, .value 0⟩,
  ⟨0x510301, 0x510304, 1, .rws, true, true, false, .range 1 32, .value 2⟩,
  ⟨0x510401, 0x510404, 4, .rws, true, true, false, .range 1 65536, .value 1⟩,
  ⟨0x510501, 0x510504, 16, .ro, false, false, false, .any, .value 0⟩,
  ⟨0x510601, 0x510604, 1, .ro, false, false, false, .any, .value 0⟩,
  ⟨0x510701, 0x510704, 4, .ro, false, false, false, .any, .value 0⟩,
  ⟨0x510801, 0x510804, 4, .ro, false, false, false, .any, .value 0⟩,
  ⟨0x510901, 0x510904, 4, .ro, false, false, false, .any, .value 0⟩,
  ⟨0x510A01, 0x510A04, 1, .rw, true, true, false, .bits 0x3, .value 0⟩,
  ⟨0x510B01, 0x510B01, 1, .wo, true, true, false, .range 0 1, .value 0⟩,
  ⟨0x510C01, 0x510C01, 1, .wo, true, true, false, .bits 0xF, .value 0⟩,
  ⟨0x520001, 0x520001, 4, .rw, true, true, false, .any, .value 0⟩,
  ⟨0x520002, 0x520002, 2, .ro, false, false, false, .any, .value 0⟩,
  ⟨0x520003, 0x520003, 2, .ro, false, false, false, .any, .value 0⟩,
  ⟨0x520004, 0x520004, 2, .ro, false, false, false, .any, .value 0⟩,
  ⟨0x520005, 0x520005, 8, .ro, false, false, false, .any, .value 0⟩,
  ⟨0x520006, 0x520006, 1, .rws, true, true, false, .range 1 32, .value 2⟩,
  ⟨0x520007, 0x520007, 1, .rws, true, true, false, .range 0 3, .value 1⟩,
  ⟨0x520008, 0x520008, 4, .ro, false, false, false, .any, .value 0⟩,
  ⟨0x520009, 0x520009, 4, .ro, false, false, false, .any, .value 0⟩,
  ⟨0x52000A, 0x52000A, 4, .ro, false, false, false, .any, .value 0⟩,
  ⟨0x52000B, 0x52000B, 4, .ro, false, false, false, .any, .value 0⟩,
  ⟨0x52000C, 0x52000C, 1, .wo, true, true, false, .range 0 1, .value 0⟩,
  ⟨0x52000D, 0x52000D, 1, .rw, true, true, false, .bits 0x1, .value 0⟩,
  ⟨0x52000E, 0x52000E, 4, .ro, false, false, false, .any, .value 0⟩]

/-- Pace, housekeeping and thermal objects (R27, R358, R359). -/
def objs6a : List ObjRow := [
  ⟨0x680001, 0x680010, 2, .ro, false, false, false, .any, .value 0⟩,
  ⟨0x680101, 0x680101, 2, .ro, false, false, false, .any, .value 0⟩,
  ⟨0x680102, 0x680102, 2, .ro, false, false, false, .any, .value 65535⟩,
  ⟨0x680103, 0x680103, 1, .wo, true, true, false, .range 0 1, .value 0⟩,
  ⟨0x680104, 0x680104, 2, .ro, false, false, false, .any, .value 0⟩,
  ⟨0x680201, 0x680201, 1, .rw, true, true, false, .range 0 1, .value 0⟩,
  ⟨0x680202, 0x680202, 1, .rw, true, true, false, .range 0 15, .value 15⟩,
  ⟨0x680203, 0x680203, 1, .ro, false, false, false, .any, .value 15⟩,
  ⟨0x680204, 0x680204, 1, .rw, true, false, false, .range 0 15, .value 0⟩,
  ⟨0x680205, 0x680205, 1, .rw, true, false, false, .range 0 15, .value 15⟩,
  ⟨0x600001, 0x600001, 1, .const_, false, false, false, .any, .value 26⟩,
  ⟨0x600002, 0x600002, 1, .const_, false, false, false, .any, .value 14⟩,
  ⟨0x600003, 0x600003, 1, .const_, false, false, false, .any, .value 7⟩,
  ⟨0x600101, 0x600101, 1, .wo, true, true, false, .range 0 1, .value 0⟩,
  ⟨0x600102, 0x600102, 1, .ro, false, false, false, .any, .value 0⟩,
  ⟨0x600103, 0x600103, 1, .ro, false, false, false, .any, .value 0⟩,
  ⟨0x600201, 0x600201, 1, .rw, true, true, false, .range 0 1, .value 0⟩,
  ⟨0x600202, 0x600202, 1, .rw, true, true, false, .range 1 32, .value 1⟩,
  ⟨0x600203, 0x600203, 1, .ro, false, false, false, .any, .value 0⟩,
  ⟨0x600204, 0x600204, 4, .ro, false, false, false, .any, .value 0⟩,
  ⟨0x600301, 0x600320, 4, .rw, true, true, false, .hkEntry, .value 16⟩,
  ⟨0x600401, 0x600401, 2, .wo, true, true, false, .injected, .value 0⟩,
  ⟨0x600402, 0x600402, 1, .ro, false, false, false, .any, .value 0⟩,
  ⟨0x600403, 0x600403, 1, .rw, true, true, false, .bits 0x1, .value 0⟩,
  ⟨0x600404, 0x600404, 4, .ro, false, false, false, .any, .value 0⟩,
  ⟨0x600405, 0x600405, 16, .ro, false, false, false, .any, .value 0⟩,
  ⟨0x600406, 0x600406, 1, .ro, false, false, false, .any, .value 0⟩,
  ⟨0x600407, 0x600407, 1, .wo, true, true, false, .range 0 1, .value 0⟩,
  ⟨0x601001, 0x60101A, 4, .ro, false, false, false, .any, .value 0⟩,
  ⟨0x601101, 0x60111A, 2, .ro, false, false, false, .any, .value 0⟩,
  ⟨0x601201, 0x60121A, 1, .rw, true, true, false, .bits 0x7, .value 0⟩,
  ⟨0x602001, 0x602004, 2, .rw, true, true, true, .range 9000 11000, .value 10080⟩,
  ⟨0x602101, 0x602104, 2, .rw, true, true, true, .range 0 5000, .value 0⟩,
  ⟨0x602201, 0x602204, 4, .rw, true, true, true, .range 100 1000000, .value 10000⟩,
  ⟨0x602301, 0x602304, 2, .rw, true, true, true, .range 1000 10000, .value 3435⟩,
  ⟨0x6A0001, 0x6A0001, 1, .ro, false, false, false, .any, .value 0⟩,
  ⟨0x6A0002, 0x6A0002, 1, .ro, false, false, false, .any, .value 0⟩,
  ⟨0x6A0003, 0x6A0003, 1, .ro, false, false, false, .any, .value 0⟩,
  ⟨0x6A0004, 0x6A0004, 1, .ro, false, false, false, .any, .value 0⟩,
  ⟨0x6A0005, 0x6A0005, 1, .ro, false, false, false, .any, .value 0⟩]

/-- Pace, housekeeping and thermal objects (R27, R358, R359). -/
def objs6b : List ObjRow := [
  ⟨0x6A0006, 0x6A0006, 2, .ro, false, false, false, .any, .value 10000⟩,
  ⟨0x6A0007, 0x6A0009, 2, .ro, false, false, false, .any, .value 0⟩,
  ⟨0x6A0101, 0x6A0101, 1, .rw, true, true, false, .range 1 15, .value 2⟩,
  ⟨0x6A0102, 0x6A0102, 1, .rw, true, false, false, .range 1 15, .value 15⟩,
  ⟨0x6A0201, 0x6A0201, 2, .const_, false, false, false, .any, .value 1120⟩,
  ⟨0x6A0202, 0x6A0202, 2, .const_, false, false, false, .any, .value 1280⟩,
  ⟨0x6A0203, 0x6A0203, 2, .const_, false, false, false, .any, .value 1520⟩,
  ⟨0x6A0204, 0x6A0204, 2, .const_, false, false, false, .any, .value 1600⟩,
  ⟨0x6A0205, 0x6A0205, 2, .const_, false, false, false, .any, .value 1728⟩,
  ⟨0x6A0206, 0x6A0206, 2, .const_, false, false, false, .any, .value 1888⟩,
  ⟨0x6A0207, 0x6A0207, 2, .const_, false, false, false, .any, .value 1760⟩,
  ⟨0x6A0208, 0x6A0208, 1, .const_, false, false, false, .any, .value 48⟩,
  ⟨0x6A0301, 0x6A0310, 8, .rw, true, false, true, .threshold, .value 0⟩,
  ⟨0x6A0311, 0x6A0311, 4, .ro, false, false, false, .any, .value 0⟩,
  ⟨0x6A1001, 0x6A1001, 1, .wo, true, true, false, .bits 0x3, .value 0⟩,
  ⟨0x6A1002, 0x6A1002, 1, .ro, false, false, false, .any, .value 0⟩,
  ⟨0x6A1101, 0x6A1101, 4, .ro, false, false, false, .any, .value 0⟩,
  ⟨0x6A1102, 0x6A1102, 4, .ro, false, false, false, .any, .value 0⟩,
  ⟨0x6A1103, 0x6A1103, 8, .ro, false, false, false, .any, .value 0⟩,
  ⟨0x6A1104, 0x6A1104, 4, .ro, false, false, false, .any, .value 0⟩,
  ⟨0x6A1105, 0x6A1105, 4, .ro, false, false, false, .any, .value 0⟩,
  ⟨0x6A1106, 0x6A1108, 2, .ro, false, false, false, .any, .value 32768⟩,
  ⟨0x6A1109, 0x6A1109, 1, .wo, true, true, false, .range 0 1, .value 0⟩]

/-- DMA objects (R331). -/
def objs7a : List ObjRow := [
  ⟨0x700001, 0x700001, 1, .const_, false, false, false, .any, .value 8⟩,
  ⟨0x700002, 0x700002, 1, .const_, false, false, false, .any, .value 32⟩,
  ⟨0x701001, 0x701008, 4, .rw, true, true, false, .any, .value 0x4000000⟩,
  ⟨0x701101, 0x701108, 2, .rw, true, true, false, .range 1 65535, .value 1024⟩,
  ⟨0x701201, 0x701201, 1, .wo, true, true, false, .any, .value 0⟩,
  ⟨0x701202, 0x701202, 1, .wo, true, true, false, .any, .value 0⟩,
  ⟨0x702001, 0x702008, 1, .ro, false, false, false, .any, .value 0⟩,
  ⟨0x702101, 0x702108, 4, .ro, false, false, false, .any, .value 0⟩,
  ⟨0x702201, 0x702208, 4, .ro, false, false, false, .any, .value 0xffffffff⟩,
  ⟨0x702301, 0x702308, 4, .ro, false, false, false, .any, .value 0⟩,
  ⟨0x702401, 0x702408, 4, .ro, false, false, false, .any, .value 0⟩,
  ⟨0x702501, 0x702508, 2, .ro, false, false, false, .any, .value 0⟩,
  ⟨0x702601, 0x702601, 1, .wo, true, true, false, .range 0 1, .value 0⟩,
  ⟨0x703001, 0x703001, 1048576, .ro, false, false, false, .any, .value 0⟩,
  ⟨0x704001, 0x704001, 8, .rw, true, true, false, .any, .value 0⟩,
  ⟨0x704002, 0x704002, 1, .ro, false, false, false, .any, .value 0⟩,
  ⟨0x704003, 0x704003, 4, .ro, false, false, false, .any, .value 0⟩,
  ⟨0x704004, 0x704004, 1, .wo, true, true, false, .range 0 1, .value 0⟩]

/-- Commit-group and mould objects (R218). -/
def objs8a : List ObjRow := [
  ⟨0x800001, 0x800001, 1, .wo, true, true, false, .range 0 1, .value 0⟩,
  ⟨0x800002, 0x800002, 1, .rw, true, true, false, .range 0 3, .value 0⟩,
  ⟨0x800003, 0x800003, 8, .rw, true, true, false, .any, .value 0⟩,
  ⟨0x800004, 0x800004, 4, .rw, true, true, false, .any, .value 0⟩,
  ⟨0x800005, 0x800005, 1, .wo, true, true, false, .range 0 1, .value 0⟩,
  ⟨0x800006, 0x800006, 1, .wo, true, true, false, .range 0 1, .value 0⟩,
  ⟨0x800007, 0x800007, 1, .ro, false, false, false, .any, .value 0⟩,
  ⟨0x800008, 0x800008, 2, .ro, false, false, false, .any, .value 0⟩,
  ⟨0x800009, 0x800009, 4, .ro, false, false, false, .any, .value 0⟩,
  ⟨0x80000A, 0x80000A, 4, .rw, true, true, false, .any, .value 10000⟩,
  ⟨0x80000B, 0x80000B, 4, .ro, false, false, false, .any, .value 0⟩,
  ⟨0x800101, 0x800101, 1, .const_, false, false, false, .any, .value 4⟩,
  ⟨0x800102, 0x800102, 1, .ro, false, false, false, .any, .value 0⟩,
  ⟨0x800103, 0x800103, 4, .ro, false, false, false, .any, .value 0⟩,
  ⟨0x800104, 0x800104, 4, .ro, false, false, false, .any, .value 0⟩,
  ⟨0x800105, 0x800105, 4, .ro, false, false, false, .any, .value 0⟩,
  ⟨0x800106, 0x800106, 4, .ro, false, false, false, .any, .value 0⟩,
  ⟨0x800107, 0x800107, 4, .ro, false, false, false, .any, .value 0⟩,
  ⟨0x800108, 0x800108, 1, .rw, true, true, false, .bits 0x1, .value 0⟩,
  ⟨0x800109, 0x800109, 1, .wo, true, true, false, .range 0 1, .value 0⟩,
  ⟨0x80010A, 0x80010A, 8, .ro, false, false, false, .any, .value 0⟩,
  ⟨0x801001, 0x801001, 1, .wo, true, true, false, .any, .value 0⟩,
  ⟨0x801002, 0x801002, 1, .wo, true, true, false, .any, .value 0⟩,
  ⟨0x801003, 0x801003, 1, .wo, true, true, false, .any, .value 0⟩,
  ⟨0x801004, 0x801004, 1, .rw, true, true, false, .range 0 1, .value 0⟩,
  ⟨0x801005, 0x801005, 1, .wo, true, true, false, .any, .value 0⟩,
  ⟨0x801006, 0x801006, 1, .ro, false, false, false, .any, .value 0⟩,
  ⟨0x801007, 0x801007, 1, .ro, false, false, false, .any, .value 0⟩,
  ⟨0x801101, 0x801101, 32, .rw, true, false, true, .any, .value 0⟩,
  ⟨0x801102, 0x801102, 32, .ro, false, false, false, .any, .value 0⟩,
  ⟨0x801201, 0x801201, 2, .rw, true, false, true, .startMould, .value 65535⟩,
  ⟨0x801202, 0x801202, 1, .ro, false, false, false, .any, .value 0⟩,
  ⟨0x801301, 0x801301, 1, .rw, true, true, false, .any, .value 0⟩,
  ⟨0x801302, 0x801302, 16384, .ro, false, false, false, .any, .value 0⟩,
  ⟨0x802001, 0x802010, 4, .rw, true, false, true, .tapEntry, .value 0⟩,
  ⟨0x802011, 0x802011, 4, .ro, false, false, false, .any, .value 0⟩,
  ⟨0x802012, 0x802012, 4, .ro, false, false, false, .any, .value 0⟩]

/-- Lane objects (R190). -/
def objs9a : List ObjRow := [
  ⟨0x900001, 0x900001, 1, .const_, false, false, false, .any, .value 32⟩,
  ⟨0x900002, 0x900002, 1, .const_, false, false, false, .any, .value 2⟩,
  ⟨0x900003, 0x900003, 2, .const_, false, false, false, .any, .value 16384⟩,
  ⟨0x900101, 0x900101, 4, .rw, true, true, false, .any, .value 0xffffffff⟩,
  ⟨0x900102, 0x900102, 4, .rw, true, false, false, .any, .value 0⟩,
  ⟨0x900103, 0x900103, 32, .rw, true, false, false, .elems 32 12, .value 0x202020202020202020202020202020202020202020202020202020202020202⟩,
  ⟨0x900104, 0x900104, 32, .rw, true, false, false, .elems 32 16, .value 0x606060606060606060606060606060606060606060606060606060606060606⟩,
  ⟨0x900105, 0x900105, 32, .rw, true, false, false, .elems 32 15, .value 0xA0A0A0A0A0A0A0A0A0A0A0A0A0A0A0A0A0A0A0A0A0A0A0A0A0A0A0A0A0A0A0A⟩,
  ⟨0x900106, 0x900106, 1, .rw, true, false, false, .range 0 3, .value 0⟩,
  ⟨0x900107, 0x900107, 4, .rw, true, false, false, .any, .value 0⟩,
  ⟨0x900108, 0x900108, 2, .rw, true, true, false, .range 10 10000, .value 100⟩,
  ⟨0x900201, 0x900201, 1, .rw, true, false, false, .bits 0x3, .value 0⟩,
  ⟨0x900202, 0x900202, 1, .rw, true, false, false, .range 0 1, .value 0⟩,
  ⟨0x900203, 0x900204, 4, .ro, false, false, false, .any, .value 0⟩,
  ⟨0x900301, 0x900302, 1, .ro, false, false, false, .any, .value 0⟩,
  ⟨0x900303, 0x900304, 4, .ro, false, false, false, .any, .value 0⟩,
  ⟨0x900305, 0x900306, 4, .ro, false, false, false, .any, .value 0⟩,
  ⟨0x901001, 0x901020, 4, .ro, false, false, false, .any, .value 0⟩,
  ⟨0x901101, 0x901120, 4, .ro, false, false, false, .any, .value 0⟩,
  ⟨0x901201, 0x901220, 4, .ro, false, false, false, .any, .value 0⟩,
  ⟨0x901301, 0x901304, 2, .ro, false, false, false, .any, .value 0⟩,
  ⟨0x901401, 0x901401, 4, .rw, true, true, false, .any, .value 1000⟩,
  ⟨0x901402, 0x901402, 4, .ro, false, false, false, .any, .value 0⟩,
  ⟨0x901403, 0x901403, 4, .ro, false, false, false, .any, .value 0⟩,
  ⟨0x902001, 0x902001, 1, .rws, true, true, false, .range 0 1, .value 0⟩,
  ⟨0x902002, 0x902002, 4, .rws, true, true, false, .any, .value 0⟩,
  ⟨0x902003, 0x902003, 1, .rws, true, true, false, .range 0 1, .value 0⟩,
  ⟨0x902101, 0x902101, 4, .ro, false, false, false, .any, .value 0x3000000⟩,
  ⟨0x902102, 0x902102, 4, .ro, false, false, false, .any, .value 0⟩,
  ⟨0x902103, 0x902106, 4, .ro, false, false, false, .any, .value 0⟩,
  ⟨0x902107, 0x902107, 4, .ro, false, false, false, .any, .value 0⟩,
  ⟨0x902108, 0x902108, 4, .ro, false, false, false, .any, .value 0x1940000⟩,
  ⟨0x902201, 0x902201, 4, .ro, false, false, false, .any, .value 0⟩,
  ⟨0x902202, 0x902202, 4, .ro, false, false, false, .any, .value 0⟩,
  ⟨0x902203, 0x902203, 8, .ro, false, false, false, .any, .value 0⟩,
  ⟨0x902204, 0x902204, 4, .ro, false, false, false, .any, .value 0⟩,
  ⟨0x902205, 0x902205, 1, .wo, true, true, false, .range 0 1, .value 0⟩,
  ⟨0x903001, 0x903001, 4, .ro, false, false, false, .any, .value 0⟩,
  ⟨0x903002, 0x903002, 4, .ro, false, false, false, .any, .value 0⟩,
  ⟨0x903003, 0x903003, 1, .ro, false, false, false, .any, .value 0⟩]

/-- Lane objects (R190). -/
def objs9b : List ObjRow := [
  ⟨0x903004, 0x903004, 1, .ro, false, false, false, .any, .value 0⟩,
  ⟨0x903005, 0x903005, 1, .ro, false, false, false, .any, .value 0⟩]

/-- Two-wire objects (R282). -/
def objsAa : List ObjRow := [
  ⟨0xA00001, 0xA00001, 1, .rw, true, true, false, .range 0 1, .value 0⟩,
  ⟨0xA00002, 0xA00002, 1, .ro, false, false, false, .any, .value 0⟩,
  ⟨0xA00101, 0xA00101, 2, .rw, true, true, false, .bits 0x37F, .value 304⟩,
  ⟨0xA00102, 0xA00104, 2, .rw, true, true, false, .bits 0x37F, .value 0⟩,
  ⟨0xA00201, 0xA00201, 1, .rw, true, true, false, .any, .value 48⟩,
  ⟨0xA00202, 0xA00202, 1, .rw, true, true, false, .any, .value 127⟩,
  ⟨0xA00203, 0xA00203, 1, .rw, true, true, false, .range 0 1, .value 0⟩,
  ⟨0xA00301, 0xA00301, 1, .rw, true, true, false, .range 0 1, .value 1⟩,
  ⟨0xA00401, 0xA00401, 4, .ro, false, false, false, .any, .value 0⟩,
  ⟨0xA00402, 0xA00402, 4, .ro, false, false, false, .any, .value 0⟩,
  ⟨0xA00403, 0xA00403, 1, .ro, false, false, false, .any, .value 0⟩,
  ⟨0xA00404, 0xA00404, 4, .ro, false, false, false, .any, .value 0⟩,
  ⟨0xA00405, 0xA00405, 2, .ro, false, false, false, .any, .value 0⟩,
  ⟨0xA00406, 0xA00406, 1, .wo, true, true, false, .range 0 1, .value 0⟩,
  ⟨0xA00407, 0xA00407, 4, .ro, false, false, false, .any, .value 0⟩,
  ⟨0xA01001, 0xA01001, 1, .rw, true, true, false, .range 0 2, .value 1⟩,
  ⟨0xA01002, 0xA01002, 1, .rw, true, false, true, .range 8 119, .value 80⟩,
  ⟨0xA01003, 0xA01003, 1, .ro, false, false, false, .any, .value 0⟩,
  ⟨0xA01004, 0xA01004, 4, .ro, false, false, false, .any, .value 0⟩,
  ⟨0xA01005, 0xA01005, 4, .ro, false, false, false, .any, .value 0⟩,
  ⟨0xA01101, 0xA01101, 128, .rws, true, true, false, .driverList, .value 0⟩,
  ⟨0xA01102, 0xA01102, 1, .wo, true, true, false, .range 0 1, .value 0⟩,
  ⟨0xA01103, 0xA01103, 2, .ro, false, false, false, .any, .value 0⟩]

/-- Power and life-cycle objects (R388). -/
def objsBa : List ObjRow := [
  ⟨0xB00001, 0xB00001, 1, .ro, false, false, false, .any, .value 0⟩,
  ⟨0xB00002, 0xB00002, 1, .ro, false, false, false, .range 0 1, .value 0⟩,
  ⟨0xB00003, 0xB00003, 1, .ro, false, false, false, .any, .value 0⟩,
  ⟨0xB00004, 0xB00004, 4, .ro, false, false, true, .any, .value 0⟩,
  ⟨0xB00005, 0xB00005, 1, .ro, false, false, false, .range 0 1, .value 0⟩,
  ⟨0xB00006, 0xB00006, 8, .ro, false, false, false, .any, .value 0⟩,
  ⟨0xB00101, 0xB00101, 1, .wo, true, true, false, .range 2 3, .value 0⟩,
  ⟨0xB00102, 0xB00102, 4, .wo, true, true, false, .any, .value 0⟩,
  ⟨0xB00103, 0xB00103, 1, .ro, false, false, false, .any, .value 0⟩,
  ⟨0xB00104, 0xB00104, 1, .ro, false, false, false, .any, .value 0⟩,
  ⟨0xB00105, 0xB00105, 1, .ro, false, false, false, .any, .value 0⟩,
  ⟨0xB01001, 0xB01001, 4, .wo, true, false, false, .any, .value 0⟩,
  ⟨0xB01002, 0xB01002, 2, .wo, true, false, false, .bits 0x1FFF, .value 0⟩,
  ⟨0xB01003, 0xB01003, 2, .wo, true, false, false, .bits 0x1FFF, .value 0⟩,
  ⟨0xB01004, 0xB01004, 1, .wo, true, false, false, .range 0 1, .value 0⟩,
  ⟨0xB01005, 0xB01005, 8, .ro, false, false, false, .any, .value 0⟩,
  ⟨0xB02001, 0xB02001, 1, .rw, true, true, false, .range 0 1, .value 0⟩,
  ⟨0xB02002, 0xB02002, 1, .ro, false, false, false, .any, .value 0⟩,
  ⟨0xB02003, 0xB02003, 4, .ro, false, false, false, .any, .value 0⟩,
  ⟨0xB02101, 0xB02101, 1, .wo, true, true, false, .range 0 1, .value 0⟩,
  ⟨0xB02102, 0xB02102, 1, .rw, true, true, false, .range 0 1, .value 0⟩,
  ⟨0xB02103, 0xB02103, 1, .ro, false, false, false, .any, .value 0⟩,
  ⟨0xB02201, 0xB02201, 4, .wo, true, true, false, .any, .value 0⟩,
  ⟨0xB03001, 0xB03001, 1, .ro, false, false, false, .any, .value 0⟩]

/-- Event log and diagnostics objects (R263, R264). -/
def objsCa : List ObjRow := [
  ⟨0xC00001, 0xC00001, 4, .ro, false, false, false, .any, .value 0⟩,
  ⟨0xC00002, 0xC00002, 4, .ro, false, false, false, .any, .value 0⟩,
  ⟨0xC00003, 0xC00003, 4, .ro, false, false, false, .any, .value 0⟩,
  ⟨0xC00004, 0xC00004, 4, .rw, true, true, false, .any, .value 0⟩,
  ⟨0xC00005, 0xC00005, 32, .ro, false, false, false, .any, .value 0⟩,
  ⟨0xC00006, 0xC00006, 1, .rw, true, true, false, .range 0 1, .value 1⟩,
  ⟨0xC00007, 0xC00007, 4, .ro, false, false, false, .any, .value 0⟩,
  ⟨0xC00008, 0xC00008, 1, .ro, false, false, false, .any, .value 0⟩,
  ⟨0xC00009, 0xC00009, 4, .ro, false, false, false, .any, .value 0⟩,
  ⟨0xC10001, 0xC10001, 4, .ro, false, false, false, .any, .value 0⟩,
  ⟨0xC10002, 0xC10002, 4, .ro, false, false, false, .any, .value 0⟩,
  ⟨0xC10003, 0xC10003, 4, .ro, false, false, false, .any, .value 0⟩,
  ⟨0xC10004, 0xC10004, 4, .ro, false, false, false, .any, .value 0⟩,
  ⟨0xC10005, 0xC10005, 1, .ro, false, false, false, .any, .value 255⟩,
  ⟨0xC10006, 0xC10006, 1, .wo, true, true, false, .range 0 1, .value 0⟩]


/-- The object rows whose index starts with the digit `g`. -/
def objGroup (g : Nat) : List ObjRow :=
  match g with
  | 0x1 => objs1a ++ objs1b
  | 0x2 => objs2a ++ objs2b
  | 0x3 => objs3a ++ objs3b
  | 0x4 => objs4a ++ objs4b
  | 0x5 => objs5a
  | 0x6 => objs6a ++ objs6b
  | 0x7 => objs7a
  | 0x8 => objs8a
  | 0x9 => objs9a ++ objs9b
  | 0xA => objsAa
  | 0xB => objsBa
  | 0xC => objsCa
  | _ => []

/-- Every row of the object tables. -/
def objTable : List ObjRow :=
  objGroup 1 ++ objGroup 2 ++ objGroup 3 ++ objGroup 4 ++ objGroup 5 ++ objGroup 6 ++ objGroup 7 ++ objGroup 8 ++
  objGroup 9 ++ objGroup 10 ++ objGroup 11 ++ objGroup 12

/-- The row that lists a key. -/
def objRow (key : Nat) : Option ObjRow :=
  (objGroup (key / 0x100000)).find? fun r => r.first ≤ key && key ≤ r.last

/-- Some table lists the index of a key (R8, R255). -/
def indexExists (key : Nat) : Bool :=
  (objGroup (key / 0x100000)).any fun r => r.first / 256 == key / 256

/-- The size of an object in bytes, 0 where none is listed. -/
def objSize (key : Nat) : Nat :=
  match objRow key with
  | some r => r.size
  | none => 0

/-- The objects with access RWS (R191), one key for each. -/
def rwsKeys : List Nat :=
  objTable.flatMap fun r => if r.acc = .rws then rangeFrom r.first (r.last - r.first + 1) else []

/-- A key is MRAM-backed (R250). -/
def isMramKey (key : Nat) : Bool :=
  match objRow key with
  | some r => r.mram
  | none => false

end Sys2Proof.Machine
end

