-- ==== Sys2Proof/Machine/Factory.lean ====
section
/-!
DEFINITION. What the factory leaves in a part and the spec bounds (R42, R49, R51, R53): the free values of Config brought within
those bounds. Every outcome within the bounds is some value of Config's constants, and no other outcome is.
-/
namespace Sys2Proof.Machine

/-! ### The factory map's defects (R53) -/

/-- Row and column of the pixel with an index. -/
def pixelRow (i : Nat) : Nat := i / 16384

/-- Column of the pixel with an index. -/
def pixelCol (i : Nat) : Nat := i % 16384

/-- The distance of two numbers. -/
def gap (a b : Nat) : Nat := max a b - min a b

/-- Two pixels touch at an edge or a corner. -/
def pixelsTouch (i j : Nat) : Bool := i != j && gap (pixelRow i) (pixelRow j) ≤ 1 && gap (pixelCol i) (pixelCol j) ≤ 1

/-- The first or last column of a flask. -/
def flaskEdge (c : Nat) : Bool := c % 1024 == 0 || c % 1024 == 1023

/-- Two pixels are neighbours in one row and one flask. -/
def rowNeighbours (i j : Nat) : Bool :=
  pixelRow i == pixelRow j && gap (pixelCol i) (pixelCol j) == 1 && pixelCol i / 1024 == pixelCol j / 1024

/-- The limits of R53 on the flagged pixels `l` of a shipped part, as they concern the pixel `i` of `l`. -/
def shippedPixelOk (l : List Nat) (i : Nat) : Bool :=
  (l.filter fun j => pixelCol j / 1024 == pixelCol i / 1024).length ≤ 160 &&
  (l.filter (pixelsTouch i)).length ≤ 1 &&
  (l.filter fun j => pixelCol j == pixelCol i).length ≤ 3 &&
  (l.filter fun j => pixelRow j == pixelRow i).length ≤ 3 &&
  !(flaskEdge (pixelCol i) && l.any (rowNeighbours i))

/-- The limits of R53 on the flagged pixels of a shipped part, but for their number. -/
def shippedOk (l : List Nat) : Bool := l.all (shippedPixelOk l)

/-- One more flagged pixel, where the limits allow it. -/
def addDefect (l : List Nat) (i : Nat) : List Nat :=
  if i < 16777216 ∧ !l.contains i ∧ shippedOk (i :: l) then i :: l else l

/-- The pixels that the factory map flags: at most 1,678, within every limit of R53. -/
def factoryDefects : List Nat := ((List.range 1678).map Config.factoryDefect).foldl addDefect []

/-- The entry of the factory map for pixel `i`: bit 15 is DEF (R53, R125). -/
def factoryMap (i : Nat) : Nat := Config.factoryEntry i % 32768 + if factoryDefects.contains i then 32768 else 0

/-! ### Factory measurements (R40, R51) -/

/-- The lowest two bits that `v` has set among its low 32 (R53: at most 2 defective shielded columns at an end). -/
def twoBits (v : Nat) : Nat := sumNat ((((List.range 32).filter v.testBit).take 2).map fun n => 2 ^ n)

/-- Least and greatest IEEE 754 single-precision codes of a factory measurement (R42, R49, R51); the codes of positive
numbers rise with the numbers. -/
def measuredBounds (key : Nat) : Option (Nat × Nat) :=
  match key / 256, key % 256 with
  | 0x2002, _ => some (0x3E932618, 0x3E9C432C)
  | 0x2003, _ => some (0x46480000, 0x7F7FFFFF)
  | 0x2004, _ => some (0, 0x40333333)
  | 0x2005, 2 => some (0x3F0A3D71, 0x3F800000)
  | 0x2005, 4 => some (0x3F23D70B, 0x3F800000)
  | 0x2005, _ => some (0x3F000000, 0x3F800000)
  | _, _ => none

/-- The factory measurement or identity value of an object. -/
def factoryValue (key : Nat) : Nat :=
  let v := Config.partValue key
  if key = 0x200602 then factoryDefects.length
  else if key = 0x200603 then twoBits v + 2 ^ 32 * twoBits (v / 2 ^ 32)
  else
    match measuredBounds key with
    | some b => max b.1 (min b.2 v)
    | none => v % 256 ^ objSize key

end Sys2Proof.Machine
end

