-- ==== Sys2Proof/Machine/State.lean ====
section
/-!
DEFINITION. The state of the EVT-6416-LQ as plain data, and the state right after reset. The object dictionary is one store
`dict` keyed by `index * 256 + subindex` whose unlisted keys read their Default (Machine/Objects.lean); everything the
chapters give the part beside its objects stands in the structures below, one for each chapter.
-/
namespace Sys2Proof.Machine

/-- The reasons a step can stop with a fault: none. Every command of the spec has an effect, or leaves the state as it is
when its rule does not let the event occur (log entry 1), so nobody raises a fault (safe: nothing is stopped). -/
inductive Fault where
  deriving DecidableEq, Repr

/-- The reasons for which a command has no meaning. -/
inductive Refusal where
  /-- Raised by an arm of `exec` for a command not modelled yet; safe, the run stops. -/
  | notModelled (mnemonic : String)
  deriving DecidableEq, Repr

/-- Values of objects by key `index * 256 + subindex`, keys strictly rising, each the unsigned value of the object's bytes
(R9, R248). A key that is not listed reads its Default. -/
abbrev Dict := List (Nat × Nat)

/-- Bytes of an addressed buffer, addresses strictly rising, no listed byte 0; an unlisted address reads 0 (R32: shakeout
zeroes every SRAM region). -/
abbrev Mem := List Host.Cell

/-- Where start-up stands (R368), and the states it leads to. -/
inductive Phase where
  | inReset | released | fusesRead | pllLocked | shaken | scanned | poured | service | asleep | waking
  deriving DecidableEq, Repr

/-! ### Image path (chapters 1 to 5) -/

/-- One converter sample in a ladle (R106, R120): its column, code, and marks. -/
structure Sample where
  col : Nat
  raw : Nat
  ovr : Bool
  rcv : Bool
  deriving DecidableEq, Repr

/-- One row read of a pour: sub-exposure (0 in TDI), ordinal within the sub-exposure or line, array row, and in TDI the band
and stage. -/
structure RowRef where
  pour  : Nat
  sub   : Nat
  ord   : Nat
  row   : Nat
  band  : Nat
  stage : Nat
  deriving DecidableEq, Repr

/-- A row in a ladle (R28): slag rows hold no sample, and `unread` rows were never read (R353); `dl`, `dr` are the dark estimates of the row's slot, absent before the
first update after a restart (R138). -/
structure LadleRow where
  ref     : RowRef
  slag    : Bool
  unread  : Bool
  samples : List Sample
  dl      : Option Nat
  dr      : Option Nat
  masks   : Nat
  deriving DecidableEq, Repr

/-- One output row being formed by digital binning (R71): per output pixel the sum so far and its marks. -/
structure BinRow where
  sub  : Nat
  orow : Nat
  rows : Nat
  slag : Bool
  arow : Nat
  sums : List Nat
  ovr  : List Bool
  raw  : List Bool
  ovrc : Nat
  rmask : Nat
  deriving DecidableEq, Repr

/-- One output row of the fusion store (R75): its words, one for each output pixel. -/
structure FuseRow where
  orow  : Nat
  arow  : Nat
  words : List Nat
  ovrc  : Nat
  deriving DecidableEq, Repr

/-- One flask: its ladle, the rows that may still serve as the row before (R122), its map window (the rows whose map entries
have arrived, R23), the rows being binned or fused, and the counts of its packet headers (R22, R23, R28, R174). -/
structure Flask where
  rows   : List LadleRow
  prev   : List LadleRow
  window : List RowRef
  bins   : List BinRow
  fuse   : List FuseRow
  seq    : Nat
  slag   : Nat
  ospd   : Nat
  areaOspd : List (Nat × Nat)
  lostn  : Bool
  deriving DecidableEq, Repr

/-- Where one exposure stands (R45, R57). -/
inductive ExpStage where
  | planned | opened | stored | empty
  deriving DecidableEq, Repr

/-- One exposure of a pour: its strobe bank, the instants of its GRST fall and TX fall, and the rows still to be sampled. -/
structure Exposure where
  sub    : Nat
  bank   : Nat
  grst   : Instant
  tx     : Instant
  stage  : ExpStage
  toRead : List RowRef
  deriving DecidableEq, Repr

/-- A physical slot of the temperature sets, or a cache of one (R131, R132, R135): the fields of its header (tag, logical
set or 0xFF for free, generation, data CRC, header CRC), whether it holds the factory's words where none is listed (else 0),
and 16-bit words by half byte offset in the slot. -/
structure SetSlot where
  tag     : Nat
  set     : Nat
  gen     : Nat
  dcrc    : Nat
  hcrc    : Nat
  factory : Bool
  words   : List (Nat × Nat)
  deriving DecidableEq, Repr

/-- A pour or line past its boundary (R63, R87): the live dictionary it fixed, its stamps, the bank, temperature bracket and
trim sets it uses (R118, R129, R136), its exposures, and the rows of each flask not yet processed. `acq` marks an acquisition
pour (R146), and `bad` holds the map words that read uncorrectable in this pour (R33). -/
structure Pour where
  idx    : Nat
  area   : Bool
  cfg    : Dict
  at_    : Instant
  sver   : Nat
  mould  : Nat
  rtime  : Nat
  enc    : Nat
  ewrap  : Nat
  therm  : Nat
  tstep  : Nat
  bank   : Nat
  set    : SetSlot
  tempI  : Nat
  alpha  : Nat
  gtrims : List Int
  otrims : List Int
  exps   : List Exposure
  left   : List (Nat × Nat)
  phase  : Nat
  admitted : Bool
  cut    : Bool
  acq    : Bool
  bad    : List Nat
  deriving DecidableEq, Repr

/-- A held start event (R64). -/
structure Held where
  at_ : Instant
  deriving DecidableEq, Repr

/-- Row sequencer and pour starts (chapters 2 and 3). `nextSlot` is the next row-slot boundary and `slotNo` the number of the
row slot in progress (R351), `stepNow` the throttle step it runs under; `sampled` is the row captured in the slot in
progress (R58); `pours` the pours and lines in progress, oldest first; `lastTx` and `tx0` the last TX fall planned and the
last one of a sub-exposure 0; `releaseAt` the release of the storage in use (R47); `freeAt` the next start event of
free-running mode (R65); `ospd` the overspeed count for the next pour (R64, R174); `madeTx` the last TX fall made (R89);
`freeFrom` when the period of free-running last could change (R65, R66, R92). -/
structure Image where
  nextSlot   : Instant
  slotNo     : Nat
  stepNow    : Nat
  sampled    : Option RowRef
  pours      : List Pour
  held       : Option Held
  lastTx     : Option Instant
  tx0        : Option Instant
  releaseAt  : Instant
  freeAt     : Option Instant
  ospd       : Nat
  flasks     : List Flask
  madeTx     : Option Instant
  freeFrom   : Instant
  deriving DecidableEq, Repr

/-- One flask's columns of an accumulator: rows added, sums, overrange bits, row mask, overrange samples, slag rows (R95). -/
structure AccFlask where
  flask  : Nat
  n      : Nat
  sums   : List Nat
  ovr    : List Bool
  masks  : Nat
  ovrc   : Nat
  slag   : Nat
  deriving DecidableEq, Repr

/-- The accumulator of a band for the web line begun at `line`, of one phase (R95, R97), with the state versions of the
lines that fed it (R102). -/
structure Acc where
  band   : Nat
  line   : Nat
  phase  : Nat
  vers   : List Nat
  parts  : List AccFlask
  deriving DecidableEq, Repr

/-- A web line begun and not yet sent (R98, R99, R103): the stamps of its line boundary, the bytes of its ready band lines
(R100), and whether it was dropped for want of space (R186). -/
structure WebLine where
  w     : Nat
  rtime : Nat
  enc   : Nat
  ewrap : Nat
  therm : Nat
  tstep : Nat
  held  : Nat
  dropped : Bool
  deriving DecidableEq, Repr

/-- TDI (chapter 4). `origin` is n_r and `cfg` the live values of the state it began; `gridT` is the next grid point in 1/256 count; `behind` tells that the present
reversal is counted. -/
structure Tdi where
  origin    : Option Nat
  cfg       : Dict
  accs      : List Acc
  webs      : List WebLine
  gridT     : Nat
  behind    : Bool
  revFlag   : Bool
  lastLine  : Option Instant
  freeAt    : Option Instant
  restartReq : Bool
  reserveZero : Bool
  deriving DecidableEq, Repr

/-- The running sums of one trim period (R117): VREFL, VREFH, slots used, slots left out. -/
structure TrimSum where
  l : Int
  h : Int
  n : Nat
  out : Nat
  deriving DecidableEq, Repr

/-- Converters (chapter 5); lists hold entry i for converter i of R124: factor sets (`weights`: the deviations from nominal of
the first four stage weights, R113), the trims fixed at the last pour boundary, pending trim sets (R117, R118), and the sums of the trim period of `slots` row slots so far. `calAt` is when a
foreground self-calibration began, `startup` that it is start-up's, `rerun` that start-up's was abandoned (R116);
`freshL`, `freshR`: the next dark update of the side sets it (R112). -/
structure Conv where
  weights  : List (List Int)
  gains    : List Int
  offsets  : List Int
  gtrims   : List Int
  otrims   : List Int
  pendG    : List (Option Int)
  pendO    : List (Option Int)
  sums     : List TrimSum
  slots    : Nat
  calAt    : Option Instant
  startup  : Bool
  rerun    : Bool
  freshL   : Bool
  freshR   : Bool
  deriving DecidableEq, Repr

/-! ### Calibration (chapter 6) -/

/-- The sums of one pixel over the acquisition pours (R147): signal after step 2 in 1/16 DN, the raw codes (in a flat run
the signal after gain), and the samples. -/
structure PixSum where
  row : Nat
  col : Nat
  sum : Int
  raw : Int
  n   : Nat
  deriving DecidableEq, Repr

/-- A calibration run (R144 to R157): its value, its target set, when its present phase began, whether the acquisition has
begun (R186), pours started, temperature at the first and last of them, the point of the target set within ±1.0 K of T at the
start if there is one (R147, R149), sums, the sum and number of samples of each pour, the raw samples of the shielded columns
and their number, the dark estimates of the rows and their number, overrange samples and samples, whether a row was slag, and
for a full-map run the new entries, whether the present segment was written twice, and the bank. -/
structure Cal where
  run      : Nat
  target   : Nat
  at_      : Instant
  started  : Bool
  pours    : Nat
  temp0    : Int
  tempEnd  : Int
  point    : Option Nat
  sums     : List PixSum
  means    : List (Int × Nat)
  dark     : Nat
  darkN    : Nat
  dl       : Nat
  dr       : Nat
  rows     : Nat
  ovrs     : Nat
  total    : Nat
  slag     : Bool
  newMap   : List (Nat × Nat)
  retried  : Bool
  bank     : Nat
  deriving DecidableEq, Repr

/-- An open map or set upload (R158, R159): its target value 1 to 3, the bank, the instant of the last segment, the segment
received, the segment being written and whether it is written for the second time; `begun`: the bank's header with STATE
0x01 stands; `finish`: the finish write has come with every segment there (R157, R158). -/
structure Upload where
  what   : Nat
  bank   : Nat
  lastAt : Instant
  segData : Option (List (Nat × Nat))
  writing : Option Nat
  retried : Bool
  begun   : Bool
  finish  : Bool
  deriving DecidableEq, Repr

/-- A set commit in progress (R134): logical set and its new words; `cal` when a calibration run made it. -/
structure SetCommit where
  set   : Nat
  words : List (Nat × Nat)
  cal   : Bool
  deriving DecidableEq, Repr

/-- Correction and calibration (chapter 6). `outside`: the last pour's temperature lay outside the set's points (R136);
`cache` is the live set cache, `loading` when the load of a second one began (R135) and `unread` the set whose last load met
an uncorrectable word (R33); `waiting` is a verified bank that waits to go live (R155), `mapWrite` the bank being written by a
map commit and `mapDone` its segments done (R154); `newCrcs` are the CRCs of the segments written since a bank's header got
STATE 0x01 (R154, R158), and `spoil` the banks whose headers are to get STATE 0xFF once the write inhibit ends (R157). -/
structure Corr where
  outside  : Bool
  cache    : SetSlot
  loading  : Option Instant
  unread   : Option Nat
  cal      : Option Cal
  upload   : Option Upload
  commit   : Option SetCommit
  waiting  : Option Nat
  mapWrite : Option Nat
  mapDone  : Nat
  newCrcs  : List Nat
  spoil    : List Nat
  deriving DecidableEq, Repr

/-! ### Output lanes (chapter 7) -/

/-- A downlink packet (R168 to R170), without the fields filled in at dispatch. -/
structure Packet where
  typ    : Nat
  flask  : Nat
  plane  : Nat
  therm  : Nat
  tstep  : Nat
  fmt    : Nat
  sver   : Nat
  pour   : Nat
  rtime  : Nat
  enc    : Nat
  ewrap  : Nat
  mould  : Nat
  ovrc   : Nat
  last   : Bool
  osflag : Bool
  mixed  : Bool
  rev    : Bool
  rstrt  : Bool
  row    : Nat
  arow   : Nat
  neff   : List Nat
  bands  : Nat
  masks  : List Nat
  pixels : List Nat
  deriving DecidableEq, Repr

/-- A packet that a lane is sending, with the fields of R176: its pour and phase in the tundish, and when its start block
left. -/
structure Sending where
  pkt    : Packet
  seq    : Nat
  slag   : Nat
  ospd   : Nat
  lostn  : Bool
  at_    : Instant
  deriving DecidableEq, Repr

/-- One downlink (R163, R166). `since`: when it began to drive or sent its last marker; `markers`: markers sent;
`lastMarker`: octets 1 to 7 of the last one. -/
structure Lane where
  sending : Option Sending
  since   : Instant
  markers : Nat
  lastMarker : Option (List Byte)
  retrainUntil : Option Instant
  deriving DecidableEq, Repr

/-- An admitted pour in the tundish (R183, R184), a frame or a web line of every phase: its index, the bytes still booked in
each sprue and its whole size there, its admission, whether a packet of it was dispatched, its stamps, its planes (phases) and
output rows and the lane bytes of a packet of each flask, the packets not yet freed, and every packet it made (R316). -/
structure TPour where
  idx        : Nat
  sprues     : List Nat
  sizes      : List Nat
  at_        : Instant
  dispatched : Bool
  stamps     : Packet
  planes     : Nat
  rows       : Nat
  cells      : List Nat
  left       : Nat
  made       : List Sending
  deriving DecidableEq, Repr

/-- Lanes, tundish and dispatch queues (chapter 7). For each sprue: its queue, its notices, since when its head entry waits
for credit, and whether it is in credit stall; `recent` the packets of the last 1 ms (object 0x9013). -/
structure Lanes where
  lanes    : List Lane
  queues   : List (List Packet)
  notices  : List (List Packet)
  tundish  : List TPour
  headSince : List (Option Instant)
  stalled  : List Bool
  released : Bool
  recent   : List (Nat × Instant × Nat)
  deriving DecidableEq, Repr

/-- What DMA staging holds (R181). -/
inductive Staging where
  | free
  | filling (target segment : Nat)
  | writing (target segment : Nat)
  deriving DecidableEq, Repr

/-! ### Staged state (chapter 8) -/

/-- The boundary condition of a hand-over entry (R194). -/
inductive Boundary where
  | next
  | idle
  | pourIndex (p : Nat)
  | encoder (e : Nat)
  | time (a : Nat)
  deriving DecidableEq, Repr

/-- Who asked for an entry (R193). -/
inductive Requester where
  | host
  | part
  | tap
  deriving DecidableEq, Repr

/-- A hand-over entry (R193, R200, R210). `values` are the values it makes live; `reading` is the mould still being read;
`mould` is the number R210 gives it and `gen` the image's GEN; `due` marks that its condition has been met, `late` that it
was met before the entry was ready or passed at the request (R200). -/
structure Entry where
  values  : Dict
  version : Nat
  bound   : Boundary
  by_     : Requester
  reading : Option Nat
  mould   : Option Nat
  gen     : Nat
  due    : Bool
  late   : Bool
  deriving DecidableEq, Repr

/-- The open commit group (R203, R209). `mould` is the mould loaded with no later write of a mould-carried object. -/
structure Group where
  owner  : Transport
  values : Dict
  mould  : Option (Nat × Nat)
  lastAt : Instant
  deriving DecidableEq, Repr

/-- A write of an object: transport, key, length in bytes, and the value of the bytes (R9). -/
structure Txn where
  tr   : Transport
  key  : Nat
  len  : Nat
  val  : Nat
  deriving DecidableEq, Repr

/-- A transaction that waits for the control sequencer, which serves them one at a time in arrival order (R35, R253): in the
holding latch (R196), or behind one whose reply waits for MRAM; `at_` is its arrival. -/
inductive Job where
  | write (t : Txn) (at_ : Instant)
  | read (tr : Transport) (key : Nat) (at_ : Instant)
  /-- A ring request (R235). -/
  | frame (f : Frame) (at_ : Instant)
  /-- A committed two-wire access (R272): the bytes after the address byte. -/
  | twi (bytes : List Byte) (at_ : Instant)
  deriving DecidableEq, Repr

/-- A mould read under way (R208, R209): of a mould pour or load by a transaction, or, with no transaction, of the entry
that has state version `version` and was requested by a tap. -/
structure MouldRead where
  slot : Nat
  load : Bool
  txn  : Option Txn
  version : Nat
  deriving DecidableEq, Repr

/-- A running mould operation (R211): 1 store, 2 upload, 3 erase; its slot, the image it writes, and the steps done: 1, or 3
once the journal names the slot. -/
structure MouldOp where
  op    : Nat
  slot  : Nat
  image : List Byte
  step  : Nat
  deriving DecidableEq, Repr

/-- Staging, commit groups and moulds (chapter 8). `window` is the boundary request whose grant is due (R196), `granted` the old
values of what it changed; `lastBoundary` the position stamped at the last pour boundary (R200); `selected` the image fixed
at the last write of object 0x8013:01 (R234). -/
structure Stage where
  loose     : Dict
  group     : Option Group
  queue     : List Entry
  window    : Option Instant
  waiting   : List Job
  serving   : Option Job
  granted   : Dict
  reads     : List MouldRead
  op        : Option MouldOp
  mramWrite : Option Txn
  lastBoundary : Option Nat
  saturated : Bool
  selected  : Option (List Byte)
  deriving DecidableEq, Repr

/-! ### The ring, the log, the two-wire interface (chapters 9 to 11) -/

/-- A kept reply (R235): the SEQ, the frame it answered and the reply. -/
structure Kept where
  seq   : Nat
  req   : Frame
  reply : Frame
  deriving DecidableEq, Repr

/-- A tap with an action time still to come (R242). -/
structure PendingTap where
  at_  : Nat
  pour : Bool
  line : Bool
  act  : Nat
  deriving DecidableEq, Repr

/-- A segment buffer (R234, R270). -/
structure SegBuf where
  key    : Nat
  bytes  : List Byte
  lastAt : Instant
  deriving DecidableEq, Repr

/-- The ring (chapter 9). `tx`: the part's own frames that wait; `ins`: upstream frames in the insertion buffer, which leave from
`txFree` on (R226); `out`: the last frame that left. Ring time is `nanos` ns and `frac` units of 10⁻¹² ns; `rate` and `freq` are r and f in 10⁻¹². -/
structure Ring where
  trainedAt : Option Instant
  position  : Bool
  kept      : List Kept
  seg       : Option SegBuf
  tx        : List Frame
  out       : Option Frame
  ins       : List Frame
  txFree    : Instant
  lastEmerg : Option Instant
  nanos     : Nat
  frac      : Nat
  rate      : Int
  freq      : Int
  lastSync  : Option Instant
  taps      : List PendingTap
  lastTapA  : Option Nat
  satLogged : Bool
  deriving DecidableEq, Repr

/-- An event-log entry (R260); `ecrc` is its checksum once it stands in MRAM. -/
structure LogEntry where
  seq   : Nat
  code  : Nat
  therm : Nat
  alrt  : Bool
  esent : Bool
  esup  : Bool
  rtime : Nat
  data  : List Byte
  ecrc  : Nat
  deriving DecidableEq, Repr

/-- The log queue (R261). -/
structure Log where
  queue   : List LogEntry
  next    : Nat
  unreported : Nat
  deriving DecidableEq, Repr

/-- What a read phase would return (R271). -/
inductive ReadBuf where
  | none
  | aborted
  | bytes (b : List Byte)
  deriving DecidableEq, Repr

/-- A controller transfer (R279, R281): the strobe-driver list `list` at `entry`, or the boot fetch; attempts made of the
present transaction, when it was asked for, and whether it waits for the bus to be free; the bytes it sends, address bytes
among them, and how many it then reads (R279, R280). -/
structure Transfer where
  boot     : Bool
  entry    : Nat
  attempts : Nat
  askedAt  : Instant
  waitFree : Bool
  list     : Nat
  out      : List Byte
  reads    : Nat
  deriving DecidableEq, Repr

/-- The phase of a two-wire transaction that addresses the part (R268, R271): the bytes after the address byte, or a read of a
number of bytes. -/
inductive BusPhase where
  | write (bytes : List Byte)
  | read (count : Nat)
  deriving DecidableEq, Repr

/-- A two-wire transaction in progress for which SCL is held low (R274): its phase, whether it ends in a STOP, since when. -/
structure BusTxn where
  phase : BusPhase
  stop  : Bool
  since : Instant
  deriving DecidableEq, Repr

/-- The two-wire interface (chapter 11): the read buffer, link latch and segment buffer; the recovery state after TWI_RST_N and
that pin held low (R274, R277). `addrs` is the address configuration in force: scheme, the four entries, mask-mode address,
mask and group attribute; `newAddrs`: a change applies after the STOP of the next transaction (R266). `held`: since when SCL is
held low in Sleep (R275); `bus` the transactions for which SCL is held (R274); `lastStop` the last STOP seen; `transfer` and
`sends` the controller transfer and the lists that wait (R280); `wordLatch` the word latch of R305 and `selected` the selected
log entry (R263). -/
structure Twi where
  buf      : ReadBuf
  link     : Option (Nat × Nat)
  seg      : Option SegBuf
  recovery : Bool
  rstLow   : Bool
  addrs    : List Nat
  newAddrs : Bool
  held     : Option Instant
  bus      : List BusTxn
  lastStop : Option Instant
  transfer : Option Transfer
  sends    : List Nat
  wordLatch : Nat
  selected : Nat
  deriving DecidableEq, Repr

/-! ### Timers, capture and encoder (chapter 12) -/

/-- One timer channel (R283 to R297): its mode, cycle position and mode-3 count; shadow and active PER and CMP; `upd` marks
that the shadow values become active at the next tick (R286, R287); the output level before polarity and when it began
(R289); whether an exposure window selects it, that window's TX fall, and the pour's delay and width (R291, R293); whether
its pulse is being driven and its counter runs in mode 3; position, PER and CMP in LF ticks (R296). `phase` and `ctl` are the
phase and control bits that the last grant brought, `pol` the polarity at the pin, `pend` a level that R289 holds back; while
the active PER is 0, `stopCount`, `stopDown` and `stopLevel` are the counter, its direction and the level at which it stopped
(R286). -/
structure Timer where
  mode    : Nat
  pos     : Nat
  count   : Nat
  shPer   : Nat
  shCmp   : Nat
  per     : Nat
  cmp     : Nat
  upd     : Bool
  level   : Bool
  since   : Instant
  window  : Bool
  txAt    : Instant
  delay   : Nat
  width   : Nat
  pulse   : Bool
  running : Bool
  lfPos   : Nat
  lfPer   : Nat
  lfCmp   : Nat
  phase   : Nat
  ctl     : Nat
  pol     : Bool
  pend    : Bool
  stopCount : Nat
  stopDown  : Bool
  stopLevel : Bool
  deriving DecidableEq, Repr

/-- One capture channel (R298 to R302): prescaler count, level accepted, and entries queued, oldest first. -/
structure Capture where
  pre   : Nat
  level : Bool
  queue : List (List Byte)
  deriving DecidableEq, Repr

/-- Timers, capture channels and the quadrature decoder (chapter 12). `hist` holds ring time, position and EWRAP at the last
31 timer ticks, latest first (R299, R301); `wordRing` is the ring's word latch (R305); `clk100` tells that the 100 MHz
clock runs, `lfAt` when it stopped and `lfOn` that the timers have moved to the LF clock (R296); `driven` tells that STB0 to
STB7 are driven (R294); `pins` the present levels of ENC_A, ENC_B, ENC_Z and TRIG0 to TRIG3, `trig`, `a` and `b` those that the
TRIG filters and the quadrature decoder have accepted (R300, R308, R313). -/
structure Timing where
  timers   : List Timer
  captures : List Capture
  pins     : List Bool
  trig     : List Bool
  a        : Bool
  b        : Bool
  wordRing : Nat
  lastPos  : Nat
  sampleAt : Instant
  clk100   : Bool
  lfAt     : Instant
  lfOn     : Bool
  hist     : List (Nat × Nat × Nat)
  driven   : Bool
  deriving DecidableEq, Repr

/-! ### DMA (chapter 13) -/

/-- A descriptor (R317). -/
structure Desc where
  src   : Nat
  dst   : Nat
  itab  : Nat
  count : Nat
  elen  : Nat
  sw    : Nat
  dw    : Nat
  mode  : Nat
  sinc  : Bool
  dinc  : Bool
  bar   : Bool
  link  : Bool
  next  : Nat
  tag   : Nat
  deriving DecidableEq, Repr

/-- One DMA channel (R314): where it fetches next, the descriptor it carries out, its element, and a stop asked for. -/
structure DmaChan where
  fetch   : Option Nat
  desc    : Option Desc
  k       : Nat
  submit  : Bool
  stopReq : Bool
  waitAt  : Instant
  deriving DecidableEq, Repr

/-- A last beat that was issued without waiting for its acknowledge (R322): the `len` bytes at `off` of staging, or of the
index-table area, which may not have landed before `landed`. -/
structure Beat where
  staging : Bool
  off     : Nat
  len     : Nat
  landed  : Instant
  deriving DecidableEq, Repr

/-- The DMA engine, the index-table area and staging (chapters 7 and 13); `flight` holds the beats without an acknowledge. -/
structure Dma where
  chans   : List DmaChan
  index   : Mem
  staging : Mem
  stage   : Staging
  stageAt : Instant
  submitter : Option Nat
  heldIdx : Option Nat
  flight  : List Beat
  deriving DecidableEq, Repr

/-! ### Housekeeping and thermal (chapter 14) -/

/-- The client whose sample the housekeeping converter is taking (R336); an injected request is held as R339 codes it. -/
inductive HkClient where
  | idle
  | injected (req : Nat)
  | monitor (ch : Nat)
  | sequence
  deriving DecidableEq, Repr

/-- A result being averaged (R338, R339): the sum of the sample results, the samples taken, and whether one was clamped or
had no stated result. -/
structure HkSum where
  sum   : Int
  taken : Nat
  bad   : Bool
  deriving DecidableEq, Repr

/-- The housekeeping converter (R332 to R342). `seq` and `req` are the sums of the entry and of the injected request in
progress; `rep` and `entry` the results made and the entry of the pass that keeps `table` and `len` (R338), and `restart`
asks for a new pass at the end of the sample in progress. `calAsked`: a self-calibration waits for that many injected
requests (R340); `calAt`: when it began; `offset`, `gain`, `weights`: the factors stored (R340, R341). `due`: the channels of
which the monitor still takes a sample (R336); `serving`: the injected request in service. -/
structure Hk where
  client  : HkClient
  seq     : HkSum
  req     : HkSum
  rep     : Nat
  entry   : Nat
  table   : List Nat
  len     : Nat
  delayUntil : Option Instant
  inSeq   : Bool
  restart : Bool
  inj     : List Nat
  injRes  : List (List Byte)
  calAsked : Option Nat
  calAt   : Option Instant
  offset  : Int
  gain    : Int
  weights : List Int
  due     : List Nat
  serving : Option Nat
  deriving DecidableEq, Repr

/-- The counts c and e of one limit and whether it is set (R348). -/
structure Limit where
  c   : Nat
  e   : Nat
  set : Bool
  deriving DecidableEq, Repr

/-- One monitored source (R347, R348, R350): its last raw samples in the unit of its limits, none for a clamped one, its
limits, its demanded step, and the samples at or above the throttle limit since the last change of the step. -/
structure Source where
  raws   : List (Option Int)
  filt   : Option Int
  limits : List Limit
  step   : Nat
  run    : Nat
  deriving DecidableEq, Repr

/-- The thermal monitor (R343 to R357). `sources`: pixel, logic, MRAM, then external channels 0 to 15; `rails`: six rails
(R363). `scanAt` is the next scan, `scan` tells that its samples are being taken, `got` holds the raw samples taken by channel
(none: clamped), and `fillAt` is when the next raw samples of sources that have fewer than three fall due (R347). -/
structure Therm where
  sources  : List Source
  rails    : List Source
  scanAt   : Instant
  scan     : Bool
  got      : List (Nat × Option Int)
  fillAt   : Instant
  quench   : Bool
  rearmEnd : Option Instant
  assessed : Bool
  deriving DecidableEq, Repr

/-- The measurement of one flask's pace (R24): pixels processed in the present run, when the run began, and whether a margin
has been reported since reset. -/
structure PaceRun where
  pixels   : Nat
  since    : Instant
  measured : Bool
  deriving DecidableEq, Repr

/-- The pace monitor and the adaptive VCORE loop (R24 to R26); `runs` holds one entry for each flask. -/
structure Pace where
  running  : Bool
  evalAt   : Instant
  changedAt : Option Instant
  above    : Nat
  runs     : List PaceRun
  deriving DecidableEq, Repr

/-! ### Power, MRAM and the test port (chapters 15 and 16) -/

/-- A correction-map bank (R126, R127): its entries (`factory` tells that unlisted ones read the factory map, else 0), the
fields of its header word, and its segment CRC table (empty: the factory's own). -/
structure Bank where
  factory : Bool
  cells   : List (Nat × Nat)
  tag     : Nat
  state   : Nat
  origin  : Bool
  gen     : Nat
  crct    : Nat
  hcrc    : Nat
  crcs    : List Nat
  deriving DecidableEq, Repr

/-- MRAM beside the MRAM-backed objects (R32): `sets` holds the four physical slots (R131), and `errs` the words that hold
a bit error, by word address, and whether it is uncorrectable (R33). -/
structure Mram where
  bankA   : Bank
  bankB   : Bank
  sets    : List SetSlot
  moulds  : List (Nat × List Byte)
  shadow  : Option (List Byte)
  journal : Option Nat
  log     : List LogEntry
  lcJournal : Option Nat
  errs    : List (Nat × Bool)
  deriving DecidableEq, Repr

/-- A fuse or life-cycle command being carried out (R381, R383, R385): the command's number in event 0x0106 and the fuse
bits it programs; or the state it moves to and whether its fuse is blown, so that the wipe runs. -/
inductive LifeOp where
  | fuses (cmd : Nat) (bits : Nat)
  | life (target : Nat) (blown : Bool)
  deriving DecidableEq, Repr

/-- Power, reset, Hold, Sleep, fuses and life cycle (chapter 15). `origin` is the origin of R368, `source` the reset source;
`testen` the level of TESTEN and `testenHeld` that it was high without a break (R383); `fusesRead` the fuses as read at start;
`scanned` that the MRAM scan is over; `mouldReady` the start mould's image once it is read or its fetch has ended; `fuseKey`
and `lifeKey` the keys in force; `resetAt` and `sleepAt` when an accepted reset command or Sleep takes place (R365, R377);
`wakeAt` the wake event and `wakeQuench` that it was the comparator's (R379); `brownAt` the last brown-out (R362); `unwritten` MRAM
and its objects, by key, as they stand while the write inhibit holds back the repairs of the MRAM scan (R370). -/
structure Power where
  phase    : Phase
  origin   : Instant
  source   : Nat
  testen   : Bool
  testenHeld : Bool
  straps   : Nat
  fuses    : Nat
  fusesRead : Nat
  scanned  : Bool
  selfCalDone : Bool
  mouldReady : Option (Option (List Byte))
  fuseKey  : Option Instant
  lifeKey  : Option (Transport × Instant)
  op       : Option LifeOp
  makerTest : Bool
  resetAt  : Option Instant
  sleepAt  : Option Instant
  wakeAt   : Option Instant
  wakeQuench : Bool
  brownAt  : Option Instant
  unwritten : Option (Mram × List (Nat × Nat))
  deriving DecidableEq, Repr

/-- The instruction that the IEEE 1149.1 test access port holds (R375, R399). -/
inductive JtagInstr where
  | extest | samplePreload | idcode | highz | clamp | bypass
  deriving DecidableEq, Repr

/-- The test access port (R375, R376, R399, R400). -/
structure Jtag where
  instr    : JtagInstr
  captured : Nat
  update   : Nat
  deriving DecidableEq, Repr

/-- The result of the last dictionary access served (R232, R255): abort code, version reported, data of a read, and whether
the reply waits for MRAM (R208, R250). -/
structure Answer where
  abort    : Nat
  version  : Nat
  data     : List Byte
  deferred : Bool
  deriving DecidableEq, Repr

/-- The whole state of the part, with the queue of commands that wait. -/
structure State where
  pending : List Instr
  now     : Instant
  free    : Nat
  answer  : Answer
  dict    : Dict
  image   : Image
  tdi     : Tdi
  conv    : Conv
  corr    : Corr
  lanes   : Lanes
  stage   : Stage
  ring    : Ring
  log     : Log
  twi     : Twi
  timing  : Timing
  dma     : Dma
  hk      : Hk
  therm   : Therm
  pace    : Pace
  mram    : Mram
  power   : Power
  jtag    : Jtag
  deriving DecidableEq, Repr

/-! ### The state right after reset (R365, R366) -/

/-- An empty ladle, map window and header counts (R32). -/
def Flask.reset : Flask :=
  ⟨[], [], [], [], [], 0, 0, 0, [], false⟩

/-- A timer channel at the Defaults of R309. -/
def Timer.reset : Timer :=
  ⟨0, 0, 0, 0, 0, 0, 0, false, false, 0, false, 0, 0, 0, false, false, 0, 0, 0, 0, 0, false, false, 0, false, false⟩

/-- A lane that drives nothing (R366). -/
def Lane.reset : Lane := ⟨none, 0, 0, none, none⟩

/-- A source of the thermal monitor before its first sample (R347, R348): `n` limits, all clear. -/
def Source.reset (n : Nat) : Source := ⟨[], none, List.replicate n ⟨0, 0, false⟩, 0, 0⟩

/-- The correction-map bank as shipped: bank A holds the factory map (R127, R128; log entry 3). -/
def Bank.shippedA : Bank := ⟨true, [], 0x4D500001, 3, true, 0, 0, 0x98575650, []⟩

/-- The correction-map bank B as shipped: empty (R127, R128; log entry 3). -/
def Bank.shippedB : Bank := ⟨false, [], 0x4D500001, 0, false, 0, 0, 0x9CEBD139, []⟩

/-- A slot of the temperature sets that is free (R131). -/
def SetSlot.unused : SetSlot := ⟨0x54530001, 0xFF, 0, 0, 0x6C203D4B, false, []⟩

/-- The slot that holds the factory set (R131 to R133; log entry 3). -/
def SetSlot.shipped : SetSlot := ⟨0x54530001, 0, 0, 0, 0xCF82A0C9, true, []⟩

/-- MRAM as shipped (R127, R132; log entry 3): the factory map in bank A, the factory temperature set in the first slot, no
mould, no log entry, no bit error. -/
def Mram.shipped : Mram :=
  ⟨Bank.shippedA, Bank.shippedB, [SetSlot.shipped, SetSlot.unused, SetSlot.unused, SetSlot.unused], [], none, none, [],
    none, []⟩

/-- The fuses as shipped: LC1 blown, so the part is in FIELD (R380; log entry 3). -/
def fusesShipped : Nat := 2 ^ 33

/-- The machine right after reset: held in reset with every live object at its Default (R365, R366; log entry 4). -/
def State.reset : State where
  pending := []
  now := 0
  free := 0
  answer := ⟨0, 0, [], false⟩
  dict := []
  image := ⟨slotUnits, 0, 0, none, [], none, none, none, 0, none, 0, List.replicate 16 Flask.reset, none, 0⟩
  tdi := ⟨none, [], [], [], 0, false, false, none, none, false, false⟩
  conv := {
    weights := List.replicate 260 [0, 0, 0, 0]
    gains := List.replicate 260 0, offsets := List.replicate 260 0,
    gtrims := List.replicate 260 0, otrims := List.replicate 260 0,
    pendG := List.replicate 260 none, pendO := List.replicate 260 none,
    sums := List.replicate 260 ⟨0, 0, 0, 0⟩, slots := 0, calAt := none,
    startup := false, rerun := false, freshL := true, freshR := true }
  corr := {
    outside := false, cache := SetSlot.shipped, loading := none, unread := none, cal := none, upload := none,
    commit := none, waiting := none, mapWrite := none, mapDone := 0, newCrcs := [], spoil := [] }
  lanes := ⟨List.replicate 32 Lane.reset, List.replicate 4 [], List.replicate 4 [], [],
    List.replicate 4 none, List.replicate 4 false, false, []⟩
  stage := {
    loose := [], group := none, queue := [], window := none, waiting := [], serving := none, granted := [], reads := [],
    op := none, mramWrite := none, lastBoundary := none, saturated := false, selected := none }
  ring := {
    trainedAt := none, position := false, kept := [], seg := none, tx := [], out := none, ins := [], txFree := 0, lastEmerg := none, nanos := 0,
    frac := 0, rate := 0, freq := 0, lastSync := none, taps := [], lastTapA := none, satLogged := false }
  log := ⟨[], 0, 0⟩
  twi := ⟨.none, none, none, false, false, [], false, none, [], none, none, [], 0, 0⟩
  timing := {
    timers := List.replicate 8 Timer.reset, captures := List.replicate 4 ⟨0, false, []⟩,
    pins := List.replicate 7 false, trig := List.replicate 4 false, a := false, b := false, wordRing := 0, lastPos := 0, sampleAt := 0,
    clk100 := false, lfAt := 0, lfOn := false, hist := [], driven := false }
  dma := ⟨List.replicate 8 ⟨none, none, 0, false, false, 0⟩, [], [], .free, 0, none, none, []⟩
  hk := {
    client := .idle, seq := ⟨0, 0, false⟩, req := ⟨0, 0, false⟩, rep := 0, entry := 0, table := [], len := 0,
    delayUntil := none, inSeq := false, restart := false, inj := [], injRes := [], calAsked := none, calAt := none,
    offset := 0, gain := 0, weights := [], due := [], serving := none }
  therm := ⟨List.replicate 19 (Source.reset 4), List.replicate 6 (Source.reset 1), 0, false, [], 0, false, none, false⟩
  pace := ⟨false, 0, none, 0, List.replicate 16 ⟨0, 0, false⟩⟩
  mram := Mram.shipped
  power := {
    phase := .inReset, origin := 0, source := 1, testen := false, testenHeld := false, straps := 0,
    fuses := fusesShipped, fusesRead := 0, scanned := false, selfCalDone := false, mouldReady := none,
    fuseKey := none, lifeKey := none, op := none, makerTest := false, resetAt := none, sleepAt := none,
    wakeAt := none, wakeQuench := false, brownAt := none, unwritten := none }
  jtag := ⟨.idcode, 0, 0⟩

end Sys2Proof.Machine
end

