-- ==== Sys2Proof/Machine/Ops.lean ====
section
/-!
DEFINITION. The named operations over the dictionary, the buffers and the parts of the state that every chapter shares.
-/
namespace Sys2Proof.Machine

/-! ### Dictionary store -/

/-- The Default of an object (R15, R250). -/
def objDefault (key : Nat) : Nat :=
  match objRow key with
  | some r =>
    match r.dflt with
    | .value v => v
    | .part => factoryValue key
  | none => 0

/-- The listed value of a key, if any. -/
def Dict.find : Dict → Nat → Option Nat
  | [], _ => none
  | (j, v) :: d, k => if j = k then some v else Dict.find d k

/-- The value of an object: the listed one, else its Default. -/
def Dict.get (d : Dict) (k : Nat) : Nat :=
  match Dict.find d k with
  | some v => v
  | none => objDefault k

/-- The store without a key. -/
def Dict.erase : Dict → Nat → Dict
  | [], _ => []
  | (j, v) :: d, k => if j = k then Dict.erase d k else (j, v) :: Dict.erase d k

/-- The store with a key listed, in rising order of the keys. -/
def Dict.insert : Dict → Nat → Nat → Dict
  | [], k, v => [(k, v)]
  | (j, w) :: d, k, v =>
    if j = k then (k, v) :: d
    else if k < j then (k, v) :: (j, w) :: d
    else (j, w) :: Dict.insert d k v

/-- Write a value; a value equal to the Default is not listed. -/
def Dict.set (d : Dict) (k v : Nat) : Dict :=
  if v = objDefault k then Dict.erase d k else Dict.insert d k v

/-- Write every value of a list, in order. -/
def Dict.setAll (d : Dict) (ws : Dict) : Dict := ws.foldl (fun d w => Dict.set d w.1 w.2) d

/-- List every value of `ws` in a set of values that has no Defaults (loose set, group, entry). -/
def Dict.putAll (d : Dict) (ws : Dict) : Dict := ws.foldl (fun d w => Dict.insert d w.1 w.2) d

/-- The bytes of values a set of writes holds (R192, R204). -/
def Dict.bytes (d : Dict) : Nat := sumNat (d.map fun w => objSize w.1)

/-- The keys are strictly rising. -/
def Dict.rising : Dict → Bool
  | [] => true
  | [_] => true
  | (j, _) :: (k, w) :: d => j < k && Dict.rising ((k, w) :: d)

/-- The canonical form of the dictionary store: keys strictly rising, no key listed at its Default. -/
def Dict.wf (d : Dict) : Bool := Dict.rising d && d.all fun w => w.2 != objDefault w.1

/-! ### Addressed buffers -/

/-- The byte at an address: 0 where none is listed. -/
def Mem.read : Mem → Nat → Byte
  | [], _ => 0
  | (j, b) :: m, a => if j = a then b else Mem.read m a

/-- The buffer without an address. -/
def Mem.erase : Mem → Nat → Mem
  | [], _ => []
  | (j, b) :: m, a => if j = a then Mem.erase m a else (j, b) :: Mem.erase m a

/-- The buffer with a byte listed, addresses rising. -/
def Mem.insert : Mem → Nat → Byte → Mem
  | [], a, b => [(a, b)]
  | (j, c) :: m, a, b =>
    if j = a then (a, b) :: m
    else if a < j then (a, b) :: (j, c) :: m
    else (j, c) :: Mem.insert m a b

/-- Write one byte; a zero byte is not listed. -/
def Mem.write (m : Mem) (a : Nat) (b : Byte) : Mem :=
  if b = 0 then Mem.erase m a else Mem.insert m a b

/-- Write bytes from an address upward. -/
def Mem.writeAll (m : Mem) (a : Nat) : List Byte → Mem
  | [] => m
  | b :: bs => Mem.writeAll (Mem.write m a b) (a + 1) bs

/-- Read `n` bytes from an address upward. -/
def Mem.readAll (m : Mem) (a : Nat) : Nat → List Byte
  | 0 => []
  | n + 1 => Mem.read m a :: Mem.readAll m (a + 1) n

/-- Addresses strictly rising. -/
def Mem.rising : Mem → Bool
  | [] => true
  | [_] => true
  | (j, _) :: (k, c) :: m => j < k && Mem.rising ((k, c) :: m)

/-- The canonical form: addresses strictly rising, no zero byte listed. -/
def Mem.wf (m : Mem) : Bool := Mem.rising m && m.all fun c => c.2 != 0

/-! ### The state -/

/-- The value of an object in the live store. -/
def State.rd (s : State) (k : Nat) : Nat := Dict.get s.dict k

/-- The state with a value written to the live store. -/
def State.wr (s : State) (k v : Nat) : State := { s with dict := Dict.set s.dict k v }

/-- Add to a counter that saturates at 0xFFFF_FFFF. -/
def State.add (s : State) (k n : Nat) : State := s.wr k (min 0xFFFFFFFF (s.rd k + n))

/-- Add 1 to a counter that saturates at 0xFFFF_FFFF. -/
def State.inc (s : State) (k : Nat) : State := s.add k 1

/-- Write 0 to each of the keys. -/
def State.zero (s : State) (ks : List Nat) : State := ks.foldl (fun s k => s.wr k 0) s

/-- Return each of the keys to its Default. -/
def State.toDefault (s : State) (ks : List Nat) : State := ks.foldl (fun s k => s.wr k (objDefault k)) s

def State.onImage (f : Image → Image) (s : State) : State := { s with image := f s.image }
def State.onTdi (f : Tdi → Tdi) (s : State) : State := { s with tdi := f s.tdi }
def State.onConv (f : Conv → Conv) (s : State) : State := { s with conv := f s.conv }
def State.onCorr (f : Corr → Corr) (s : State) : State := { s with corr := f s.corr }
def State.onLanes (f : Lanes → Lanes) (s : State) : State := { s with lanes := f s.lanes }
def State.onStage (f : Stage → Stage) (s : State) : State := { s with stage := f s.stage }
def State.onRing (f : Ring → Ring) (s : State) : State := { s with ring := f s.ring }
def State.onLog (f : Log → Log) (s : State) : State := { s with log := f s.log }
def State.onTwi (f : Twi → Twi) (s : State) : State := { s with twi := f s.twi }
def State.onTiming (f : Timing → Timing) (s : State) : State := { s with timing := f s.timing }
def State.onDma (f : Dma → Dma) (s : State) : State := { s with dma := f s.dma }
def State.onHk (f : Hk → Hk) (s : State) : State := { s with hk := f s.hk }
def State.onTherm (f : Therm → Therm) (s : State) : State := { s with therm := f s.therm }
def State.onPace (f : Pace → Pace) (s : State) : State := { s with pace := f s.pace }
def State.onMram (f : Mram → Mram) (s : State) : State := { s with mram := f s.mram }
def State.onPower (f : Power → Power) (s : State) : State := { s with power := f s.power }
def State.onJtag (f : Jtag → Jtag) (s : State) : State := { s with jtag := f s.jtag }

/-- One flask updated. -/
def State.onFlask (f : Nat) (g : Flask → Flask) (s : State) : State :=
  s.onImage fun i => { i with flasks := modifyNth i.flasks f g }

/-- Every flask updated. -/
def State.onFlasks (g : Flask → Flask) (s : State) : State :=
  s.onImage fun i => { i with flasks := i.flasks.map g }

/-- The result of the access being served: success with nothing to return. -/
def State.accept (s : State) : State := { s with answer := ⟨0, 0, [], false⟩ }

/-- Success, reporting a state version (R197). -/
def State.acceptVersion (s : State) (v : Nat) : State := { s with answer := ⟨0, v, [], false⟩ }

/-- Success of a read, returning data; a read reports the live state version (R232). -/
def State.acceptData (s : State) (b : List Byte) : State := { s with answer := ⟨0, s.rd 0x110001, b, false⟩ }

/-- The access is under way and its reply waits (R208, R250). -/
def State.defer (s : State) : State := { s with answer := ⟨0, 0, [], true⟩ }

/-- The access ends with an abort code (R255) and changes nothing. -/
def State.refuse (code : Nat) (s : State) : State := { s with answer := ⟨code, 0, [], false⟩ }

/-- Abort code: invalid value (R255). -/
abbrev abortValue : Nat := 0x04010000

/-- Abort code: request that the part's present state does not allow (R255). -/
abbrev abortState : Nat := 0x05010000

/-- Abort code: staging store full (R255). -/
abbrev abortFull : Nat := 0x05020000

/-- Abort code: hand-over refused (R255). -/
abbrev abortHandOver : Nat := 0x05030000

/-- Abort code: uncorrectable MRAM read (R255). -/
abbrev abortMram : Nat := 0x06010000

/-- Ring time in ns (R239). -/
def State.ringTime (s : State) : Nat := s.ring.nanos

/-- The quadrature position counter (R303). -/
def State.position (s : State) : Nat := s.rd 0x520001

/-- The life-cycle state of fuse bits: 0 MANUFACTURE, 1 FIELD, 2 RETURN, 3 SCRAP (R380). -/
def lifeOf (fuses : Nat) : Nat :=
  if fuses.testBit 35 then 3 else if fuses.testBit 34 then 2 else if fuses.testBit 33 then 1 else 0

/-- The life-cycle state in force since the fuses were read (R380, R382). -/
def State.life (s : State) : Nat := lifeOf s.power.fusesRead

/-- Factory calibration is locked (R134, R380, R382: MANUFACTURE ignores the fuse). -/
def State.calLocked (s : State) : Bool := s.power.fusesRead.testBit 32 && s.life != 0

/-- The live readout mode is TDI (R80). -/
def State.tdiMode (s : State) : Bool := s.rd 0x210001 == 1

/-- The correction-map bank with number 0 or 1. -/
def State.bankOf (s : State) (n : Nat) : Bank := if n = 0 then s.mram.bankA else s.mram.bankB

/-- The bank with number 0 or 1 updated. -/
def State.onBank (n : Nat) (f : Bank → Bank) (s : State) : State :=
  if n = 0 then s.onMram fun m => { m with bankA := f m.bankA }
  else s.onMram fun m => { m with bankB := f m.bankB }

/-- The factory bank: 0 A, 1 B, 0xFF none (R127, R160). -/
def State.factoryBank (s : State) : Nat :=
  if s.mram.bankA.origin then 0 else if s.mram.bankB.origin then 1 else 0xFF

/-- A new free value: the `free`-th, and the state that will give the next one (log entry 2). -/
def State.takeFree (s : State) : Nat × State := (Config.freeValue s.free, { s with free := s.free + 1 })

/-! ### Dispatch-independent host access (R254) -/

/-- The range number of an index (R251). -/
def rangeNumber (index : Nat) : Nat :=
  let d := index / 0x1000
  if d = 1 then 0 else if d = 2 then 1
  else if d = 3 then (if index < 0x3400 then 2 else 3)
  else d

/-- The fuses leave the transport's write access to the range of a key (R252). -/
def State.fusesAllow (s : State) (tr : Transport) (key : Nat) : Bool :=
  match tr with
  | .ring => key == 0xB00101 || key == 0xB00102 || !s.power.fusesRead.testBit (rangeNumber (key / 256))
  | .twi => !s.power.fusesRead.testBit (16 + rangeNumber (key / 256))

end Sys2Proof.Machine
end

