-- ==== Sys2Proof/Machine/Jtag.lean ====
section
/-!
DEFINITION. The IEEE 1149.1 test access port (R375, R376, R399, R400).
-/
namespace Sys2Proof.Machine

/-- The identification register (R375, R399). -/
abbrev idcodeValue : Nat := 0x16416C3B

/-- The part is in Hold (R373). -/
def State.inHold (s : State) : Bool := s.rd 0xB02002 == 2

/-- An instruction is loaded. -/
def State.tapInstr (i : JtagInstr) (s : State) : State := s.onJtag fun j => { j with instr := i }

/-- The instruction as which the port acts: EXTEST, CLAMP and HIGHZ act as BYPASS outside Hold (R375). -/
def State.tapActs (s : State) : JtagInstr :=
  match s.jtag.instr with
  | .extest => if s.inHold then .extest else .bypass
  | .clamp => if s.inHold then .clamp else .bypass
  | .highz => if s.inHold then .highz else .bypass
  | i => i

/-- The boundary register drives the pins (R375). -/
def State.pinsByScan (s : State) : Bool := s.tapActs == .extest || s.tapActs == .clamp

/-- The boundary pins float (R375). -/
def State.pinsFloat (s : State) : Bool := s.tapActs == .highz

/-- TRST_N_ASSERT (R376): Test-Logic-Reset, in which the identification register is selected. -/
def execTrstNAssert (s : State) : Host.Outcome State Fault Refusal := .next (s.tapInstr .idcode)

/-- EXTEST (R375). -/
def execExtest (s : State) : Host.Outcome State Fault Refusal := .next (s.tapInstr .extest)

/-- SAMPLE_PRELOAD (R375, R400): the 47 cells capture the pins and are loaded with what is shifted in. -/
def execSamplePreload (pins cells : Nat) (s : State) : Host.Outcome State Fault Refusal :=
  .next ((s.tapInstr .samplePreload).onJtag fun j => { j with
    captured := pins % 2 ^ 47, update := cells % 2 ^ 47 })

/-- IDCODE (R375, R399): the identification register is captured. -/
def execIdcode (s : State) : Host.Outcome State Fault Refusal :=
  .next ((s.tapInstr .idcode).onJtag fun j => { j with captured := idcodeValue })

/-- HIGHZ (R375). -/
def execHighz (s : State) : Host.Outcome State Fault Refusal := .next (s.tapInstr .highz)

/-- CLAMP (R375). -/
def execClamp (s : State) : Host.Outcome State Fault Refusal := .next (s.tapInstr .clamp)

/-- BYPASS (R375, R399). -/
def execBypass (s : State) : Host.Outcome State Fault Refusal := .next (s.tapInstr .bypass)

end Sys2Proof.Machine
end

