-- ==== Sys2Proof/Machine/Geometry.lean ====
section
/-!
DEFINITION. What the values of a state say about windows, binning, timing, offsets and sizes (chapters 3, 4 and 7), as
functions of a set of values `d` and of the throttle step `k`.
-/
namespace Sys2Proof.Machine

/-! ### Windows and binning (R68 to R72) -/

/-- The live row ranges (F_i, C_i) in the order of their numbers (R68). -/
def rangesOf (d : Dict) : List (Nat × Nat) :=
  (List.range (d.get 0x212001)).map fun i => (d.get (0x212101 + i), d.get (0x212201 + i))

/-- The live column-group spans (G_m, L_m) (R68). -/
def spansOf (d : Dict) : List (Nat × Nat) :=
  (List.range (d.get 0x212002)).map fun i => (d.get (0x212301 + i), d.get (0x212401 + i))

/-- f_r: rows joined by charge binning (R69). -/
def rowFactor (d : Dict) : Nat := if d.get 0x213001 = 2 then 2 else 1

/-- f_c: columns joined by charge binning (R72). -/
def colFactor (d : Dict) : Nat := if d.get 0x213001 = 0 then 1 else 2

/-- f_d: rows and columns joined by digital binning (R72). -/
def digFactor (d : Dict) : Nat := if d.get 0x213002 = 0 then 1 else 4

/-- N: row reads per sub-exposure (R69). -/
def rowReads (d : Dict) : Nat := sumNat ((rangesOf d).map fun r => r.2 / rowFactor d)

/-- The array row of each row read, in reading order (R69). -/
def rowList (d : Dict) : List Nat :=
  (rangesOf d).flatMap fun r => (List.range (r.2 / rowFactor d)).map fun i => r.1 + i * rowFactor d

/-- A column group lies in a live span (R69). -/
def groupLive (d : Dict) (g : Nat) : Bool := (spansOf d).any fun p => p.1 ≤ g && g ≤ p.2

/-- The live column groups of a flask, ascending (R69). -/
def flaskGroups (d : Dict) (f : Nat) : List Nat := (rangeFrom (16 * f) 16).filter (groupLive d)

/-- A flask has a live column group (R69). -/
def flaskLive (d : Dict) (f : Nat) : Bool := (flaskGroups d f).length != 0

/-- The flasks with a live column group. -/
def liveFlasks (d : Dict) : List Nat := (List.range 16).filter (flaskLive d)

/-- Column groups in the spans (R72). -/
def spanGroups (d : Dict) : Nat := sumNat ((spansOf d).map fun p => p.2 - p.1 + 1)

/-- Output pixels per plane (R72). -/
def areaPixels (d : Dict) : Nat :=
  rowReads d / digFactor d * (spanGroups d * 64 / (colFactor d * digFactor d))

/-- K, the sub-exposures of a pour (R57). -/
def subCount (d : Dict) : Nat := d.get 0x211001

/-- E_j in time units (R80). -/
def expoUnits (d : Dict) (j : Nat) : Instant := tickUnits * d.get (0x211101 + j)

/-- E_max in units of 10 ns (R77). -/
def expoMax (d : Dict) : Nat := maxNat ((List.range (subCount d)).map fun j => d.get (0x211101 + j))

/-- G_j, the gain in use of sub-exposure j, in 1/128 (R77). -/
def gainOf (d : Dict) (j : Nat) : Nat :=
  if d.get (0x211301 + j) = 0 then
    (roundDiv (128 * (expoMax d : Int)) (d.get (0x211101 + j))).toNat
  else d.get (0x211301 + j)

/-- The live output is fused (R75). -/
def fusedOut (d : Dict) : Bool := d.get 0x211002 == 1

/-! ### Area timing (R61, R65, R66) -/

/-- Row slots that an interval needs. -/
def slotsFor (x : Instant) : Nat := ceilDiv x slotUnits

/-- Row slots that n row reads span at most at throttle step k (R61, R66). -/
def readSpan (n k : Nat) : Nat := if k = 0 then n else ceilDiv n (16 - k) * 16

/-- T_min in row slots (R61, R66). -/
def tMinSlots (d : Dict) (k : Nat) : Nat :=
  sumNat ((List.range (subCount d)).map fun j => max (readSpan (rowReads d) k) (slotsFor (expoUnits d j + ns 200)))

/-- The free-run period P in row slots (R65). -/
def freeRunSlots (d : Dict) (k : Nat) : Nat := max (tMinSlots d k) (slotsFor (tickUnits * d.get 0x210006))

/-- Slot j of a group of 16 is left idle at throttle step k (R351). -/
def slotIdle (j k : Nat) : Bool := (j % 16 + 1) * k / 16 > j % 16 * k / 16

/-- The first row slot from number `j` on that is not idle, within `fuel` slots. -/
def nextActive (k : Nat) : Nat → Nat → Nat
  | 0, j => j
  | fuel + 1, j => if slotIdle j k then nextActive k fuel (j + 1) else j

/-- The number of the row slot after the last of `n` reads, starting from slot `j` (R58, R66). -/
def readsEnd (k : Nat) : Nat → Nat → Nat
  | 0, j => j
  | n + 1, j => readsEnd k n (nextActive k 16 j + 1)

/-! ### TDI (R81 to R100) -/

/-- Band b is enabled (R81). -/
def bandOn (d : Dict) (b : Nat) : Bool := bitAt (d.get 0x340001) b

/-- The enabled bands. -/
def bandsOn (d : Dict) : List Nat := (List.range 4).filter (bandOn d)

/-- N_b (R81). -/
def stages (d : Dict) (b : Nat) : Nat := d.get (0x342001 + b)

/-- R_b (R81). -/
def firstRow (d : Dict) (b : Nat) : Nat := d.get (0x342101 + b)

/-- M, stage rows per line (R82). -/
def stageRows (d : Dict) : Nat := sumNat ((bandsOn d).map (stages d))

/-- I, the illumination interleave (R97). -/
def interleave (d : Dict) : Nat := d.get 0x341002

/-- The array row of stage s of band b (R81). -/
def stageRow (d : Dict) (b s : Nat) : Nat :=
  if d.get 0x340002 = 0 then 256 * b + firstRow d b + s else 256 * b + firstRow d b + stages d b - 1 - s

/-- The stage rows of a line in reading order, as (band, stage) (R82). -/
def stageOrder (d : Dict) : List (Nat × Nat) :=
  (List.range (maxNat ((bandsOn d).map (stages d)))).flatMap fun s =>
    ((bandsOn d).filter fun b => s < stages d b).map fun b => (b, s)

/-- The band that the web reaches first (R81). -/
def firstBand (d : Dict) : Nat :=
  if d.get 0x340002 = 0 then nth (bandsOn d) 0 0 else (bandsOn d).getLastD 0

/-- The band offset in eighths before the smallest is taken off (R98). -/
def rawOffset (d : Dict) (b : Nat) : Nat :=
  if d.get 0x343001 = 0 then
    8 * ((stageRow d b 0 : Int) - stageRow d (firstBand d) 0).natAbs
  else 8 * d.get (0x343101 + b) + d.get (0x343201 + b)

/-- The smallest offset of the enabled bands. -/
def minOffset (d : Dict) : Nat :=
  match (bandsOn d).map (rawOffset d) with
  | [] => 0
  | o :: l => l.foldl min o

/-- O_b in eighths (R98). -/
def offsetOf (d : Dict) (b : Nat) : Nat := if bandOn d b then rawOffset d b - minOffset d else 0

/-- I_b, the whole lines of the offset (R99). -/
def offsetLines (d : Dict) (b : Nat) : Nat := offsetOf d b / 8

/-- f_b, the eighths of the offset (R99). -/
def offsetEighths (d : Dict) (b : Nat) : Nat := offsetOf d b % 8

/-- C_b: lines after line w at which band b of web line w is ready (R99). -/
def bandReady (d : Dict) (b : Nat) : Nat :=
  offsetLines d b + (if offsetEighths d b = 0 then 0 else 1) + stages d b - 1

/-- C_max (R99). -/
def lineReady (d : Dict) : Nat := maxNat ((bandsOn d).map (bandReady d))

/-- The TDI exposure E in time units (R88). -/
def tdiExpo (d : Dict) : Instant := tickUnits * d.get 0x341001

/-- The shortest full-stage interval in time units at throttle step k (R91, R92). -/
def fullStageInterval (d : Dict) (k : Nat) : Instant :=
  let m := readSpan (stageRows d) k
  if d.get 0x340107 = 0 then max m (slotsFor (tdiExpo d + ns 200)) * slotUnits
  else max ((m + 1) * slotUnits) (tdiExpo d + ns 200)

/-- The free-run line period in time units (R85). -/
def linePeriod (d : Dict) (k : Nat) : Instant :=
  max (tickUnits * d.get 0x340105) (fullStageInterval d k)

/-- W, output columns over the spans in TDI (R100). -/
def tdiColumns (d : Dict) : Nat := spanGroups d * 64 / colFactor d

/-! ### Formats and sizes (R100, R167, R168, R171, R183) -/

/-- FMT of the packets of a state (R171). -/
def formatOf (d : Dict) : Nat :=
  if d.get 0x210001 = 1 then
    (if d.get 0x344001 = 1 then 2 else if d.get 0x902003 = 1 then 1 else 0)
  else if fusedOut d then 3
  else if d.get 0x213002 = 2 then 2
  else if d.get 0x902003 = 1 then 1 else 0

/-- Payload bytes of n pixels in a format (R171). -/
def payloadBytes (fmt n : Nat) : Nat := if fmt = 0 then n / 2 * 3 else 2 * n

/-- Blocks of a packet of length L (R167). -/
def blocksOf (len : Nat) : Nat := (len + 9) / 8

/-- Lane bytes of a packet of length L (R167, R183). -/
def laneBytes (len : Nat) : Nat := 8 * blocksOf len

/-- Output pixels of one row in a flask (R72; R100 in TDI). -/
def flaskPixels (d : Dict) (f : Nat) : Nat :=
  (flaskGroups d f).length * 64 / (colFactor d * (if d.get 0x210001 = 1 then 1 else digFactor d))

/-- Planes that an area pour outputs (R74, R75). -/
def planesOf (d : Dict) : Nat := if fusedOut d then 1 else subCount d

/-- Row masks, and sample runs, in one full packet: one, or one for each enabled band in TDI (R170). -/
def packetRuns (d : Dict) : Nat := if d.get 0x210001 = 1 then (bandsOn d).length else 1

/-- Lane bytes of one full packet of a flask in a format, 0 in a flask that sends none (R167, R168, R170). -/
def packetSize (d : Dict) (fmt f : Nat) : Nat :=
  if !flaskLive d f then 0
  else laneBytes (68 + packetRuns d * (4 + payloadBytes fmt (flaskPixels d f)))

/-- The lane bytes of one full packet of each flask. -/
def packetSizes (d : Dict) (fmt : Nat) : List Nat := (List.range 16).map (packetSize d fmt)

/-- The planes of a pour, the phases of a web line in TDI (R97, R173). -/
def pourPlanes (d : Dict) : Nat := if d.get 0x210001 = 1 then interleave d else planesOf d

/-- The output rows of each plane of a pour (R169). -/
def pourRows (d : Dict) : Nat := if d.get 0x210001 = 1 then 1 else rowReads d / digFactor d

/-- Lane bytes of one pour in a flask (R183). -/
def flaskSize (d : Dict) (f : Nat) : Nat := pourPlanes d * pourRows d * packetSize d (formatOf d) f

/-- Size of one pour (R183). -/
def pourSize (d : Dict) : Nat := sumNat ((List.range 16).map (flaskSize d))

/-- Size of one pour in each sprue (R183). -/
def sprueSizes (d : Dict) : List Nat :=
  (List.range 4).map fun s => sumNat ((rangeFrom (4 * s) 4).map (flaskSize d))

/-- The co-registration reserve in bytes; 0 in area mode (R100, R105). -/
def reserveOf (d : Dict) : Nat :=
  if d.get 0x210001 ≠ 1 then 0
  else
    let n := interleave d * sumNat ((bandsOn d).map fun b => lineReady d - bandReady d b + 1) * tdiColumns d
    if formatOf d = 0 then n * 3 / 2 else 2 * n

/-- The tundish (R183). -/
def tundishBytes : Nat := 50331648

/-- The limit of bytes queued for one sprue (R184). -/
def sprueLimit : Nat := 46137344

/-! ### Refused combinations (R79, R104, R187) -/

/-- Two row ranges share a row. -/
def rowsShare (p q : Nat × Nat) : Bool := p.1 < q.1 + q.2 && q.1 < p.1 + p.2

/-- Two spans share a column group. -/
def groupsShare (p q : Nat × Nat) : Bool := p.1 ≤ q.2 && q.1 ≤ p.2

/-- The number of the first entry that shares with another one. -/
def firstSharing (f : Nat × Nat → Nat × Nat → Bool) (l : List (Nat × Nat)) : Option Nat :=
  (List.range l.length).find? fun i =>
    (List.range l.length).any fun j => i != j && f (nth l i (0, 0)) (nth l j (0, 0))

/-- The number of the first entry with a property. -/
def firstIndex (l : List (Nat × Nat)) (p : Nat × Nat → Bool) : Option Nat :=
  (List.range l.length).find? fun i => p (nth l i (0, 0))

/-- The first of a list of checks that names an object. -/
def firstSome : List (Option Nat) → Option Nat
  | [] => none
  | some k :: _ => some k
  | none :: l => firstSome l

/-- `some k` when a check fails. -/
def failIf (b : Bool) (k : Nat) : Option Nat := if b then some k else none

/-- The first failing row of R79 and the first object it concerns (log entry 7). -/
def areaFault (d : Dict) : Option Nat :=
  let rs := rangesOf d
  let step := 4 * rowFactor d
  let fused := fusedOut d
  firstSome [
    (firstSharing rowsShare rs).map (0x212101 + ·),
    (firstSharing groupsShare (spansOf d)).map (0x212301 + ·),
    (firstIndex rs fun r => 1024 < r.1 + r.2).map (0x212101 + ·),
    (firstIndex (spansOf d) fun p => p.2 < p.1).map (0x212301 + ·),
    failIf (rowFactor d == 2 && rs.any fun r => r.1 % 2 != 0 || r.2 % 2 != 0) 0x213001,
    failIf (digFactor d == 4 && rs.any fun r => r.1 % step != 0 || r.2 % step != 0) 0x213002,
    failIf (fused && subCount d == 1) 0x211002,
    failIf (fused && d.get 0x213002 == 2) 0x211002,
    failIf (fused && 4194304 < areaPixels d) 0x211002,
    if fused then
      ((List.range (subCount d)).find? fun j => !(128 ≤ gainOf d j && gainOf d j ≤ 32768)).map (0x211301 + ·)
    else none]

/-- The first failing row of R104 and the first object its words name: object 0x3421 for R_b + N_b, object 0x3410:02 for
I × M, object 0x3420 for N_b; 0 where no single object is at fault (DESIGN CHOICE, log entry 7). -/
def tdiFault (d : Dict) : Option Nat :=
  firstSome [
    failIf ((bandsOn d).isEmpty) 0x340001,
    (firstSharing groupsShare (spansOf d)).map (0x212301 + ·),
    (firstIndex (spansOf d) fun p => p.2 < p.1).map (0x212301 + ·),
    ((bandsOn d).find? fun b => 256 < firstRow d b + stages d b).map (0x342101 + ·),
    failIf (256 < interleave d * stageRows d) 0x341002,
    ((bandsOn d).find? fun b => stages d b % interleave d != 0).map (0x342001 + ·),
    failIf (d.get 0x213001 == 2) 0x213001,
    failIf (44040192 < reserveOf d) 0]

/-- R187: one pour larger than the send area or than a sprue's limit. -/
def tooLarge (d : Dict) : Bool :=
  tundishBytes - reserveOf d < pourSize d || (sprueSizes d).any fun n => sprueLimit < n

end Sys2Proof.Machine
end

