-- ==== Sys2Proof/Machine/Flags.lean ====
section
/-!
DEFINITION. Alert bits (R257), the event log queue (R260 to R262), emergency frames (R244) and the frames of the part's own
(R227, R228).
-/
namespace Sys2Proof.Machine

/-! ### Frames of the part's own -/

/-- The header and payload bytes of a frame, over which the CRC is taken (R227, R228). -/
def frameBytes (f : Frame) : List Byte :=
  [BitVec.ofNat 8 f.dst, BitVec.ofNat 8 f.src, BitVec.ofNat 8 f.typ, BitVec.ofNat 8 f.seq, BitVec.ofNat 8 f.hops,
    BitVec.ofNat 8 f.resv] ++ leBytes 2 f.len ++ f.payload

/-- The frame with its CRC regenerated (R228, R229). -/
def withCrc (f : Frame) : Frame := { f with crc := crc16 (frameBytes f) }

/-- A frame of the part's own to the ring head (R227, R230). -/
def ownFrame (src typ seq : Nat) (payload : List Byte) : Frame :=
  withCrc ⟨0, src, typ, seq, 0, 0, payload.length, payload, 0, .eof, 0⟩

/-- The part is active on the ring: link state 3 (R222, R247). -/
def State.ringActive (s : State) : Bool := s.rd 0x120002 == 3

/-- Put a frame of the part's own in line for insertion (R226). -/
def State.sendFrame (s : State) (f : Frame) : State := s.onRing fun r => { r with tx := r.tx ++ [f] }

/-! ### Alerts -/

/-- The alert bit that the table of R262 gives an event with its data, if any. -/
def alertBit (code : Nat) (data : List Byte) : Option Nat :=
  match code with
  | 0x0102 => some 15
  | 0x0104 => some 12
  | 0x0106 => some 13
  | 0x0202 => some 0
  | 0x0203 => some 1
  | 0x0301 => some 2
  | 0x0304 => some 3
  | 0x0501 => if nth data 1 0 = 1 ∨ nth data 2 0 = 1 then some 4 else none
  | 0x0505 => some 4
  | 0x0601 => some 5
  | 0x0801 => some 9
  | 0x0802 => some 9
  | 0x0903 => some 10
  | 0x0A01 =>
    if nth data 2 0 = 3 then some 7 else if nth data 2 0 = 1 ∨ nth data 2 0 = 2 then some 6 else none
  | 0x0A03 => if nth data 0 0 = 1 then some 8 else none
  | 0x0A06 => some 11
  | 0x0A07 => some 11
  | _ => none

/-- The event codes of R262. -/
def eventCodes : List Nat := [
  0x0101, 0x0102, 0x0103, 0x0104, 0x0105, 0x0106, 0x0201, 0x0202, 0x0203, 0x0204, 0x0301, 0x0302, 0x0303, 0x0304, 0x0305,
  0x0306, 0x0307, 0x0401, 0x0402, 0x0501, 0x0502, 0x0503, 0x0504, 0x0505, 0x0601, 0x0602, 0x0603, 0x0604, 0x0605, 0x0606,
  0x0607, 0x0608, 0x0701, 0x0801, 0x0802, 0x0901, 0x0902, 0x0903, 0x0A01, 0x0A02, 0x0A03, 0x0A04, 0x0A05, 0x0A06, 0x0A07]

/-- Set an alert bit of object 0x1001:01 (R257). -/
def State.raise (s : State) (bit : Nat) : State := s.wr 0x100101 (setBit (s.rd 0x100101) bit)

/-- The conditions of the condition bits of R257 that hold now: SUPPLY, MRAMINH, QUENCH, THERM, NOMAP. -/
def State.alertConditions (s : State) : Nat :=
  (if s.rd 0xB03001 ≠ 0 then 2 ^ 12 else 0) + (if s.rd 0x6A0003 = 1 then 2 ^ 8 else 0) +
  (if s.therm.quench ∨ s.rd 0x6A1002 % 4 ≠ 0 then 2 ^ 7 else 0) +
  (if s.rd 0x6A0001 = 1 ∨ s.rd 0x6A0001 = 2 ∨ s.rd 0x6A0002 = 1 ∨ s.rd 0x6A0002 = 2 then 2 ^ 6 else 0) +
  (if s.power.scanned ∧ s.rd 0x401001 = 0xFF then 2 ^ 2 else 0)

/-- ALERT_N is driven low: an alert bit is 1 and its mask bit is 1, from the first assessment of conditions on (R257,
R369). -/
def State.alertLow (s : State) : Bool := s.therm.assessed && (s.rd 0x100101 &&& s.rd 0x100102) != 0

/-! ### The event log -/

/-- An event that drives ALERT_N, a thermal level change or "ring joined" makes an emergency due while object 0x1204:01 is
1 (R244). -/
def State.emergencyDue (s : State) (code : Nat) (bit : Option Nat) : Bool :=
  s.rd 0x120401 == 1 && (bit.isSome || code == 0x0A01 || code == 0x0602)

/-- The 100 µs rule of R244 lets an emergency frame be sent now. -/
def State.emergencyFree (s : State) : Bool :=
  match s.ring.lastEmerg with
  | none => true
  | some t => t + us 100 ≤ s.now

/-- The 12 data bytes of an entry (R260). -/
def pad (n : Nat) (d : List Byte) : List Byte := (d ++ List.replicate n 0).take n

/-- The emergency frame of an event (R244). -/
def State.emergencyFrame (s : State) (e : LogEntry) : Frame :=
  ownFrame (s.rd 0x120001) 0x90 0
    (leBytes 4 e.seq ++ leBytes 2 e.code ++ leBytes 1 e.therm ++ [0] ++ leBytes 8 e.rtime ++ pad 8 e.data)

/-- Place the entry in the log queue and send its emergency (R244, R261). -/
def State.logEntry (s : State) (code : Nat) (data : List Byte) (bit : Option Nat) : State :=
  let due := s.emergencyDue code bit
  let sent := due && s.ringActive && s.emergencyFree
  let e : LogEntry := ⟨s.log.next, code, max (s.rd 0x6A0001) (s.rd 0x6A0002), bit.isSome, sent, due && !sent, s.ringTime, pad 12 data, 0⟩
  let s := s.onLog fun l => { l with queue := l.queue ++ [e], next := (l.next + 1) % 2 ^ 32 }
  let s := s.wr 0xC00008 (max (s.rd 0xC00008) s.log.queue.length)
  if sent then (s.sendFrame (s.emergencyFrame e)).onRing fun r => { r with lastEmerg := some s.now } else s

/-- An event occurs (R257, R261, R262): its alert bit is set; a full queue counts it and loses the entry. -/
def State.logEvent (s : State) (code : Nat) (data : List Byte) : State :=
  let bit := alertBit code data
  let s := match bit with
    | some b => s.raise b
    | none => s
  if 64 ≤ s.log.queue.length then
    (s.inc 0xC00007).onLog fun l => { l with unreported := l.unreported + 1 }
  else s.logEntry code data bit

end Sys2Proof.Machine
end

