-- ==== Sys2Proof/Machine/Mram.lean ====
section
/-!
DEFINITION. MRAM as words of 64 bytes: where each region lies, what a read of words that hold errors counts (R33, R264), and
the header words of banks and temperature-set slots (R127, R131).
-/
namespace Sys2Proof.Machine

/-! ### Where the words lie (R32; log entry 8) -/

/-- A run of MRAM words: the first word address and the number of words. -/
abbrev WordRange := Nat × Nat

/-- A word lies in a range. -/
def inWords (r : WordRange) (w : Nat) : Bool := r.1 ≤ w && w < r.1 + r.2

/-- All of MRAM. -/
def mramWords : WordRange := (0, 1179648)

/-- The words of mould slot `n`. -/
def mouldWords (n : Nat) : WordRange := (1048576 + 256 * n, 256)

/-- The words of the physical temperature-set slot `i` (R131). -/
def setWords (i : Nat) : WordRange := (1114112 + 8192 * i, 8192)

/-- The word that holds the log entry with a sequence number (R260). -/
def logWords (seq : Nat) : WordRange := (1146880 + seq % 32768 / 2, 1)

/-- The header word of a bank (R127). -/
def headerWords (bank : Nat) : WordRange := (1163264 + bank, 1)

/-- The segment CRC table of a bank (R127). -/
def tableWords (bank : Nat) : WordRange := (1163266 + 2 * bank, 2)

/-- The journal word of the moulds (R211). -/
def journalWords : WordRange := (1163270, 1)

/-- The shadow slot of the moulds (R211). -/
def shadowWords : WordRange := (1163272, 256)

/-- The MRAM-backed objects (R250), one key for each. -/
def mramKeys : List Nat :=
  objTable.flatMap fun r => if r.mram then rangeFrom r.first (r.last - r.first + 1) else []

/-- The word that holds an MRAM-backed object (R250). -/
def objectWords (key : Nat) : WordRange := (1163528 + mramKeys.idxOf key, 1)

/-- The region of a word (R264). -/
def regionOf (w : Nat) : Nat :=
  if w < 524288 then 0 else if w < 1048576 then 1 else if w < 1114112 then 2 else if w < 1146880 then 3
  else if w < 1163264 then 4 else 5

/-! ### Errors (R33, R264) -/

/-- The words of a range that hold an error, and whether it is uncorrectable. -/
def State.errorsIn (s : State) (r : WordRange) : List (Nat × Bool) := s.mram.errs.filter fun e => inWords r e.1

/-- No word of a range is uncorrectable. -/
def State.readable (s : State) (r : WordRange) : Bool := (s.errorsIn r).all fun e => !e.2

/-- A word that reads with an error is counted (R264). -/
def State.countError (s : State) (e : Nat × Bool) : State :=
  if e.2 then ((s.inc 0xC10002).wr 0xC10004 e.1).wr 0xC10005 (regionOf e.1) else (s.inc 0xC10001).wr 0xC10003 e.1

/-- The words of a range are read (R33, R264). -/
def State.readWords (r : WordRange) (s : State) : State := (s.errorsIn r).foldl State.countError s

/-- From now on the words of a range hold the errors that two lists name, and no others: `bad` the uncorrectable words,
`corrected` those with an error that is corrected. -/
def State.noteErrors (r : WordRange) (bad corrected : List Nat) (s : State) : State :=
  s.onMram fun m => { m with
    errs := ((bad.dedup.filter (inWords r)).map fun w => (w, true)) ++
      ((corrected.dedup.filter fun w => inWords r w && !bad.contains w).map fun w => (w, false)) ++
      m.errs.filter fun e => !inWords r e.1 }

/-- The words of a range are written anew, so that they hold no error. -/
def State.wroteWords (r : WordRange) (s : State) : State :=
  s.onMram fun m => { m with errs := m.errs.filter fun e => !inWords r e.1 }

/-- An access that needs the words of some ranges (R254): it goes on with them, or ends with the abort for an uncorrectable
read (R255). -/
def State.needWords (rs : List WordRange) (act : State → State) (s : State) : State :=
  let t := rs.foldl (fun s r => s.readWords r) s
  if rs.all s.readable then act t else t.refuse abortMram

/-! ### Header words (R127, R131) -/

/-- TAG of a map-bank header (R127). -/
abbrev bankTag : Nat := 0x4D500001

/-- Bits [479:0] of a bank header (R127). -/
def Bank.headerBits (b : Bank) : Nat :=
  b.tag + 2 ^ 32 * b.state + 2 ^ 40 * b2n b.origin + 2 ^ 48 * b.gen + 2 ^ 80 * b.crct

/-- The CRC-32 of bits [479:0] of a bank header (R127). -/
def Bank.headerCrc (b : Bank) : Nat := crc32 (leBytes 60 b.headerBits)

/-- The header as the part writes it: with TAG and HCRC (R127). -/
def Bank.sealed (b : Bank) : Bank :=
  let b := { b with tag := bankTag }
  { b with hcrc := b.headerCrc }

/-- TAG and HCRC are correct (R128). -/
def Bank.headerOk (b : Bank) : Bool := b.tag == bankTag && b.hcrc == b.headerCrc

/-- A bank header is written as one MRAM word (R127). -/
def State.writeHeader (n : Nat) (f : Bank → Bank) (s : State) : State :=
  (s.onBank n fun b => (f b).sealed).wroteWords (headerWords n)

/-- The tag of a temperature-set slot (R131). -/
abbrev setTag : Nat := 0x54530001

/-- Bits [479:0] of a slot header (R131). -/
def SetSlot.headerBits (t : SetSlot) : Nat := t.tag + 2 ^ 32 * t.set + 2 ^ 40 * t.gen + 2 ^ 72 * t.dcrc

/-- The CRC-32 of bits [479:0] of a slot header (R131). -/
def SetSlot.headerCrc (t : SetSlot) : Nat := crc32 (leBytes 60 t.headerBits)

/-- The slot with the header the part writes: with tag and header CRC (R131). -/
def SetSlot.sealed (t : SetSlot) : SetSlot :=
  let t := { t with tag := setTag }
  { t with hcrc := t.headerCrc }

/-- Tag and header CRC are correct (R134). -/
def SetSlot.headerOk (t : SetSlot) : Bool := t.tag == setTag && t.hcrc == t.headerCrc

/-- The slot is written as free (R131, R134). -/
def SetSlot.freed (t : SetSlot) : SetSlot := { t with set := 0xFF }.sealed

/-- The slot holds the current copy of a logical set (R131). -/
def SetSlot.current (t : SetSlot) : Bool := t.tag == setTag && t.set ≤ 2

end Sys2Proof.Machine
end

