-- ==== Sys2Proof/Machine/Operands.lean ====
section
/-!
DEFINITION. How a command of the host reaches an object: value checks (R8, R248), the order of the checks (R254), transport
and fuse permissions (R252), the counters of R259, and the wait for the control sequencer (R35, R196, R208, R250).
-/
namespace Sys2Proof.Machine

/-! ### Value checks -/

/-- Byte `i` of a value. -/
def byteOf (v i : Nat) : Nat := v / 256 ^ i % 256

/-- The 16-bit element `i` of a value, as a signed integer. -/
def i16Of (v i : Nat) : Int := toSigned 16 (v / 65536 ^ i)

/-- One entry of the strobe-driver list (R280). -/
def driverEntryOk (e : Nat) : Bool :=
  byteOf e 0 < 128 ||
  (1 ≤ byteOf e 1 && byteOf e 1 ≤ 6 && e / 256 ^ (2 + byteOf e 1) == 0)

/-- Five temperatures in 1/16 °C strictly ascending, at least 5.0 K apart, from 20.0 °C to 80.0 °C (R133). -/
def userPointsOk (l : List Int) : Bool :=
  l.all (fun t => 320 ≤ t && t ≤ 1280) &&
  (List.zip l l.tail).all fun p => p.1 + 80 ≤ p.2

/-- A value is none of those that R8, R248 or the object's own table refuse. -/
def valueOk (c : ValueCheck) (v : Nat) : Bool :=
  match c with
  | .any => true
  | .range lo hi => lo ≤ v && v ≤ hi
  | .oneOf vs => vs.contains v
  | .bits m => andNot v m == 0
  | .bank => v ≤ 3 || v == 0xFF
  | .gain => v == 0 || (128 ≤ v && v ≤ 32768)
  | .startMould => v ≤ 0x0100 || v == 0xFFFF
  | .tapEntry => byteOf v 1 ≤ 2 && v / 2 ^ 25 == 0
  | .hkEntry => v % 64 ≤ 25
  | .injected => v % 64 ≤ 25 && v / 256 == 0
  | .elems n hi => (List.range n).all fun i => byteOf v i ≤ hi
  | .driverList => (List.range 16).all fun i => driverEntryOk (v / 256 ^ (8 * i) % 256 ^ 8)
  | .threshold =>
    byteOf v 7 == 0 && byteOf v 6 < 8 && !(byteOf v 6 / 4 == 1 && byteOf v 6 % 2 == 0)
  | .seedPoints => userPointsOk ((List.range 5).map (i16Of v))

/-! ### Checks of an access (R254) -/

/-- The transport is named in the object's Transports column (R252). -/
def rowAllows (r : ObjRow) (tr : Transport) : Bool :=
  match tr with
  | .ring => r.ring
  | .twi => r.twi

/-- The abort of a read, if one of the checks 1 and 2 fails. -/
def readAbort (key : Nat) : Option Nat :=
  if !indexExists key then some 0x01010000
  else if (objRow key).isNone then some 0x01020000
  else none

/-- The checks 1 to 4 of a write (R254). -/
def State.permitAbort (s : State) (tr : Transport) (key : Nat) : Option Nat :=
  if !indexExists key then some 0x01010000
  else
    match objRow key with
    | none => some 0x01020000
    | some r =>
      if r.acc = .ro ∨ r.acc = .const_ then some 0x02010000
      else if !(rowAllows r tr && s.fusesAllow tr key) then some 0x02020000
      else none

/-- The present state bars every write of an object: in SCRAP (R382), and of an MRAM-backed one under the write inhibit
(R236). -/
def State.stateAbort (s : State) (key : Nat) : Option Nat :=
  if s.life = 3 then some abortState
  else if (objRow key).any ObjRow.mram ∧ s.rd 0x6A0003 = 1 then some abortState
  else none

/-- The abort of a write before the owning chapter's own rules, in the order of R254. -/
def State.writeAbort (s : State) (t : Txn) : Option Nat :=
  match s.permitAbort t.tr t.key with
  | some c => some c
  | none =>
    if t.len ≠ objSize t.key then some 0x03010000
    else if !(objRow t.key).any fun r => valueOk r.check t.val then some abortValue
    else s.stateAbort t.key

/-! ### The counters of R259 -/

/-- The counters of accesses served and aborted, last abort code and object, of a transport. -/
def transportKeys : Transport → Nat × Nat × Nat × Nat
  | .ring => (0x102001, 0x102003, 0x102005, 0x102006)
  | .twi => (0x102002, 0x102004, 0x102007, 0x102008)

/-- Count an access that the sequencer has served with the answer the state holds (R259). -/
def State.counted (s : State) (tr : Transport) (key : Nat) : State :=
  let k := transportKeys tr
  let s := s.inc k.1
  if s.answer.abort = 0 then s
  else ((s.inc k.2.1).wr k.2.2.1 s.answer.abort).wr k.2.2.2 key

/-- Count an access unless its reply still waits. -/
def State.counted1 (s : State) (tr : Transport) (key : Nat) : State :=
  if s.answer.deferred then s else s.counted tr key

/-! ### Serving -/

/-- The part serves the dictionary: from "start complete" on, not in Sleep (R274, R368, R378). -/
def State.serves (s : State) : Bool := s.power.phase == .service

/-- The control sequencer cannot apply a transaction now: the hand-over window is open (R196), or the one it serves waits
for MRAM (R208, R250). -/
def State.busy (s : State) : Bool := s.stage.window.isSome || s.stage.serving.isSome

/-- A transaction that the sequencer would apply in the hand-over window is held, and counted (R196): the first that waits, once
none is being served. -/
def State.heldInWindow (s : State) : State :=
  if s.stage.window.isSome ∧ s.stage.serving.isNone then s.inc 0x800106 else s

/-- When a transaction arrived (R253). -/
def Job.arrived (j : Job) : Instant :=
  match j with
  | .write _ t => t
  | .read _ _ t => t
  | .frame _ t => t
  | .twi _ t => t

/-- A transaction of the two-wire interface. -/
def Job.isTwi (j : Job) : Bool :=
  match j with
  | .write t _ => t.tr == .twi
  | .read tr _ _ => tr == .twi
  | .frame _ _ => false
  | .twi _ _ => true

/-- A transaction joins those that wait, in arrival order; a ring request goes before a two-wire transaction of the same
instant (R253). -/
def joinJob (j : Job) : List Job → List Job
  | [] => [j]
  | a :: l => if !j.isTwi && a.isTwi && a.arrived == j.arrived then j :: a :: l else a :: joinJob j l

/-- A transaction waits its turn (R35, R196). -/
def State.wait (s : State) (j : Job) : State :=
  let s := if s.stage.waiting = [] then s.heldInWindow else s
  s.onStage fun g => { g with waiting := joinJob j g.waiting }

/-- The part takes accesses of a transport: with TWI_RST_N low it ignores the two-wire bus (R277). -/
def State.hears (s : State) (tr : Transport) : Bool := s.serves && !(tr == .twi && s.twi.rstLow)

/-- A two-wire transaction commits, and is counted (R272, R282). -/
def State.committed (tr : Transport) (s : State) : State := if tr = .twi then s.inc 0xA00401 else s

/-- The counts of object 0x1020:09 are cleared, after the write that clears them is itself counted (R259). -/
def State.clearedTransport (t : Txn) (s : State) : State :=
  if t.key = 0x102009 ∧ t.val = 1 then s.zero (rangeFrom 0x102001 8) else s

/-- Apply a write: checked under R254, then carried out with `eff`, then counted (R259). -/
def State.writeNow (s : State) (t : Txn) (eff : State → State) : State :=
  match s.writeAbort t with
  | some code => (s.refuse code).counted t.tr t.key
  | none => ((eff s.accept).counted1 t.tr t.key).clearedTransport t

/-- A write reaches the control sequencer: it is applied, or waits. -/
def State.hostWrite (s : State) (t : Txn) (eff : State → State) : State :=
  if !s.hears t.tr then s
  else
    let s := s.committed t.tr
    if s.busy then s.wait (.write t s.now) else s.writeNow t eff

/-- A write of a one-byte command object whose value 0 does nothing (R249). -/
def State.hostCommand (s : State) (tr : Transport) (key v : Nat) (eff : State → State) : State :=
  s.hostWrite ⟨tr, key, 1, v⟩ fun s => if v = 0 then s else eff s

/-- Serve a read of an object: `eff` puts the value in the answer (R253, R254). -/
def State.readNow (s : State) (tr : Transport) (key : Nat) (eff : State → State) : State :=
  match readAbort key with
  | some code => (s.refuse code).counted tr key
  | none => (eff s).counted tr key

/-- A read reaches the control sequencer: it is served, or waits. -/
def State.hostRead (s : State) (tr : Transport) (key : Nat) (eff : State → State) : State :=
  if !s.hears tr then s
  else
    let s := s.committed tr
    if s.busy then s.wait (.read tr key s.now) else s.readNow tr key eff

/-- A write of an MRAM-backed object is under way: its reply waits until MRAM_OBJECT_WRITE_COMPLETE (R250). -/
def State.startMramWrite (s : State) (t : Txn) : State :=
  (s.onStage fun g => { g with mramWrite := some t, serving := some (.write t s.now) }).defer

end Sys2Proof.Machine
end

