-- ==== Sys2Proof/Machine/Converters.lean ====
section
/-!
DEFINITION. The column converters: conversion, overrange and recovery marks, dark tracking, background trimming and foreground
self-calibration (chapter 5).
-/
namespace Sys2Proof.Machine

/-! ### Conversion (R106 to R110, R120) -/

/-- The input of a converter after its factor set and trims, in 2⁻³² DN: `level` in 1/256 DN, `gain` a deviation in 2⁻²⁴,
`off` in 1/256 DN (R124). -/
def converted (level gain off : Int) : Int := level * (2 ^ 24 + gain) + off * 2 ^ 24

/-- The input lies above full scale, the upper transition of code 4,094 plus 1 DN (R110). -/
def overFull (x : Int) : Bool := 8191 * 2 ^ 31 < x

/-- The input lies below the lower transition of code 1 (R110). -/
def underRange (x : Int) : Bool := x < 2 ^ 31

/-- The 12-bit code of an input (R110). -/
def codeOf (x : Int) : Nat := (clampInt 0 4095 (fdiv (x + 2 ^ 31) (2 ^ 32))).toNat

/-- The gain and offset of converter `i` under trim sets (R113, R117). -/
def Conv.factors (c : Conv) (gt ot : List Int) (i : Nat) : Int × Int :=
  (nth c.gains i 0 + nth gt i 0, nth c.offsets i 0 + nth ot i 0)

/-- The VREFL and VREFH inputs of a converter, 512 DN and 3,584 DN where none are named. -/
def refInput (refs : List (Nat × Int × Int)) (i : Nat) : Int × Int := assocD refs i (131072, 917504)

/-- What a column's converter sees in periods 0 to 63 (R106; object 0x3004:01, R124). -/
def columnInput (d : Dict) (levels : List (Nat × Int)) (refs : List (Nat × Int × Int)) (c : Nat) : Int :=
  match d.get 0x300401 with
  | 1 => (refInput refs (c / 64)).1
  | 2 => (refInput refs (c / 64)).2
  | _ => assocD levels c 0

/-- The converted input of a column of the row being converted. -/
def State.columnX (s : State) (p : Pour) (levels : List (Nat × Int)) (refs : List (Nat × Int × Int)) (c : Nat) : Int :=
  let f := s.conv.factors p.gtrims p.otrims (c / 64)
  converted (columnInput p.cfg levels refs c) f.1 f.2

/-- A column gives an overrange sample; with charge binning an odd position never does (R108, R120). -/
def columnOver (x : Nat → Int) (binned : Bool) (c : Nat) : Bool :=
  !(binned && c % 2 == 1) && overFull (x c)

/-- A column's sample is recovering: one of the two samples before it in its column group is overrange and it is not
overrange itself (R120). -/
def columnRecovers (x : Nat → Int) (binned : Bool) (c : Nat) : Bool :=
  !columnOver x binned c &&
  ((1 ≤ c % 64 && columnOver x binned (c - 1)) || (2 ≤ c % 64 && columnOver x binned (c - 2)))

/-- The sample that a column writes to the ladle. -/
def sampleOf (x : Nat → Int) (binned : Bool) (c : Nat) : Sample :=
  let o := columnOver x binned c
  ⟨c, if o then 4095 else codeOf (x c), o, columnRecovers x binned c⟩

/-- The columns of a flask whose samples are written: live column groups, even positions with charge binning (R69, R108). -/
def writtenColumns (d : Dict) (f : Nat) : List Nat :=
  (flaskGroups d f).flatMap fun g =>
    if colFactor d = 2 then (List.range 32).map fun i => 64 * g + 2 * i else (List.range 64).map fun i => 64 * g + i

/-- Bit `b` (0 OVR, 1 RECRAW) set for column group `g` of its flask in a row mask (R123, R172). -/
def maskBit (mask g b : Nat) : Nat := setBit mask (2 * (g % 16) + b)

/-- The OVR bits of a row mask (R120, R123). -/
def overMask (l : List Sample) : Nat :=
  l.foldl (fun m a => if a.ovr then maskBit m (a.col / 64) 0 else m) 0

/-- The counts of the samples of a row written to a flask's ladle: overrange, object 0x3100, and underrange, object 0x3103
(R110, R120). -/
def State.countSamples (f : Nat) (x : Nat → Int) (l : List Sample) (s : State) : State :=
  let s := s.add (0x310001 + f) (l.filter fun a => a.ovr).length
  s.add (0x310301 + f) (l.filter fun a => underRange (x a.col)).length

/-! ### Dark tracking (R111, R112) -/

/-- The 64 samples of dark converter `n` in a row slot: shielded column, converted input and marks (R111, R120). -/
def darkSamples (x : Nat → Int) (binned : Bool) (n : Nat) : List Sample :=
  let ovr (p : Nat) : Bool := columnOver x binned (16 * n + p % 16)
  (List.range 64).map fun p =>
    let c := 16 * n + p % 16
    ⟨c, if ovr p then 4095 else codeOf (x c), ovr p,
      !ovr p && ((1 ≤ p && ovr (p - 1)) || (2 ≤ p && ovr (p - 2)))⟩

/-- A dark sample is valid (R112). -/
def darkValid (defects : Nat) (binned : Bool) (a : Sample) : Bool :=
  !a.ovr && !a.rcv && !bitAt defects a.col && !(binned && a.col % 2 == 1)

/-- x: the mean of the valid samples in 1/16 DN, halves up, where there are at least 32 (R112). -/
def darkMean (l : List Sample) : Option Nat :=
  if l.length < 32 then none
  else some (roundDiv (16 * (sumNat (l.map fun a => a.raw) : Int)) l.length).toNat

/-- D after an update with x (R112). -/
def darkStep (k d x : Nat) : Nat := ((d : Int) + fdiv ((x : Int) - d) (2 ^ k : Nat)).toNat

/-- The update of one side: its object, the filter exponent of the pour, whether the side's next update sets it, and its mean
(R63, R112). -/
def State.darkUpdate (key k : Nat) (fresh : Bool) (m : Option Nat) (s : State) : State :=
  match m with
  | none => s.inc 0x311004
  | some x => s.wr key (if fresh then x else darkStep k (s.rd key) x)

/-- The samples of dark converter `n` in periods 64 and 65 that an overrange in period 62 or 63 makes recovering (R120). -/
def darkGapMarks (x : Nat → Int) (binned : Bool) (n : Nat) : Nat :=
  let o62 := columnOver x binned (16 * n + 14)
  let o63 := columnOver x binned (16 * n + 15)
  b2n (o62 || o63) + b2n o63

/-- The converted input of a shielded column of the row being converted (R111). -/
def State.darkX (s : State) (p : Pour) (dark : List (Nat × Int)) (c : Nat) : Int :=
  let f := s.conv.factors p.gtrims p.otrims (256 + c / 16)
  converted (assocD dark c 0) f.1 f.2

/-- The valid dark samples of two converters in a row slot that converts a row of pour `p` (R112). -/
def State.validDark (s : State) (p : Pour) (dark : List (Nat × Int)) (n m : Nat) : List Sample :=
  let binned := colFactor p.cfg == 2
  let x := s.darkX p dark
  (darkSamples x binned n ++ darkSamples x binned m).filter (darkValid (s.rd 0x200603) binned)

/-- The dark-tracking unit in a row slot that converts a row of pour `p` (R111, R112, R120). -/
def State.darkTracking (p : Pour) (dark : List (Nat × Int)) (s : State) : State :=
  let binned := colFactor p.cfg == 2
  let x := s.darkX p dark
  let left := darkSamples x binned 0 ++ darkSamples x binned 1
  let right := darkSamples x binned 2 ++ darkSamples x binned 3
  let ml := darkMean (s.validDark p dark 0 1)
  let mr := darkMean (s.validDark p dark 2 3)
  let s := s.add 0x310401 (((left ++ right).filter fun a => a.ovr || a.rcv).length +
    sumNat ((List.range 4).map (darkGapMarks x binned)))
  let k := p.cfg.get 0x311001
  let s := s.darkUpdate 0x311002 k s.conv.freshL ml
  let s := s.darkUpdate 0x311003 k s.conv.freshR mr
  s.onConv fun c => { c with freshL := c.freshL && ml.isNone, freshR := c.freshR && mr.isNone }

/-- Dark tracking restarts: the next update of each side sets it (R112, R354, R379). -/
def State.darkRestart (s : State) : State := s.onConv fun c => { c with freshL := true, freshR := true }

/-! ### Background trimming (R117 to R119) -/

/-- The converters whose row slot is left out: an overrange sample at position 62 or 63 (R117, R120). -/
def trimLeftOut (x : Nat → Int) (binned : Bool) (columns : List Nat) : List Nat :=
  ((columns.filter fun c => 62 ≤ c % 64).filter (columnOver x binned)).map (· / 64)

/-- One converter's sums after a row slot (R117). -/
def TrimSum.add (t : TrimSum) (left : Bool) (l h : Nat) : TrimSum :=
  if left then { t with out := t.out + 1 } else { t with l := t.l + l, h := t.h + h, n := t.n + 1 }

/-- No trim period is under way and no pending set waits. -/
def State.dropTrims (s : State) : State :=
  s.onConv fun c => { c with
    pendG := c.pendG.map fun _ => none, pendO := c.pendO.map fun _ => none
    sums := c.sums.map fun _ => ⟨0, 0, 0, 0⟩, slots := 0 }

/-- A row slot in the trim averages: VREFL and VREFH are converted with the latest live set (R117, R118). A period takes 2^m
slots; with trimming off the trims stay as they are and nothing is pending. -/
def State.trimSlot (refs : List (Nat × Int × Int)) (out : List Nat) (s : State) : State :=
  if s.rd 0x300201 = 0 then s.dropTrims
  else if s.conv.calAt.isSome ∨ 2 ^ s.rd 0x300202 ≤ s.conv.slots then s
  else
    let code (i : Nat) (v : Int) : Nat :=
      let f := s.conv.factors s.conv.gtrims s.conv.otrims i
      codeOf (converted v f.1 f.2)
    let s := s.add 0x310501 (out.filter (· < 256)).length
    s.onConv fun c => { c with
      sums := c.sums.mapIdx fun i t => t.add (out.contains i) (code i (refInput refs i).1) (code i (refInput refs i).2)
      slots := c.slots + 1 }

/-- A trim moved towards a target by at most `step`, held within ±`limit` (R117, R119). -/
def trimMove (step limit cur target : Int) : Int :=
  clampInt (-limit) limit (clampInt (cur - step) (cur + step) target)

/-- The gain trim that makes H − L equal 3,072 DN, for factor `g`, trim `gt` and sums over `n` slots; a free value where H
is not above L (log entry 2). -/
def gainTarget (free : Int) (g gt : Int) (t : TrimSum) : Int :=
  if t.h ≤ t.l then gt + free % 513 - 256
  else roundDiv ((2 ^ 24 + g + gt) * 3072 * t.n) (t.h - t.l) - 2 ^ 24 - g

/-- The offset trim that makes L equal 512 DN (R117). -/
def offsetTarget (ot : Int) (t : TrimSum) : Int := ot + 131072 - roundDiv (256 * t.l) t.n

/-- One converter makes a pending trim set from its averages (R117), unless more than half its slots were left out. -/
def pendingTrim (free : Int) (g gt ot : Int) (slots : Nat) (t : TrimSum) : Option (Int × Int) :=
  if slots < 2 * t.out ∨ t.n = 0 then none
  else some (trimMove (fdiv (2 ^ 24 + g) 65536) 167772 gt (gainTarget free g gt t),
    trimMove 4 4096 ot (offsetTarget ot t))

/-- The trims lie beyond the drift limits of R119: ±0.5 % of gain or ±8 DN. -/
def trimDrifts (p : Int × Int) : Bool := 83886 < p.1.natAbs || 2048 < p.2.natAbs

/-- Flag a converter whose trims drifted and log it once (R119). -/
def State.driftCheck (s : State) (i : Nat) (p : Option (Int × Int)) : State :=
  match p with
  | none => s
  | some p =>
    if trimDrifts p ∧ !bitAt (s.rd 0x301101) i then
      (s.wr 0x301101 (setBit (s.rd 0x301101) i)).logEvent 0x0204
        (leBytes 2 i ++ [0, 0] ++ leBytes 4 (ofSigned 32 p.1) ++ leBytes 2 (ofSigned 16 p.2))
    else s

/-- The reference means of the trim period as 16-bit entries in 1/16 DN (R124). -/
def packMeans (l : List Nat) : Nat := leNat (l.flatMap (leBytes 2))

/-- TRIM_PERIOD_END (R117, R119): after 2^m row slots every converter forms its pending set and checks its drift. The set is
reckoned from the live trims, not from the pending set it replaces (DESIGN CHOICE, log entry 62). -/
def execTrimPeriodEnd (s : State) : Host.Outcome State Fault Refusal :=
  let c := s.conv
  if c.slots < 2 ^ s.rd 0x300202 ∨ s.rd 0x300201 = 0 then .next s
  else
    let pend := (List.range 260).map fun i =>
      pendingTrim (Config.freeValue (s.free + i)) (nth c.gains i 0) (nth c.gtrims i 0) (nth c.otrims i 0) c.slots
        (nth c.sums i ⟨0, 0, 0, 0⟩)
    let mean (f : TrimSum → Int) (t : TrimSum) : Nat := if t.n = 0 then 0 else (roundDiv (16 * f t) t.n).toNat
    let s := { s with free := s.free + 260 }
    let s := s.wr 0x301201 (packMeans (c.sums.map (mean TrimSum.l)))
    let s := s.wr 0x301202 (packMeans (c.sums.map (mean TrimSum.h)))
    let s := s.onConv fun c => { c with
      pendG := List.zipWith (fun a p => if p.isSome then p.map Prod.fst else a) c.pendG pend
      pendO := List.zipWith (fun a p => if p.isSome then p.map Prod.snd else a) c.pendO pend
      sums := c.sums.map fun _ => ⟨0, 0, 0, 0⟩
      slots := 0 }
    .next ((List.range 260).foldl (fun s i => s.driftCheck i (nth pend i none)) s)

/-- At a pour boundary the pending sets come into force, unless trimming is off, and the boundary is counted (R117, R118;
object 0x3001:04). -/
def State.takeTrims (s : State) : State :=
  (if s.rd 0x300201 = 0 then s.dropTrims
  else s.onConv fun c => { c with
    gtrims := List.zipWith (fun a p => p.getD a) c.gtrims c.pendG
    otrims := List.zipWith (fun a p => p.getD a) c.otrims c.pendO
    pendG := c.pendG.map fun _ => none
    pendO := c.pendO.map fun _ => none }).inc 0x300104

/-! ### Foreground self-calibration (R113 to R116) -/

/-- A converter's measurement fails (R113): weights ±3 %, gain ±4 %, offset ±32 DN, nonlinearity ±2 LSB. -/
def measureFails (m : ConvMeasure) : Bool :=
  m.weights.any (fun w => 3 * 2 ^ 24 < 100 * w.natAbs) || 4 * 2 ^ 24 < 100 * m.gain.natAbs ||
  8192 < m.offset.natAbs || 512 < m.inl

/-- The measurement of converter `i`, nominal where none is named. -/
def measureOf (l : List ConvMeasure) (i : Nat) : ConvMeasure :=
  (l.find? fun m => m.conv == i).getD ⟨i, [0, 0, 0, 0], 0, 0, 0⟩

/-- The converters of a run that fail. -/
def failedConverters (l : List ConvMeasure) : List Nat := (List.range 260).filter fun i => measureFails (measureOf l i)

/-- A pour has rows still to be read or converted (R115). -/
def State.rowsToConvert (s : State) : Bool :=
  s.image.sampled.isSome || s.image.pours.any fun p => p.exps.any fun e => !e.toRead.isEmpty

/-- A user calibration run is in progress (R144, R160). -/
def State.calRunning (s : State) : Bool := s.corr.cal.isSome

/-- A map commit or upload write is in progress (R115, R154). -/
def State.mapCommitting (s : State) : Bool := s.corr.mapWrite.isSome

/-- The foreground self-calibration begins (R113). -/
def State.startSelfCal (s : State) (startup : Bool) : State :=
  (s.wr 0x300102 1).onConv fun c => { c with calAt := some s.now, startup := startup, rerun := false }

/-- The host asks for a foreground self-calibration (R113, R115, R353). -/
def State.hostSelfCal (s : State) : State :=
  if s.rd 0x210002 ≠ 0 ∨ s.rd 0x340101 ≠ 0 ∨ s.rowsToConvert ∨ s.conv.calAt.isSome ∨ s.calRunning ∨
      s.mapCommitting ∨ s.therm.quench then s.refuse abortState
  else s.startSelfCal false

/-- FOREGROUND_SELF_CALIBRATION (R113, R115, R353). -/
def execForegroundSelfCalibration (tr : Transport) (v : Nat) (s : State) : Host.Outcome State Fault Refusal :=
  .next (s.hostCommand tr 0x300101 v State.hostSelfCal)

/-- The part enters quench during a run: the run is abandoned (R116). -/
def State.abandonSelfCal (s : State) : State :=
  if s.conv.calAt.isNone then s
  else (s.wr 0x300102 4).onConv fun c => { c with calAt := none, rerun := c.startup }

/-- The new factor sets of a run: a failed converter keeps its set (R114). -/
def newSets {α : Type} (l : List ConvMeasure) (f : ConvMeasure → α) (old : List α) : List α :=
  old.mapIdx fun i v => if measureFails (measureOf l i) then v else f (measureOf l i)

/-- The VCORE loop starts after the converter self-calibration of start-up, in the mode of object 0x6802:01 (R26, R368). -/
def State.startLoop (s : State) : State :=
  let s := if s.rd 0x680201 = 1 then s.wr 0x680203 (s.rd 0x680202) else s
  s.onPace fun p => { p with running := true, evalAt := s.now + us 64, changedAt := none, above := 0 }

/-- SELF_CALIBRATION_RESULT (R113, R114): after 38.0 ms the result is posted and the sets are taken. -/
def execSelfCalibrationResult (measured : List ConvMeasure) (s : State) : Host.Outcome State Fault Refusal :=
  match s.conv.calAt with
  | none => .next s
  | some t =>
    if s.now < t + ms 38 then .next s
    else
      let failed := failedConverters measured
      let startup := s.conv.startup
      let s := s.onConv fun c => { c with
        weights := newSets measured ConvMeasure.weights c.weights
        gains := newSets measured ConvMeasure.gain c.gains
        offsets := newSets measured ConvMeasure.offset c.offsets
        gtrims := c.gtrims.map fun _ => 0
        otrims := c.otrims.map fun _ => 0
        pendG := c.pendG.map fun _ => none
        pendO := c.pendO.map fun _ => none
        sums := c.sums.map fun _ => ⟨0, 0, 0, 0⟩
        slots := 0
        calAt := none
        startup := false }
      let s := s.darkRestart
      let s := s.wr 0x301101 (failed.foldl (fun m i => if bitAt (s.rd 0x301101) i then setBit m i else m) 0)
      let s := s.wr 0x300104 0
      let s := if failed = [] then (s.wr 0x300102 2).wr 0x300103 0
        else ((s.wr 0x300102 3).wr 0x300103 (failed.foldl setBit 0)).logEvent 0x0203
          (leBytes 2 failed.length ++ leBytes 2 (nth failed 0 0))
      let s := s.onPower fun p => { p with selfCalDone := true }
      .next (if startup then s.startLoop else s)

/-- The counts of object 0x3106:01 are cleared (R124). -/
def State.clearConverterCounts (s : State) : State :=
  s.zero (rangeFrom 0x310001 16 ++ rangeFrom 0x310101 16 ++ rangeFrom 0x310201 16 ++ rangeFrom 0x310301 16 ++
    [0x310401, 0x310501])

/-- CLEAR_CONVERTER_COUNTS (R124). -/
def execClearConverterCounts (tr : Transport) (v : Nat) (s : State) : Host.Outcome State Fault Refusal :=
  .next (s.hostCommand tr 0x310601 v State.clearConverterCounts)

end Sys2Proof.Machine
end

