-- ==== Sys2Proof/Machine/Correction.lean ====
section
/-!
DEFINITION. Pixel correction: map entries, temperature sets, interpolation and the corrected value of one pixel (R125 to R142),
and the replacement of recovering samples (R121, R122).
-/
namespace Sys2Proof.Machine

/-! ### Map entries (R125, R126, R130) -/

/-- The index of pixel (r, c) in a bank (R126). -/
def pixelIndex (r c : Nat) : Nat := 16384 * r + c

/-- The entry of a bank at a pixel index. -/
def Bank.entry (b : Bank) (i : Nat) : Nat := assocD b.cells i (if b.factory then factoryMap i else 0)

/-- The MRAM word address of a pixel's entry: bank A lies at byte 0 of MRAM, bank B at 32 MiB (log entry 8). -/
def entryWord (bank i : Nat) : Nat := 524288 * bank + i / 32

/-- The entry that a pour uses for a pixel: its bank's, zero without a live bank (R128, R129); DEF is 1 in a word that read
uncorrectable in this pour (R33). -/
def State.mapEntry (s : State) (p : Pour) (r c : Nat) : Nat :=
  let i := pixelIndex r c
  let e := if p.bank = 0xFF then 0 else (s.bankOf p.bank).entry i
  if p.bank ≠ 0xFF ∧ p.bad.contains (entryWord p.bank i) then setBit e 15 else e

/-- DEF of an entry (R125). -/
def entryDef (e : Nat) : Bool := bitAt e 15

/-- SLOPE of an entry (R125). -/
def entrySlope (e : Nat) : Nat := field e 14 13

/-- DOFS of an entry, DN (R125). -/
def entryOffset (e : Nat) : Int := toSigned 6 (field e 12 7)

/-- GTRIM of an entry, 0.1 % (R125). -/
def entryTrim (e : Nat) : Int := toSigned 7 (field e 6 0)

/-! ### Temperature sets (R131 to R133) -/

/-- The byte offset of a point in a slot (R131). -/
def pointBase (i : Nat) : Nat := 4096 + 102400 * i

/-- The temperatures of the factory set, 25, 40, 55, 70 and 85 °C, in 1/16 °C (R133). -/
def factoryPoint (i : Nat) : Nat := nth [400, 640, 880, 1120, 1360] i 0

/-- The 16-bit word at an even byte offset of a slot (R131, R132). -/
def SetSlot.word (t : SetSlot) (off : Nat) : Nat :=
  assocD t.words (off / 2)
    (if !t.factory then 0
      else if 4096 ≤ off ∧ (off - 4096) % 102400 = 0 ∧ (off - 4096) / 102400 < 5 then factoryPoint ((off - 4096) / 102400)
      else Config.factoryWord (off / 2) % 65536)

/-- A signed quantity at an offset of point `i` (R132). -/
def SetSlot.signed (t : SetSlot) (i off : Nat) : Int := toSigned 16 (t.word (pointBase i + off))

/-- An unsigned quantity at an offset of point `i` (R132). -/
def SetSlot.unsigned (t : SetSlot) (i off : Nat) : Int := (t.word (pointBase i + off) : Int)

/-- T_i in 1/16 °C (R132). -/
def SetSlot.temp (t : SetSlot) (i : Nat) : Int := t.signed i 0

/-- Q(T) between points i and i + 1 with weight α (R136). -/
def interpolate (q0 q1 : Int) (alpha : Nat) : Int := q0 + fdiv (alpha * (q1 - q0)) 256

/-- The bracket index and weight for a temperature, and whether it lies outside the points (R136). -/
def SetSlot.bracket (t : SetSlot) (temp : Int) : Nat × Nat × Bool :=
  if temp < t.temp 0 then (0, 0, true)
  else if t.temp 4 < temp then (3, 256, true)
  else
    let i := if t.temp 3 ≤ temp then 3 else if t.temp 2 ≤ temp then 2 else if t.temp 1 ≤ temp then 1 else 0
    (i, (fdiv (256 * (temp - t.temp i)) (t.temp (i + 1) - t.temp i)).toNat, false)

/-- A signed quantity of the pour's set at its bracket (R136). -/
def Pour.signedQ (p : Pour) (off : Nat) : Int :=
  interpolate (p.set.signed p.tempI off) (p.set.signed (p.tempI + 1) off) p.alpha

/-- An unsigned quantity of the pour's set at its bracket (R136). -/
def Pour.unsignedQ (p : Pour) (off : Nat) : Int :=
  interpolate (p.set.unsigned p.tempI off) (p.set.unsigned (p.tempI + 1) off) p.alpha

/-- d_k (R132, R137). -/
def Pour.slope (p : Pour) (k : Nat) : Int := p.signedQ (2 + 2 * k)

/-- Dref_L or Dref_R (`side` 0 or 1) for the live binning mode (R132, R138). -/
def Pour.darkRef (p : Pour) (side : Nat) : Int := p.unsignedQ (10 + 4 * p.cfg.get 0x213001 + 2 * side)

/-- a_n, the gain trim of converter `n` of the set (R132). -/
def Pour.convGain (p : Pour) (n : Nat) : Int := p.signedQ (24 + 4 * n)

/-- b_n, the offset trim of converter `n` of the set (R132). -/
def Pour.convOffset (p : Pour) (n : Nat) : Int := p.signedQ (26 + 4 * n)

/-- The offset in a point of Dcol for column `c` in a binning mode (R132, R137). -/
def dcolOffset (mode c : Nat) : Nat :=
  match mode with
  | 1 => 33832 + c / 2 * 2
  | 2 => 50216 + c / 2 * 2
  | _ => 1064 + 2 * c

/-- Dcol for column `c`, the anchor column of a binned pixel (R137). -/
def Pour.dcol (p : Pour) (c : Nat) : Int := p.signedQ (dcolOffset (p.cfg.get 0x213001) c)

/-- Gcol for column `c`; for a binned pixel the mean of its two columns (R139). -/
def Pour.gcol (p : Pour) (c : Nat) : Int :=
  if colFactor p.cfg = 2 then
    fdiv (p.unsignedQ (66600 + 2 * c) + p.unsignedQ (66600 + 2 * (c + 1)) + 1) 2
  else p.unsignedQ (66600 + 2 * c)

/-- Knot k of the lighting profile of a state (R139). -/
def knot (d : Dict) (k : Nat) : Nat := d.get 0x410001 / 65536 ^ k % 65536

/-- L(c) (R139). -/
def profile (d : Dict) (c : Nat) : Nat :=
  (knot d (c / 16) * (16 - c % 16) + knot d (c / 16 + 1) * (c % 16) + 8) / 16

/-! ### Steps 2 to 4 (R137 to R141) -/

/-- Δ(c) in a row whose dark estimates are `dl`, `dr` (R138). -/
def Pour.delta (p : Pour) (dl dr : Option Nat) (c : Nat) : Int :=
  match dl, dr with
  | some l, some r =>
    if p.cfg.get 0x400005 = 0 then 0
    else
      let a := (l : Int) - p.darkRef 0
      let b := (r : Int) - p.darkRef 1
      a + fdiv ((b - a) * (2 * c + 1)) 32768
  | _, _ => 0

/-- D16 of a pixel with map entry `e` (R137, R141). -/
def Pour.dark16 (p : Pour) (dl dr : Option Nat) (e c : Nat) : Int :=
  if p.cfg.get 0x400001 = 0 then 0
  else p.dcol c + 16 * entryOffset e + p.slope (entrySlope e) + p.convOffset (c / 64) + p.delta dl dr c

/-- G in 2⁻¹⁶, to the nearest (R139, R141). -/
def Pour.gain16 (p : Pour) (e c : Nat) : Int :=
  let t := if p.cfg.get 0x400002 = 0 then 0 else entryTrim e
  if p.cfg.get 0x400003 = 0 then roundDiv (65536 * (1000 + t)) 1000
  else
    roundDiv (p.gcol c * (1000 + t) * (65536 + p.convGain (c / 64)) * profile p.cfg c * 65536)
      (32768 * 1000 * 65536 * 16384)

/-- y before the clamp (R140). -/
def correctedRaw (bout : Nat) (x : Nat) (d16 g16 : Int) : Int :=
  bout + fdiv ((16 * (x : Int) - d16) * g16 + 8 * 65536) (16 * 65536)

/-- A pixel on its way through steps 2 to 5: column, value, overrange bit, recovering passed raw, DEF, clipped at 4,095. -/
structure Pix where
  col  : Nat
  val  : Nat
  ovr  : Bool
  raw  : Bool
  dfct : Bool
  clip : Bool
  deriving DecidableEq, Repr

/-- Steps 2 to 4 for one sample; an overrange sample bypasses them (R140). -/
def Pour.correct (p : Pour) (dl dr : Option Nat) (e : Nat) (dfct : Bool) (c x : Nat) (ovr raw : Bool) : Pix :=
  if ovr then ⟨c, 4095, true, raw, dfct, false⟩
  else
    let y := correctedRaw (p.cfg.get 0x400006) x (p.dark16 dl dr e c) (p.gain16 e c)
    ⟨c, (clampInt 0 4095 y).toNat, false, raw, dfct, 4095 < y⟩

/-! ### Step 5 (R142) -/

/-- A neighbour that a defect may be replaced from. -/
def usablePix (q : Option Pix) : Option Pix := q.filter fun q => !q.dfct && !q.raw

/-- The output column next to `c` on one side, in the same row read (R142). -/
def pixAt (l : List Pix) (c : Nat) : Option Pix := l.find? fun q => q.col == c

/-- The output of step 5 for a pixel and the counts of objects 0x4020 (replaced) and 0x4021 (left) (R142). -/
def substitute (on : Bool) (stepc : Nat) (l : List Pix) (q : Pix) : Pix × Nat × Nat :=
  if !on || !q.dfct then (q, 0, 0)
  else
    match usablePix (if stepc ≤ q.col then pixAt l (q.col - stepc) else none), usablePix (pixAt l (q.col + stepc)) with
    | some a, some b => ({ q with val := (a.val + b.val + 1) / 2, ovr := a.ovr || b.ovr }, 1, 0)
    | some a, none => ({ q with val := a.val, ovr := a.ovr }, 1, 0)
    | none, some b => ({ q with val := b.val, ovr := b.ovr }, 1, 0)
    | none, none => (q, 0, 1)

/-! ### Step 1 (R121, R122) -/

/-- The raw code of a column in an adjacent row, where it is usable (R122). -/
def usableSample (r : Option LadleRow) (c : Nat) : Option Nat :=
  match r with
  | none => none
  | some r =>
    if r.slag then none
    else ((r.samples.find? fun a => a.col == c).filter fun a => !a.ovr && !a.rcv).map fun a => a.raw

/-- Step 1 for one sample: its code, and whether it was replaced or passed raw (R121). -/
def recoverSample (mode : Nat) (prev next : Option LadleRow) (a : Sample) : Nat × Bool × Bool :=
  if !a.rcv then (a.raw, false, false)
  else if mode = 1 then (a.raw, false, true)
  else
    match usableSample prev a.col, usableSample next a.col with
    | some x, some y => ((x + y + 1) / 2, true, false)
    | some x, none => (x, true, false)
    | none, some y => (y, true, false)
    | none, none => (a.raw, false, true)

end Sys2Proof.Machine
end

