-- ==== Sys2Proof/Machine/Maps.lean ====
section
/-!
DEFINITION. The correction-map banks and temperature sets in MRAM (R126 to R136), the staged view (R191), and the load of the
second set cache (R135).
-/
namespace Sys2Proof.Machine

/-! ### Banks (R126 to R129, R155) -/

/-- CRCT matches the segment CRC table (R127, R128); the table as shipped matches (log entry 3). -/
def Bank.tableOk (b : Bank) : Bool := b.crcs.isEmpty || b.crct == crc32 (b.crcs.flatMap (leBytes 4))

/-- The header makes the bank usable at a start (R128). -/
def Bank.usable (b : Bank) : Bool := b.headerOk && b.state == 3 && b.tableOk

/-- The live bank: 0 A, 1 B, 0xFF none (R128). -/
def State.liveBank (s : State) : Nat := s.rd 0x401001

/-- The bank that a map commit or upload writes: the one that is not live; with none live the one that is not the factory
bank (log entry 9). -/
def State.idleBank (s : State) : Nat :=
  match s.liveBank with
  | 0 => 1
  | 1 => 0
  | _ => if s.factoryBank = 0 then 1 else 0

/-- The bank may be made live: its STATE is 0x02 or 0x03 (R155). -/
def State.bankSelectable (s : State) (n : Nat) : Bool :=
  n ≤ 1 && ((s.bankOf n).state == 2 || (s.bankOf n).state == 3)

/-- The header is written with a STATE (R127, R154). -/
def State.bankState (n st : Nat) (s : State) : State := s.writeHeader n fun b => { b with state := st }

/-- The header is written with STATE 0x01; the bank no longer counts as holding the factory map (R127, R154, R158). -/
def State.beginBank (n : Nat) (s : State) : State :=
  (s.writeHeader n fun b => { b with state := 1, origin := false }).onCorr fun c => { c with
    newCrcs := List.replicate 32 0, spoil := c.spoil.filter (· != n) }

/-- The entries of segment `g`, as the bytes of the bank hold them (R126). -/
def segmentBytes (data : List (Nat × Nat)) : List Byte := data.flatMap fun e => leBytes 2 e.2

/-- Segment `g` is written with the entries of `data` and its CRC is noted (R126, R154). -/
def State.writeSegment (n g : Nat) (data : List (Nat × Nat)) (s : State) : State :=
  let s := s.onBank n fun b => { b with cells := data ++ b.cells.filter fun e => e.1 / 524288 != g }
  (s.wroteWords (524288 * n + 16384 * g, 16384)).onCorr fun c => { c with
    newCrcs := setNth c.newCrcs g (crc32 (segmentBytes data)) }

/-- The segment CRC table and the header with STATE 0x02 are written (R154, R158). -/
def State.verifyBank (n : Nat) (s : State) : State :=
  (s.writeHeader n fun b => { b with
    state := 2, crcs := s.corr.newCrcs, crct := crc32 (s.corr.newCrcs.flatMap (leBytes 4)) }).wroteWords (tableWords n)

/-- The MRAM-die write inhibit is in force (R355). -/
def State.inhibited (s : State) : Bool := s.rd 0x6A0003 == 1

/-- The generation write: the bank goes live with STATE 0x03 and GEN one above the live GEN (R154, R155). -/
def State.generationWrite (n : Nat) (s : State) : State :=
  let old := if s.liveBank = 0xFF then max s.mram.bankA.gen s.mram.bankB.gen else (s.bankOf s.liveBank).gen
  let gen := (old + 1) % 2 ^ 32
  let s := s.writeHeader n fun b => { b with state := 3, gen := gen }
  let s := s.wr 0x401001 n
  let s := if s.corr.waiting = some n then
      let s := if s.rd 0x420008 = 4 then s.wr 0x420008 5 else s
      let s := if s.rd 0x421005 = 2 then s.wr 0x421005 3 else s
      s.onCorr fun c => { c with waiting := none }
    else s
  s.logEvent 0x0307 (leBytes 1 n ++ [0, 0, 0] ++ leBytes 4 gen)

/-- A pour that reads the bank has rows still to be read (R129). -/
def State.bankInUse (s : State) (n : Nat) : Bool :=
  s.image.pours.any fun p => p.bank == n && (p.left.any fun l => l.2 != 0)

/-! ### Temperature sets (R131 to R136) -/

/-- The slot holds the current copy of logical set `n` (R131, R134). -/
def SetSlot.holds (n : Nat) (t : SetSlot) : Bool := t.current && t.set == n

/-- The current copy of a logical set (R134). -/
def State.setCopy (s : State) (n : Nat) : Option SetSlot := s.mram.sets.find? (SetSlot.holds n)

/-- The words of the slot with the current copy of a logical set (R131). -/
def State.copyWords (s : State) (n : Nat) : WordRange := setWords (s.mram.sets.findIdx (SetSlot.holds n))

/-- The set is empty (R134). -/
def State.setEmpty (s : State) (n : Nat) : Bool := (s.setCopy n).isNone

/-- The five points of a copy (R133, R160). -/
def SetSlot.points (t : SetSlot) : List Int := (List.range 5).map t.temp

/-- Every word of a slot from offset 4,096 to 516,095, as a copy holds it (R131). -/
def SetSlot.allWords (t : SetSlot) : List (Nat × Nat) :=
  (rangeFrom 2048 256000).map fun i => (i, t.word (2 * i))

/-- The CRC-32 of the bytes 4,096 to 516,095 of a slot (R131). -/
def SetSlot.dataCrc (t : SetSlot) : Nat := crc32 (t.allWords.flatMap fun w => leBytes 2 w.2)

/-- The data CRC is correct (R134); that of the factory's own words is (log entry 3). -/
def SetSlot.dataOk (t : SetSlot) : Bool := t.factory || t.dcrc == t.dataCrc

/-- The steps of a set commit (R134): the copy stands in the first free slot, its header makes it current, and the slot of the
old copy becomes free. -/
def State.setBecomes (n : Nat) (words : List (Nat × Nat)) (s : State) : State :=
  let gen := match s.setCopy n with
    | some t => (t.gen + 1) % 2 ^ 32
    | none => 0
  let i := s.mram.sets.findIdx fun t => !t.current
  let t : SetSlot := ⟨setTag, n, gen, 0, 0, false, words⟩
  (s.onMram fun m => { m with
    sets := setNth (m.sets.map fun t => if t.holds n then t.freed else t) i
      { t with dcrc := t.dataCrc }.sealed }).wroteWords (setWords i)

/-- T, the latest result of the pixel-die channel (R136). -/
def State.pixelTemp (s : State) : Int := toSigned 32 (s.rd 0x601019)

/-- The bracket is fixed for a pour: objects 0x4001:02 to 05, and the event once per excursion (R136). -/
def State.fixTemp (s : State) : State × Nat × Nat :=
  let t := s.pixelTemp
  let (i, a, out) := s.corr.cache.bracket t
  let s := ((s.wr 0x400102 (ofSigned 16 t)).wr 0x400103 i).wr 0x400104 a
  let s := if out then
      let s := s.inc 0x400105
      if s.corr.outside then s
      else s.logEvent 0x0303 (leBytes 2 (ofSigned 16 t) ++ leBytes 1 (s.rd 0x400101))
    else s
  (s.onCorr fun c => { c with outside := out }, i, a)

/-! ### The staged view (R191) -/

/-- The values that the queued entries and the loose set will make live, in order (R191). -/
def State.stagedWrites (s : State) : Dict :=
  Dict.putAll (s.stage.queue.foldl (fun d e => Dict.putAll d e.values) []) s.stage.loose

/-- The staged view of an object (R191). -/
def State.staged (s : State) (k : Nat) : Nat := (Dict.find s.stagedWrites k).getD (s.rd k)

/-- The live values after every queued entry and then `own` (R198). -/
def State.combined (s : State) (own : Dict) : Dict :=
  Dict.setAll (s.stage.queue.foldl (fun d e => Dict.setAll d e.values) s.dict) own

/-- The load of a second cache begins (R135). -/
def State.startCacheLoad (s : State) : State :=
  (s.wr 0x400106 1).onCorr fun c => { c with loading := some s.now }

/-- A change of the staged active set or the staged charge binning starts a cache load (R135). -/
def State.watchCache (f : State → State) (s : State) : State :=
  let t := f s
  if t.staged 0x400101 != s.staged 0x400101 || t.staged 0x213001 != s.staged 0x213001 then t.startCacheLoad else t

end Sys2Proof.Machine
end

