-- ==== Sys2Proof/Machine/Packets.lean ====
section
/-!
DEFINITION. Packets and their bytes (R167 to R174), the tundish, admission and drops (R183 to R187), and the dispatch queues
(R175).
-/
namespace Sys2Proof.Machine

/-! ### The bytes of a packet (R168, R169, R171) -/

/-- Samples as a format holds them (R171). -/
def packSamples (fmt : Nat) : List Nat → List Byte
  | [] => []
  | [a] => if fmt = 0 then leBytes 3 a else leBytes 2 a
  | a :: b :: l => (if fmt = 0 then leBytes 3 (a + 4096 * b) else leBytes 2 a ++ leBytes 2 b) ++ packSamples fmt l

/-- LEN (R168). -/
def Packet.payloadLen (p : Packet) : Nat := payloadBytes p.fmt p.pixels.length

/-- L, the length of the packet (R168). -/
def Packet.length (p : Packet) : Nat := 68 + 4 * p.masks.length + p.payloadLen

/-- The block count (R167). -/
def Packet.blocks (p : Packet) : Nat := blocksOf p.length

/-- The lane bytes (R167). -/
def Packet.laneBytes (p : Packet) : Nat := 8 * p.blocks

/-- The bits [479:0] of the header (R169). -/
def Sending.header (q : Sending) : Nat :=
  let p := q.pkt
  p.typ + 2 ^ 8 * p.flask + 2 ^ 12 * p.plane + 2 ^ 14 * p.therm + 2 ^ 16 * p.tstep + 2 ^ 20 * p.fmt + 2 ^ 32 * q.seq +
  2 ^ 64 * p.sver + 2 ^ 128 * p.pour + 2 ^ 192 * p.rtime + 2 ^ 256 * p.enc + 2 ^ 288 * p.ewrap + 2 ^ 304 * p.mould +
  2 ^ 320 * q.slag + 2 ^ 336 * p.ovrc + 2 ^ 352 * q.ospd + 2 ^ 368 * b2n p.last + 2 ^ 369 * b2n p.osflag +
  2 ^ 370 * b2n p.mixed + 2 ^ 371 * b2n p.rev + 2 ^ 372 * b2n p.rstrt + 2 ^ 373 * b2n q.lostn + 2 ^ 384 * p.row +
  2 ^ 400 * p.arow + 2 ^ 416 * p.payloadLen + 2 ^ 432 * nth p.neff 0 0 + 2 ^ 441 * nth p.neff 1 0 +
  2 ^ 450 * nth p.neff 2 0 + 2 ^ 459 * nth p.neff 3 0 + 2 ^ 468 * p.bands

/-- The bytes of a packet: header with HCRC, row masks, payload, PCRC (R168, R169). -/
def Sending.bytes (q : Sending) : List Byte :=
  let h := leBytes 60 q.header
  let body := q.pkt.masks.flatMap (leBytes 4) ++ packSamples q.pkt.fmt q.pkt.pixels
  h ++ leBytes 4 (crc32 h) ++ body ++ leBytes 4 (if body.isEmpty then 0 else crc32 body)

/-! ### The tundish (R183) -/

/-- The co-registration reserve in force (R100, R186). -/
def State.reserve (s : State) : Nat := if s.tdi.reserveZero then 0 else reserveOf s.dict

/-- The send area (R183). -/
def State.sendArea (s : State) : Nat := tundishBytes - s.reserve

/-- A pour of the tundish is held for DMA (R316). -/
def State.held (s : State) (t : TPour) : Bool := s.dma.heldIdx == some t.idx

/-- The bytes that a pour has booked for each sprue: all of them while it is held (R183, R316). -/
def State.bookedOf (s : State) (t : TPour) : List Nat := if s.held t then t.sizes else t.sprues

/-- The bytes booked for a sprue. -/
def State.queuedFor (s : State) (sp : Nat) : Nat :=
  sumNat (s.lanes.tundish.map fun t => nth (s.bookedOf t) sp 0)

/-- The bytes booked in the send area (object 0x9021:02). -/
def State.booked (s : State) : Nat := sumNat (s.lanes.tundish.map fun t => sumNat (s.bookedOf t))

/-- A pour with these sizes in the sprues can be admitted (R184). -/
def State.fits (s : State) (sizes : List Nat) : Bool :=
  s.booked + sumNat sizes ≤ s.sendArea &&
  (List.range 4).all fun sp => s.queuedFor sp + nth sizes sp 0 ≤ sprueLimit

/-- The highest booked bytes rise (object 0x9021:07). -/
def State.markBooked (s : State) : State := s.wr 0x902107 (max (s.rd 0x902107) s.booked)

/-! ### Head entries and credit (R176 to R178) -/

/-- The head entry of a sprue's queue; notices go ahead of packets (R175). -/
def State.headOf (s : State) (sp : Nat) : Option Packet :=
  match nth s.lanes.notices sp [] with
  | n :: _ => some n
  | [] => (nth s.lanes.queues sp []).head?

/-- Available credit of a lane (R177). -/
def State.credit (s : State) (n : Nat) : Nat :=
  let c := (s.rd (0x901001 + n) + 2 ^ 32 - s.rd (0x901101 + n)) % 2 ^ 32
  if 2 ^ 31 ≤ c then 0 else c

/-- Downlink n carries packets: released, enabled, not in a test pattern and not in a retrain (R166, R176). -/
def State.laneOpen (s : State) (n : Nat) : Bool :=
  s.lanes.released && bitAt (s.rd 0x900101) n && !(s.rd 0x900106 != 0 && bitAt (s.rd 0x900107) n) &&
  (nth s.lanes.lanes n Lane.reset).retrainUntil.isNone

/-- The lanes of a sprue (R163). -/
def sprueLanes (sp : Nat) : List Nat := rangeFrom (8 * sp) 8

/-- The head entry of a sprue waits for credit: there are open lanes and none has credit for it. -/
def State.creditWait (s : State) (sp : Nat) : Bool :=
  match s.headOf sp with
  | none => false
  | some p =>
    let l := (sprueLanes sp).filter s.laneOpen
    !l.isEmpty && l.all fun n => s.credit n < p.blocks

/-- Since when each head entry waits for credit (R178). -/
def State.watchHeads (s : State) : State :=
  s.onLanes fun l => { l with
    headSince := (List.range 4).map fun sp =>
      if s.creditWait sp then some ((nth l.headSince sp none).getD s.now) else none }

/-- The head entry of a sprue starts or goes: a stall ends and the next head waits afresh (R178). -/
def State.headLeaves (sp : Nat) (s : State) : State :=
  let s := s.wr 0x901403 (andNot (s.rd 0x901403) (255 * 2 ^ (8 * sp)))
  (s.onLanes fun l => { l with
    headSince := setNth l.headSince sp none, stalled := setNth l.stalled sp false }).watchHeads

/-- The head entry of a sprue is dropped: a stall goes on until a head entry starts, else the next head waits afresh (R178; log
entry 19). -/
def State.headDropped (sp : Nat) (s : State) : State :=
  if nth s.lanes.stalled sp false then s
  else (s.onLanes fun l => { l with headSince := setNth l.headSince sp none }).watchHeads

/-! ### Drops (R174, R175, R184 to R186) -/

/-- A header count that saturates at 0xFFFF (R174). -/
def satAdd (a b : Nat) : Nat := min 0xFFFF (a + b)

/-- SLAG booked to one flask (R174). -/
def State.bookSlag (f n : Nat) (s : State) : State := s.onFlask f fun x => { x with slag := satAdd x.slag n }

/-- SLAG booked to all 16 flasks (R174). -/
def State.bookSlagAll (n : Nat) (s : State) : State := s.onFlasks fun x => { x with slag := satAdd x.slag n }

/-- A TDI overspeed event booked to all 16 flasks (R93, R174). -/
def State.bookOverspeed (s : State) : State := s.onFlasks fun x => { x with ospd := satAdd x.ospd 1 }

/-- A drop notice joins the queue of its flask's sprue, which holds 64 for each flask (R175). -/
def State.notice (stamps : Packet) (s : State) (f : Nat) : State :=
  let q := nth s.lanes.notices (f / 4) []
  if 64 ≤ (q.filter fun p => p.flask == f).length then
    (s.inc 0x902204).onFlask f fun x => { x with lostn := true }
  else
    let n : Packet := { stamps with
      typ := 4, flask := f, ovrc := 0, last := false, row := 0, neff := [], bands := 0, masks := [], pixels := [] }
    s.onLanes fun l => { l with notices := modifyNth l.notices (f / 4) fun q => q ++ [n] }

/-- A drop is recorded: count `key`, index, notices and SLAG (R184); a hold that waits for the pour finds it gone (R316). -/
def State.recordDrop (key : Nat) (stamps : Packet) (flasks : List Nat) (s : State) : State :=
  let s := (s.inc key).wr 0x902203 stamps.pour
  let s := if s.rd 0x704001 = stamps.pour ∧ s.rd 0x704002 = 1 then s.wr 0x704002 3 else s
  (flasks.foldl (State.notice stamps) s).bookSlagAll 1

/-- A packet belongs to a pour of the tundish. -/
def Packet.ofPour (p : Packet) (t : TPour) : Bool := p.pour == t.idx

/-- The flasks in which a pour with these packet sizes sends packets (R170). -/
def flasksOf (cells : List Nat) : List Nat := (List.range 16).filter fun f => nth cells f 0 != 0

/-- An admitted pour is dropped: its booking and its queued packets go (R184). -/
def State.dropPour (key : Nat) (t : TPour) (s : State) : State :=
  let heads := (List.range 4).filter fun sp => (s.headOf sp).any fun p => p.typ != 4 && p.ofPour t
  let s := s.onLanes fun l => { l with
    tundish := l.tundish.filter fun u => u.idx != t.idx
    queues := l.queues.map fun q => q.filter fun p => !p.ofPour t }
  let s := heads.foldl (fun s sp => s.headDropped sp) s
  let s := if s.held t then s.wr 0x704002 3 else s
  let s := if s.held t then s.onDma fun d => { d with heldIdx := none } else s
  (s.recordDrop key t.stamps (flasksOf t.cells)).watchHeads

/-- The oldest admitted pour none of whose packets was dispatched. -/
def State.droppable (s : State) : Option TPour := s.lanes.tundish.find? fun t => !t.dispatched

/-- Oldest-first drops until the new pour fits or none is left (R184). -/
def State.makeRoom (sizes : List Nat) : Nat → State → State
  | 0, s => s
  | n + 1, s =>
    if s.fits sizes then s
    else
      match s.droppable with
      | none => s
      | some t => State.makeRoom sizes n (s.dropPour 0x902201 t)

/-- The hold of a pour begins when it is admitted (R316). -/
def State.beginHold (s : State) (idx : Nat) : State :=
  if s.rd 0x704001 = idx ∧ idx ≠ 0 ∧ s.rd 0x704002 = 1 then
    (s.wr 0x704002 2).onDma fun d => { d with heldIdx := some idx }
  else s

/-- The size of a pour in each sprue, from its planes, output rows and packet sizes (R183). -/
def sprueSums (planes rows : Nat) (cells : List Nat) : List Nat :=
  (List.range 4).map fun sp => planes * rows * sumNat ((rangeFrom (4 * sp) 4).map fun f => nth cells f 0)

/-- Admission of a pour of `planes` planes of `rows` output rows, whose packets have these sizes in the flasks, under the drop
policy (R184): whether it was admitted. A web line is one pour, with a plane for each phase (R16, R173). -/
def State.admitPour (stamps : Packet) (planes rows : Nat) (cells : List Nat) (s : State) : State × Bool :=
  let sizes := sprueSums planes rows cells
  let s := if s.rd 0x902001 = 0 then s.makeRoom sizes s.lanes.tundish.length else s
  if s.fits sizes then
    let t : TPour := ⟨stamps.pour, sizes, sizes, s.now, false, stamps, planes, rows, cells,
      planes * rows * (flasksOf cells).length, []⟩
    (((s.onLanes fun l => { l with tundish := l.tundish ++ [t] }).beginHold stamps.pour).markBooked, true)
  else (s.recordDrop 0x902201 stamps (flasksOf cells), false)

/-! ### Packets complete in the tundish (R173, R175, R183) -/

/-- Bytes of a pour in one sprue freed. -/
def TPour.unbook (t : TPour) (f n : Nat) : TPour := { t with sprues := modifyNth t.sprues (f / 4) (· - n) }

/-- A packet of a pour is made: the pour keeps it, and gives back the space that a slag row does not need (R183). -/
def TPour.make (t : TPour) (p : Packet) : TPour :=
  let n := nth t.cells p.flask 0 - p.laneBytes
  { (t.unbook p.flask n) with
    sizes := modifyNth t.sizes (p.flask / 4) (· - n), made := t.made ++ [⟨p, 0, 0, 0, false, 0⟩] }

/-- A packet is complete: it joins its sprue's queue if its pour is in the tundish; otherwise the part discards it (R175,
R184). -/
def State.complete (s : State) (p : Packet) : State :=
  match s.lanes.tundish.find? p.ofPour with
  | none => s
  | some _ =>
    (s.onLanes fun l => { l with
      tundish := l.tundish.map fun t => if p.ofPour t then t.make p else t
      queues := modifyNth l.queues (p.flask / 4) fun q => q ++ [p] }).watchHeads

/-- A packet's terminate block has left: its space is freed (R183). -/
def State.freePacket (p : Packet) (s : State) : State :=
  if p.typ = 4 then s
  else
    let s := s.onLanes fun l => { l with
      tundish := l.tundish.map fun t =>
        if p.ofPour t then { (t.unbook p.flask p.laneBytes) with left := t.left - 1 } else t }
    s.onLanes fun l => { l with tundish := l.tundish.filter fun t => t.left != 0 || s.held t }

/-- A hold ends: the pours that were wholly sent are freed (R316). -/
def State.endHold (s : State) : State :=
  let s := s.onDma fun d => { d with heldIdx := none }
  s.onLanes fun l => { l with tundish := l.tundish.filter fun t => t.left != 0 }

/-- A packet's number in the order of the held-pour window: by plane, output row and flask, in TDI by phase and flask (R173,
R316; log entry 66). -/
def windowKey (p : Packet) : Nat := (p.plane * 1024 + p.row) * 16 + p.flask

/-- The lane bytes that packets made before a packet's place in the window do not need, being slag rows. -/
def TPour.saved (t : TPour) (p : Packet) : Nat :=
  sumNat (t.made.map fun q => if windowKey q.pkt < windowKey p then nth t.cells q.pkt.flask 0 - q.pkt.laneBytes else 0)

/-- Where a packet lies in the window of its pour: after the lane bytes of every packet before it, made or not (R316). -/
def TPour.place (t : TPour) (p : Packet) : Nat :=
  (p.plane * t.rows + p.row) * sumNat t.cells + sumNat (t.cells.take p.flask) - t.saved p

/-- The byte of the window at an offset, if its packet is complete (R316). -/
def TPour.windowByte (t : TPour) (i : Nat) : Option Byte :=
  (t.made.find? fun q => t.place q.pkt ≤ i && i < t.place q.pkt + q.pkt.laneBytes).map fun q =>
    nth q.bytes (i - t.place q.pkt) 0

/-- The pour that is held (R316). -/
def State.heldPour (s : State) : Option TPour := s.lanes.tundish.find? s.held

/-- The window size: the size of the held pour (R183, R316). -/
def State.heldSize (s : State) : Nat := (s.heldPour.map fun t => sumNat t.sizes).getD 0

/-- A byte of the held-pour window; the part of a packet that is not yet complete is not in it. -/
def State.heldByte (s : State) (i : Nat) : Option Byte := s.heldPour.bind fun t => t.windowByte i

end Sys2Proof.Machine
end

