-- ==== Sys2Proof/Machine/Tdi.lean ====
section
/-!
DEFINITION. TDI: the encoder grid (R86), accumulators (R95 to R97), web lines and their packets (R98 to R103) and the restart
(R101).
-/
namespace Sys2Proof.Machine

/-! ### The encoder grid (R86) -/

/-- The signed difference of two points of the 40-bit grid scale in the forward sense (R86). -/
def forwardDiff (dir a b : Nat) : Int :=
  let x := toSigned 40 ((a + 2 ^ 40 - b % 2 ^ 40) % 2 ^ 40)
  if dir = 1 then -x else x

/-- The position counter in 1/256 count. -/
def State.position256 (s : State) : Nat := s.position * 256

/-- The grid point one pitch ahead (R86). -/
def State.gridStep (s : State) (t : Nat) (pitches : Int) : Nat :=
  let off := pitches * s.rd 0x340201
  ofSigned 40 ((t : Int) + if s.rd 0x340202 = 1 then -off else off)

/-- T becomes a grid point; object 0x3402:04 reports it in counts. -/
def State.setGrid (t : Nat) (s : State) : State :=
  (s.onTdi fun x => { x with gridT := t, behind := false }).wr 0x340204 (t / 256 % 2 ^ 32)

/-- T becomes the first grid point strictly ahead of the present counter value (R86, R102). -/
def State.gridReset (s : State) : State :=
  let o := s.rd 0x340203 * 256
  s.setGrid (s.gridStep o (fdiv (forwardDiff (s.rd 0x340202) s.position256 o) (s.rd 0x340201) + 1))

/-! ### Accumulators (R95, R97) -/

/-- An accumulator is that of a band, line and phase. -/
def Acc.is (a : Acc) (b m ph : Nat) : Bool := a.band == b && a.line == m && a.phase == ph

/-- The accumulator of a band, line and phase. -/
def Tdi.acc (t : Tdi) (b m ph : Nat) : Option Acc := t.accs.find? fun a => a.is b m ph

/-- One flask's part of an accumulator. -/
def Acc.part (a : Acc) (f : Nat) : Option AccFlask := a.parts.find? fun p => p.flask == f

/-- A stage row added to one flask's part: corrected values, overrange bits, row mask and overrange samples (R95). -/
def AccFlask.addRow (a : AccFlask) (vals : List Nat) (ovr : List Bool) (mask ovrc : Nat) : AccFlask :=
  { a with
    n := a.n + 1
    sums := if a.sums.isEmpty then vals else List.zipWith (· + ·) a.sums vals
    ovr := if a.ovr.isEmpty then ovr else List.zipWith (· || ·) a.ovr ovr
    masks := a.masks ||| mask
    ovrc := a.ovrc + ovrc }

/-- One flask's part updated, made when it is not there. -/
def Acc.onPart (a : Acc) (f : Nat) (g : AccFlask → AccFlask) : Acc :=
  if (a.part f).isSome then { a with parts := a.parts.map fun p => if p.flask = f then g p else p }
  else { a with parts := a.parts ++ [g ⟨f, 0, [], [], 0, 0, 0⟩] }

/-- The accumulator that the row of stage `st` of band `b` in line `n` feeds: none before the first of the new state
(R95, R101). -/
def State.feeds (s : State) (n b st : Nat) : Option Nat :=
  match s.tdi.origin with
  | none => none
  | some nr => if st ≤ n ∧ nr + offsetLines s.tdi.cfg b ≤ n - st ∧ nr ≤ n then some (n - st) else none

/-- An accumulator updated, made when it is not there; `sver` is the state version of a row added to it (R102). -/
def State.onAcc (b m ph : Nat) (sver : Option Nat) (f : Nat) (g : AccFlask → AccFlask) (s : State) : State :=
  let note (l : List Nat) : List Nat :=
    match sver with
    | some v => if l.contains v then l else l ++ [v]
    | none => l
  s.onTdi fun t =>
    if (t.acc b m ph).isSome then
      { t with accs := t.accs.map fun a => if a.is b m ph then { (a.onPart f g) with vers := note a.vers } else a }
    else { t with accs := t.accs ++ [(Acc.mk b m ph (note []) []).onPart f g] }

/-- Y16 of one pixel (R96). -/
def y16 (n sum : Nat) : Nat := if n = 0 then 0 else (16 * sum + n / 2) / n

/-- The output sample of a Y16 value: 12-bit or 16-bit mean (R96). -/
def lineSample (out y : Nat) : Nat := if out = 1 then y else min 4095 ((y + 8) / 16)

/-! ### Line packets (R99, R103) -/

/-- FMT of line packets: the output sample of the TDI state, the container that is live (R171; R101 names no restart for
it). -/
def State.lineFormat (s : State) : Nat :=
  if s.tdi.cfg.get 0x344001 = 1 then 2 else if s.rd 0x902003 = 1 then 1 else 0

/-- What a flask of a web line takes from one band (R99): Y16 values, effective count, mask, overrange samples, whether a
count is short for a reason other than slag, versions. -/
structure BandLine where
  ys    : List Nat
  neff  : Nat
  mask  : Nat
  ovrc  : Nat
  short : Bool
  vers  : List Nat
  deriving DecidableEq, Repr

/-- Y16 of a flask's part, zeros where there is none. -/
def partYs (n : Nat) (p : Option AccFlask) : List Nat :=
  match p with
  | none => List.replicate n 0
  | some a => if a.n = 0 then List.replicate n 0 else a.sums.map (y16 a.n)

/-- Band `b` of web line `w` and phase `ph` in flask `f` (R99, R103). -/
def State.bandLine (s : State) (w ph f b : Nat) : BandLine :=
  let d := s.tdi.cfg
  let n := flaskPixels d f
  let fb := offsetEighths d b
  let a0 := s.tdi.acc b (w + offsetLines d b) ph
  let accs := if fb = 0 then [a0] else [a0, s.tdi.acc b (w + offsetLines d b + 1) ph]
  let parts := accs.map fun a => a.bind fun a => a.part f
  let cnt (p : Option AccFlask) : Nat := (p.map AccFlask.n).getD 0
  let y0 := partYs n (nth parts 0 none)
  { ys := if fb = 0 then y0
      else List.zipWith (fun a b => ((8 - fb) * a + fb * b + 4) / 8) y0 (partYs n (nth parts 1 none))
    neff := (parts.map cnt).foldl min (cnt (nth parts 0 none))
    mask := parts.foldl (fun m p => m ||| (p.map AccFlask.masks).getD 0) 0
    ovrc := sumNat (parts.map fun p => (p.map AccFlask.ovrc).getD 0)
    short := parts.any fun p => cnt p + (p.map AccFlask.slag).getD 0 < stages d b / interleave d
    vers := accs.flatMap fun a => (a.map Acc.vers).getD [] }

/-- The list has two unlike entries. -/
def mixedVersions : List Nat → Bool
  | [] => false
  | v :: l => l.any (· != v)

/-- The stamps of a web line's packets (R103, R169): version and mould live at this instant. A packet flushed at a hand-over
carries the version that the hand-over makes live (DESIGN CHOICE, log entry 67). -/
def State.lineStamps (s : State) (w : WebLine) (rstrt : Bool) : Packet :=
  { typ := 2, flask := 0, plane := 0, therm := w.therm, tstep := w.tstep, fmt := s.lineFormat,
    sver := s.rd 0x110001, pour := w.w, rtime := w.rtime, enc := w.enc, ewrap := w.ewrap, mould := s.rd 0x110006,
    ovrc := 0, last := true, osflag := false, mixed := false, rev := s.tdi.revFlag, rstrt := rstrt, row := 0,
    arow := 0xFFFF, neff := [], bands := 0, masks := [], pixels := [] }

/-- The line packet of one flask (R103). -/
def State.linePacket (s : State) (st : Packet) (w ph f : Nat) : Packet :=
  let d := s.tdi.cfg
  let bs := (bandsOn d).map fun b => (b, s.bandLine w ph f b)
  { st with
    flask := f, plane := ph
    ovrc := min 0xFFFF (sumNat (bs.map fun b => b.2.ovrc))
    osflag := bs.any fun b => b.2.short
    mixed := mixedVersions (bs.flatMap fun b => b.2.vers)
    neff := (List.range 4).map fun b => ((bs.find? fun x => x.1 == b).map fun x => x.2.neff).getD 0
    bands := sumNat (bs.map fun b => 2 ^ b.1)
    masks := bs.map fun b => b.2.mask
    pixels := bs.flatMap fun b => b.2.ys.map (lineSample (d.get 0x344001)) }

/-- A web line is offered for admission as one pour of every phase, and its line packets are formed if it is admitted (R97,
R99, R184). -/
def State.offerWeb (rstrt : Bool) (r : State × List Packet) (w : WebLine) : State × List Packet :=
  let s := r.1
  let d := s.tdi.cfg
  if w.dropped then r
  else
    let st := s.lineStamps w rstrt
    let cells := packetSizes d st.fmt
    let a := s.admitPour st (interleave d) 1 cells
    if !a.2 then (a.1, r.2)
    else
      (a.1.onTdi fun t => { t with revFlag := false },
        r.2 ++ (flasksOf cells).flatMap fun f => (List.range (interleave d)).map fun ph => s.linePacket st w.w ph f)

/-- Web lines leave at one instant: their packets join the queues in ascending flask order, those of one flask by web line and
phase (R101, R175; log entry 66). -/
def State.sendWebs (ws : List WebLine) (rstrt : Bool) (s : State) : State :=
  let r := ws.foldl (State.offerWeb rstrt) (s, [])
  ((List.range 16).flatMap fun f => r.2.filter fun p => p.flask == f).foldl State.complete r.1

/-- A web line is dropped, as one pour, because its band line cannot be booked (R186). -/
def State.dropWeb (w : WebLine) (s : State) : State :=
  let s := s.recordDrop 0x902201 (s.lineStamps w false) (liveFlasks s.tdi.cfg)
  s.onTdi fun t => { t with webs := t.webs.map fun x => if x.w = w.w then { x with held := 0, dropped := true } else x }

/-- Bytes of one band line of every phase (R100). -/
def State.bandBytes (s : State) : Nat :=
  let n := interleave s.tdi.cfg * tdiColumns s.tdi.cfg
  if s.lineFormat = 0 then n * 3 / 2 else 2 * n

/-- The bytes of the ready band lines in the tundish (R100). -/
def State.heldLines (s : State) : Nat := sumNat (s.tdi.webs.map WebLine.held)

/-- Band `b` of the web line that line `n` makes ready takes its place in the tundish, or its web line is dropped (R100,
R186). -/
def State.bookBand (n : Nat) (s : State) (b : Nat) : State :=
  let c := bandReady s.tdi.cfg b
  match s.tdi.webs.find? fun w => w.w + c == n && !w.dropped with
  | none => s
  | some w =>
    if tundishBytes < s.booked + s.heldLines + s.bandBytes then s.dropWeb w
    else s.onTdi fun t => { t with
      webs := t.webs.map fun x => if x.w = w.w then { x with held := x.held + s.bandBytes } else x }

/-- The part has finished reading line `n`: band lines are booked, and the web line that is ready leaves (R99, R100). -/
def State.finishLine (n : Nat) (s : State) : State :=
  let d := s.tdi.cfg
  if s.tdi.origin.isNone then s
  else
    let s := (bandsOn d).foldl (State.bookBand n) s
    match s.tdi.webs.find? fun w => w.w + lineReady d == n with
    | none => s
    | some w =>
      let s := s.onTdi fun t => { t with webs := t.webs.map fun x => if x.w = w.w then { x with held := 0 } else x }
      let s := s.sendWebs [w] false
      s.onTdi fun t => { t with
        webs := t.webs.filter fun x => x.w != w.w
        accs := t.accs.filter fun a => w.w + offsetLines d a.band < a.line }

/-! ### Restart (R101) -/

/-- A TDI restart: web lines begun are closed under the live policy, and the phase origin is set; with none it is the pour
index of the first line boundary to come (R101). A web line that R186 dropped counts among those begun (DESIGN CHOICE, log
entry 67). -/
def State.tdiRestart (nr : Option Nat) (s : State) : State :=
  let n := s.tdi.webs.length * interleave s.tdi.cfg
  let s := if n = 0 then s
    else
      let s := s.add 0x346006 n
      if s.rd 0x344002 = 1 then
        let webs := s.tdi.webs
        let s := s.onTdi fun t => { t with webs := t.webs.map fun x => { x with held := 0 } }
        s.sendWebs webs true
      else s.bookSlagAll n
  let s := s.onTdi fun t => { t with
    origin := nr, cfg := if nr.isSome then s.dict else t.cfg, accs := [], webs := [], restartReq := false }
  s.gridReset

/-- The objects whose change at a hand-over restarts TDI (R101). -/
def restartKey (k : Nat) : Bool :=
  let i := k / 256
  i == 0x3400 || k == 0x341002 || i == 0x3420 || i == 0x3421 || i == 0x3430 || i == 0x3431 || i == 0x3432 ||
  k == 0x344001 || k == 0x213001 || k == 0x212002 || i == 0x2123 || i == 0x2124

end Sys2Proof.Machine
end

