-- ==== Sys2Proof/Machine/Handover.lean ====
section
/-!
DEFINITION. Hand-over entries (R193 to R202, R210): requests, checks, boundary conditions, lateness, and the hand-over itself.
-/
namespace Sys2Proof.Machine

/-! ### Refusals (R198) -/

/-- A refusal or discard is recorded and logged (R198, R199): `at_` 0 at request, 1 at boundary; `part` requester. -/
def State.recordRefusal (cause at_ obj : Nat) (part : Bool) (s : State) : State :=
  (((s.wr 0x800102 cause).wr 0x800103 obj).inc 0x800104).logEvent 0x0501
    (leBytes 1 cause ++ leBytes 1 at_ ++ leBytes 1 (b2n part) ++ [0] ++ leBytes 4 obj)

/-- A self-calibration or calibration run is in progress (R115, R145). -/
def State.calibrating (s : State) : Bool := s.conv.calAt.isSome || s.calRunning

/-- The bank that values make live, if they name one that is not (R155). -/
def State.selectsBank (s : State) (vals : Dict) : Option Nat := (Dict.find vals 0x401007).filter fun n => n != s.liveBank

/-- Cause 0x05 (R155, R198). -/
def State.bankFault (s : State) (vals : Dict) : Option (Nat × Nat) :=
  match s.selectsBank vals with
  | some n => if s.bankSelectable n then none else some (0x05, 0x401007)
  | none => none

/-- Cause 0x06 for the values `d` that would be live (R115, R145, R198). -/
def State.sourceFault (s : State) (d : Dict) : Option (Nat × Nat) :=
  if !s.calibrating then none
  else if d.get 0x210002 ≠ 0 then some (0x06, 0x210002)
  else if d.get 0x340101 ≠ 0 then some (0x06, 0x340101)
  else none

/-- The first failing check of R198 in its order: cause and object; `bad` tells that the mould is empty, invalid or
unreadable. -/
def State.entryFault (s : State) (bad : Bool) (vals : Dict) : Option (Nat × Nat) :=
  let d := s.combined vals
  if s.rd 0x110002 = 2 ^ 64 - 1 then some (0x09, 0)
  else if 4 ≤ s.stage.queue.length then some (0x07, 0)
  else if bad then some (0x08, 0)
  else
    match (if d.get 0x210001 = 0 then (areaFault d).map fun k => (0x01, k) else (tdiFault d).map fun k => (0x02, k)) with
    | some f => some f
    | none =>
      if tooLarge d then some (0x03, 0)
      else if s.setEmpty (d.get 0x400101) then some (0x04, 0x400101)
      else
        match s.bankFault vals with
        | some f => some f
        | none => s.sourceFault d

/-! ### Boundary conditions (R194, R200) -/

/-- d of an encoder condition, in the forward sense of object 0x3402:02 (R194). -/
def State.encoderPast (s : State) (q e : Nat) : Bool :=
  let x := toSigned 32 ((q + 2 ^ 32 - e % 2 ^ 32) % 2 ^ 32)
  0 ≤ (if s.rd 0x340202 = 1 then -x else x)

/-- The condition is met at a pour boundary with this pour index, stamped position and ring time (R194). -/
def State.metAtBoundary (s : State) (b : Boundary) (idx enc rt : Nat) : Bool :=
  match b with
  | .next => true
  | .idle => false
  | .pourIndex p => p ≤ idx
  | .encoder e => s.encoderPast enc e
  | .time a => a ≤ rt

/-- The condition is met while the part is idle (R194). -/
def State.metAtIdle (s : State) (b : Boundary) : Bool :=
  match b with
  | .next => true
  | .idle => true
  | .pourIndex p => p ≤ s.rd 0x110003 + 1
  | .encoder e => s.encoderPast s.position e
  | .time a => a ≤ s.ringTime

/-- The condition has already been passed at the request, by its boundary form (R200). -/
def State.passedAtRequest (s : State) (b : Boundary) : Bool :=
  match b with
  | .next => false
  | .idle => false
  | .pourIndex p => p ≤ s.rd 0x110003
  | .encoder e => match s.stage.lastBoundary with
    | some q => s.encoderPast q e
    | none => false
  | .time a => a ≤ s.ringTime

/-- Kinds 2 to 4, which can be late (R200). -/
def Boundary.canBeLate : Boundary → Bool
  | .next => false
  | .idle => false
  | .pourIndex _ => true
  | .encoder _ => true
  | .time _ => true

/-- The mould read and any cache load of an entry are complete (R200). -/
def State.loaded (s : State) (e : Entry) : Bool := e.reading.isNone && s.corr.loading.isNone

/-- An entry that needs a generation write waits in quench and while the write inhibit is in force (R157, R353). -/
def State.writable (s : State) (e : Entry) : Bool :=
  (s.selectsBank e.values).isNone || !(s.inhibited || s.therm.quench)

/-- An entry is ready (R200). -/
def State.ready (s : State) (e : Entry) : Bool := s.loaded e && s.writable e

/-- An entry notes that its condition is met; before it is loaded, that is late (R200). -/
def State.markMet (s : State) (met : Boundary → Bool) (e : Entry) : Entry :=
  let due := e.due || met e.bound
  { e with due := due, late := e.late || (due && !s.loaded e && e.bound.canBeLate) }

/-- Every queued entry notes that the part is idle (R194). -/
def State.markIdle (s : State) : State :=
  s.onStage fun g => { g with queue := g.queue.map (s.markMet s.metAtIdle) }

/-- The part is idle (R195). -/
def State.idle (s : State) : Bool := s.image.pours.isEmpty && s.image.held.isNone

/-- Every queued entry notes a pour boundary, and that the part was idle until then if it was (R194, R195, R200). -/
def State.markBoundary (idx enc rt : Nat) (s : State) : State :=
  let s := if s.idle then s.markIdle else s
  s.onStage fun g => { g with queue := g.queue.map (s.markMet fun b => s.metAtBoundary b idx enc rt) }

/-- An entry changes the readout mode (R67). -/
def State.changesMode (s : State) (e : Entry) : Bool :=
  match Dict.find e.values 0x210001 with
  | some v => v != s.rd 0x210001
  | none => false

/-- A readout-mode change waits for idle: its entry leads the queue and its condition has been met (R67). -/
def State.modeWaits (s : State) : Bool :=
  match s.stage.queue with
  | e :: _ => e.due && s.changesMode e
  | [] => false

/-- The entry that takes place at a pour boundary once the queue has noted it (R195). -/
def State.boundaryEntry (s : State) : Option Entry :=
  match s.stage.queue with
  | e :: _ => if e.due && s.ready e && !s.changesMode e then some e else none
  | [] => none

/-! ### Requests (R193, R197, R198) -/

/-- An entry is requested (R193): the values it would carry are checked; refused, nothing is taken; accepted, it joins the
queue with the next version. The second result tells whether it was accepted. -/
def State.requestEntry (own : Dict) (bound : Boundary) (by_ : Requester) (mould : Option Nat) (gen : Nat)
    (reading : Option Nat) (bad : Bool) (s : State) : State × Bool :=
  let vals := Dict.putAll s.stage.loose own
  match s.entryFault bad vals with
  | some f => (s.recordRefusal f.1 0 f.2 (by_ == Requester.part), false)
  | none =>
    let v := s.rd 0x110002 + 1
    let late := s.passedAtRequest bound
    let e : Entry := ⟨vals, v, bound, by_, reading, mould, gen, false, late⟩
    ((s.watchCache fun s => (s.onStage fun g => { g with loose := [], queue := g.queue ++ [e] }).wr 0x110002 v).onImage
      fun i => { i with freeFrom := s.now }, true)

/-- The part keeps the version it reports to a transport (R197). -/
def State.reportVersion (tr : Transport) (v : Nat) (s : State) : State :=
  match tr with
  | .ring => (s.wr 0x110004 v).acceptVersion v
  | .twi => (s.wr 0x110005 v).acceptVersion v

/-- The answer to a host request for an entry (R197, R198). -/
def State.answerEntry (tr : Transport) (r : State × Bool) : State :=
  if r.2 then r.1.reportVersion tr (r.1.rd 0x110002) else r.1.refuse abortHandOver

/-- The part requests a hand-over of its own (R135, R155). -/
def State.ownEntry (vals : Dict) (s : State) : State := (s.requestEntry vals .next .part none 0 none false).1

/-! ### The hand-over (R195, R199, R201, R210) -/

/-- The objects that a mould carries: every RWS object but 0x4010:07 (R205). -/
def mouldCarries (k : Nat) : Bool :=
  k != 0x401007 && match objRow k with
    | some r => r.acc == .rws
    | none => false

/-- The live mould number and GEN after a hand-over that changed the live values `changed` (R210). -/
def State.setMould (e : Entry) (changed : Dict) (s : State) : State :=
  match e.mould with
  | some 0xFFFF => s.wr 0x110006 0xFFFF
  | some n => (s.wr 0x110006 n).wr 0x110007 e.gen
  | none => if changed.any fun w => mouldCarries w.1 then s.wr 0x110006 0xFFFF else s

/-- The live and staged sets' cache is what the hand-over makes live (R135); where its load met an uncorrectable word the
cache stays as it was (R33; log entry 64). -/
def State.takeCache (s : State) : State :=
  s.onCorr fun c => { c with
    cache := if c.unread = some (s.rd 0x400101) then c.cache else (s.setCopy (s.rd 0x400101)).getD c.cache }

/-- A late hand-over is counted, flagged and logged (R200). -/
def State.noteLate (e : Entry) (idx enc : Nat) (s : State) : State :=
  if !e.late then s
  else
    ((s.inc 0x800105).wr 0x800108 (setBit (s.rd 0x800108) 0)).logEvent 0x0502
      (leBytes 4 e.version ++ leBytes 4 enc ++ leBytes 4 idx)

/-- What a hand-over does to TDI, `old` being the values before it; `nr` is the pour index of the line boundary it takes
place at, if any (R101): a change of the readout mode to 1 restarts TDI at the first line boundary. -/
def State.tdiHandOver (old : Dict) (changed : Dict) (nr : Option Nat) (s : State) : State :=
  if s.rd 0x210001 ≠ 1 then s
  else if old.get 0x210001 ≠ 1 then s.onTdi fun t => { t with restartReq := true }
  else if changed.any fun w => restartKey w.1 then s.tdiRestart nr
  else s

/-- What the grant of a hand-over does to the encoder grid (R86, R102): a source that becomes 6, or a new pitch, direction or
origin, sets T ahead of the counter value at the grant. -/
def State.grantGrid (old : Dict) (s : State) : State :=
  if (old.get 0x340101 ≠ 6 ∧ s.rd 0x340101 = 6) ∨ [0x340201, 0x340202, 0x340203].any fun k => old.get k != s.rd k then
    s.gridReset
  else s

/-- A hand-over that changes the pour source, its number or edge discards a held start event, and one that stops a
free-running source ends its events (R62, R67, R85). -/
def State.sourceHandOver (changed : Dict) (s : State) : State :=
  let s := if changed.any fun w => w.1 == 0x210002 || w.1 == 0x210003 || w.1 == 0x210004 then
      s.onImage fun i => { i with held := none } else s
  let s := if s.rd 0x210001 = 0 ∧ s.rd 0x210002 = 1 then s else s.onImage fun i => { i with freeAt := none }
  if s.rd 0x210001 = 1 ∧ s.rd 0x340101 = 1 then s else s.onTdi fun t => { t with freeAt := none }

/-- The checks of R199 at the boundary. -/
def State.recheck (s : State) (e : Entry) : Option (Nat × Nat) :=
  match s.bankFault e.values with
  | some f => some f
  | none => s.sourceFault (Dict.setAll s.dict e.values)

/-- The head entry takes place: its values are copied into the live store in one step, or discarded under R199, and its
version goes live (R195, R199, R201). -/
def State.handOver (e : Entry) (idx enc : Nat) (nr : Option Nat) (s : State) : State :=
  let s := s.onStage fun g => { g with queue := g.queue.tail }
  let fault := s.recheck e
  let s := match fault with
    | some f => (s.recordRefusal f.1 1 f.2 (e.by_ == Requester.part)).wr 0x80010A e.version
    | none => s
  let vals := if fault.isSome then [] else e.values
  let old := s.dict
  let changed := vals.filter fun w => s.rd w.1 != w.2
  let bank := s.selectsBank vals
  let s := (changed.foldl (fun s w => s.wr w.1 w.2) s).wr 0x110001 e.version
  let s := if fault.isSome then s else s.setMould e changed
  let s := s.noteLate e idx enc
  let s := s.takeCache
  let s := match bank with
    | some n => s.generationWrite n
    | none => s
  let s := s.tdiHandOver old changed nr
  let s := s.sourceHandOver changed
  s.onStage fun g => { g with granted := changed.map fun w => (w.1, old.get w.1) }

/-- The hand-over at a pour boundary, if one is pending: the window opens (R195, R196). -/
def State.boundaryHandOver (idx enc rt : Nat) (nr : Option Nat) (s : State) : State :=
  let s := s.markBoundary idx enc rt
  match s.boundaryEntry with
  | none => s
  | some e => (s.handOver e idx enc nr).onStage fun g => { g with window := some s.now }

/-- The pour index of the next pour (R202). -/
def State.nextIndex (s : State) : Nat := min (2 ^ 64 - 1) (s.rd 0x110003 + 1)

/-- The pour index advances at a boundary; its saturation is logged once (R202). -/
def State.advanceIndex (s : State) : State :=
  let n := s.nextIndex
  let s := s.wr 0x110003 n
  if n = 2 ^ 64 - 1 ∧ !s.stage.saturated then
    (s.logEvent 0x0103 []).onStage fun g => { g with saturated := true }
  else s

end Sys2Proof.Machine
end

