-- ==== Sys2Proof/Machine/Timers.lean ====
section
/-!
DEFINITION. Timer channels and strobes (R283 to R297, R309 to R311).
-/
namespace Sys2Proof.Machine

/-- One timer channel updated. -/
def State.onTimer (ch : Nat) (f : Timer → Timer) (s : State) : State :=
  s.onTiming fun t => { t with timers := modifyNth t.timers ch f }

/-- Every timer channel updated. -/
def State.onTimers (f : Timer → Timer) (s : State) : State :=
  s.onTiming fun t => { t with timers := t.timers.map f }

/-- Timer channel `ch`. -/
def State.timer (s : State) (ch : Nat) : Timer := nth s.timing.timers ch Timer.reset

/-! ### The cycle of modes 1 and 2 (R284, R285) -/

/-- The count at position `p` of a cycle with period PER (R284). -/
def cycleCount (per p : Nat) : Nat := if p < per then p else 2 * per - p

/-- The cycle counts down at position `p` (R284). -/
def cycleDown (per p : Nat) : Bool := per != 0 && per ≤ p

/-- The compare rule (R285). -/
def compareLevel (per cmp p : Nat) : Bool :=
  if cycleDown per p then cycleCount per p ≤ cmp else cycleCount per p < cmp

/-- The position one tick on (R284). -/
def cycleNext (per p : Nat) : Nat := if per = 0 then 0 else (p + 1) % (2 * per)

/-- The position for a count and direction under a period (R284). -/
def positionOf (per count : Nat) (down : Bool) : Nat :=
  if down then (if count = 0 then 0 else 2 * per - count) else if count < per then count else per

/-- An immediate update to a period above 0 at a tick: the counter that the old cycle would show goes on against the new period,
or takes it and counts down with a period cut; from period 0 it starts at 0 (R286, R288). The second result tells that a cut
occurred. -/
def cycleUpdate (per p per' : Nat) : Nat × Bool :=
  if per = 0 then (0, false)
  else
    let q := cycleNext per p
    let c := cycleCount per q
    if per' < c then (per', true) else (positionOf per' c (cycleDown per q) % (2 * per'), false)

/-- The channel counts in the cycle of R284. -/
def Timer.cycles (t : Timer) : Bool := t.mode == 1 || t.mode == 2

/-- The level that the channel's mode asks of its output, gating and forcing apart (R283, R285, R286, R293). -/
def Timer.asked (t : Timer) : Bool :=
  if t.cycles then (if t.per = 0 then t.stopLevel else compareLevel t.per t.cmp t.pos) else t.mode == 3 && t.pulse

/-- The count on the 100 MHz clock (R283, R286). -/
def Timer.value (t : Timer) : Nat :=
  if t.cycles then (if t.per = 0 then t.stopCount else cycleCount t.per t.pos) else if t.mode = 3 then t.count else 0

/-- The direction on the 100 MHz clock: down (R284, R286). -/
def Timer.down (t : Timer) : Bool := t.cycles && (if t.per = 0 then t.stopDown else cycleDown t.per t.pos)

/-- The shadow values become active; with PER 0 the counter stops at its count and level (R286). -/
def Timer.load (t : Timer) : Timer :=
  let t' : Timer := { t with per := t.shPer, cmp := t.shCmp, upd := false }
  if t.shPer = 0 then { t' with stopCount := t.value, stopDown := t.down, stopLevel := t.asked } else t'

/-- An immediate update at a tick (R288). The second result tells that a cut occurred. -/
def Timer.immediate (t : Timer) : Timer × Bool :=
  if t.shPer = 0 then (t.load, false)
  else
    let r := cycleUpdate t.per t.pos t.shPer
    ({ t.load with pos := r.1 }, r.2)

/-- One tick of the 100 MHz clock in a channel: the counter of its mode advances (R283), or the shadow values become active
(R286, R287). -/
def Timer.tick (t : Timer) : Timer × Bool :=
  if t.cycles then
    (if t.upd then t.immediate else ({ t with pos := cycleNext t.per t.pos }, false))
  else if t.mode = 3 ∧ t.running then ({ t with count := t.count + 1 }, false)
  else (t, false)

/-- A restart: the counter takes its phase position and the shadow values become active; with PER 0 it stays at 0 (R290). -/
def Timer.restart (t : Timer) : Timer :=
  if t.shPer = 0 then { t.load with pos := 0, stopCount := 0, stopDown := false }
  else { t.load with pos := t.phase % (2 * t.shPer) }

/-! ### Output levels -/

/-- The status bit `n` of channel `ch` (R311). -/
def State.timerBit (s : State) (ch n : Nat) : Bool := bitAt (s.rd (0x500801 + ch)) n

/-- Set or clear status bit `n` of channel `ch` (R311). -/
def State.setTimerBit (ch n : Nat) (b : Bool) (s : State) : State :=
  s.wr (0x500801 + ch) (if b then setBit (s.rd (0x500801 + ch)) n else clearBit (s.rd (0x500801 + ch)) n)

/-- The count of object 0x5007, in LF ticks on the LF clock (R296, R309). -/
def State.timerCount (s : State) (ch : Nat) : Nat :=
  let t := s.timer ch
  if s.timerBit ch 2 then cycleCount t.lfPer t.lfPos else t.value

/-- The status object of a channel, with its present direction in bit 0 (R311). -/
def State.timerStatus (s : State) (ch : Nat) : Nat :=
  let t := s.timer ch
  let v := s.rd (0x500801 + ch)
  if (if s.timerBit ch 2 then cycleDown t.lfPer t.lfPos else t.down) then setBit v 0 else clearBit v 0

/-- The output level that the rules of the chapter ask of a channel now, before polarity (R283, R285, R286, R292, R293,
R294, R296). -/
def State.targetLevel (s : State) (ch : Nat) : Bool :=
  let t := s.timer ch
  if s.timerBit ch 4 || s.timerBit ch 3 then false
  else if s.timerBit ch 2 then (t.mode == 1 && compareLevel t.lfPer t.lfCmp t.lfPos)
  else if t.mode = 2 then t.window && t.asked && (t.level || s.now + ns 20 ≤ t.txAt)
  else t.asked

/-- Drive a level under the polarity that the last grant brought: a level of the pin that began less than 20 ns earlier is held
(R289, R310). -/
def Timer.drive (now : Instant) (b : Bool) (t : Timer) : Timer :=
  let pol := bitAt t.ctl 0
  if (t.level != t.pol) = (b != pol) then { t with level := b, pol := pol, pend := false }
  else if t.since + ns 20 ≤ now then { t with level := b, pol := pol, since := now, pend := false }
  else { t with pend := true }

/-- The channel's output follows its rules, under the least level of R289. -/
def State.driveTimer (ch : Nat) (s : State) : State :=
  s.onTimer ch (Timer.drive s.now (s.targetLevel ch))

/-- Do something for each of the eight channels. -/
def State.eachTimer (f : Nat → State → State) (s : State) : State :=
  (List.range 8).foldl (fun s ch => f ch s) s

/-- The level that R289 held back follows once the pin's level has lasted 20 ns. -/
def State.releaseLevels (s : State) : State :=
  s.eachTimer fun ch s => if (s.timer ch).pend then s.driveTimer ch else s

/-- The level at pin STBn: the output level, inverted by POL (R285, R310); undriven before shakeout ends (R294). -/
def State.stbPin (s : State) (ch : Nat) : Option Bool :=
  if s.timing.driven then some ((s.timer ch).level != (s.timer ch).pol) else none

/-! ### The LF clock (R296, R297) -/

/-- A number of timer ticks in LF ticks of 3,051.7578 timer ticks, to the nearest, halves up (R296). -/
def toLf (x : Nat) : Nat := (roundDiv (10000 * (x : Int)) 30517578).toNat

/-- A number of LF ticks in timer ticks (R297). -/
def fromLf (x : Nat) : Nat := (roundDiv (30517578 * (x : Int)) 10000).toNat

/-- A cycle position rescaled from period `per` to period `per'`, keeping its direction (R296, R297). -/
def rescale (f : Nat → Nat) (per per' p : Nat) : Nat :=
  if cycleDown per p then min (max per' (f p)) (2 * per' - 1) else min (f p) (per' - 1)

/-- A channel runs on the LF clock with its active values, from LF position `pos`; with PER_LF 0 it is suspended (R296). -/
def State.runLf (pos ch : Nat) (s : State) : State :=
  let t := s.timer ch
  if !t.cycles then ((s.setTimerBit ch 2 false).setTimerBit ch 3 false).driveTimer ch
  else if toLf t.per = 0 then ((s.setTimerBit ch 2 false).setTimerBit ch 3 true).driveTimer ch
  else
    let s := s.onTimer ch fun t =>
      { t with lfPer := toLf t.per, lfCmp := min (toLf t.cmp) (toLf t.per), lfPos := pos }
    ((s.setTimerBit ch 2 true).setTimerBit ch 3 false).driveTimer ch

/-- A channel's active values and position are rescaled to the LF clock (R296). -/
def State.rescaleLf (ch : Nat) (s : State) : State :=
  let t := s.timer ch
  s.runLf (rescale toLf t.per (toLf t.per) t.pos) ch

/-- A channel moves to the LF clock; an immediate update that is due acts first (R287, R296). -/
def State.timerToLf (ch : Nat) (s : State) : State :=
  (s.onTimer ch fun t => if t.upd then t.immediate.1 else t).rescaleLf ch

/-- An immediate update on the LF clock (R288, R296): the shadow values are rescaled and become active; a suspended channel
starts from 0 (log entry 72). -/
def State.updateLf (ch : Nat) (s : State) : State :=
  let t := s.timer ch
  let r := if s.timerBit ch 2 ∧ toLf t.shPer ≠ 0 then cycleUpdate t.lfPer t.lfPos (toLf t.shPer) else (0, false)
  let s := (s.onTimer ch Timer.load).runLf r.1 ch
  if r.2 then s.setTimerBit ch 1 true else s

/-- A channel takes its live values on the 100 MHz clock: at its LF position if it ran on the LF clock, else at the position
that it kept (R297; log entry 72). -/
def Timer.takeLive (lf : Bool) (per cmp : Nat) (t : Timer) : Timer :=
  let pos :=
    if lf then rescale fromLf t.lfPer per t.lfPos
    else if per = t.per then t.pos
    else if t.per = 0 then 0
    else positionOf per (min per t.value) t.down % (2 * per)
  let t' := if lf then { t with pos := rescale fromLf t.lfPer t.per t.lfPos } else t
  let t' := Timer.load { t' with shPer := per, shCmp := cmp }
  if per = 0 then t' else { t' with pos := pos }

/-- A channel returns to the 100 MHz clock with its live values (R297): a suspended one restarts. -/
def State.timerFromLf (ch : Nat) (s : State) : State :=
  let per := s.rd (0x500101 + ch)
  let cmp := s.rd (0x500201 + ch)
  let lf := s.timerBit ch 2
  let s := if s.timerBit ch 3 then s.onTimer ch fun t => Timer.restart { t with shPer := per, shCmp := cmp }
    else s.onTimer ch fun t => if t.cycles then t.takeLive lf per cmp else { t with shPer := per, shCmp := cmp }
  ((s.setTimerBit ch 2 false).setTimerBit ch 3 false).driveTimer ch

/-- LF ticks that have gone by `t` time units after the 100 MHz clock stopped. -/
def lfTicks (t : Nat) : Nat := t * 32768 / 57000000000

/-- One LF tick in a channel: an immediate update acts, or the LF counter advances (R287, R296). -/
def State.tickLfTimer (ch : Nat) (s : State) : State :=
  let t := s.timer ch
  if t.cycles ∧ t.upd then s.updateLf ch
  else if s.timerBit ch 2 then s.onTimer ch fun t => { t with lfPos := cycleNext t.lfPer t.lfPos }
  else s

/-- The LF counters advance when an LF tick falls in the timer tick that ends now (R296). -/
def State.tickLf (s : State) : State :=
  if !s.timing.lfOn ∨ lfTicks (s.now - s.timing.lfAt) = lfTicks (s.now - tickUnits - s.timing.lfAt) then s
  else s.eachTimer State.tickLfTimer

/-- The 100 MHz clock stops (R296, R373, R377). -/
def State.stopTimerClock (s : State) : State :=
  s.onTiming fun t => { t with clk100 := false, lfAt := s.now, lfOn := false }

/-- The filters and the decoder take the present levels of their inputs as accepted, and the samples of object 0x5200:0B start
anew (R307, R308). -/
def State.takePins (s : State) : State :=
  s.onTiming fun t => { t with
    a := nth t.pins 0 false, b := nth t.pins 1 false, trig := t.pins.drop 3, hist := []
    captures := t.captures.mapIdx fun ch c => { c with level := nth t.pins (s.rd (0x510001 + ch)) false }
    lastPos := s.position, sampleAt := s.now + ms 1 }

/-- The 100 MHz clock returns: timers, capture filters and the quadrature decoder go on as R297 and R308 state. -/
def State.clockReturn (s : State) : State :=
  let s := s.eachTimer State.timerFromLf
  let s := (s.onTiming fun t => { t with clk100 := true, lfOn := false }).takePins
  ((s.wr 0x501101 0).wr 0x52000D 1).inc 0x52000E

/-! ### Grants, windows, quench -/

/-- A channel restarts on the clock that it has (R290, R296). -/
def State.restartTimer (ch : Nat) (s : State) : State :=
  let s := s.onTimer ch Timer.restart
  if s.timing.lfOn then s.rescaleLf ch else s.driveTimer ch

/-- What a grant brings to one channel: mode, shadow values, phase and control bits (R287). An immediate update is marked when
UPD is 1 and, as no valley comes, for a counter that stands (R286). -/
def Timer.granted (mode per cmp phase ctl : Nat) (stands : Bool) (t : Timer) : Timer :=
  let t : Timer := { t with shPer := per, shCmp := cmp, phase := phase, ctl := ctl }
  if mode = 1 ∨ mode = 2 then
    { t with mode := mode, upd := (bitAt ctl 1 || t.per == 0 || stands) && (per != t.per || cmp != t.cmp) }
  else { t with mode := mode, pos := 0, upd := false, pulse := t.pulse && mode == 3, running := t.running && mode == 3 }

/-- What a grant does to one channel, `old` being the live values before it (R287, R288, R290). -/
def State.grantTimer (old : Dict) (ch : Nat) (s : State) : State :=
  let mode := s.rd (0x500001 + ch)
  let t := s.timer ch
  let runs := mode == 1 || mode == 2
  let restart := runs && (!t.cycles || old.get (0x500301 + ch) != s.rd (0x500301 + ch))
  let new := Timer.granted mode (s.rd (0x500101 + ch)) (s.rd (0x500201 + ch)) (s.rd (0x500301 + ch)) (s.rd (0x500601 + ch))
    (s.timerBit ch 3)
  if restart then
    let t' : Timer := { Timer.restart { new t with mode := t.mode } with mode := mode, pulse := false, running := false }
    let s := s.onTimer ch fun _ => t'
    if s.timing.lfOn then s.rescaleLf ch else s.driveTimer ch
  else
    let s := s.onTimer ch new
    if s.timing.lfOn ∧ !runs then s.rescaleLf ch else s.driveTimer ch

/-- The grant reaches every channel at once (R287). -/
def State.grantTimers (old : Dict) (s : State) : State := s.eachTimer (State.grantTimer old)

/-- An exposure window begins in the channels its bank selects, with the masks, delays and widths of its pour `cfg`; the
window ends at `tx` (R291 to R293). -/
def State.openWindow (cfg : Dict) (bank : Nat) (tx : Instant) (s : State) : State :=
  let mask := if bank ≤ 3 then cfg.get (0x501001 + bank) else 0
  s.eachTimer (fun ch s =>
    if !bitAt mask ch then s
    else
      let s := s.onTimer ch fun t =>
        { t with window := true, txAt := tx, delay := cfg.get (0x500401 + ch), width := cfg.get (0x500501 + ch) }
      let t := s.timer ch
      let s := if t.mode = 2 ∧ bitAt t.ctl 2 then s.onTimer ch Timer.restart
        else if t.mode = 3 then s.onTimer ch fun t => { t with count := 0, running := true, pulse := false }
        else s
      s.driveTimer ch)

/-- The exposure window ends: mode 3 counters stop, and no channel drives light on (R292, R293). -/
def State.closeWindow (s : State) : State :=
  s.eachTimer fun ch s =>
    (s.onTimer ch fun t => { t with window := false, running := false, pulse := false }).driveTimer ch

/-- Quench forces every channel's output inactive (R294, R352). -/
def State.forceTimers (s : State) : State := s.eachTimer fun ch s => (s.setTimerBit ch 4 true).driveTimer ch

/-- The forcing ends (R294, R354). -/
def State.unforceTimers (s : State) : State := s.eachTimer fun ch s => (s.setTimerBit ch 4 false).driveTimer ch

/-- Every channel one tick on. -/
def State.tickTimers (s : State) : State :=
  s.eachTimer fun ch s =>
    let cut := (s.timer ch).tick.2
    let s := s.onTimer ch fun t => t.tick.1
    if cut then s.setTimerBit ch 1 true else s

/-! ### The commands of the timers -/

/-- TIMER_VALLEY (R284, R287): at count 0 the shadow values become active. -/
def execTimerValley (ch : Nat) (s : State) : Host.Outcome State Fault Refusal :=
  let t := s.timer ch
  if s.timerBit ch 2 then
    if t.lfPos = 0 then .next ((s.onTimer ch Timer.load).runLf 0 ch) else .next s
  else if t.cycles ∧ t.per ≠ 0 ∧ t.pos = 0 ∧ s.timing.clk100 then .next ((s.onTimer ch Timer.load).driveTimer ch)
  else .next s

/-- TIMER_COMPARE_MATCH (R285): the output takes the level of its rules, under R289. -/
def execTimerCompareMatch (ch : Nat) (s : State) : Host.Outcome State Fault Refusal :=
  .next (s.driveTimer ch)

/-- STROBE_PULSE_START (R293): in mode 3 the pulse starts when the count reaches DELAY, unless fewer than 2 ticks are left
before the TX fall. -/
def execStrobePulseStart (ch : Nat) (s : State) : Host.Outcome State Fault Refusal :=
  let t := s.timer ch
  if t.mode = 3 ∧ t.running ∧ t.window ∧ t.delay ≤ t.count ∧ !t.pulse ∧ s.now + 2 * tickUnits ≤ t.txAt then
    .next ((s.onTimer ch fun t => { t with pulse := true }).driveTimer ch)
  else .next s

/-- STROBE_PULSE_END (R293): the pulse ends after WIDTH ticks, or at the last tick at or before the TX fall. -/
def execStrobePulseEnd (ch : Nat) (s : State) : Host.Outcome State Fault Refusal :=
  let t := s.timer ch
  if t.mode = 3 ∧ t.pulse ∧ (t.delay + t.width ≤ t.count ∨ t.txAt < s.now + tickUnits) then
    .next ((s.onTimer ch fun t => { t with pulse := false, running := false }).driveTimer ch)
  else .next s

/-- Restart the channels of a mask (R290). -/
def State.restartTimers (mask : Nat) (s : State) : State :=
  s.eachTimer fun ch s =>
    if bitAt mask ch ∧ (s.timer ch).cycles then s.restartTimer ch else s

/-- RESTART_CHANNELS (R290, R309). -/
def execRestartChannels (tr : Transport) (v : Nat) (s : State) : Host.Outcome State Fault Refusal :=
  .next (s.hostWrite ⟨tr, 0x500901, 1, v⟩ (State.restartTimers v))

/-- LF_CLOCK_SWITCH (R296): at the first LF tick after the 100 MHz clock stopped the timers move to the LF clock. -/
def execLfClockSwitch (s : State) : Host.Outcome State Fault Refusal :=
  if !s.timing.clk100 ∧ !s.timing.lfOn ∧ s.timing.driven ∧ 1 ≤ lfTicks (s.now - s.timing.lfAt) then
    let s := s.eachTimer State.timerToLf
    let s := s.onTiming fun t => { t with lfOn := true }
    .next (s.wr 0x501101 (if s.rd 0x501102 = 1 then 1 else 2))
  else .next s

end Sys2Proof.Machine
end

