-- ==== Sys2Proof/Machine/Pours.lean ====
section
/-!
DEFINITION. How pours and lines start: start events (R62 to R67), exposures (R57 to R61, R88 to R92), line triggers (R85 to R93)
and what quench does to them (R353).
-/
namespace Sys2Proof.Machine

/-! ### The row-slot grid (R58, R66, R351) -/

/-- The start of row slot number `n`. -/
def State.slotStart (s : State) (n : Nat) : Instant := s.image.nextSlot + n * slotUnits - (s.image.slotNo + 1) * slotUnits

/-- The throttle step in force in row slot `j`: a new step takes effect at the next group of 16 (R351). -/
def State.stepAt (s : State) (j : Nat) : Nat :=
  if j / 16 ≤ s.image.slotNo / 16 then s.image.stepNow else s.rd 0x6A0005

/-- The first row slot from `j` on that is not idle. -/
def State.activeSlot (s : State) : Nat → Nat → Nat
  | 0, j => j
  | fuel + 1, j => if slotIdle j (s.stepAt j) then State.activeSlot s fuel (j + 1) else j

/-- The row slot after the last of `n` reads that begin in slot `j` or later (R58, R66). -/
def State.readsFrom (s : State) : Nat → Nat → Nat
  | 0, j => j
  | n + 1, j => State.readsFrom s n (s.activeSlot 32 j + 1)

/-- The first row slot to come whose capture window starts at least 60 ns after a TX fall (R58). -/
def State.firstCapture (s : State) (tx : Instant) : Nat :=
  s.image.slotNo + 1 + ceilDiv (tx + ns 60 - (s.image.nextSlot + 68 * periodUnits)) slotUnits

/-- The earliest instant at or after `t` that lies 170 ns after a row-slot boundary (R59, R88). -/
def State.alignedTx (s : State) (t : Instant) : Instant :=
  let base := s.image.nextSlot % slotUnits + ns 170
  base + ceilDiv (t - base) slotUnits * slotUnits

/-- The exposures of the pours in progress, oldest first. -/
def State.exposures (s : State) : List Exposure := s.image.pours.flatMap fun p => p.exps

/-- The row slot after the last read of the exposures in progress. -/
def State.readsCursor (s : State) : Nat :=
  s.exposures.foldl (fun c e =>
    if e.toRead.isEmpty then c else s.readsFrom e.toRead.length (max c (s.firstCapture e.tx))) (s.image.slotNo + 1)

/-- The release of the storage in use, as the schedule of the reads has it (R46, R47). -/
def State.releaseTime (s : State) : Instant :=
  if s.exposures.all fun e => e.toRead.isEmpty then s.image.releaseAt else s.slotStart s.readsCursor

/-! ### Area schedule (R57, R59, R64) -/

/-- GRST and TX falls of sub-exposure 0 for a start event at `t` under the values `d` (R59, R63). -/
def State.firstExposure (s : State) (d : Dict) (t : Instant) : Instant × Instant :=
  let e := expoUnits d 0
  let tx := if d.get 0x210005 = 1 then t + ns 200 + e else s.alignedTx (t + ns 200 + e)
  (tx - e, tx)

/-- The last planned TX fall lies at least 200 ns before an instant (R45, R89). -/
def State.grstFree (s : State) (grst : Instant) : Bool :=
  match s.image.lastTx with
  | none => true
  | some x => x + ns 200 ≤ grst

/-- The schedule of a pour keeps R45, R47 and R57 (R64). -/
def State.scheduleOk (s : State) (d : Dict) (t : Instant) : Bool :=
  let x := s.firstExposure d t
  s.grstFree x.1 && s.releaseTime + ns 170 ≤ x.2

/-- The earliest instant from `t` on at which the schedule of a pour keeps R45, R47 and R57 (R64, R65). -/
def State.startAt (s : State) (d : Dict) (t : Instant) : Instant :=
  let e := expoUnits d 0
  let need := max (s.image.lastTx.elim 0 fun x => x + ns 200 + e) (s.releaseTime + ns 170)
  max t (if d.get 0x210005 = 1 then need - (ns 200 + e) else s.alignedTx need + 1 - (slotUnits + ns 200 + e))

/-- The values a pour would run under if its boundary were now: those after a pending hand-over (R64). -/
def State.valuesAtBoundary (s : State) (idx enc rt : Nat) : Dict :=
  match (s.markBoundary idx enc rt).boundaryEntry with
  | some e => if (s.recheck e).isSome then s.dict else Dict.setAll s.dict e.values
  | none => s.dict

/-- The rows of a sub-exposure (R69). -/
def areaRows (d : Dict) (idx j : Nat) : List RowRef := (rowList d).mapIdx fun i r => ⟨idx, j, i, r, 0, 0⟩

/-- Sub-exposures `j` on, each aligned and after the release of the one before (R57, R59): `cur` is the row slot after the
reads before, `tx` the TX fall before. -/
def State.laterExposures (s : State) (d : Dict) (idx : Nat) : Nat → Nat → Nat → Instant → List Exposure
  | 0, _, _, _ => []
  | n + 1, j, cur, tx =>
    let x := s.alignedTx (max (s.slotStart cur + ns 170) (tx + ns 200 + expoUnits d j))
    let e : Exposure := ⟨j, d.get (0x211201 + j), x - expoUnits d j, x, .planned, areaRows d idx j⟩
    e :: State.laterExposures s d idx n (j + 1) (s.readsFrom (rowReads d) (max cur (s.firstCapture x))) x

/-- The exposures of a pour whose boundary is at `t` (R57 to R60). -/
def State.planPour (s : State) (d : Dict) (idx : Nat) (t : Instant) : List Exposure :=
  let x := s.firstExposure d t
  let e : Exposure := ⟨0, d.get 0x211201, x.1, x.2, .planned, areaRows d idx 0⟩
  let cur := s.readsFrom (rowReads d) (max s.readsCursor (s.firstCapture x.2))
  e :: s.laterExposures d idx (subCount d - 1) 1 cur x.2

/-- Exposures not yet begun move later where a throttle step change moved the release of the storage before them (R57,
R66). Sub-exposure 0 and an exposure that has begun keep the TX fall of their start event; their transfer waits for the
release (R47; DESIGN CHOICE, log entry 58). -/
def State.replan (s : State) : State :=
  let go (acc : List Exposure × Nat × Option Instant) (e : Exposure) : List Exposure × Nat × Option Instant :=
    let (l, cur, last) := acc
    let len := e.tx - e.grst
    let need := max (s.slotStart cur + ns 170) ((last.getD 0) + ns 200 + len)
    let tx := if e.stage = .planned ∧ 0 < e.sub ∧ e.tx < need then s.alignedTx need else e.tx
    let e := { e with grst := tx - len, tx := tx }
    let cur := if e.toRead.isEmpty then cur else s.readsFrom e.toRead.length (max cur (s.firstCapture tx))
    (l ++ [e], cur, some tx)
  let step (acc : List Pour × Nat × Option Instant) (p : Pour) : List Pour × Nat × Option Instant :=
    let r := p.exps.foldl go ([], acc.2.1, acc.2.2)
    (acc.1 ++ [{ p with exps := r.1 }], r.2)
  let r := s.image.pours.foldl step ([], s.image.slotNo + 1, none)
  s.onImage fun i => { i with
    pours := r.1, lastTx := match r.2.2 with | some x => some (max x (i.lastTx.getD 0)) | none => i.lastTx }

/-! ### Pours (R63, R118, R136, R169, R184) -/

/-- Stamps of a pour or line (R63, R87, R169). -/
def Pour.stamps (p : Pour) (fmt : Nat) : Packet :=
  { typ := 1, flask := 0, plane := 0, therm := p.therm, tstep := p.tstep, fmt := fmt, sver := p.sver, pour := p.idx,
    rtime := p.rtime, enc := p.enc, ewrap := p.ewrap, mould := p.mould, ovrc := 0, last := false, osflag := false,
    mixed := false, rev := false, rstrt := false, row := 0, arow := 0, neff := [], bands := 0, masks := [], pixels := [] }

/-- Ring time, position and EWRAP as they stood at an instant (R62, R63, R87): the filters' sample at the tick before it. -/
def State.stampAt (s : State) (t : Instant) : Nat × Nat × Nat :=
  let n := min (ceilDiv (s.now - t) tickUnits) s.timing.hist.length
  let p := (s.ringTime, s.position, s.rd 0x520004)
  let h := if n = 0 then p else nth s.timing.hist (n - 1) p
  let at_ := s.now - n * tickUnits
  (h.1 + (t - at_) / 57 - ceilDiv (at_ - t) 57, h.2)

/-- What a pour or line fixes at its boundary, with the live values, stamps, bank and temperature bracket (R63, R87, R129,
R136). -/
def State.newPour (s : State) (area : Bool) (t : Instant) (enc phase : Nat) : State × Pour :=
  let st := s.stampAt t
  let (s, i, a) := s.fixTemp
  (s, { idx := s.rd 0x110003, area := area, cfg := s.dict, at_ := t, sver := s.rd 0x110001, mould := s.rd 0x110006,
        rtime := st.1, enc := enc, ewrap := st.2.2, therm := s.rd 0x6A0004, tstep := s.rd 0x6A0005,
        bank := s.liveBank, set := s.corr.cache, tempI := i, alpha := a, gtrims := s.conv.gtrims,
        otrims := s.conv.otrims, exps := [], left := [], phase := phase, admitted := true, cut := false, acq := false, bad := [] })

/-- The refused start events since the last accepted pour are booked to its first packet in every flask (R64, R174). -/
def State.bookRefused (idx : Nat) (s : State) : State :=
  if s.image.ospd = 0 then s
  else
    let n := s.image.ospd
    (s.onFlasks fun f => { f with areaOspd := f.areaOspd ++ [(idx, n)] }).onImage fun i => { i with ospd := 0 }

/-- The part accepts a start event whose pour boundary is at `t` (R63). -/
def State.acceptPour (t : Instant) (s : State) : State :=
  let st := s.stampAt t
  let enc := st.2.1
  let s := (s.boundaryHandOver s.nextIndex enc st.1 none).onImage fun i => { i with held := none }
  let s := s.takeTrims.advanceIndex
  let s := s.onStage fun g => { g with lastBoundary := some enc }
  let d := s.dict
  let (s, p) := s.newPour true t enc 0
  let exps := s.planPour d p.idx t
  let s := s.bookRefused p.idx
  let (s, ok) := s.admitPour (p.stamps (formatOf d)) (pourPlanes d) (pourRows d) (packetSizes d (formatOf d))
  let p := { p with exps := exps, left := (liveFlasks d).map fun f => (f, subCount d * rowReads d), admitted := ok }
  s.onImage fun i => { i with
    pours := i.pours ++ [p], tx0 := exps.head?.map Exposure.tx
    lastTx := (exps.getLast?.map Exposure.tx).orElse fun _ => i.lastTx, freeAt := none }

/-! ### Start events (R62 to R64, R67, R353, R373) -/

/-- Quench or re-arm: start events and line triggers are discarded (R353, R354). -/
def State.quiet (s : State) : Bool := s.therm.quench || s.therm.rearmEnd.isSome

/-- Start events and line triggers are discarded in quench, re-arm and Hold (R353, R354, R373). -/
def State.eventsOff (s : State) : Bool := s.quiet || s.rd 0xB02002 != 0

/-- A discarded start event or line trigger is counted for quench and for Hold (R353, R373). -/
def State.countOff (s : State) : State :=
  let s := if s.quiet then s.inc 0x6A1105 else s
  if s.rd 0xB02002 ≠ 0 then s.inc 0xB02003 else s

/-- The image path can work: from the start mould on, while not asleep (R368, R377). -/
def State.imaging (s : State) : Bool := s.power.phase == .service || s.power.phase == .poured

/-- The part makes pours: never in SCRAP (R382). -/
def State.makesPours (s : State) : Bool := s.imaging && s.life != 3

/-- A start event of the live pour source occurs at `t` (R62 to R64, R67). -/
def State.startEvent (t : Instant) (s : State) : State :=
  if !s.makesPours then s
  else if s.eventsOff then s.countOff
  else
    let st := s.stampAt t
    let m := s.markBoundary s.nextIndex st.2.1 st.1
    if s.image.held.isSome then
      (s.inc 0x210104).onImage fun i => { i with ospd := satAdd i.ospd 1 }
    else if m.modeWaits then m.inc 0x210104
    else if s.scheduleOk (s.valuesAtBoundary s.nextIndex st.2.1 st.1) t then s.acceptPour t
    else (s.inc 0x210103).onImage fun i => { i with held := some ⟨t⟩ }

/-- HELD_START_EVENT_ACCEPT (R64): the held event is accepted once its schedule keeps the rules; a readout-mode change whose
condition is met discards it (R67). -/
def execHeldStartEventAccept (s : State) : Host.Outcome State Fault Refusal :=
  match s.image.held with
  | none => .next s
  | some h =>
    let m := s.markBoundary s.nextIndex s.position s.ringTime
    let t := s.startAt (s.valuesAtBoundary s.nextIndex s.position s.ringTime) h.at_
    if m.modeWaits then .next ((m.inc 0x210104).onImage fun i => { i with held := none })
    else if t ≤ s.now then
      .next ((s.wr 0x210105 (min 0xFFFFFFFF (max (s.rd 0x210105) ((t - h.at_) / 57)))).acceptPour t)
    else .next s

/-- The instant of the next start event of free-running mode (R65): its TX fall lies P row slots after the last, under the
values the pour would run under, or, where the schedule of that pour comes later, at the earliest instant that keeps R45 and
R47 (log entry 59). -/
def State.freeRunAt (s : State) : Option Instant :=
  if s.rd 0x210001 ≠ 0 ∨ s.rd 0x210002 ≠ 1 then none
  else
    let d := s.valuesAtBoundary s.nextIndex s.position s.ringTime
    let t := s.image.freeAt.orElse fun _ => s.image.tx0.map fun x =>
      max s.image.freeFrom (x + freeRunSlots d (s.rd 0x6A0005) * slotUnits - expoUnits d 0 - ns 200)
    t.map (s.startAt d)

/-- FREE_RUN_START_EVENT (R62, R65). -/
def execFreeRunStartEvent (s : State) : Host.Outcome State Fault Refusal :=
  match s.freeRunAt with
  | none => .next s
  | some t =>
    if s.now < t ∨ !s.makesPours then .next s
    else if s.eventsOff then
      .next (s.countOff.onImage fun i =>
        { i with freeAt := some (t + freeRunSlots s.dict (s.rd 0x6A0005) * slotUnits) })
    else
      let m := s.markBoundary s.nextIndex s.position s.ringTime
      if m.modeWaits then
        .next ((m.inc 0x210104).onImage fun i =>
          { i with freeAt := some (t + freeRunSlots s.dict (s.rd 0x6A0005) * slotUnits) })
      else .next (s.acceptPour t)

/-- A write of object 0x2100:07 (R62, R80): refused with the invalid-value abort code while the source is not 5. -/
def State.startOnePour (v : Nat) (s : State) : State :=
  if s.rd 0x210002 ≠ 5 then s.refuse abortValue
  else if v = 0 ∨ s.rd 0x210001 ≠ 0 then s else s.startEvent s.now

/-- START_ONE_POUR (R62, R80). -/
def execStartOnePour (tr : Transport) (v : Nat) (s : State) : Host.Outcome State Fault Refusal :=
  .next (s.hostWrite ⟨tr, 0x210007, 1, v⟩ (State.startOnePour v))

/-! ### Lines (R85 to R93) -/

/-- The rows of a line in reading order (R82). -/
def lineRows (d : Dict) (idx : Nat) : List RowRef :=
  (stageOrder d).mapIdx fun i r => ⟨idx, 0, i, stageRow d r.1 r.2, r.1, r.2⟩

/-- GRST and TX falls of a line whose boundary is at `t` (R88). -/
def State.lineExposure (s : State) (t : Instant) : Instant × Instant :=
  let e := tdiExpo s.dict
  let tx := if s.rd 0x340107 = 1 then t + ns 200 + e else s.alignedTx (t + ns 200 + e)
  (tx - e, tx)

/-- A pour that loses `n` rows to come in every flask. -/
def Pour.lose (p : Pour) (n : Nat) : Pour := { p with left := p.left.map fun l => (l.1, l.2 - n) }

/-- The shortest interval between line boundaries (R93; object 0x3460:04), rounded down to whole ns (DESIGN CHOICE, log entry 60). -/
def State.noteInterval (t : Instant) (s : State) : State :=
  let s := match s.tdi.lastLine with
    | some x => s.wr 0x346004 (min (s.rd 0x346004) ((t - x) / 57))
    | none => s
  s.onTdi fun x => { x with lastLine := some t, freeAt := none }

/-- A line boundary at `t` with stamped position `enc` (R87 to R93). The line before may still be cut short by this line's
transfer sequence: the row sequencer finds that at its row slots (R90; log entry 60). -/
def State.lineBoundary (t : Instant) (enc : Nat) (s : State) : State :=
  let idx := s.nextIndex
  let s := s.boundaryHandOver idx enc (s.stampAt t).1 (some idx)
  let s := if s.calRunning then s else s.onTdi fun x => { x with reserveZero := false }
  let s := if s.tdi.restartReq then s.tdiRestart (some idx) else s
  let s := if s.tdi.origin.isNone then s.onTdi fun x => { x with origin := some idx, cfg := s.dict } else s
  let s := (s.takeTrims.advanceIndex.noteInterval t).onStage fun g => { g with lastBoundary := some enc }
  let d := s.dict
  let (s, p) := s.newPour false t enc ((idx - s.tdi.origin.getD idx) % interleave d)
  let w : WebLine := ⟨idx, p.rtime, enc, p.ewrap, p.therm, p.tstep, 0, false⟩
  let s := s.onTdi fun x => { x with webs := x.webs ++ [w] }
  let x := s.lineExposure t
  if s.grstFree x.1 then
    let rows := lineRows d idx
    let e : Exposure := ⟨0, d.get (0x341101 + p.phase), x.1, x.2, .planned, rows⟩
    let p := { p with exps := [e], left := (liveFlasks d).map fun f => (f, rows.length) }
    s.onImage fun i => { i with pours := i.pours ++ [p], lastTx := some x.2 }
  else
    (((s.inc 0x346001).inc 0x346002).bookOverspeed).onImage fun i => { i with pours := i.pours ++ [p] }

/-- A pour or line is complete: nothing is left to be exposed, read or processed (R195). -/
def Pour.done (p : Pour) : Bool := (p.left.all fun l => l.2 == 0) && p.exps.all fun e => e.toRead.isEmpty

/-- The pours and lines that are complete leave in order; a line then has been read (R95, R99, R195). -/
def State.finishPours : Nat → State → State
  | 0, s => s
  | n + 1, s =>
    match s.image.pours with
    | [] => s
    | p :: l =>
      if !p.done then s
      else
        let s := s.onImage fun i => { i with pours := l }
        State.finishPours n (if p.area then s else s.finishLine p.idx)

/-- Complete every pour that is done. -/
def State.settlePours (s : State) : State := s.finishPours s.image.pours.length

/-- A line trigger at `t` (R87): accepted, or discarded in quench, re-arm and Hold or while a mode change waits (R67). -/
def State.lineTrigger (t : Instant) (enc : Nat) (s : State) : State :=
  if !s.makesPours then s
  else if s.eventsOff then s.countOff
  else
    let m := s.markBoundary s.nextIndex enc (s.stampAt t).1
    if m.modeWaits then m.inc 0x210104 else (s.lineBoundary t enc).settlePours

/-- The instant of the next free-running line trigger (R85, R92). -/
def State.freeLineAt (s : State) : Option Instant :=
  if s.rd 0x210001 ≠ 1 ∨ s.rd 0x340101 ≠ 1 then none
  else
    match s.tdi.freeAt with
    | some t => some t
    | none => s.tdi.lastLine.map fun t => max s.image.freeFrom (t + linePeriod s.dict (s.rd 0x6A0005))

/-- FREE_RUN_LINE_TRIGGER (R85, R92). -/
def execFreeRunLineTrigger (s : State) : Host.Outcome State Fault Refusal :=
  match s.freeLineAt with
  | none => .next s
  | some t =>
    if s.now < t then .next s
    else
      let next := t + linePeriod s.dict (s.rd 0x6A0005)
      let st := s.stampAt t
      let m := s.markBoundary s.nextIndex st.2.1 st.1
      if s.eventsOff ∨ m.modeWaits then
        .next ((s.lineTrigger t st.2.1).onTdi fun x => { x with freeAt := some next })
      else .next (s.lineTrigger t st.2.1)

/-- A write of object 0x3401:06 (R85, R105): refused with the invalid-value abort code while the source is not 5. -/
def State.makeOneLine (v : Nat) (s : State) : State :=
  if s.rd 0x340101 ≠ 5 then s.refuse abortValue
  else if v = 0 ∨ s.rd 0x210001 ≠ 1 then s else s.lineTrigger s.now s.position

/-- MAKE_ONE_LINE (R85, R105). -/
def execMakeOneLine (tr : Transport) (v : Nat) (s : State) : Host.Outcome State Fault Refusal :=
  .next (s.hostWrite ⟨tr, 0x340106, 1, v⟩ (State.makeOneLine v))

/-- The host asks for a TDI restart (R101): at the next line boundary, or at once when the source is 0. -/
def State.askRestart (s : State) : State :=
  if s.rd 0x210001 ≠ 1 then s
  else if s.rd 0x340101 = 0 then s.tdiRestart none
  else s.onTdi fun x => { x with restartReq := true }

/-- RESTART_TDI (R101). -/
def execRestartTdi (tr : Transport) (v : Nat) (s : State) : Host.Outcome State Fault Refusal :=
  .next (s.hostCommand tr 0x344003 v State.askRestart)

/-! ### Exposures (R45, R57, R73, R88) -/

/-- The first exposure with a property, in the order of the pours, updated. -/
def updateFirst (f : Exposure → Bool) (g : Exposure → Exposure) : List Exposure → List Exposure
  | [] => []
  | e :: l => if f e then g e :: l else e :: updateFirst f g l

/-- The exposure of pour `idx`, sub-exposure `j` updated. -/
def State.onExposure (idx j : Nat) (g : Exposure → Exposure) (s : State) : State :=
  s.onImage fun i => { i with
    pours := i.pours.map fun p => if p.idx = idx then { p with exps := updateFirst (fun e => e.sub == j) g p.exps } else p }

/-- Pours with their exposures, oldest first. -/
def State.pourExposures (s : State) : List (Pour × Exposure) :=
  s.image.pours.flatMap fun p => p.exps.map fun e => (p, e)

/-- EXPOSURE_START (R45, R73, R291): at the GRST fall of the next planned exposure its exposure window begins. -/
def execExposureStart (s : State) : Host.Outcome State Fault Refusal :=
  match s.pourExposures.find? fun x => x.2.stage == .planned with
  | none => .next s
  | some (p, e) =>
    if s.now < e.grst then .next s
    else
      .next ((s.onExposure p.idx e.sub fun e => { e with stage := .opened }).openWindow p.cfg e.bank e.tx)

/-- TRANSFER_SEQUENCE (R45, R47): at the TX fall the exposure is stored and its window ends. The sequence starts no earlier than
the release of the storage before it: where that comes later than planned, TX waits and the exposure grows longer
(DESIGN CHOICE, log entry 58). -/
def execTransferSequence (s : State) : Host.Outcome State Fault Refusal :=
  match s.pourExposures.find? fun x => x.2.stage == .opened with
  | none => .next s
  | some (p, e) =>
    let before := s.pourExposures.filter fun x => x.2.stage == .stored
    let t := max e.tx (s.image.releaseAt + ns 170)
    if s.now < t ∨ (before.any fun x => !x.2.toRead.isEmpty) then .next s
    else
      let s := s.onImage fun i => { i with madeTx := some t, lastTx := i.lastTx.map (max t) }
      .next ((s.onExposure p.idx e.sub fun e => { e with stage := .stored, tx := t }).closeWindow.settlePours)

/-! ### Quench (R353) -/

/-- The output rows among row reads that were not read (R353). -/
def unreadOutputs (d : Dict) (l : List RowRef) : Nat := ((l.map fun r => (r.sub, r.ord / digFactor d)).dedup).length

/-- The area pour in progress is closed: its rows not read become slag rows in every live flask (R353). -/
def State.closePour (s : State) (p : Pour) : State :=
  let rows := p.exps.flatMap fun e => e.toRead
  let flasks := liveFlasks p.cfg
  let n := if fusedOut p.cfg then
      unreadOutputs p.cfg (rows.filter fun r => r.sub + 1 == subCount p.cfg)
    else unreadOutputs p.cfg rows
  flasks.foldl (fun s f =>
    (s.bookSlag f n).onFlask f fun x => { x with
      rows := x.rows ++ rows.map fun r => (⟨r, true, true, [], none, none, 0⟩ : LadleRow) }) s

/-- Entry into quench stops row reads and pours (R352, R353): held events are discarded and counted, acquisition pours are
abandoned with their run (R148), area pours are closed, lines lose the rows not read, exposures not yet stored are not made but
keep their TX fall for the tests of R89 (DESIGN CHOICE, log entry 58), and TDI restarts. -/
def State.quenchImage (s : State) : State :=
  let s := if s.image.held.isSome then (s.inc 0x6A1105).onImage fun i => { i with held := none } else s
  let s := s.onImage fun i => { i with pours := i.pours.filter fun p => !p.acq }
  let s := (s.image.pours.filter fun p => p.area).foldl State.closePour s
  let s := s.onImage fun i => { i with
    lastTx := i.madeTx
    pours := i.pours.map fun p =>
      let n := sumNat (p.exps.map fun e => e.toRead.length)
      { (if p.area then p else p.lose n) with
        exps := p.exps.map fun e => { e with stage := .empty, toRead := [] } } }
  let s := if s.rd 0x210001 = 1 then s.tdiRestart none else s
  s.settlePours

end Sys2Proof.Machine
end

