-- ==== Sys2Proof/Machine/Capture.lean ====
section
/-!
DEFINITION. Capture channels (R298 to R302, R312), the TRIG pins (R62, R85), and the quadrature position counter (R303 to R308,
R313).
-/
namespace Sys2Proof.Machine

/-! ### Pour and line sources (R62, R85) -/

/-- A start event or line trigger at `t` of a source value and source number, if the live mode listens to it (R62, R85). -/
def State.sourceEvent (src n : Nat) (t : Instant) (s : State) : State :=
  if s.rd 0x210001 = 1 then
    (if s.rd 0x340101 = src ∧ s.rd 0x340102 = n then s.lineTrigger t (s.stampAt t).2.1 else s)
  else if s.rd 0x210002 = src ∧ s.rd 0x210003 = n then s.startEvent t
  else s

/-- An input of R298 has a level now; while the 100 MHz clock is stopped nothing else follows from it (R308). -/
def State.seePin (input : Nat) (level : Bool) (s : State) : State :=
  s.onTiming fun t => { t with pins := setNth t.pins input level }

/-- TRIG_PIN_EDGE (R62, R85): the 2-sample filter of a TRIG pin shows a new level; the event's time is the first of the two
samples. -/
def execTrigPinEdge (pin : Nat) (level : Bool) (s : State) : Host.Outcome State Fault Refusal :=
  let s := s.seePin (3 + pin) level
  if nth s.timing.trig pin level = level ∨ !s.timing.clk100 then .next s
  else
    let s := s.onTiming fun t => { t with trig := setNth t.trig pin level }
    let sense (k : Nat) : Bool := (s.rd k == 0) == level
    if sense (if s.rd 0x210001 = 1 then 0x340103 else 0x210004) then .next (s.sourceEvent 3 pin (s.now - tickUnits)) else .next s

/-! ### Capture (R298 to R302) -/

/-- One capture channel updated. -/
def State.onCapture (ch : Nat) (f : Capture → Capture) (s : State) : State :=
  s.onTiming fun t => { t with captures := modifyNth t.captures ch f }

/-- Capture channel `ch`. -/
def State.capture (s : State) (ch : Nat) : Capture := nth s.timing.captures ch ⟨0, false, []⟩

/-- The filter samples of a channel: fixed at 2 in mode 2 (R299). -/
def State.captureFilter (s : State) (ch : Nat) : Nat := if s.rd (0x510101 + ch) = 2 then 2 else s.rd (0x510301 + ch)

/-- Ring time, position and EWRAP at the first of the F samples (R299, R301). -/
def State.edgeStamp (s : State) (f : Nat) : Nat × Nat × Nat :=
  if f ≤ 1 then (s.ringTime, s.position, s.rd 0x520004)
  else nth s.timing.hist (f - 2) (s.ringTime, s.position, s.rd 0x520004)

/-- A capture entry (R301). -/
def captureEntry (st : Nat × Nat × Nat) (level : Bool) : List Byte :=
  leBytes 8 st.1 ++ leBytes 4 st.2.1 ++ leBytes 2 st.2.2 ++ leBytes 1 (b2n !level) ++ [0]

/-- A capture event (R301, R302): queue or compatible register, then the pour and line sources. -/
def State.captureEvent (ch : Nat) (level : Bool) (s : State) : State :=
  let st := s.edgeStamp (s.captureFilter ch)
  let s := s.inc (0x510701 + ch)
  let s := if s.rd (0x510101 + ch) = 2 then
      let full := bitAt (s.rd (0x510A01 + ch)) 0
      let s := s.wr (0x510901 + ch) (st.1 % 2 ^ 32)
      let s := if full then s.wr (0x510A01 + ch) (setBit (s.rd (0x510A01 + ch)) 1) else s
      s.wr (0x510A01 + ch) (setBit (s.rd (0x510A01 + ch)) 0)
    else if 4 ≤ (s.capture ch).queue.length then s.inc (0x510801 + ch)
    else s.onCapture ch fun c => { c with queue := c.queue ++ [captureEntry st level] }
  s.sourceEvent 2 ch s.now

/-- The level is an edge of the chosen sense (R298). -/
def captureSense (edge : Nat) (level : Bool) : Bool := edge == 2 || (edge == 0) == level

/-- CAPTURE_INPUT_EDGE (R299): the filter accepts a new level, and the prescaler makes an event at every Nth edge of the
chosen sense. -/
def execCaptureInputEdge (ch : Nat) (level : Bool) (s : State) : Host.Outcome State Fault Refusal :=
  let s := s.seePin (s.rd (0x510001 + ch)) level
  if (s.capture ch).level = level ∨ !s.timing.clk100 then .next s
  else
    let s := s.onCapture ch fun c => { c with level := level }
    let mode := s.rd (0x510101 + ch)
    if mode = 0 ∨ !captureSense (s.rd (0x510201 + ch)) level then .next s
    else
      let n := if mode = 1 then s.rd (0x510401 + ch) else 1
      let c := (s.capture ch).pre + 1
      if n ≤ c then .next ((s.onCapture ch fun x => { x with pre := 0 }).captureEvent ch level)
      else .next (s.onCapture ch fun x => { x with pre := c })

/-- The prescalers of the channels of a mask return to 0 (R300). -/
def State.resetPrescalers (v : Nat) (s : State) : State :=
  (List.range 4).foldl (fun s ch => if bitAt v ch then s.onCapture ch fun c => { c with pre := 0 } else s) s

/-- RESET_PRESCALERS (R300, R312). -/
def execResetPrescalers (tr : Transport) (v : Nat) (s : State) : Host.Outcome State Fault Refusal :=
  .next (s.hostWrite ⟨tr, 0x510C01, 1, v⟩ (State.resetPrescalers v))

/-- A read of the oldest capture entry removes it (R301). -/
def State.readCapture (ch : Nat) (s : State) : State :=
  let e := (s.capture ch).queue.headD (List.replicate 16 0)
  (s.onCapture ch fun c => { c with queue := c.queue.tail }).acceptData e

/-- CAPTURE_ENTRY_READ (R301). -/
def execCaptureEntryRead (tr : Transport) (ch : Nat) (s : State) : Host.Outcome State Fault Refusal :=
  .next (s.hostRead tr (0x510501 + ch) (State.readCapture ch))

/-- A read of the compatible register clears FULL (R302). -/
def State.readCompatible (ch : Nat) (s : State) : State :=
  let v := s.rd (0x510901 + ch)
  (s.wr (0x510A01 + ch) (clearBit (s.rd (0x510A01 + ch)) 0)).acceptData (leBytes 4 v)

/-- COMPATIBLE_CAPTURE_READ (R302). -/
def execCompatibleCaptureRead (tr : Transport) (ch : Nat) (s : State) : Host.Outcome State Fault Refusal :=
  .next (s.hostRead tr (0x510901 + ch) (State.readCompatible ch))

/-- The effect of object 0x510B:01 (R312). -/
def State.clearCaptureCounts (s : State) : State := s.zero (rangeFrom 0x510701 4 ++ rangeFrom 0x510801 4)

/-- CLEAR_CAPTURE_COUNTS (R312). -/
def execClearCaptureCounts (tr : Transport) (v : Nat) (s : State) : Host.Outcome State Fault Refusal :=
  .next (s.hostCommand tr 0x510B01 v State.clearCaptureCounts)

/-- A grant that changes a channel's objects resets its prescaler and takes the present level of its input (R300). -/
def State.grantCapture (old : Dict) (s : State) (ch : Nat) : State :=
  let keys := [0x510001 + ch, 0x510101 + ch, 0x510201 + ch, 0x510301 + ch, 0x510401 + ch]
  if keys.all fun k => old.get k == s.rd k then s
  else s.onCapture ch fun c => { c with pre := 0, level := nth s.timing.pins (s.rd (0x510001 + ch)) false }

/-- A grant that changes the encoder filter or the counting mode sets the decoder to the present levels of A and B (R313). -/
def State.grantQuadrature (old : Dict) (s : State) : State :=
  if old.get 0x520006 = s.rd 0x520006 ∧ old.get 0x520007 = s.rd 0x520007 then s
  else s.onTiming fun t => { t with a := nth t.pins 0 false, b := nth t.pins 1 false }

/-! ### The quadrature position counter (R303 to R308) -/

/-- The counter has moved: line triggers and reversals of the encoder grid (R86). -/
def State.gridCheck (s : State) : State :=
  if s.rd 0x210001 ≠ 1 ∨ s.rd 0x340101 ≠ 6 then s
  else
    let t := s.tdi.gridT
    let x := forwardDiff (s.rd 0x340202) s.position256 t
    if 0 ≤ x then (s.setGrid (s.gridStep t 1)).lineTrigger s.now (t / 256 % 2 ^ 32)
    else if (s.rd 0x340201 : Int) < -x then
      (if s.tdi.behind then s
        else (s.inc 0x346005).onTdi fun t => { t with behind := true, revFlag := true })
    else s.onTdi fun t => { t with behind := false }

/-- The counter wraps: EWRAP moves and the event is logged (R304). -/
def State.wrapped (up : Bool) (s : State) : State :=
  let w := if up then (s.rd 0x520004 + 1) % 65536 else (s.rd 0x520004 + 65535) % 65536
  (s.wr 0x520004 w).logEvent 0x0701 (leBytes 2 w ++ leBytes 1 (b2n !up))

/-- The counter moves by one (R303, R304). -/
def State.countEdge (up : Bool) (s : State) : State :=
  let p := s.position
  let s := s.wr 0x520001 (if up then (p + 1) % 2 ^ 32 else (p + 2 ^ 32 - 1) % 2 ^ 32)
  let s := if (up ∧ p = 2 ^ 32 - 1) ∨ (!up ∧ p = 0) then s.wrapped up else s
  s.gridCheck

/-- What new levels of A and B count in a counting mode: none, up, or down (R303). -/
def quadCount (mode : Nat) (a b a' b' : Bool) : Option Bool :=
  match mode with
  | 1 =>
    if a != a' then some (a' != b)
    else if b != b' then some (b' == a)
    else none
  | 2 => if !a && a' then some (!b') else none
  | 3 => if !a && a' then some (!b') else none
  | _ => none

/-- QUADRATURE_EDGE (R303): A and B accept new levels at this tick; in mode 1 both at once are an error that counts nothing. -/
def execQuadratureEdge (a b : Bool) (s : State) : Host.Outcome State Fault Refusal :=
  let s := (s.seePin 0 a).seePin 1 b
  if !s.timing.clk100 then .next s
  else
    let a0 := s.timing.a
    let b0 := s.timing.b
    let s := s.onTiming fun t => { t with a := a, b := b }
    if s.rd 0x520007 = 1 ∧ a0 ≠ a ∧ b0 ≠ b then .next (s.inc 0x52000A)
    else
      match quadCount (s.rd 0x520007) a0 b0 a b with
      | some up => .next (s.countEdge up)
      | none => .next s

/-- ENC_Z_EDGE (R307): ENC_Z accepts a new level; a rising edge copies the counter. -/
def execEncZEdge (s : State) (level : Bool := true) : Host.Outcome State Fault Refusal :=
  let rising := level && s.timing.clk100
  let s := s.seePin 2 level
  if rising then .next ((s.wr 0x520008 s.position).inc 0x520009) else .next s

/-- POSITION_CHANGE_SAMPLE (R307): every 1 ms, the change over the last 1 ms. -/
def execPositionChangeSample (s : State) : Host.Outcome State Fault Refusal :=
  if s.now < s.timing.sampleAt ∨ !s.timing.clk100 then .next s
  else
    let p := s.position
    .next ((s.wr 0x52000B ((p + 2 ^ 32 - s.timing.lastPos) % 2 ^ 32)).onTiming fun t =>
      { t with lastPos := p, sampleAt := t.sampleAt + ms 1 })

/-- A hand-over entry of kind 3 is queued (R306). -/
def State.encoderEntryQueued (s : State) : Bool :=
  s.stage.queue.any fun e => match e.bound with
    | .encoder _ => true
    | _ => false

/-- The preset of the counter, refused where a jump would move the grid or a boundary (R306). -/
def State.presetPosition (v : Nat) (s : State) : State :=
  if (s.rd 0x210001 = 1 ∧ s.rd 0x340101 = 6) ∨ s.encoderEntryQueued then s.refuse abortState else s.wr 0x520001 v

/-- POSITION_PRESET (R306). -/
def execPositionPreset (tr : Transport) (v : Nat) (s : State) : Host.Outcome State Fault Refusal :=
  .next (s.hostWrite ⟨tr, 0x520001, 4, v⟩ (State.presetPosition v))

/-- A read of the low word latches the high word in the transport's word latch (R305). -/
def State.readLowWord (tr : Transport) (s : State) : State :=
  let p := s.position
  let s := match tr with
    | .ring => s.onTiming fun t => { t with wordRing := p / 65536 }
    | .twi => s.onTwi fun t => { t with wordLatch := p / 65536 }
  s.acceptData (leBytes 2 p)

/-- POSITION_LOW_WORD_READ (R305). -/
def execPositionLowWordRead (tr : Transport) (s : State) : Host.Outcome State Fault Refusal :=
  .next (s.hostRead tr 0x520002 (State.readLowWord tr))

/-- The effect of object 0x5200:0C (R313). -/
def State.clearQuadratureCounts (s : State) : State := s.zero [0x520009, 0x52000A, 0x52000E]

/-- CLEAR_QUADRATURE_COUNTS (R313). -/
def execClearQuadratureCounts (tr : Transport) (v : Nat) (s : State) : Host.Outcome State Fault Refusal :=
  .next (s.hostCommand tr 0x52000C v State.clearQuadratureCounts)

end Sys2Proof.Machine
end

