-- ==== Sys2Proof/Machine/Rows.lean ====
section
/-!
DEFINITION. The row path: row slots (R58, R28, R351), the map window (R23, R33), the flask cores (R22, R71 to R78, R95, R121 to
R142), and the pace monitor and VCORE loop (R24 to R27).
-/
namespace Sys2Proof.Machine

/-- The pour in progress with an index. -/
def State.pourOf (s : State) (idx : Nat) : Option Pour := s.image.pours.find? fun p => p.idx == idx

/-- Flask `f`. -/
def State.flask (s : State) (f : Nat) : Flask := nth s.image.flasks f Flask.reset

/-! ### Area output rows (R71 to R78, R173) -/

/-- The column group of output pixel `i` of a flask (R69, R72). -/
def pixelGroup (d : Dict) (f i : Nat) : Nat := nth (flaskGroups d f) (i / (64 / (colFactor d * digFactor d))) 0

/-- A row mask with bit `b` set for the column group of every marked output pixel (R76, R123, R172). -/
def pixelMask (d : Dict) (f b : Nat) (marks : List Bool) : Nat :=
  (marks.mapIdx fun i m => (i, m)).foldl (fun m x => if x.2 then maskBit m (pixelGroup d f x.1) b else m) 0

/-- The content of an output row: values, overrange and passed-raw marks, row mask, overrange samples. -/
structure RowOut where
  vals : List Nat
  ovr  : List Bool
  raw  : List Bool
  mask : Nat
  ovrc : Nat
  deriving DecidableEq, Repr

/-- The packet of an output row of pour `p` (R169, R173): a slag row where there is no content. -/
def Pour.rowPacket (p : Pour) (f plane orow arow : Nat) (c : Option RowOut) : Packet :=
  let base := p.stamps (formatOf p.cfg)
  let base := { base with
    flask := f, plane := plane, row := orow, arow := arow, last := orow + 1 == rowReads p.cfg / digFactor p.cfg }
  match c with
  | none => { base with typ := 3 }
  | some c => { base with typ := 1, ovrc := min 0xFFFF c.ovrc, masks := [c.mask], pixels := c.vals }

/-- Step 9: an output row reaches the tundish (R173). -/
def State.sendRow (p : Pour) (f plane orow arow : Nat) (c : Option RowOut) (s : State) : State :=
  s.complete (p.rowPacket f plane orow arow c)

/-- The new word of the fusion store for a value of sub-exposure `j` (R75, R76). -/
def fuseWord (d : Dict) (j old v : Nat) (ovr raw : Bool) : Nat :=
  let cand := v ≤ d.get 0x211003 && !ovr && !raw
  let g := gainOf d j
  let g0 := gainOf d (field old 13 12)
  let c0 := bitAt old 14
  if !bitAt old 16 || (cand && !c0) || (cand && c0 && g < g0) || (!cand && !c0 && g0 < g) then
    v + 2 ^ 12 * j + 2 ^ 14 * b2n cand + 2 ^ 15 * b2n ovr + 2 ^ 16 + 2 ^ 17 * b2n raw
  else old

/-- The fused value F of a word (R76). -/
def fusedValue (d : Dict) (w : Nat) : Nat :=
  if bitAt w 15 then 1048575 else (field w 11 0 * gainOf d (field w 13 12) + 64) / 128

/-- The companded code of a fused value (R78). -/
def compand (f : Nat) : Nat :=
  if f ≤ 16383 then f
  else if f ≤ 65535 then 16384 + (f - 16384) / 4
  else if f ≤ 262143 then 28672 + (f - 65536) / 16
  else 40960 + (f - 262144) / 64

/-- The content of a fused row (R76, R78); OVRC counts the words kept with an overrange code (log entry 10). -/
def fusedRow (d : Dict) (f : Nat) (r : FuseRow) : Option RowOut :=
  if r.words.all fun w => !bitAt w 16 then none
  else
    let ovr := r.words.map fun w => bitAt w 15
    let raw := r.words.map fun w => bitAt w 17
    some ⟨r.words.map fun w => compand (fusedValue d w), ovr, raw,
      pixelMask d f 0 ovr ||| pixelMask d f 1 raw, (ovr.filter id).length⟩

/-- Step 8: an output row of a sub-exposure enters the fusion store; the last sub-exposure sends the fused row, as slag where
its row was not read (R75, R76, R353). -/
def State.fuseRow (p : Pour) (f sub orow arow : Nat) (c : Option RowOut) (unread : Bool) (s : State) : State :=
  let d := p.cfg
  let old := ((s.flask f).fuse.find? fun r => r.orow == orow).getD
    ⟨orow, arow, List.replicate (flaskPixels d f) 0, 0⟩
  let new : FuseRow := match c with
    | none => old
    | some c => { old with
        words := (List.range old.words.length).map fun i =>
          fuseWord d sub (nth old.words i 0) (nth c.vals i 0) (nth c.ovr i false) (nth c.raw i false) }
  let rest (x : Flask) : List FuseRow := x.fuse.filter fun r => r.orow != orow
  if sub + 1 = subCount d then
    (s.onFlask f fun x => { x with fuse := rest x }).sendRow p f 0 orow arow (if unread then none else fusedRow d f new)
  else s.onFlask f fun x => { x with fuse := rest x ++ [new] }

/-- An output row of a sub-exposure: a plane's row, or one for the fusion store (R74, R75). -/
def State.outputRow (p : Pour) (f sub orow arow : Nat) (c : Option RowOut) (unread : Bool) (s : State) : State :=
  if fusedOut p.cfg then s.fuseRow p f sub orow arow c unread else s.sendRow p f sub orow arow c

/-- Sums of 4 adjacent values (R71). -/
def sumFours : List Nat → List Nat
  | a :: b :: c :: d :: l => (a + b + c + d) :: sumFours l
  | _ => []

/-- Disjunctions of 4 adjacent marks (R71). -/
def anyFours : List Bool → List Bool
  | a :: b :: c :: d :: l => (a || b || c || d) :: anyFours l
  | _ => []

/-- Step 6: a row read joins its block of 4; the last of the block makes the output row, slag where any was slag (R71). -/
def State.binRow (p : Pour) (f : Nat) (r : RowRef) (c : Option RowOut) (unread : Bool) (s : State) : State :=
  let d := p.cfg
  let orow := r.ord / 4
  let old := ((s.flask f).bins.find? fun b => b.sub == r.sub && b.orow == orow).getD
    ⟨r.sub, orow, 0, false, r.row, [], [], [], 0, 0⟩
  let new : BinRow := match c with
    | none => { old with rows := old.rows + 1, slag := true }
    | some c =>
      let first := old.sums.isEmpty
      { old with
        rows := old.rows + 1
        sums := if first then sumFours c.vals else List.zipWith (· + ·) old.sums (sumFours c.vals)
        ovr := if first then anyFours c.ovr else List.zipWith (· || ·) old.ovr (anyFours c.ovr)
        raw := if first then anyFours c.raw else List.zipWith (· || ·) old.raw (anyFours c.raw)
        ovrc := old.ovrc + c.ovrc
        rmask := old.rmask ||| c.mask }
  let rest (x : Flask) : List BinRow := x.bins.filter fun b => !(b.sub == r.sub && b.orow == orow)
  if new.rows = 4 then
    let s := s.onFlask f fun x => { x with bins := rest x }
    let vals := new.sums.map fun v => if d.get 0x213002 = 1 then (v + 8) / 16 else v
    let mask := pixelMask d f 0 new.ovr ||| (new.rmask &&& 0xAAAAAAAA)
    s.outputRow p f r.sub orow new.arow (if new.slag then none else some ⟨vals, new.ovr, new.raw, mask, new.ovrc⟩) unread
  else s.onFlask f fun x => { x with bins := rest x ++ [new] }

/-- Steps 6 to 9 in area mode for one row read (R71, R74, R75). -/
def State.areaRow (p : Pour) (f : Nat) (r : RowRef) (c : Option RowOut) (unread : Bool) (s : State) : State :=
  if digFactor p.cfg = 4 then s.binRow p f r c unread else s.outputRow p f r.sub r.ord r.row c unread

/-! ### TDI accumulation (R95) -/

/-- Step 7 for one stage row; a slag row only lowers the count (R29, R95, R103). -/
def State.stageRowOut (p : Pour) (f : Nat) (r : RowRef) (c : Option RowOut) (s : State) : State :=
  match s.feeds p.idx r.band r.stage with
  | none => s
  | some m =>
    match c with
    | none => s.onAcc r.band m p.phase none f fun a => { a with slag := a.slag + 1 }
    | some c => s.onAcc r.band m p.phase (some p.sver) f fun a => a.addRow c.vals c.ovr c.mask c.ovrc

/-! ### Acquisition rows (R146, R147) -/

/-- The run's present values updated. -/
def State.onCal (f : Cal → Cal) (s : State) : State := s.onCorr fun x => { x with cal := x.cal.map f }

/-- The first index of acquisition pours: they do not advance the pour index (R146; log entry 63). -/
abbrev acqIndex : Nat := 2 ^ 64

/-- One sample added to the sums of its pixel. -/
def addSample (l : List PixSum) (r c : Nat) (sig raw : Int) : List PixSum :=
  if l.any fun q => q.row == r && q.col == c then
    l.map fun q => if q.row = r ∧ q.col = c then { q with sum := q.sum + sig, raw := q.raw + raw, n := q.n + 1 } else q
  else l ++ [⟨r, c, sig, raw, 1⟩]

/-- The signal of a sample after step 2, which an overrange sample bypasses (R140, R147), and what the run sums beside it: in a
flat run the signal with the gain of steps 3 and 4 (R151), else the raw code. -/
def State.acqSignal (s : State) (run : Nat) (p : Pour) (r : LadleRow) (x : Sample × Nat × Bool × Bool) : Int × Int :=
  let e := s.mapEntry p r.ref.row x.1.col
  let sig := if x.1.ovr then 65520 else 16 * (x.2.1 : Int) - p.dark16 r.dl r.dr e x.1.col
  (sig, if run = 3 then fdiv (sig * p.gain16 e x.1.col) 65536 else x.1.raw)

/-- A row of an acquisition pour that the core has taken through steps 1 and 2 joins the sums of its run (R146, R147); the mean
of a pour and the counts of samples are those of the live spans (log entry 63). -/
def State.acqRow (p : Pour) (r : LadleRow) (l : List (Sample × Nat × Bool × Bool)) (s : State) : State :=
  s.onCal fun c =>
    let sigs := l.map fun x => (x.1, s.acqSignal c.run p r x)
    let live := sigs.filter fun x => groupLive s.dict (x.1.col / 64)
    { c with
      sums := sigs.foldl (fun q x => addSample q r.ref.row x.1.col x.2.1 x.2.2) c.sums
      means := modifyNth c.means (p.idx - acqIndex) fun m =>
        (live.foldl (fun t x => t + x.2.1) m.1, m.2 + live.length)
      ovrs := c.ovrs + (live.filter fun x => x.1.ovr).length
      total := c.total + live.length }

/-- The shielded columns and the dark estimates of a row slot that converts an acquisition row (R147, R149). -/
def State.acqDark (p : Pour) (dark : List (Nat × Int)) (s : State) : State :=
  let l := s.validDark p dark 0 1 ++ s.validDark p dark 2 3
  let known := !s.conv.freshL && !s.conv.freshR
  s.onCal fun c => { c with
    dark := c.dark + sumNat (l.map Sample.raw), darkN := c.darkN + l.length
    dl := c.dl + if known then s.rd 0x311002 else 0
    dr := c.dr + if known then s.rd 0x311003 else 0
    rows := c.rows + b2n known }

/-- Steps 6 to 9 for one row of a flask; an acquisition row that is slag is noted (R147). -/
def State.coreOut (p : Pour) (f : Nat) (r : RowRef) (c : Option RowOut) (unread : Bool) (s : State) : State :=
  if p.acq then (if c.isSome then s else s.onCal fun c => { c with slag := true })
  else if p.area then s.areaRow p f r c unread
  else s.stageRowOut p f r c

/-! ### The flask core (R22, R29, R121, R122) -/

/-- The measurement of flask `f`. -/
def State.paceRun (s : State) (f : Nat) : PaceRun := nth s.pace.runs f ⟨0, 0, false⟩

/-- The measurement of one flask updated. -/
def State.onPaceRun (f : Nat) (g : PaceRun → PaceRun) (s : State) : State :=
  s.onPace fun p => { p with runs := modifyNth p.runs f g }

/-- The core has processed `n` pixels in flask `f` (R24). -/
def State.countPixels (f n : Nat) (s : State) : State := s.onPaceRun f fun r => { r with pixels := r.pixels + n }

/-- The row at the front of a ladle has been processed in flask `f`. -/
def State.rowDone (f idx : Nat) (s : State) : State :=
  (s.onFlask f fun x => { x with rows := x.rows.tail }).onImage fun i => { i with
    pours := i.pours.map fun p =>
      if p.idx = idx then { p with left := p.left.map fun l => if l.1 = f then (l.1, l.2 - 1) else l } else p }

/-- Slag marks at the front of a ladle are passed on (R29). -/
def State.flushSlag (f : Nat) : Nat → State → State
  | 0, s => s
  | n + 1, s =>
    match (s.flask f).rows with
    | [] => s
    | r :: _ =>
      if !r.slag then s
      else
        let s := match s.pourOf r.ref.pour with
          | some p => s.coreOut p f r.ref none r.unread
          | none => s
        State.flushSlag f n (s.rowDone f r.ref.pour)

/-- Pass on the slag marks at the front of every ladle, and complete the pours that are done. -/
def State.settleFlasks (s : State) : State :=
  ((List.range 16).foldl (fun s f => s.flushSlag f (s.flask f).rows.length) s).settlePours

/-- The number of the row range that holds row read `i` of a sub-exposure (R69). -/
def rangeAt (d : Dict) (i : Nat) : Nat :=
  let rec go : List (Nat × Nat) → Nat → Nat → Nat
    | [], n, _ => n
    | r :: l, n, i => if i < r.2 / rowFactor d then n else go l (n + 1) (i - r.2 / rowFactor d)
  go (rangesOf d) 0 i

/-- Row reads `i` and `i + 1` of a sub-exposure are adjacent: same row range and band (R122). -/
def adjacentReads (d : Dict) (i : Nat) : Bool :=
  i + 1 < rowReads d && rangeAt d i == rangeAt d (i + 1) &&
  nth (rowList d) i 0 / 256 == nth (rowList d) (i + 1) 0 / 256

/-- `b` is the row read after `a` that R122 calls adjacent. -/
def Pour.follows (p : Pour) (a b : RowRef) : Bool :=
  a.pour == b.pour &&
  if p.area then a.sub == b.sub && b.ord == a.ord + 1 && adjacentReads p.cfg a.ord
  else a.band == b.band && b.stage == a.stage + 1

/-- The row after a row is still to come: to be read, or sampled and not yet converted (R22, R83). -/
def State.nextToCome (s : State) (p : Pour) (r : RowRef) : Bool :=
  (p.exps.any fun e => e.toRead.any (p.follows r)) || s.image.sampled.any (p.follows r)

/-- Step 1 for every sample of a row (R121). -/
def recoverRow (mode : Nat) (prev next : Option LadleRow) (r : LadleRow) : List (Sample × Nat × Bool × Bool) :=
  r.samples.map fun a => (a, recoverSample mode prev next a)

/-- DEF of a pixel's entry; with charge binning the OR of its two columns (R130). -/
def State.defectOf (s : State) (p : Pour) (r c : Nat) : Bool :=
  entryDef (s.mapEntry p r c) || (colFactor p.cfg == 2 && entryDef (s.mapEntry p r (c + 1)))

/-- Steps 2 to 4 for every sample of a row. -/
def State.correctRow (s : State) (p : Pour) (r : LadleRow) (l : List (Sample × Nat × Bool × Bool)) : List Pix :=
  l.map fun x =>
    let a := x.1
    p.correct r.dl r.dr (s.mapEntry p r.ref.row a.col) (s.defectOf p r.ref.row a.col) a.col x.2.1 a.ovr x.2.2.2

/-- Steps 1 to 5 for a row of flask `f`, with the counts they raise (R121, R140, R142): the content of the row. A substituted
pixel keeps the value of R142 whatever its overrange bit (R95; DESIGN CHOICE, log entry 61). -/
def State.coreRow (p : Pour) (f : Nat) (prev next : Option LadleRow) (r : LadleRow) (s : State) : State × RowOut :=
  let l := recoverRow (p.cfg.get 0x300301) prev next r
  let pix := s.correctRow p r l
  let subs := pix.map (substitute (p.cfg.get 0x400004 == 1) (colFactor p.cfg) pix)
  let s := s.add (0x310101 + f) (l.filter fun x => x.2.2.1).length
  let s := s.add (0x310201 + f) (l.filter fun x => x.2.2.2).length
  let s := s.add (0x402201 + f) (pix.filter fun q => q.clip).length
  let s := s.add (0x402001 + f) (sumNat (subs.map fun x => x.2.1))
  let s := s.add (0x402101 + f) (sumNat (subs.map fun x => x.2.2))
  let mask := pix.foldl (fun m q => if q.raw then maskBit m (q.col / 64) 1 else m) r.masks
  (s, ⟨subs.map fun x => x.1.val, subs.map fun x => x.1.ovr, pix.map fun q => q.raw, mask,
    (r.samples.filter fun a => a.ovr).length⟩)

/-- The rows that may still serve as the row before, after row `r` (R122). -/
def keepPrev (area : Bool) (l : List LadleRow) (r : LadleRow) : List LadleRow :=
  r :: l.filter fun q => !area && q.ref.pour == r.ref.pour && q.ref.band != r.ref.band

/-- CORE_ROW (R22): the core starts the row at the front of its ladle once the row after it is there or is not to come and
its map entries have arrived, and writes the results. -/
def execCoreRow (flask : Nat) (s : State) : Host.Outcome State Fault Refusal :=
  let s := s.flushSlag flask (s.flask flask).rows.length
  match (s.flask flask).rows with
  | [] => .next s.settlePours
  | r :: later =>
    match s.pourOf r.ref.pour with
    | none => .next (s.rowDone flask r.ref.pour)
    | some p =>
      if s.nextToCome p r.ref ∨ (p.bank ≠ 0xFF ∧ !(s.flask flask).window.contains r.ref) then .next s
      else
        let prev := (s.flask flask).prev.find? fun q => p.follows q.ref r.ref
        let next := later.find? fun q => p.follows r.ref q.ref
        let s := s.countPixels flask r.samples.length
        let s := if p.acq then s.acqRow p r (recoverRow (p.cfg.get 0x300301) prev next r) else s
        let (s, c) := s.coreRow p flask prev next r
        let s := s.coreOut p flask r.ref (some c) false
        let s := s.rowDone flask r.ref.pour
        let s := s.onFlask flask fun x => { x with
          prev := keepPrev p.area x.prev r, window := x.window.filter (· != r.ref) }
        .next (s.flushSlag flask (s.flask flask).rows.length).settlePours

/-! ### The map window (R23, R33, R126) -/

/-- The row whose entries the window fetches next: one of the first two that are not slag (R23). -/
def State.nextWindowRow (s : State) (f : Nat) : Option LadleRow :=
  let x := s.flask f
  if 2 ≤ x.window.length then none
  else ((x.rows.filter fun r => !r.slag).take 2).find? fun r => !x.window.contains r.ref

/-- The MRAM words of one flask's entries of an array row (R126). -/
def rowWords (bank row f : Nat) : WordRange := (entryWord bank (pixelIndex row (1024 * f)), 32)

/-- A map word that reads uncorrectable is counted and logged (R33, R160, R262). -/
def State.badMapWord (s : State) (w : Nat) : State :=
  ((s.inc 0x401201).wr 0x401202 w).logEvent 0x0302 (leBytes 4 w)

/-- The pours in progress with an index updated. -/
def State.onPour (idx : Nat) (g : Pour → Pour) (s : State) : State :=
  s.onImage fun i => { i with pours := i.pours.map fun p => if p.idx = idx then g p else p }

/-- MAP_WINDOW_FETCH (R23, R33): the entries of the next row arrive in the map window; of its words those of `bad` read
uncorrectable and those of `corrected` with an error that is corrected. -/
def execMapWindowFetch (flask : Nat) (bad corrected : List Nat) (s : State) : Host.Outcome State Fault Refusal :=
  match s.nextWindowRow flask with
  | none => .next s
  | some r =>
    match s.pourOf r.ref.pour with
    | none => .next s
    | some p =>
      if p.bank = 0xFF then .next s
      else
        let words := rowWords p.bank r.ref.row flask
        let s := s.noteErrors words bad corrected
        let lost := ((s.errorsIn words).filter Prod.snd).map Prod.fst
        let s := (lost.foldl State.badMapWord s).readWords words
        let s := s.onPour p.idx fun p => { p with bad := p.bad ++ lost }
        .next (s.onFlask flask fun x => { x with window := x.window ++ [r.ref] })

/-! ### Row slots (R28, R46, R58, R351) -/

/-- Rows that a ladle holds (R28). -/
def Flask.held (x : Flask) : Nat := (x.rows.filter fun r => !r.slag).length

/-- A row joins a ladle, before rows that were never read (R353). -/
def Flask.push (x : Flask) (r : LadleRow) : Flask :=
  { x with rows := x.rows.takeWhile (fun q => !q.unread) ++ r :: x.rows.dropWhile fun q => !q.unread }

/-- The ladle of one live flask admits the row, or marks it as slag when it holds 128 (R28). -/
def State.ladleRow (p : Pour) (x : Nat → Int) (r : RowRef) (s : State) (f : Nat) : State :=
  if 128 ≤ (s.flask f).held then
    ((s.inc (0x320201 + f)).bookSlag f 1).onFlask f fun y => y.push ⟨r, true, false, [], none, none, 0⟩
  else
    let l := (writtenColumns p.cfg f).map (sampleOf x (colFactor p.cfg == 2))
    let dl := if s.conv.freshL then none else some (s.rd 0x311002)
    let dr := if s.conv.freshR then none else some (s.rd 0x311003)
    let s := s.countSamples f x l
    let s := s.onFlask f fun y => y.push ⟨r, false, false, l, dl, dr, overMask l⟩
    s.wr (0x320101 + f) (max (s.rd (0x320101 + f)) (s.flask f).held)

/-- The row sampled in the slot before is converted and written to the ladles (R28, R58, R106). -/
def State.convertRow (p : Pour) (levels dark : List (Nat × Int)) (refs : List (Nat × Int × Int)) (r : RowRef) (s : State) :
    State :=
  let x := s.columnX p levels refs
  let binned := colFactor p.cfg == 2
  let xd := s.darkX p dark
  let out := trimLeftOut x binned (List.range 16384) ++
    ((List.range 4).filter fun n => columnOver xd binned (16 * n + 14) || columnOver xd binned (16 * n + 15)).map (256 + ·)
  let s := s.darkTracking p dark
  let s := if p.acq then s.acqDark p dark else s
  let s := s.trimSlot refs out.dedup
  (liveFlasks p.cfg).foldl (State.ladleRow p x r) s

/-- A saturating 64-bit count (object 0x6A11:03). -/
def State.inc64 (s : State) (k : Nat) : State := s.wr k (min (2 ^ 64 - 1) (s.rd k + 1))

/-- The next row slot begins: its number, throttle step and idle mark (R351). -/
def State.nextSlot (s : State) : State :=
  let j := s.image.slotNo + 1
  let old := s.image.stepNow
  let k := if j % 16 = 0 then s.rd 0x6A0005 else old
  let s := s.onImage fun i => { i with slotNo := j, stepNow := k, nextSlot := i.nextSlot + slotUnits }
  let s := if slotIdle j k then s.inc64 0x6A1103 else s
  if k = old then s else s.replan

/-- The rows left of a line that the transfer sequence of the next exposure, at `limit`, cuts off (R90, R93). -/
def State.cutLine (idx n : Nat) (s : State) : State :=
  let first := (s.pourOf idx).any fun p => !p.cut
  let s := s.add 0x346003 n
  let s := if first then (s.inc 0x346001).bookOverspeed else s
  s.onImage fun i => { i with
    pours := i.pours.map fun p =>
      if p.idx = idx then { (p.lose n) with cut := true, exps := p.exps.map fun e => { e with toRead := [] } } else p }

/-- The transfer sequence of the exposure after the first one with rows to read. -/
def nextTransfer : List (Pour × Exposure) → Option Instant
  | [] => none
  | x :: l => if x.2.toRead.isEmpty then nextTransfer l else l.head?.map fun y => y.2.tx - ns 170

/-- The row that the slot just begun samples (R46, R58, R90): `t` is its start. A line whose storage the next transfer
sequence takes before the slot ends is cut off first, and the slot is free for the line after it (R88). -/
def State.sampleRow (t : Instant) : Nat → State → State
  | 0, s => s.onImage fun i => { i with sampled := none }
  | n + 1, s =>
  match s.pourExposures.find? fun x => !x.2.toRead.isEmpty with
  | none => s.onImage fun i => { i with sampled := none }
  | some (p, e) =>
    let none' := s.onImage fun i => { i with sampled := none }
    if s.therm.quench then none'
    else if !p.area ∧ (nextTransfer s.pourExposures).any fun x => decide (x < t + slotUnits) then
      State.sampleRow t n (s.cutLine p.idx e.toRead.length)
    else if slotIdle s.image.slotNo s.image.stepNow then none'
    else if t + 68 * periodUnits < max e.tx (s.image.releaseAt + ns 170) + ns 60 then none'
    else
      let s := s.onExposure p.idx e.sub fun e => { e with toRead := e.toRead.tail }
      s.onImage fun i => { i with
        sampled := e.toRead.head?, releaseAt := if e.toRead.length = 1 then t + slotUnits else i.releaseAt }

/-- The converter clock runs: from the PLLs' lock on, outside Hold and Sleep (R368, R373, R377). -/
def State.converterClock (s : State) : Bool :=
  s.timing.clk100 && (s.power.phase != .inReset && s.power.phase != .released && s.power.phase != .fusesRead)

/-- ROW_SLOT (R58): at the row-slot boundary the row sampled in the slot before is converted, and the sequencer samples the
next one. -/
def execRowSlot (levels dark : List (Nat × Int)) (refs : List (Nat × Int × Int)) (s : State) :
    Host.Outcome State Fault Refusal :=
  let t := s.image.nextSlot
  if s.now < t ∨ !s.converterClock then .next s
  else
    let s := match s.image.sampled with
      | none => if s.therm.quench then s else s.trimSlot refs []
      | some r =>
        match s.pourOf r.pour with
        | some p => s.convertRow p levels dark refs r
        | none => s
    let s := s.nextSlot
    .next (s.sampleRow t (s.pourExposures.length + 1)).settleFlasks

/-! ### Pace and VCORE (R24 to R27) -/

/-- Every flask has a margin (R24; log entry 57). -/
def State.allMeasured (s : State) : Bool := s.pace.runs.all fun r => r.measured

/-- A flask's margin is reported and the next run begins; the sensor margin is the lowest of the 16, and keeps its value
until each of the 16 has one (R24; DESIGN CHOICE, log entry 57). -/
def State.setMargin (f margin left : Nat) (replica : Bool) (s : State) : State :=
  let s := s.onPaceRun f fun _ => ⟨left, s.now, true⟩
  let s := s.wr (0x680001 + f) margin
  let s := s.wr 0x680104 (if replica then setBit (s.rd 0x680104) f else clearBit (s.rd 0x680104) f)
  if s.allMeasured then
    let m := ((List.range 16).map fun g => s.rd (0x680001 + g)).foldl min 0xFFFF
    (s.wr 0x680101 m).wr 0x680102 (min (s.rd 0x680102) m)
  else s

/-- The margin of a run of 65,536 pixels, in 0.001 (R24; log entry 11 for the rounding). -/
def paceMargin (busy : Nat) : Nat := min 0xFFFF (65536 * 70 * 1000 / (1024 * max 1 busy))

/-- PACE_MEASUREMENT (R24): once the flask has processed 65,536 pixels of the present run. -/
def execPaceMeasurement (flask busy : Nat) (s : State) : Host.Outcome State Fault Refusal :=
  let n := (s.paceRun flask).pixels
  .next (if s.converterClock ∧ 65536 ≤ n then s.setMargin flask (paceMargin busy) (n - 65536) false else s)

/-- REPLICA_MEASUREMENT (R24): when 1 ms of the present run has gone by with fewer than 65,536 pixels. -/
def execReplicaMeasurement (flask margin : Nat) (s : State) : Host.Outcome State Fault Refusal :=
  let r := s.paceRun flask
  .next (if s.converterClock ∧ r.pixels < 65536 ∧ r.since + ms 1 ≤ s.now then
    s.setMargin flask (min 0xFFFF margin) 0 true else s)

/-- The VID code changes at `t` (R26). -/
def State.setVid (code : Nat) (t : Instant) (s : State) : State :=
  if s.rd 0x680203 = code then s else (s.wr 0x680203 code).onPace fun p => { p with changedAt := some t }

/-- A pace event with the sensor margin and the VID code asked for (R26, R262). -/
def State.paceEvent (code : Nat) (s : State) : State :=
  s.logEvent code (leBytes 2 (s.rd 0x680101) ++ leBytes 1 (s.rd 0x680203))

/-- One evaluation of the loop in adaptive mode, `t` being its instant (R26, R27). -/
def State.evaluate (t : Instant) (s : State) : State :=
  let m := s.rd 0x680101
  let code := s.rd 0x680203
  let lo := s.rd 0x680204
  let hi := s.rd 0x680205
  let reset := s.onPace fun p => { p with above := 0 }
  if s.pace.changedAt.any fun c => decide (t ≤ c + us 64) then s
  else if hi < code then reset.setVid hi t
  else if code < lo then reset.setVid lo t
  else if code = hi ∧ m < 1100 then reset.paceEvent 0x0202
  else if m < 1120 ∧ code < hi then (reset.setVid (min hi (code + 2)) t).paceEvent 0x0201
  else if 1120 ≤ m ∧ m < 1200 then reset.setVid (min hi (code + 1)) t
  else if m ≤ 1300 then reset
  else if 32 ≤ s.pace.above + 1 then reset.setVid (max lo (code - 1)) t
  else s.onPace fun p => { p with above := p.above + 1 }

/-- PACE_EVALUATION (R23, R25, R26): every 64 µs of the pace timer, which runs on the 100 MHz clock; while a flask has no
margin yet there is no sensor margin, and the code is kept (log entry 57). -/
def execPaceEvaluation (s : State) : Host.Outcome State Fault Refusal :=
  if !s.pace.running ∨ !s.timing.clk100 ∨ s.now < s.pace.evalAt then .next s
  else
    let t := s.pace.evalAt
    let s := s.onPace fun p => { p with evalAt := t + us 64 }
    if s.rd 0x680201 = 1 ∨ !s.allMeasured then .next s else .next (s.evaluate t)

/-- A write of object 0x6802 that R27 does not refuse. -/
def State.writeVcore (sub v : Nat) (s : State) : State :=
  let lo := s.rd 0x680204
  let hi := s.rd 0x680205
  let pin := s.rd 0x680202
  let bad := match sub with
    | 2 => v < lo || hi < v
    | 4 => hi < v || pin < v
    | 5 => v < lo || v < pin
    | _ => false
  if bad then s.refuse abortValue
  else
    let s := s.wr (0x680200 + sub) v
    if s.rd 0x680201 = 1 ∧ s.pace.running then s.setVid (s.rd 0x680202) s.now else s

/-- VCORE_LOOP_CONFIG_WRITE (R27). -/
def execVcoreLoopConfigWrite (tr : Transport) (sub v : Nat) (s : State) : Host.Outcome State Fault Refusal :=
  .next (s.hostWrite ⟨tr, 0x680200 + sub, 1, v⟩ (State.writeVcore sub v))

/-- The effect of object 0x6801:03 (R27). -/
def State.clearLowestMargin (s : State) : State := s.toDefault [0x680102]

/-- CLEAR_LOWEST_MARGIN (R27). -/
def execClearLowestMargin (tr : Transport) (v : Nat) (s : State) : Host.Outcome State Fault Refusal :=
  .next (s.hostCommand tr 0x680103 v State.clearLowestMargin)

/-- The effect of object 0x3201:11 (R27). -/
def State.clearHighWater (s : State) : State := s.zero (rangeFrom 0x320101 16)

/-- CLEAR_HIGH_WATER_MARKS (R27). -/
def execClearHighWaterMarks (tr : Transport) (v : Nat) (s : State) : Host.Outcome State Fault Refusal :=
  .next (s.hostCommand tr 0x320111 v State.clearHighWater)

/-- The effect of object 0x3202:11 (R27). -/
def State.clearLadleSlag (s : State) : State := s.zero (rangeFrom 0x320201 16)

/-- CLEAR_LADLE_SLAG_COUNTS (R27). -/
def execClearLadleSlagCounts (tr : Transport) (v : Nat) (s : State) : Host.Outcome State Fault Refusal :=
  .next (s.hostCommand tr 0x320211 v State.clearLadleSlag)

end Sys2Proof.Machine
end

