-- ==== Sys2Proof/Machine/Calibrate.lean ====
section
/-!
DEFINITION. Calibration runs (R144 to R153), map commit (R154 to R157), uploads of maps and sets (R158, R159), set commits and
cache loads (R134, R135).
-/
namespace Sys2Proof.Machine

/-! ### The state of a run (R144 to R146) -/

/-- Acquisition pours of a run (R144). -/
def acqPours (run : Nat) : Nat := match run with | 1 => 64 | 2 => 128 | 3 => 64 | 4 => 256 | _ => 0

/-- The charge binning of a run's acquisition (R144). -/
def State.calBinning (s : State) (run : Nat) : Nat := if run = 1 then s.rd 0x213001 else 0

/-- The values that the acquisition pours of a run have (R146): area mode, full frame, one sub-exposure of the calibration
exposure with the calibration strobe bank, neither fused nor binned digitally, and the settings of the correction. -/
def State.calValues (s : State) (run : Nat) : Dict :=
  let d := Dict.setAll s.dict [(0x210001, 0), (0x210005, 0), (0x211001, 1), (0x211002, 0), (0x211101, s.rd 0x420003),
    (0x211201, s.rd 0x420004), (0x212001, 1), (0x212002, 1), (0x212101, 0), (0x212201, 1024), (0x212301, 0),
    (0x212401, 255), (0x213001, s.calBinning run), (0x213002, 0), (0x400001, 1), (0x400002, if run = 3 then 1 else 0),
    (0x400003, 1), (0x400004, 0), (0x400005, 1)]
  if run = 1 then d else Dict.set d 0x410001 profileDefault

/-- T_min of the acquisition pours (R61, R146). -/
def State.calPeriod (s : State) (run : Nat) : Instant := tMinSlots (s.calValues run) (s.rd 0x6A0005) * slotUnits

/-- The run ends in fail (R148). -/
def State.calFail (cause : Nat) (s : State) : State :=
  match s.corr.cal with
  | none => s
  | some c =>
    let s := s.onCorr fun x => { x with
      cal := none
      commit := if (x.commit.map SetCommit.cal).getD false then none else x.commit
      mapWrite := none }
    let s := s.onImage fun i => { i with pours := i.pours.filter fun p => !p.acq }
    (s.wr 0x420008 6).logEvent 0x0304 (leBytes 1 c.run ++ leBytes 1 cause)

/-- The run ends in pass (R148). -/
def State.calPass (s : State) : State := (s.onCorr fun x => { x with cal := none }).wr 0x420008 5

/-- A run's new phase begins. -/
def State.calPhase (status : Nat) (f : Cal → Cal) (s : State) : State :=
  (s.onCorr fun x => { x with cal := x.cal.map fun c => { (f c) with at_ := s.now } }).wr 0x420008 status

/-! ### Starting a run (R145) -/

/-- An upload is open or its set is being written (R145, R158). -/
def State.uploading (s : State) : Bool := s.corr.upload.isSome || s.corr.commit.isSome

/-- The conditions of R115 and R353, with uploads and calibration counted as running (R145). -/
def State.calFree (s : State) : Bool :=
  s.rd 0x210002 == 0 && s.rd 0x340101 == 0 && !s.rowsToConvert && s.conv.calAt.isNone && !s.calRunning &&
  !s.mapCommitting && !s.uploading && !s.therm.quench

/-- The further conditions of each run (R145). -/
def State.calAllowed (s : State) (run : Nat) : Bool :=
  let target := s.rd 0x420002
  match run with
  | 1 => (target == 1 || target == 2) && !s.setEmpty target
  | 2 => (target == 1 || target == 2) && !s.setEmpty target
  | 4 => !s.calLocked || (s.liveBank != 0xFF && s.liveBank == s.factoryBank)
  | 5 => (target == 1 || target == 2) && !s.setEmpty (s.rd 0x420006)
  | _ => true

/-- The point of the target set within ±1.0 K of T (R147, R149). -/
def nearPoint (t : SetSlot) (temp : Int) : Option Nat :=
  (List.range 5).find? fun j => (t.temp j - temp).natAbs ≤ 16

/-- The fields of a new run. -/
def State.newCal (s : State) (run : Nat) : Cal :=
  let target := s.rd 0x420002
  { run := run, target := target, at_ := s.now, started := run != 4, pours := 0, temp0 := s.pixelTemp,
    tempEnd := s.pixelTemp, point := (s.setCopy target).bind fun t => nearPoint t s.pixelTemp, sums := [], means := [],
    dark := 0, darkN := 0, dl := 0, dr := 0, rows := 0, ovrs := 0, total := 0, slag := false, newMap := [], retried := false,
    bank := s.idleBank }

/-- The acquisition of a full-map run begins once the tundish has room for its sums (R186). -/
def State.tryAcquire (s : State) : State :=
  if s.booked ≤ 8388608 then s.calPhase 1 fun c => { c with started := true } else s

/-- A new run is accepted (R145, R186). -/
def State.beginCal (run : Nat) (s : State) : State :=
  let s := (s.onCorr fun x => { x with cal := some (s.newCal run) }).wr 0x420008 1
  let s := s.wr 0x420009 0
  if run ≠ 4 then s
  else
    let s := if s.rd 0x210001 = 1 then (s.tdiRestart none).onTdi fun t => { t with reserveZero := true } else s
    s.tryAcquire

/-- The halfword at an offset of a point of the set (R132): the quantities by the interpolation of R136 at a bracket. -/
def seedWord (t : SetSlot) (i a off : Nat) : Nat :=
  let signed := ofSigned 16 (interpolate (t.signed i off) (t.signed (i + 1) off) a)
  let unsigned := ofSigned 16 (interpolate (t.unsigned i off) (t.unsigned (i + 1) off) a)
  if off = 22 ∨ 99368 ≤ off then 0
  else if (10 ≤ off ∧ off < 22) ∨ 66600 ≤ off then unsigned
  else signed

/-- The words of a seeded set (R152). -/
def seedWords (t : SetSlot) (points : List Int) : List (Nat × Nat) :=
  (points.mapIdx fun j x => (j, x)).flatMap fun p =>
    let b := t.bracket p.2
    (List.range 51200).map fun w =>
      (2048 + 51200 * p.1 + w, if w = 0 then ofSigned 16 p.2 else seedWord t b.1 b.2.1 (2 * w))

/-- A set commit begins (R134). -/
def State.beginCommit (set : Nat) (words : List (Nat × Nat)) (cal : Bool) (s : State) : State :=
  s.onCorr fun x => { x with commit := some ⟨set, words, cal⟩ }

/-- A start write (R145). -/
def State.startCal (run : Nat) (s : State) : State :=
  if !(s.calFree && s.calAllowed run) then s.refuse abortState
  else if run = 5 then
    match s.setCopy (s.rd 0x420006) with
    | none => s.refuse abortState
    | some t =>
      let pts := (List.range 5).map (i16Of (s.rd 0x420007))
      s.needWords [s.copyWords (s.rd 0x420006)] fun s =>
        ((s.beginCal 5).calPhase 3 id).beginCommit (s.rd 0x420002) (seedWords t pts) true
  else s.beginCal run

/-- A write of a run's value to object 0x4200:01. -/
def State.calCommand (tr : Transport) (run : Nat) (s : State) : State :=
  s.hostWrite ⟨tr, 0x420001, 1, run⟩ (State.startCal run)

/-- DARK_RUN (R149). -/
def execDarkRun (tr : Transport) (s : State) : Host.Outcome State Fault Refusal := .next (s.calCommand tr 1)

/-- COLUMN_RUN (R150). -/
def execColumnRun (tr : Transport) (s : State) : Host.Outcome State Fault Refusal := .next (s.calCommand tr 2)

/-- FLAT_RUN (R151). -/
def execFlatRun (tr : Transport) (s : State) : Host.Outcome State Fault Refusal := .next (s.calCommand tr 3)

/-- FULL_MAP_RUN (R153, R186). -/
def execFullMapRun (tr : Transport) (s : State) : Host.Outcome State Fault Refusal := .next (s.calCommand tr 4)

/-- SEED_RUN (R152). -/
def execSeedRun (tr : Transport) (s : State) : Host.Outcome State Fault Refusal := .next (s.calCommand tr 5)

/-- CALIBRATION_WAIT_TUNDISH (R186): the acquisition starts when there is room, or fails 10 s after the acceptance. -/
def execCalibrationWaitTundish (s : State) : Host.Outcome State Fault Refusal :=
  match s.corr.cal with
  | none => .next s
  | some c =>
    if c.started then .next s
    else if s.booked ≤ 8388608 then .next s.tryAcquire
    else if c.at_ + ms 10000 ≤ s.now then .next (s.calFail 0x0E)
    else .next s

/-! ### Acquisition (R146, R147) -/

/-- The bracket that an acquisition pour corrects under: forced to the point for a dark run (R146, R149). -/
def Cal.bracket (c : Cal) : Option (Nat × Nat) :=
  if c.run = 1 then c.point.map fun j => if j = 4 then (3, 256) else (j, 0) else none

/-- The set, bracket index and weight that an acquisition pour corrects with (R146, R149). -/
def Cal.correctsWith (c : Cal) (target : Option SetSlot) (p : Pour) : Pour :=
  match c.bracket, target with
  | some b, some t => { p with set := t, tempI := b.1, alpha := b.2 }
  | _, _ => p

/-- The part starts acquisition pour number `k` of run `c` at `t` (R63, R118, R136, R146): its boundary is one of a pour that
does not advance the pour index (log entry 63). -/
def State.startAcquisition (c : Cal) (t : Instant) (s : State) : State :=
  let st := s.stampAt t
  let s := (s.boundaryHandOver (s.rd 0x110003) st.2.1 st.1 none).takeTrims
  let s := s.onStage fun g => { g with lastBoundary := some st.2.1 }
  let r := s.newPour true t st.2.1 0
  let p := c.correctsWith (s.setCopy c.target) r.2
  let s := (r.1.wr 0x400103 p.tempI).wr 0x400104 p.alpha
  let d := s.calValues c.run
  let idx := acqIndex + c.pours
  let exps := s.planPour d idx t
  let p := { p with
    idx := idx, cfg := d, exps := exps, left := (liveFlasks d).map fun f => (f, rowReads d), acq := true, admitted := false }
  let s := s.onImage fun i => { i with
    pours := i.pours ++ [p], lastTx := (exps.getLast?.map Exposure.tx).orElse fun _ => i.lastTx }
  s.onCal fun c => { c with
    pours := c.pours + 1
    temp0 := if c.pours = 0 then s.pixelTemp else c.temp0
    tempEnd := s.pixelTemp
    means := c.means ++ [(0, 0)] }

/-- ACQUISITION_POUR (R146): the next acquisition pour starts, T_min after the one before. It goes through exposure, row
slots, map window and cores as every area pour does, up to the sums of its run in place of the lanes. -/
def execAcquisitionStart (s : State) : Host.Outcome State Fault Refusal :=
  match s.corr.cal with
  | none => .next s
  | some c =>
    let t := s.startAt (s.calValues c.run) (c.at_ + c.pours * s.calPeriod c.run)
    if !c.started ∨ acqPours c.run ≤ c.pours ∨ s.rd 0x420008 ≠ 1 ∨ !s.converterClock ∨ s.now < t then .next s
    else .next (s.startAcquisition c t)

/-- The meaning of the second spelling of ACQUISITION_POUR. -/
def execAcquisitionPour (_temp : Int) (_samples _darkRaw : List (Nat × Int)) (_dl _dr : Int) (_slag : Bool) (s : State) :
    Host.Outcome State Fault Refusal := execAcquisitionStart s

/-- Sum of signals and number of samples over pixels. -/
def sumPix (l : List PixSum) : Int × Int := l.foldl (fun t q => (t.1 + q.sum, t.2 + q.n)) (0, 0)

/-- The columns that have samples. -/
def sampledColumns (l : List PixSum) : List Nat := (l.map PixSum.col).dedup

/-- The pixels of block k: columns 16k − 8 to 16k + 7 (R147). -/
def blockPix (l : List PixSum) (k : Nat) : List PixSum := l.filter fun q => (q.col + 8) / 16 == k

/-- The blocks that have samples. -/
def sampledBlocks (l : List PixSum) : List Nat := (l.map fun q => (q.col + 8) / 16).dedup

/-- The pixels of a run in the spans that are live (R147). -/
def livePix (d : Dict) (l : List PixSum) : List PixSum := l.filter fun q => groupLive d (q.col / 64)

/-- Light falls on the array (R147, run 1): a column group's raw mean exceeds that of the shielded columns by more than 8 DN,
or more than 0.1 % of pixels lie 40 DN or more above their column's mean. -/
def lightPresent (c : Cal) : Bool :=
  let groups := (c.sums.map fun q => q.col / 64).dedup
  let bright := groups.any fun g =>
    let l := c.sums.filter fun q => q.col / 64 == g
    let raw := l.foldl (fun t q => t + q.raw) (0 : Int)
    let n := (sumPix l).2
    (c.dark : Int) * n + 8 * n * c.darkN < raw * c.darkN
  let high := (sampledColumns c.sums).map fun col =>
    let l := c.sums.filter fun q => q.col == col
    let m := sumPix l
    (l.filter fun q => decide ((m.1 + 640 * m.2) * q.n ≤ q.sum * m.2)).length
  bright || c.sums.length < 1000 * sumNat high

/-- A mean `a ÷ n` differs from the run mean by more than `pc` per cent. -/
def offMean (pc : Int) (run m : Int × Int) : Bool :=
  pc * (run.1 * m.2).natAbs < 100 * (m.1 * run.2 - run.1 * m.2).natAbs

/-- The first failing check of R147, in the order of its table, as a cause of R148. -/
def State.calCheck (s : State) (c : Cal) : Option Nat :=
  let live := livePix s.dict c.sums
  let run := sumPix live
  let lit := 2 ≤ c.run && c.run ≤ 4
  firstSome [
    failIf (c.run == 1 && lightPresent c) 0x01,
    failIf (lit && run.1 < 1638 * 16 * run.2) 0x02,
    failIf (lit && 3276 * 16 * run.2 < run.1) 0x03,
    failIf (lit && c.total < 10000 * c.ovrs) 0x04,
    failIf (lit && (sampledBlocks live).any fun k => offMean 15 run (sumPix (blockPix live k))) 0x05,
    failIf (c.means.any fun m =>
      if c.run = 1 then decide (32 * (m.2 * run.2) < (m.1 * run.2 - run.1 * m.2).natAbs) else offMean 2 run (m.1, m.2)) 0x06,
    failIf (c.run ≤ 2 && c.point.isNone) 0x07,
    failIf (8 < (c.tempEnd - c.temp0).natAbs) 0x08,
    failIf c.slag 0x09]

/-! ### Results (R149 to R153) -/

/-- A slot's words with some replaced. -/
def replaceWords (words : List (Nat × Nat)) (new : List (Nat × Nat)) : List (Nat × Nat) :=
  words.map fun w => (w.1, assocD new w.1 w.2)

/-- The changes of a dark run (R149): new words, or none where one is out of range. -/
def State.darkResult (s : State) (c : Cal) (t : SetSlot) : Option (List (Nat × Nat)) :=
  let mode := s.rd 0x213001
  let base := pointBase (c.point.getD 0)
  let change := (sampledColumns c.sums).map fun col =>
    let m := sumPix (c.sums.filter fun q => q.col == col)
    (col, roundDiv m.1 m.2)
  if change.any fun x => 1024 < x.2.natAbs then none
  else
    let dcol := change.map fun x =>
      let off := base + dcolOffset mode x.1
      (off / 2, ofSigned 16 (clampInt (-32768) 32767 (toSigned 16 (t.word off) + x.2)))
    let ref (v side : Nat) : Nat × Nat :=
      ((base + 10 + 4 * mode + 2 * side) / 2, min 65535 (roundDiv v (max 1 c.rows)).toNat)
    some (dcol ++ [ref c.dl 0, ref c.dr 1])

/-- M of a column: its mean signal times Gcol at the point, in 1/16 DN × 2⁻¹⁵ (R150; log entry 12). -/
def columnMean (c : Cal) (t : SetSlot) (col : Nat) : Int :=
  let m := sumPix (c.sums.filter fun q => q.col == col)
  roundDiv (m.1 * t.unsigned (c.point.getD 0) (66600 + 2 * col)) (max 1 m.2)

/-- The changes of a column run to the columns in live spans (R150): new words, or none where the result is out of range. -/
def columnResult (d : Dict) (c : Cal) (t : SetSlot) : Option (List (Nat × Nat)) :=
  let j := c.point.getD 0
  let ms := (sampledColumns (livePix d c.sums)).map fun col => (col, columnMean c t col)
  let block (k : Nat) : Int :=
    let l := ms.filter fun x => (x.1 + 8) / 16 == k
    roundDiv (l.foldl (fun a x => a + x.2) 0) (max 1 l.length)
  let new := ms.map fun x =>
    let k := x.1 / 16
    let i : Int := (x.1 % 16 : Nat)
    let ls := fdiv (block k * (16 - i) + block (k + 1) * i + 8) 16
    let g := t.unsigned j (66600 + 2 * x.1)
    (x.1, g, if x.2 ≤ 0 then 0 else roundDiv (g * ls) x.2)
  let far := new.filter fun x => decide (5 * x.2.2 < 4 * x.2.1) || decide (5 * x.2.1 < 4 * x.2.2)
  if 16 < far.length ∨ new.any fun x => decide (x.2.2 < 16384) || decide (65535 < x.2.2) then none
  else some (new.map fun x => ((pointBase j + 66600 + 2 * x.1) / 2, x.2.2.toNat))

/-- The profile of a flat run (R151): the staged profile with every knot whose block has a column set, or none where a knot is
out of range. -/
def State.flatResult (s : State) (c : Cal) : Option Nat :=
  let live := livePix s.dict c.sums
  let knots := (sampledBlocks live).map fun k =>
    let l := blockPix live k
    let sum := l.foldl (fun t q => t + q.raw) (0 : Int)
    (k, if sum ≤ 0 then 0 else roundDiv (16384 * s.rd 0x420005 * 16 * (sumPix l).2) sum)
  if knots.any fun x => decide (x.2 < 8192) || decide (32767 < x.2) then none
  else
    let old := s.staged 0x410001
    some (leNat ((List.range 1025).flatMap fun k =>
      leBytes 2 (match knots.find? fun x => x.1 == k with
        | some x => x.2.toNat
        | none => old / 65536 ^ k % 65536)))

/-- A staged write by the part itself (R151, R155): into the loose set. -/
def State.ownStaged (k v : Nat) (s : State) : State :=
  s.watchCache fun s => s.onStage fun g => { g with loose := Dict.insert g.loose k v }

/-- ACQUISITION_COMPLETE (R147 to R153): once the last acquisition pour has been processed the run is checked, and its result
computed; an uncorrectable word of the target set fails the run as a failed read-back does (R33; log entry 64). -/
def execAcquisitionComplete (s : State) : Host.Outcome State Fault Refusal :=
  match s.corr.cal with
  | none => .next s
  | some c =>
    if c.pours < acqPours c.run ∨ s.rd 0x420008 ≠ 1 ∨ !c.started ∨ s.image.pours.any Pour.acq then .next s
    else
      match s.calCheck c with
      | some cause => .next (s.calFail cause)
      | none =>
        let commit (r : SetSlot → Option (List (Nat × Nat))) : State :=
          match s.setCopy c.target with
          | none => s.calFail 0x0A
          | some t =>
            let t' := s.readWords (s.copyWords c.target)
            if !s.readable (s.copyWords c.target) then t'.calFail 0x0D
            else
              match r t with
              | none => t'.calFail 0x0A
              | some new => (t'.calPhase 3 id).beginCommit c.target (replaceWords t.allWords new) true
        match c.run with
        | 1 => .next (commit (s.darkResult c))
        | 2 => .next (commit (columnResult s.dict c))
        | 3 =>
          match s.flatResult c with
          | none => .next (s.calFail 0x0A)
          | some v => .next (s.ownStaged 0x410001 v).calPass
        | _ => .next (s.calPhase 2 id)

/-! ### The new map (R153, R154) -/

/-- The mean signal of a pixel in 1/4,096 DN, where it was acquired (R153; log entry 12). -/
def pixMean (c : Cal) (r col : Nat) : Option Int :=
  (c.sums.find? fun q => q.row == r && q.col == col).map fun q => roundDiv (256 * q.sum) (max 1 q.n)

/-- The pixels of the 5 × 5 neighbourhood in the same band (R153). -/
def neighbourhood (r c : Nat) : List (Nat × Nat) :=
  (List.range 5).flatMap fun i => (List.range 5).filterMap fun j =>
    if 2 ≤ r + i ∧ 2 ≤ c + j ∧ (r + i - 2) / 256 = r / 256 ∧ c + j - 2 < 16384 then some (r + i - 2, c + j - 2) else none

/-- The new entry of an acquired pixel, from its live entry (R153). -/
def newEntry (c : Cal) (live : Nat → Nat → Nat) (r col : Nat) : Nat :=
  let e := live r col
  let near := ((neighbourhood r col).filter fun x => !entryDef (live x.1 x.2)).filterMap fun x => pixMean c x.1 x.2
  let ref := near.foldl (· + ·) (0 : Int)
  let m := (pixMean c r col).getD 0 * near.length
  let trim := roundDiv (1000 * (ref - m)) (max 1 m)
  let bad := entryDef e || m ≤ 0 || 100 * ref < 85 * m || 115 * m < 100 * ref || trim < -64 || 63 < trim
  field e 14 7 * 128 + if bad then 32768 else ofSigned 7 trim

/-- The live entry of a pixel (R128, R153). -/
def State.liveEntry (s : State) (r c : Nat) : Nat :=
  if s.liveBank = 0xFF then 0 else (s.bankOf s.liveBank).entry (pixelIndex r c)

/-- The entry of the new map at an index: the acquisition takes in every pixel, and the run builds each entry (R146, R153);
without samples of a pixel its live entry stands. -/
def State.newMapEntry (s : State) (new : List (Nat × Nat)) (i : Nat) : Nat :=
  assocD new i (if s.liveBank = 0xFF then 0 else (s.bankOf s.liveBank).entry i)

/-- The limits of R153 on flagged pixels: at most 16,777, and no group of more than 2 that touch. -/
def State.defectsOk (s : State) (new : List (Nat × Nat)) : Bool :=
  let flag (i : Nat) : Bool := entryDef (s.newMapEntry new i)
  let flagged := (List.range 16777216).filter flag
  let touching (i : Nat) : Nat :=
    let r := i / 16384
    let c := i % 16384
    ((List.range 3).flatMap fun a => (List.range 3).filter fun b =>
      !(a == 1 && b == 1) && 1 ≤ r + a && r + a ≤ 1024 && 1 ≤ c + b && c + b ≤ 16384 &&
        flag (pixelIndex (r + a - 1) (c + b - 1))).length
  flagged.length ≤ 16777 && flagged.all fun i => touching i < 2

/-- MAP_ENTRIES_COMPUTED (R153, R154): the limits are checked, then the idle bank's header is written with STATE 0x01. -/
def execMapEntriesComputed (s : State) : Host.Outcome State Fault Refusal :=
  match s.corr.cal with
  | none => .next s
  | some c =>
    let b := s.idleBank
    if s.rd 0x420008 ≠ 2 ∨ s.now < c.at_ + us 75600 ∨ s.inhibited ∨ s.bankInUse b then .next s
    else
      let new := c.sums.map fun q => (pixelIndex q.row q.col, newEntry c s.liveEntry q.row q.col)
      if !s.defectsOk new then .next (s.calFail 0x0B)
      else
        let s := (s.beginBank b).calPhase 3 fun c => { c with newMap := new, bank := b, retried := false }
        .next (s.onCorr fun x => { x with
          mapWrite := some b, mapDone := 0, waiting := if x.waiting = some b then none else x.waiting })

/-- A verified bank waits to go live; in mode 0 the part requests its hand-over (R155). -/
def State.bankVerified (b : Nat) (s : State) : State :=
  let s := (s.verifyBank b).onCorr fun x => { x with waiting := some b }
  if s.rd 0x401006 = 0 then s.ownEntry [(0x401007, b)] else s

/-- The owner releases staging (R181); a submitted segment's release is SUBMIT_RELEASE (R323). -/
def State.releaseStaging (s : State) : State :=
  if s.dma.submitter.isSome then s else s.onDma fun d => { d with stage := .free }

/-- STATE 0xFF is written to a bank's header, or will be once the write inhibit ends (R157, R158, R356). -/
def State.spoilBank (b : Nat) (s : State) : State :=
  if s.inhibited then s.onCorr fun c => { c with spoil := c.spoil ++ [b] } else s.bankState b 0xFF

/-- An upload ends as failed: STATE 0xFF for a map whose header had begun to be written, status 4, logged (R158). -/
def State.uploadFail (s : State) : State :=
  match s.corr.upload with
  | none => s
  | some u =>
    let s := if u.what = 1 ∧ u.begun then s.spoilBank u.bank else s
    let s := if u.writing.isSome ∨ (u.what ≠ 1 ∧ u.segData.isSome) then s.releaseStaging else s
    let s := s.onCorr fun x => { x with
      upload := none
      commit := if (x.commit.map SetCommit.cal).getD true then x.commit else none }
    (s.wr 0x421005 4).logEvent 0x0306 (leBytes 1 u.what ++ [0, 0, 0] ++ leBytes 4 (s.rd 0x421004))

/-- A segment of a map commit has been written and read back (R154). -/
def State.commitSegment (c : Cal) (b : Nat) (ok : Bool) (s : State) : State :=
  let g := s.corr.mapDone
  if !ok then
    (if c.retried then (s.bankState b 0xFF).calFail 0x0D
      else s.calPhase 3 fun c => { c with retried := true })
  else
    let data := (rangeFrom (524288 * g) 524288).map fun i => (i, s.newMapEntry c.newMap i)
    let s := (s.writeSegment b g data).calPhase 3 fun c => { c with retried := false }
    let s := (s.onCorr fun x => { x with mapDone := g + 1 }).wr 0x420009 (g + 1)
    if g + 1 < 32 then s
    else ((s.onCorr fun x => { x with mapWrite := none, cal := none }).wr 0x420008 4).bankVerified b

/-- What an open map upload writes as soon as MRAM may be written (R129, R157, R158): the header with STATE 0x01 once no pour
reads the bank, and, with every segment there and the finish write made, the CRC table and the header with STATE 0x02. -/
def State.settleUpload (s : State) : State :=
  match s.corr.upload with
  | none => s
  | some u =>
    if u.what ≠ 1 ∨ s.inhibited then s
    else if !u.begun then
      (if s.bankInUse u.bank then s
      else (s.beginBank u.bank).onCorr fun x => { x with
        upload := some { u with begun := true }, waiting := if x.waiting = some u.bank then none else x.waiting })
    else if u.finish ∧ u.writing.isNone then
      ((s.onCorr fun x => { x with upload := none }).wr 0x421005 2).bankVerified u.bank
    else s

/-- The bank headers that had to wait are written once the write inhibit has ended (R157, R158). -/
def State.settleBanks (s : State) : State :=
  if s.inhibited then s
  else ((s.corr.spoil.foldl (fun s b => s.bankState b 0xFF) s).onCorr fun c => { c with spoil := [] }).settleUpload

/-- A segment of a map upload has been written and read back (R158). -/
def State.uploadSegment (u : Upload) (g : Nat) (ok : Bool) (s : State) : State :=
  if !ok then
    (if u.retried then s.uploadFail
      else s.onCorr fun x => { x with upload := some { u with retried := true } })
  else
    let s := s.writeSegment u.bank g (u.segData.getD [])
    let s := s.onCorr fun x => { x with upload := some { u with segData := none, writing := none, retried := false } }
    (s.wr 0x421004 (setBit (s.rd 0x421004) g)).releaseStaging.settleUpload

/-- MAP_SEGMENT_WRITTEN (R154, R157, R158): a segment takes 50 ms to write and 5 ms to read back; a failed one is written once
more. -/
def execMapSegmentWritten (ok : Bool) (s : State) : Host.Outcome State Fault Refusal :=
  if s.inhibited then .next s
  else
    match s.corr.mapWrite, s.corr.cal with
    | some b, some c => if s.now < c.at_ + ms 55 then .next s else .next (s.commitSegment c b ok)
    | _, _ =>
      match s.corr.upload with
      | none => .next s
      | some u =>
        match u.writing with
        | none => .next s
        | some g => if u.begun then .next (s.uploadSegment u g ok) else .next s

/-- A write of the map switch mode (R155): automatic again, the part requests the entry of a bank that waits. -/
def State.mapSwitchMode (v : Nat) (s : State) : State :=
  let s := s.wr 0x401006 v
  match s.corr.waiting with
  | none => s
  | some b =>
    if v ≠ 0 ∨ s.stage.queue.any fun e => e.by_ == Requester.part && Dict.find e.values 0x401007 == some b then s
    else s.ownEntry [(0x401007, b)]

/-- MAP_SWITCH_MODE_WRITE (R155). -/
def execMapSwitchModeWrite (tr : Transport) (v : Nat) (s : State) : Host.Outcome State Fault Refusal :=
  .next (s.hostWrite ⟨tr, 0x401006, 1, v⟩ (State.mapSwitchMode v))

/-! ### Set commits and cache loads (R134, R135) -/

/-- A set commit made its copy current: cache load and own hand-over of R135. -/
def State.setChanged (n : Nat) (s : State) : State :=
  let s := if s.staged 0x400101 = n then s.startCacheLoad else s
  if s.rd 0x400101 = n ∧ s.staged 0x400101 = n then s.ownEntry [] else s

/-- SET_COMMIT_COMPLETE (R134, R135): the copy was written and read back; its header makes it current. -/
def execSetCommitComplete (ok : Bool) (s : State) : Host.Outcome State Fault Refusal :=
  match s.corr.commit with
  | none => .next s
  | some k =>
    if s.inhibited then .next s
    else if !ok then .next (if k.cal then s.calFail 0x0D else s.uploadFail)
    else
      let s := (s.setBecomes k.set k.words).onCorr fun x => { x with commit := none }
      let s := if k.cal then s.calPass
        else ((s.onCorr fun x => { x with upload := none }).wr 0x421005 3).releaseStaging
      .next (s.setChanged k.set)

/-- SET_CACHE_LOAD_COMPLETE (R33, R135, R200): entries that waited for it are late when their condition has been met. The lists
name the words of the set's slot that read uncorrectable or with an error that is corrected; an uncorrectable one fails the
load (log entry 64). -/
def execSetCacheLoadComplete (s : State) (bad corrected : List Nat := []) : Host.Outcome State Fault Refusal :=
  if s.corr.loading.isNone then .next s
  else
    let s := if s.idle then s.markIdle else s
    let n := s.staged 0x400101
    let s := (s.noteErrors (s.copyWords n) bad corrected).readWords (s.copyWords n)
    let failed := !s.readable (s.copyWords n)
    .next ((s.onCorr fun x => { x with
      loading := none
      unread := if failed then some n else x.unread.filter (· != n) }).wr 0x400106 0)

/-! ### Uploads (R158, R159) -/

/-- An upload may be opened: no other, no calibration run, no quench (R115, R353; log entry 13). After a maker test mode too: R3
says that an erased part gives no corrected output, and no rule bars an upload from giving it maps again (DESIGN CHOICE, log
entry 56). -/
def State.uploadFree (s : State) : Bool := !s.uploading && !s.calRunning && !s.therm.quench

/-- An upload is opened; the header of a map's bank is written at once, where it may be (R34, R129, R158). -/
def State.openUpload (what : Nat) (s : State) : State :=
  let s := s.onCorr fun x => { x with upload := some ⟨what, s.idleBank, s.now, none, none, false, false, false⟩ }
  ((s.wr 0x421004 0).wr 0x421005 1).settleUpload

/-- START_MAP_UPLOAD (R158): with factory calibration locked the idle bank must be the user bank. -/
def State.startMapUpload (s : State) : State :=
  if !s.uploadFree ∨ (s.calLocked ∧ s.idleBank = s.factoryBank) then s.refuse abortState else s.openUpload 1

/-- START_SET_UPLOAD (R159). -/
def State.startSetUpload (v : Nat) (s : State) : State :=
  if !s.uploadFree then s.refuse abortState else s.openUpload v

/-- A start of an upload (object 0x4210:01). -/
def State.startUpload (v : Nat) (s : State) : State := if v = 1 then s.startMapUpload else s.startSetUpload v

/-- START_MAP_UPLOAD (R158). -/
def execStartMapUpload (tr : Transport) (v : Nat) (s : State) : Host.Outcome State Fault Refusal :=
  .next (s.hostWrite ⟨tr, 0x421001, 1, v⟩ (State.startUpload v))

/-- START_SET_UPLOAD (R159). -/
def execStartSetUpload (tr : Transport) (v : Nat) (s : State) : Host.Outcome State Fault Refusal :=
  .next (s.hostWrite ⟨tr, 0x421001, 1, v⟩ (State.startUpload v))

/-- The points of an uploaded set (R133, R159). -/
def uploadedPoints (words : List (Nat × Nat)) : List Int :=
  (List.range 5).map fun i => toSigned 16 (assocD words (pointBase i / 2) 0)

/-- A finish write (R158, R159): a map with all 32 segments is completed, after the write of a segment under way. -/
def State.finishUpload (s : State) : State :=
  match s.corr.upload with
  | none => s.refuse abortState
  | some u =>
    if s.corr.commit.isSome ∨ u.finish then s.refuse abortState
    else if u.what = 1 then
      (if s.rd 0x421004 = 2 ^ 32 - 1 then
        (s.onCorr fun x => { x with upload := some { u with finish := true } }).settleUpload
      else s.uploadFail)
    else
      match u.segData with
      | none => s.uploadFail
      | some w => if !userPointsOk (uploadedPoints w) then s.refuse abortState else s.beginCommit (u.what - 1) w false

/-- FINISH_UPLOAD (R158, R159). -/
def execFinishUpload (tr : Transport) (v : Nat) (s : State) : Host.Outcome State Fault Refusal :=
  .next (s.hostCommand tr 0x421002 v State.finishUpload)

/-- ABORT_UPLOAD (R158). -/
def execAbortUpload (tr : Transport) (v : Nat) (s : State) : Host.Outcome State Fault Refusal :=
  .next (s.hostCommand tr 0x421003 v State.uploadFail)

/-- The write inhibit has changed: the wait for a segment begins anew (R157, R158). -/
def State.resumeUpload (s : State) : State :=
  s.onCorr fun x => { x with upload := x.upload.map fun u => { u with lastAt := if s.inhibited then u.lastAt else s.now } }

/-- The upload waits for MRAM writes that the inhibit holds, or for the writes of its finish: no segment is due (R157). -/
def State.uploadPaused (s : State) (u : Upload) : Bool := u.finish || (s.inhibited && u.writing.isSome)

/-- UPLOAD_TIMEOUT (R157, R158): no segment arrives for 10 s; a pause of the writes is never a cause of failure. -/
def execUploadTimeout (s : State) : Host.Outcome State Fault Refusal :=
  match s.corr.upload with
  | none => .next s
  | some u =>
    if u.lastAt + ms 10000 ≤ s.now ∧ s.corr.commit.isNone ∧ !s.uploadPaused u then .next s.uploadFail else .next s

/-- The counts of object 0x4023:01 are cleared (R160). -/
def State.clearCorrectionCounts (s : State) : State :=
  s.zero ([0x401201] ++ rangeFrom 0x402001 16 ++ rangeFrom 0x402101 16 ++ rangeFrom 0x402201 16)

/-- CLEAR_CORRECTION_COUNTS (R160). -/
def execClearCorrectionCounts (tr : Transport) (v : Nat) (s : State) : Host.Outcome State Fault Refusal :=
  .next (s.hostCommand tr 0x402301 v State.clearCorrectionCounts)

/-- Quench abandons runs, set commits and uploads (R148, R156, R356). -/
def State.quenchMram (s : State) : State :=
  let s := match s.corr.mapWrite with
    | some b => s.spoilBank b
    | none => s
  (s.calFail 0x0C).uploadFail

end Sys2Proof.Machine
end

