-- ==== Sys2Proof/Machine/Staging.lean ====
section
/-!
DEFINITION. Staged writes and commit groups (R192, R197, R203, R204), and moulds: images, pours, loads, stores, erases
(R205 to R213).
-/
namespace Sys2Proof.Machine

/-! ### Staged writes (R192, R197, R203, R204) -/

/-- The writing transport owns the open group (R203). -/
def State.ownsGroup (s : State) (tr : Transport) : Bool := s.stage.group.any fun g => g.owner == tr

/-- A write into the open group (R203, R204, R209). -/
def State.groupWrite (t : Txn) (g : Group) (s : State) : State :=
  let vals := Dict.insert g.values t.key t.val
  if 4096 < vals.length ∨ 65536 < Dict.bytes vals then s.refuse abortFull
  else
    let mould := if mouldCarries t.key then g.mould.map fun _ => (0xFFFF, 0) else g.mould
    (s.onStage fun x => { x with group := some { g with values := vals, mould := mould, lastAt := s.now } }).reportVersion
      t.tr 0

/-- A loose write (R192, R197). -/
def State.looseWrite (t : Txn) (s : State) : State :=
  let vals := Dict.insert s.stage.loose t.key t.val
  if 65536 < Dict.bytes vals then s.refuse abortFull
  else (s.watchCache fun s => s.onStage fun g => { g with loose := vals }).reportVersion t.tr (s.rd 0x110002 + 1)

/-- A write of an RWS object (R192, R203). -/
def State.stageWrite (t : Txn) (s : State) : State :=
  match s.stage.group with
  | some g => if g.owner = t.tr then s.groupWrite t g else s.looseWrite t
  | none => s.looseWrite t

/-! ### Commit groups (R203, R204) -/

/-- The group closes. -/
def State.dropGroup (s : State) : State := s.onStage fun x => { x with group := none }

/-- A group is opened (R203). -/
def State.openGroup (tr : Transport) (s : State) : State :=
  if s.stage.group.isSome then s.refuse abortState
  else s.onStage fun x => { x with group := some ⟨tr, [], none, s.now⟩ }

/-- The boundary that objects 0x8000:02 to 04 name (R194, R203). -/
def State.closeBoundary (s : State) : Boundary :=
  match s.rd 0x800002 with
  | 0 => .next
  | 1 => .idle
  | 2 => .pourIndex (s.rd 0x800003)
  | _ => .encoder (s.rd 0x800004)

/-- The entry of the open group is requested and the group closes, accepted or refused (R203, R215). -/
def State.requestGroup (g : Group) (bound : Boundary) (by_ : Requester) (s : State) : State × Bool :=
  s.dropGroup.requestEntry g.values bound by_ (g.mould.map Prod.fst) ((g.mould.map Prod.snd).getD 0) none false

/-- A group is open and the other transport owns it: a write of objects 0x8000:02 to 06 is refused, whatever its value (R203). -/
def State.notOwner (s : State) (tr : Transport) : Bool := s.stage.group.isSome && !s.ownsGroup tr

/-- A write of 0x8000:05: 1 closes the group (R203), 0 does nothing (R249). -/
def State.closeGroup (tr : Transport) (v : Nat) (s : State) : State :=
  if s.notOwner tr then s.refuse abortState
  else if v = 0 then s
  else
    match s.stage.group with
    | none => s.refuse abortState
    | some g => State.answerEntry tr (s.requestGroup g s.closeBoundary .host)

/-- A write of 0x8000:06: 1 abandons the group (R203), 0 does nothing (R249). -/
def State.abandonGroup (tr : Transport) (v : Nat) (s : State) : State :=
  if s.notOwner tr then s.refuse abortState
  else if v = 0 then s
  else if s.ownsGroup tr then s.dropGroup
  else s.refuse abortState

/-- A write of objects 0x8000:02 to 04 (R203). -/
def State.groupRegister (t : Txn) (s : State) : State :=
  if s.notOwner t.tr then s.refuse abortState else s.wr t.key t.val

/-- OPEN_COMMIT_GROUP (R203). -/
def execOpenCommitGroup (tr : Transport) (v : Nat) (s : State) : Host.Outcome State Fault Refusal :=
  .next (s.hostCommand tr 0x800001 v (State.openGroup tr))

/-- CLOSE_COMMIT_GROUP (R203). -/
def execCloseCommitGroup (tr : Transport) (v : Nat) (s : State) : Host.Outcome State Fault Refusal :=
  .next (s.hostWrite ⟨tr, 0x800005, 1, v⟩ (State.closeGroup tr v))

/-- ABANDON_COMMIT_GROUP (R203). -/
def execAbandonCommitGroup (tr : Transport) (v : Nat) (s : State) : Host.Outcome State Fault Refusal :=
  .next (s.hostWrite ⟨tr, 0x800006, 1, v⟩ (State.abandonGroup tr v))

/-- The number of a transport in objects 0x8000:07 and the event of R204. -/
def transportNumber : Transport → Nat
  | .ring => 1
  | .twi => 2

/-- GROUP_IDLE_TIMEOUT (R204). -/
def execGroupIdleTimeout (s : State) : Host.Outcome State Fault Refusal :=
  match s.stage.group with
  | none => .next s
  | some g =>
    let t := s.rd 0x80000A
    if t = 0 ∨ s.now < g.lastAt + ms t then .next s
    else
      .next ((s.dropGroup.inc 0x800107).logEvent 0x0503
        (leBytes 2 g.values.length ++ leBytes 1 (transportNumber g.owner)))

/-! ### Mould images (R205 to R207) -/

/-- TAG of a mould image (R206). -/
abbrev mouldTag : Nat := 0x4D4C0001

/-- The `n`-byte field at byte `off` of an image (R206). -/
def imageField (img : List Byte) (off n : Nat) : Nat := leNat ((img.drop off).take n)

/-- The body of an image (R206). -/
def imageBody (img : List Byte) : List Byte := (img.drop 64).take (imageField img 10 2)

/-- The objects that a mould carries (R205). -/
def mouldKeys : List Nat := rwsKeys.filter mouldCarries

/-- The records of a body, at most `fuel` of them, after the key `last` (R207); none where one breaks the rules. -/
def readRecords : Nat → Option Nat → List Byte → Option Dict
  | 0, _, _ => none
  | fuel + 1, last, body =>
    if body.isEmpty ∨ imageField body 0 2 = 0 then some []
    else
      let key := imageField body 0 2 * 256 + imageField body 2 1
      let len := imageField body 4 2
      let val := (body.drop 8).take len
      let size := 8 + (len + 3) / 4 * 4
      match objRow key with
      | none => none
      | some r =>
        if body.length < size ∨ imageField body 3 1 ≠ 0 ∨ imageField body 6 2 ≠ 0 ∨ !mouldCarries key ∨ len ≠ r.size ∨
            !valueOk r.check (leNat val) ∨ (last.any fun k => key ≤ k) ∨
            leNat ((body.drop (8 + len)).take (size - 8 - len)) ≠ 0 then none
        else (readRecords fuel (some key) (body.drop size)).map fun d => (key, leNat val) :: d

/-- The header of an image is correct for slot `n`, FMT apart (R206, R207). -/
def headerOk (n : Nat) (img : List Byte) : Bool :=
  imageField img 0 4 == mouldTag && imageField img 60 4 == crc32 (pad 60 img) && imageField img 4 1 == n &&
  imageField img 10 2 ≤ 16320 && imageField img 10 2 % 4 == 0 && imageField img 12 4 == crc32 (imageBody img)

/-- What an image holds for slot `n`, or the cause of R211 why the part does not accept it: 0x06 for a wrong FMT in a header
that is correct otherwise, else 0x01 (R207). -/
def readImage (n : Nat) (img : List Byte) : Dict ⊕ Nat :=
  if !headerOk n img then .inr 0x01
  else if imageField img 5 1 ≠ 1 then .inr 0x06
  else
    match readRecords 4096 none (imageBody img) with
    | some d => .inl d
    | none => .inr 0x01

/-- GEN of an image (R206). -/
def imageGen (img : List Byte) : Nat := imageField img 6 4

/-- The values of every mould-carried object under an image's records (R205). -/
def mouldValues (d : Dict) : Dict := Dict.putAll [] (mouldKeys.map fun k => (k, (Dict.find d k).getD (objDefault k)))

/-- The 64-byte header of an image (R206). -/
def imageHeader (n gen blen bcrc : Nat) (name : List Byte) : List Byte :=
  let h := leBytes 4 mouldTag ++ leBytes 1 n ++ [1] ++ leBytes 4 gen ++ leBytes 2 blen ++ leBytes 4 bcrc ++ pad 32 name ++
    List.replicate 12 0
  h ++ leBytes 4 (crc32 h)

/-- One record (R207). -/
def recordBytes (k v : Nat) : List Byte :=
  let n := objSize k
  leBytes 2 (k / 256) ++ leBytes 1 (k % 256) ++ [0] ++ leBytes 2 n ++ [0, 0] ++ leBytes ((n + 3) / 4 * 4) v

/-- The image of slot `n` with a value for every mould-carried object (R205 to R207). -/
def buildImage (n gen : Nat) (name : List Byte) (vals : Dict) : List Byte :=
  let body := vals.flatMap fun w => recordBytes w.1 w.2
  pad 16384 (imageHeader n gen body.length (crc32 body) name ++ body)

/-- An uploaded image with the GEN and HCRC the part gives it (R211). -/
def withGen (gen : Nat) (img : List Byte) : List Byte :=
  let h := img.take 6 ++ leBytes 4 gen ++ (img.drop 10).take 50
  pad 16384 (h ++ leBytes 4 (crc32 h) ++ img.drop 64)

/-- The bytes that mould slot `n` holds. -/
def Mram.mould (m : Mram) (n : Nat) : List Byte := pad 16384 (assocD m.moulds n [])

/-- The image that a read of slot `n` returns: the shadow's while the journal names the slot (R208). -/
def State.slotImage (s : State) (n : Nat) : List Byte :=
  if s.mram.journal = some n then s.mram.shadow.getD [] else s.mram.mould n

/-- The words that a read of slot `n` reads (R208). -/
def State.imageWords (s : State) (n : Nat) : WordRange := if s.mram.journal = some n then shadowWords else mouldWords n

/-- An image with TAG at 0 (R213). -/
def untagged (img : List Byte) : List Byte := [0, 0, 0, 0] ++ img.drop 4

/-- Slot `n` written with an image. -/
def State.writeMould (n : Nat) (img : List Byte) (s : State) : State :=
  (s.onMram fun m => { m with moulds := (n, img) :: m.moulds.filter fun x => x.1 != n }).wroteWords (mouldWords n)

/-- Slot `n` erased with one header word write (R213). -/
def State.eraseMould (n : Nat) (s : State) : State :=
  (s.onMram fun m => { m with
    moulds := (n, untagged (m.mould n)) :: m.moulds.filter fun x => x.1 != n }).wroteWords ((mouldWords n).1, 1)

/-- The shadow slot written with an image (R211). -/
def State.writeShadow (img : List Byte) (s : State) : State :=
  (s.onMram fun m => { m with shadow := some img }).wroteWords shadowWords

/-- The journal word written: the slot it names, or cleared (R211). -/
def State.writeJournal (n : Option Nat) (s : State) : State :=
  (s.onMram fun m => { m with journal := n }).wroteWords journalWords

/-- The image that will be in force in slot `n` once a running operation on it completes (R218). -/
def State.slotWillBe (s : State) (n : Nat) : List Byte :=
  match s.stage.op with
  | some o => if o.slot = n then (if o.op = 3 then untagged (s.slotImage n) else o.image) else s.slotImage n
  | none => s.slotImage n

/-! ### Pours and loads (R208, R209) -/

/-- A mould read begins for a transaction, whose reply waits (R208, R209). -/
def State.beginRead (load : Bool) (t : Txn) (s : State) : State :=
  (s.onStage fun g => { g with reads := g.reads ++ [⟨t.val, load, some t, 0⟩], serving := some (.write t s.now) }).defer

/-- A mould pour (R208). -/
def State.pourMould (t : Txn) (s : State) : State := s.beginRead false t

/-- A load into the open group: from its owner only (R209). -/
def State.loadMould (t : Txn) (s : State) : State :=
  if s.ownsGroup t.tr then s.beginRead true t else s.refuse abortState

/-- POUR_MOULD (R208). -/
def execPourMould (tr : Transport) (n : Nat) (s : State) : Host.Outcome State Fault Refusal :=
  .next (s.hostWrite ⟨tr, 0x801001, 1, n⟩ (State.pourMould ⟨tr, 0x801001, 1, n⟩))

/-- LOAD_MOULD (R209). -/
def execLoadMould (tr : Transport) (n : Nat) (s : State) : Host.Outcome State Fault Refusal :=
  .next (s.hostWrite ⟨tr, 0x801002, 1, n⟩ (State.loadMould ⟨tr, 0x801002, 1, n⟩))

/-- A pour whose image cannot be used is refused (R198, R208). -/
def State.refusePour (ok : Bool) (s : State) : State :=
  let s := (s.requestEntry [] .next .host none 0 none true).1
  s.refuse (if !ok && s.rd 0x800102 == 0x08 then abortMram else abortHandOver)

/-- The read of a mould pour by a transaction completes (R208). -/
def State.endPour (t : Txn) (ok : Bool) (s : State) : State :=
  let img := s.slotImage t.val
  match readImage t.val img with
  | .inr _ => s.refusePour ok
  | .inl d =>
    if !ok then s.refusePour false
    else State.answerEntry t.tr (s.requestEntry (mouldValues d) .next .host (some t.val) (imageGen img) none false)

/-- A load that fails (R209). -/
def State.refuseLoad (ok : Bool) (s : State) : State :=
  (s.recordRefusal 0x08 0 0 false).refuse (if ok then abortHandOver else abortMram)

/-- The read of a load completes (R209). -/
def State.endLoad (t : Txn) (ok : Bool) (s : State) : State :=
  let img := s.slotImage t.val
  match s.stage.group, readImage t.val img with
  | none, _ => s.refuse abortState
  | some g, .inl d =>
    if !ok then s.refuseLoad false
    else
      (s.onStage fun x => { x with
        group := some { g with values := mouldValues d, mould := some (t.val, imageGen img), lastAt := s.now } }).accept
  | some _, .inr _ => s.refuseLoad ok

/-- The read for an entry that a tap requested completes: the entry is ready, or, on an uncorrectable word, its values are
discarded and its version goes live empty (R199, R200; log entry 14). -/
def State.endTapRead (version : Nat) (ok : Bool) (s : State) : State :=
  let s := if s.idle then s.markIdle else s
  let s := s.onStage fun g => { g with
    queue := g.queue.map fun e =>
      if e.version = version then
        (if ok then { e with reading := none } else { e with reading := none, values := [], mould := none })
      else e }
  if ok then s else (s.recordRefusal 0x08 1 0 false).wr 0x80010A version

/-- The oldest mould read under way completes: an answer to its transaction stands in the state, if it has one. The lists
name the words that read uncorrectable or with an error that is corrected (R33, R264). -/
def State.endRead (r : MouldRead) (bad corrected : List Nat) (s : State) : State :=
  let s := s.onStage fun g => { g with reads := g.reads.tail }
  let words := s.imageWords r.slot
  let s := (s.noteErrors words bad corrected).readWords words
  let ok := s.readable words
  match r.txn with
  | some t => if r.load then s.endLoad t ok else s.endPour t ok
  | none => s.endTapRead r.version ok

/-! ### Stores, uploads and erases (R211 to R213) -/

/-- The part refuses or fails a mould operation: its report and event (R211). -/
def State.mouldFail (op slot cause : Nat) (s : State) : State :=
  ((s.wr 0x801006 3).wr 0x801007 cause).logEvent 0x0504 (leBytes 1 op ++ leBytes 1 slot ++ leBytes 1 cause)

/-- Another operation is running: logged, the running one's report stands (R211). -/
def State.mouldBusy (op slot : Nat) (s : State) : State :=
  s.logEvent 0x0504 (leBytes 1 op ++ leBytes 1 slot ++ [5])

/-- Slot `n` is protected (R213). -/
def State.protected (s : State) (n : Nat) : Bool := bitAt (s.rd 0x801101) n

/-- An operation begins (R211). -/
def State.startMouldOp (op slot : Nat) (img : List Byte) (s : State) : State :=
  (s.onStage fun g => { g with op := some ⟨op, slot, img, 1⟩ }).wr 0x801006 1

/-- GEN one above that of a slot; 0 counts for a slot without a correct header (R211). -/
def State.nextGen (s : State) (n : Nat) : Nat :=
  let img := s.slotImage n
  if headerOk n img then (imageGen img + 1) % 2 ^ 32 else 1

/-- NAME that a store gives (R211). -/
def State.oldName (s : State) (n : Nat) : List Byte :=
  let img := s.slotImage n
  match readImage n img with
  | .inl _ => (img.drop 16).take 32
  | .inr _ => List.replicate 32 0

/-- A store or erase: `op` 1 or 3 (R211, R213). -/
def State.mouldCommand (op n : Nat) (s : State) : State :=
  if s.stage.op.isSome then (s.mouldBusy op n).refuse abortState
  else if s.protected n then (s.mouldFail op n 0x02).refuse abortState
  else if op = 3 then s.startMouldOp 3 n []
  else
    let value := if s.rd 0x801004 = 1 then s.staged else s.rd
    let vals := Dict.putAll [] (mouldKeys.map fun k => (k, value k))
    s.startMouldOp 1 n (buildImage n (s.nextGen n) (s.oldName n) vals)

/-- STORE_MOULD (R211). -/
def execStoreMould (tr : Transport) (n : Nat) (s : State) : Host.Outcome State Fault Refusal :=
  .next (s.hostWrite ⟨tr, 0x801003, 1, n⟩ (State.mouldCommand 1 n))

/-- ERASE_MOULD (R213). -/
def execEraseMould (tr : Transport) (n : Nat) (s : State) : Host.Outcome State Fault Refusal :=
  .next (s.hostWrite ⟨tr, 0x801005, 1, n⟩ (State.mouldCommand 3 n))

/-- A mould image arrives complete from the uplinks or a submit: whether the owner accepts it (R211, R213). -/
def State.uploadMould (n : Nat) (img : List Byte) (s : State) : State × Bool :=
  if s.stage.op.isSome then (s.mouldBusy 2 n, false)
  else
    match readImage n img with
    | .inr cause => (s.mouldFail 2 n cause, false)
    | .inl _ =>
      if s.protected n then (s.mouldFail 2 n 0x02, false)
      else (s.startMouldOp 2 n (withGen (s.nextGen n) img), true)

/-- An operation ends; an upload's staging is released. -/
def State.endMouldOp (o : MouldOp) (s : State) : State :=
  let s := s.onStage fun g => { g with op := none }
  if o.op = 2 then s.releaseStaging else s

/-- The image stands in the shadow slot and the journal names the slot (R211 steps 1 and 2). -/
def State.journalMould (o : MouldOp) (s : State) : State :=
  ((s.writeShadow o.image).writeJournal (some o.slot)).onStage fun g => { g with op := some { o with step := 3 } }

/-- Every step of an operation passed (R211, R213). -/
def State.passMould (o : MouldOp) (s : State) : State :=
  let s := if o.op = 3 then s.eraseMould o.slot
    else (s.writeMould o.slot o.image).writeShadow o.image
  let s := if o.op = 3 ∧ s.mram.journal ≠ some o.slot then s else s.writeJournal none
  (s.endMouldOp o).wr 0x801006 2

/-- MOULD_OPERATION_COMPLETE (R211 to R213): paused while the write inhibit is in force. -/
def execMouldOperationComplete (how : MouldEnd) (s : State) : Host.Outcome State Fault Refusal :=
  match s.stage.op with
  | none => .next s
  | some o =>
    if s.inhibited then .next s
    else
      match how with
      | .passed => .next (s.passMould o)
      | .journalled => .next (if o.op = 3 then s else s.journalMould o)
      | .shadowFailed => .next ((s.endMouldOp o).mouldFail o.op o.slot 0x04)
      | .slotFailed =>
        .next (((if o.op = 3 then s else s.journalMould o).endMouldOp o).mouldFail o.op o.slot 0x04)
      | .unreadable w =>
        .next ((((s.noteErrors (w, 1) [w] []).readWords (w, 1)).endMouldOp o).mouldFail o.op o.slot 0x03)

end Sys2Proof.Machine
end

