-- ==== Sys2Proof/Machine/Lanes.lean ====
section
/-!
DEFINITION. Uplinks, credit grants, bulk data and lane commands (R165, R177, R179 to R182), dispatch, lanes, markers, stalls and
age drops (R163, R166, R175 to R178, R183, R185).
-/
namespace Sys2Proof.Machine

/-! ### Uplinks (R165, R179) -/

/-- The state of an uplink: 0 no signal, 1 no lock, 2 locked, 3 high BER (R165, R190). -/
def State.uplink (s : State) (ul : Nat) : Nat := s.rd (0x900301 + ul)

/-- An uplink packet is discarded and counted (R179). -/
def State.discardUplink (ul : Nat) (s : State) : State := s.inc (0x900303 + ul)

/-- A packet arrives on an uplink: acted on while it is locked, discarded under high BER (R165). -/
def State.uplinkPacket (ul : Nat) (eff : State → State) (s : State) : State :=
  match s.uplink ul with
  | 2 => eff s
  | 3 => s.discardUplink ul
  | _ => s

/-- UPLINK_BLOCK_LOCK (R165). -/
def execUplinkBlockLock (ul : Nat) (s : State) : Host.Outcome State Fault Refusal :=
  .next (if s.lanes.released ∧ s.uplink ul < 2 then s.wr (0x900301 + ul) 2 else s)

/-- Errors that the PRBS31 checker of an uplink found, counted while object 0x9002:02 is 1 (R161, R190). -/
def State.prbsErrors (ul n : Nat) (s : State) : State := if s.rd 0x900202 = 1 then s.add (0x900203 + ul) n else s

/-- UPLINK_LOSS_OF_LOCK (R165): the receiver has no lock, with a signal or without one, and counts the loss of a lock that it
held. A receiver without a lock may meet it again, with a signal gained or lost (R190) or with PRBS31 errors (R161; log entry
68). -/
def execUplinkLossOfLock (ul : Nat) (s : State) (signal : Bool := false) (errors : Nat := 0) : Host.Outcome State Fault Refusal :=
  if !s.lanes.released then .next s
  else
    let s := s.prbsErrors ul errors
    let s := if s.uplink ul < 2 then s else s.inc (0x900305 + ul)
    .next (s.wr (0x900301 + ul) (b2n signal))

/-- UPLINK_HIGH_BER (R165). -/
def execUplinkHighBer (ul : Nat) (high : Bool) (s : State) : Host.Outcome State Fault Refusal :=
  .next (if s.uplink ul < 2 then s else s.wr (0x900301 + ul) (if high then 3 else 2))

/-- The credit limits of the masked lanes are replaced (R177). -/
def State.grantCredit (mask : Nat) (limits : List Nat) (s : State) : State :=
  ((List.range 32).foldl (fun s n => if bitAt mask n then s.wr (0x901001 + n) (nth limits n 0) else s) s).watchHeads

/-- CREDIT_GRANT (R177, R180). -/
def execCreditGrant (ul mask : Nat) (limits : List Nat) (s : State) : Host.Outcome State Fault Refusal :=
  .next (s.uplinkPacket ul (State.grantCredit mask limits))

/-! ### Bulk data (R181) -/

/-- The greatest segment, and the least and greatest length, of a target (R181). -/
def targetLimits (target : Nat) : Option (Nat × Nat × Nat) :=
  match target with
  | 1 => some (31, 1048576, 1048576)
  | 2 => some (0, 512000, 512000)
  | 3 => some (255, 16384, 16384)
  | 4 => some (0, 64, 1048576)
  | _ => none

/-- The upload that a target needs is open (R158, R159, R181). -/
def State.targetOpen (s : State) (target : Nat) : Bool :=
  match target with
  | 1 => s.corr.upload.any fun u => u.what == 1 && !u.finish
  | 2 => s.corr.upload.any fun u => u.what != 1
  | _ => true

/-- A rejection is counted, recorded and logged (R181). -/
def State.rejectBulk (cause target segment useq : Nat) (s : State) : State :=
  ((s.inc 0x903002).wr 0x903003 cause).logEvent 0x0402
    (leBytes 1 cause ++ leBytes 1 target ++ leBytes 2 segment ++ leBytes 4 useq)

/-- Staging is free or fills with this segment. -/
def Staging.takes (st : Staging) (target segment : Nat) : Bool :=
  match st with
  | .free => true
  | .filling t g => t == target && g == segment
  | .writing _ _ => false

/-- Staging fills with this segment. -/
def Staging.fills (st : Staging) (target segment : Nat) : Bool :=
  match st with
  | .filling t g => t == target && g == segment
  | _ => false

/-- The first cause for which a chunk is rejected (R181). -/
def State.chunkFault (s : State) (target segment offset len : Nat) : Option Nat :=
  match targetLimits target with
  | none => some 0x05
  | some l =>
    if !s.targetOpen target then some 0x01
    else if !s.dma.stage.takes target segment then some 0x02
    else if l.1 < segment ∨ l.2.2 < offset + len then some 0x03
    else none

/-- A bulk chunk (R180, R181). -/
def State.bulkChunk (ul useq target segment offset : Nat) (data : List Byte) (s : State) : State :=
  if data.length < 64 ∨ 4096 < data.length ∨ data.length % 64 ≠ 0 then s.discardUplink ul
  else
    match s.chunkFault target segment offset data.length with
    | some cause => s.rejectBulk cause target segment useq
    | none =>
      (s.onDma fun d => { d with
        staging := Mem.writeAll d.staging offset data, stage := .filling target segment, stageAt := s.now }).inc 0x903001

/-- BULK_CHUNK (R180, R181). -/
def execBulkChunk (ul useq target segment offset : Nat) (data : List Byte) (s : State) :
    Host.Outcome State Fault Refusal :=
  .next (s.uplinkPacket ul (State.bulkChunk ul useq target segment offset data))

/-- 16-bit words of bytes, numbered from `i`. -/
def wordsFrom : Nat → List Byte → List (Nat × Nat)
  | i, a :: b :: l => (i, a.toNat + 256 * b.toNat) :: wordsFrom (i + 1) l
  | _, _ => []

/-- A segment whose CRC has passed goes to its owner: whether the owner takes it (R158, R159, R181, R211). -/
def State.handSegment (target segment : Nat) (bytes : List Byte) (s : State) : State × Bool :=
  let writing (s : State) : State := s.onDma fun d => { d with stage := .writing target segment }
  match target with
  | 1 =>
    match s.corr.upload with
    | some u =>
      let u' : Upload := { u with
        segData := some (wordsFrom (524288 * segment) bytes), writing := some segment, lastAt := s.now, retried := false }
      (writing (s.onCorr fun x => { x with upload := some u' }), true)
    | none => (s, false)
  | 2 =>
    match s.corr.upload with
    | some u =>
      let u' : Upload := { u with segData := some (wordsFrom 2048 bytes), lastAt := s.now }
      (writing (s.onCorr fun x => { x with upload := some u' }), true)
    | none => (s, false)
  | 3 =>
    let r := s.uploadMould segment bytes
    (if r.2 then writing r.1 else r.1, r.2)
  | _ => (s, true)

/-- A segment end whose CRC fails frees staging (R181); of an upload it is logged (R158). -/
def State.segmentCrcFail (target segment useq : Nat) (s : State) : State :=
  let s := (s.onDma fun d => { d with stage := .free }).wr 0x903005 2
  let s := if target ≤ 2 then s.logEvent 0x0305 (leBytes 1 target ++ [0] ++ leBytes 2 segment) else s
  s.rejectBulk 0x04 target segment useq

/-- A segment end (R181). -/
def State.segmentEnd (useq target segment length crc : Nat) (s : State) : State :=
  match targetLimits target with
  | none => s.rejectBulk 0x05 target segment useq
  | some l =>
    if !s.targetOpen target then s.rejectBulk 0x01 target segment useq
    else if !s.dma.stage.fills target segment then s.rejectBulk 0x02 target segment useq
    else if l.1 < segment ∨ length < l.2.1 ∨ l.2.2 < length then s.rejectBulk 0x03 target segment useq
    else
      let bytes := Mem.readAll s.dma.staging 0 length
      if crc32 bytes ≠ crc then s.segmentCrcFail target segment useq
      else
        let r := (s.wr 0x903005 1).handSegment target segment bytes
        if r.2 then r.1
        else (r.1.onDma fun d => { d with stage := .free }).rejectBulk 0x06 target segment useq

/-- SEGMENT_END (R181). -/
def execSegmentEnd (ul useq target segment length crc : Nat) (s : State) : Host.Outcome State Fault Refusal :=
  .next (s.uplinkPacket ul (State.segmentEnd useq target segment length crc))

/-- STAGING_ABANDON (R181, R324): no chunk for 10 s. -/
def execStagingAbandon (s : State) : Host.Outcome State Fault Refusal :=
  match s.dma.stage with
  | .filling _ _ => if s.dma.stageAt + ms 10000 ≤ s.now then .next (s.onDma fun d => { d with stage := .free }) else .next s
  | _ => .next s

/-! ### Lane commands and settings (R166, R182) -/

/-- One lane updated. -/
def State.onLane (n : Nat) (f : Lane → Lane) (s : State) : State :=
  s.onLanes fun l => { l with lanes := modifyNth l.lanes n f }

/-- The lanes a lane byte names, or none for a bad one (R182). -/
def lanesNamed (lane : Nat) : Option (List Nat) :=
  if lane < 32 then some [lane] else if lane = 0xFF then some (List.range 32) else none

/-- The bits of a list of lanes. -/
def laneBits (l : List Nat) : Nat := l.foldl (fun v n => setBit v n) 0

/-- `t` lane blocks in time units, to the next whole unit: 66 bits at 28.125 Gbit/s (R161). -/
def blocksTime (t : Nat) : Instant := ceilDiv (t * 3344) 25

/-- The downlink enable mask changes (R166): lanes that begin to drive count their marker interval from now. -/
def State.setEnable (v : Nat) (s : State) : State :=
  let old := s.rd 0x900101
  let s := (List.range 32).foldl (fun s n =>
    if bitAt v n && !bitAt old n then s.onLane n fun l => { l with since := s.now } else s) s
  (s.wr 0x900101 v).watchHeads

/-- A lane command on an uplink: a bad lane byte is a discarded packet (R182). -/
def State.laneCommand (ul lane : Nat) (eff : List Nat → State → State) (s : State) : State :=
  s.uplinkPacket ul fun s =>
    match lanesNamed lane with
    | some l => eff l s
    | none => s.discardUplink ul

/-- Lanes are quiesced (R182). -/
def State.quiesceLanes (l : List Nat) (s : State) : State := s.setEnable (andNot (s.rd 0x900101) (laneBits l))

/-- Lanes are resumed (R182). -/
def State.resumeLanes (l : List Nat) (s : State) : State := s.setEnable (s.rd 0x900101 ||| laneBits l)

/-- QUIESCE (R182). -/
def execQuiesce (ul lane : Nat) (s : State) : Host.Outcome State Fault Refusal :=
  .next (s.laneCommand ul lane State.quiesceLanes)

/-- RESUME (R182). -/
def execResume (ul lane : Nat) (s : State) : Host.Outcome State Fault Refusal :=
  .next (s.laneCommand ul lane State.resumeLanes)

/-- When the packet that a lane is sending ends (R167, R183). -/
def Sending.endsAt (q : Sending) : Instant := q.at_ + blocksTime q.pkt.blocks

/-- A lane finishes its packet and then retrains (R166). -/
def State.retrainLane (s : State) (n : Nat) : State :=
  s.onLane n fun l =>
    let from_ := match l.sending with
      | some q => max s.now q.endsAt
      | none => s.now
    { l with retrainUntil := some (from_ + us (s.rd 0x900108)) }

/-- Lanes are retrained (R166, R182). -/
def State.retrainLanes (l : List Nat) (s : State) : State := (l.foldl State.retrainLane s).watchHeads

/-- RETRAIN (R166, R182). -/
def execRetrain (ul lane : Nat) (s : State) : Host.Outcome State Fault Refusal :=
  .next (s.laneCommand ul lane State.retrainLanes)

/-! ### Uplink packets as bytes (R179, R180) -/

/-- What an uplink packet asks for (R180). -/
inductive UplinkBody where
  | grant (mask : Nat) (limits : List Nat)
  | chunk (target segment offset : Nat) (data : List Byte)
  | segEnd (target segment length crc : Nat)
  | lane (command lane : Nat)
  deriving DecidableEq, Repr

/-- The little-endian number in `n` bytes at `i`. -/
def leAt (l : List Byte) (i n : Nat) : Nat := leNat ((l.drop i).take n)

/-- The body of an uplink packet of a type, if its length is one of that type (R180). -/
def uplinkBody (utype : Nat) (b : List Byte) : Option UplinkBody :=
  match utype with
  | 0x41 => if b.length = 132 then some (.grant (leAt b 0 4) ((List.range 32).map fun n => leAt b (4 + 4 * n) 4)) else none
  | 0x42 =>
    if 72 ≤ b.length ∧ b.length ≤ 4104 ∧ b.length % 64 = 8 then
      some (.chunk (leAt b 0 1) (leAt b 2 2) (leAt b 4 4) (b.drop 8))
    else none
  | 0x43 => if b.length = 12 then some (.segEnd (leAt b 0 1) (leAt b 2 2) (leAt b 4 4) (leAt b 8 4)) else none
  | 0x44 => if b.length = 4 then some (.lane (leAt b 0 1) (leAt b 1 1)) else none
  | _ => none

/-- USEQ and the body of an uplink packet: 16 header bytes, ULEN body bytes and the body CRC; none where the part discards it
(R179). Reserved bits are not looked at. -/
def uplinkDecode (p : List Byte) : Option (Nat × UplinkBody) :=
  let n := leAt p 2 2
  let b := (p.drop 16).take n
  if p.length ≠ 20 + n ∨ crc32 (p.take 12) ≠ leAt p 12 4 ∨ crc32 b ≠ leAt p (16 + n) 4 then none
  else (uplinkBody (leAt p 0 1) b).map fun x => (leAt p 4 4, x)

/-- The lane command of a number, if it is one of R182. -/
def laneEffect (command : Nat) : Option (List Nat → State → State) :=
  match command with
  | 1 => some State.quiesceLanes
  | 2 => some State.resumeLanes
  | 3 => some State.retrainLanes
  | _ => none

/-- What the part does with a packet that it has decoded (R177, R181, R182). -/
def UplinkBody.effect (ul useq : Nat) (s : State) : UplinkBody → State
  | .grant mask limits => s.grantCredit mask limits
  | .chunk target segment offset data => s.bulkChunk ul useq target segment offset data
  | .segEnd target segment length crc => s.segmentEnd useq target segment length crc
  | .lane command n =>
    match laneEffect command, lanesNamed n with
    | some eff, some l => eff l s
    | _, _ => s.discardUplink ul

/-- UPLINK_PACKET_DISCARD (R179): the bytes of an uplink packet as they came. A packet with a wrong CRC, unlisted type, wrong
length or bad lane command is discarded and counted; one that decodes is acted on as its own row acts (R180). -/
def execUplinkPacketDiscard (ul : Nat) (s : State) (packet : List Byte := []) : Host.Outcome State Fault Refusal :=
  .next (s.uplinkPacket ul fun s =>
    match uplinkDecode packet with
    | none => s.discardUplink ul
    | some x => x.2.effect ul x.1 s)

/-- RETRAIN_END (R166). -/
def execRetrainEnd (lane : Nat) (s : State) : Host.Outcome State Fault Refusal :=
  match (nth s.lanes.lanes lane Lane.reset).retrainUntil with
  | some t => if t ≤ s.now then .next (s.onLane lane fun l => { l with retrainUntil := none }).watchHeads else .next s
  | none => .next s

/-- DOWNLINK_ENABLE_WRITE (R166). -/
def execDownlinkEnableWrite (tr : Transport) (v : Nat) (s : State) : Host.Outcome State Fault Refusal :=
  .next (s.hostWrite ⟨tr, 0x900101, 4, v⟩ (State.setEnable v))

/-- A lane setting that bears on which lanes carry packets (R166). -/
def State.laneSetting (key v : Nat) (s : State) : State := (s.wr key v).watchHeads

/-- TEST_PATTERN_WRITE (R166). -/
def execTestPatternWrite (tr : Transport) (v : Nat) (s : State) : Host.Outcome State Fault Refusal :=
  .next (s.hostWrite ⟨tr, 0x900106, 1, v⟩ (State.laneSetting 0x900106 v))

/-- The counts of object 0x9022:05 are cleared; the highest booked bytes start again from those booked (R190). -/
def State.clearLaneCounts (s : State) : State :=
  (s.zero (rangeFrom 0x900203 2 ++ rangeFrom 0x900303 4 ++ rangeFrom 0x901201 32 ++
    [0x901402, 0x902201, 0x902202, 0x902204])).wr 0x902107 s.booked

/-- CLEAR_LANE_COUNTS (R190). -/
def execClearLaneCounts (tr : Transport) (v : Nat) (s : State) : Host.Outcome State Fault Refusal :=
  .next (s.hostCommand tr 0x902205 v State.clearLaneCounts)

/-! ### Dispatch (R163, R175 to R178, R183) -/

/-- A lane drives the 64b/66b stream: released, enabled, not in a test pattern (R163, R166). -/
def State.laneDrives (s : State) (n : Nat) : Bool :=
  s.lanes.released && bitAt (s.rd 0x900101) n && !(s.rd 0x900106 != 0 && bitAt (s.rd 0x900107) n)

/-- A lane marker is due (R163). -/
def State.markerDue (s : State) (n : Nat) : Bool :=
  s.laneDrives n && (nth s.lanes.lanes n Lane.reset).since + blocksTime 16384 ≤ s.now

/-- The ring position that a marker carries (R163). -/
def State.markerPosition (s : State) : Nat := if s.rd 0x120001 = 0xFE then 0xFF else s.rd 0x120001

/-- Octets 1 to 7 of the marker of lane `n` after `count` markers (R163): lane number, ring position, sprue and marker count,
the O code, zeros. -/
def State.markerOctets (s : State) (n count : Nat) : List Byte :=
  [n, s.markerPosition, n / 8 + 4 * (count % 64), 0x0F, 0, 0, 0].map (BitVec.ofNat 8)

/-- A lane sends its marker (R163). -/
def State.sendMarker (n : Nat) (s : State) : State :=
  s.onLane n fun l => { l with
    since := s.now, markers := l.markers + 1, lastMarker := some (s.markerOctets n l.markers) }

/-- LANE_MARKER (R163): after 16,384 blocks, outside a packet. -/
def execLaneMarker (lane : Nat) (s : State) : Host.Outcome State Fault Refusal :=
  .next (if s.markerDue lane ∧ (nth s.lanes.lanes lane Lane.reset).sending.isNone then s.sendMarker lane else s)

/-- A lane is free to start a packet of `blocks` blocks (R176). -/
def State.laneFree (s : State) (blocks n : Nat) : Bool :=
  s.laneOpen n && (nth s.lanes.lanes n Lane.reset).sending.isNone && blocks ≤ s.credit n

/-- The free lane of a sprue with the most available credit, the lowest on a tie (R176). -/
def State.pickLane (s : State) (sp blocks : Nat) : Option Nat :=
  ((sprueLanes sp).filter (s.laneFree blocks)).foldl (fun b n =>
    match b with
    | none => some n
    | some m => if s.credit m < s.credit n then some n else some m) none

/-- OSPD of a packet of pour `p` in a flask (R174). -/
def Flask.ospdFor (f : Flask) (p : Nat) : Nat :=
  min 0xFFFF (f.ospd + sumNat ((f.areaOspd.filter fun x => x.1 ≤ p).map Prod.snd))

/-- The head entry leaves its queue (R175). -/
def State.popHead (sp : Nat) (s : State) : State :=
  s.onLanes fun l =>
    if (nth l.notices sp []).isEmpty then { l with queues := modifyNth l.queues sp List.tail }
    else { l with notices := modifyNth l.notices sp List.tail }

/-- The fields of dispatch, and the flask's counts start again (R174, R176). -/
def State.fillPacket (p : Packet) (at_ : Instant) (s : State) : Sending × State :=
  let f := nth s.image.flasks p.flask Flask.reset
  (⟨p, f.seq, f.slag, f.ospdFor p.pour, f.lostn, at_⟩,
    s.onFlask p.flask fun f => { f with
      seq := (f.seq + 1) % 2 ^ 32, slag := 0, ospd := 0, lostn := false
      areaOspd := f.areaOspd.filter fun x => !decide (x.1 ≤ p.pour) })

/-- The pour of a dispatched packet may no longer be dropped, and its held window shows the fields of dispatch (R184, R316). -/
def State.noteDispatch (q : Sending) (s : State) : State :=
  if q.pkt.typ = 4 then s
  else
    s.onLanes fun l => { l with
      tundish := l.tundish.map fun t =>
        if q.pkt.ofPour t then { t with
          dispatched := true, made := t.made.map fun m => if m.pkt = q.pkt then q else m }
        else t }

/-- The packetiser starts a packet on a lane; a marker that is due goes first (R163, R176, R177). -/
def State.startPacket (sp n : Nat) (p : Packet) (s : State) : State :=
  let due := s.markerDue n
  let s := if due then s.sendMarker n else s
  let r := (s.popHead sp).fillPacket p (s.now + if due then blocksTime 1 else 0)
  let s := r.2.noteDispatch r.1
  let s := s.wr (0x901101 + n) ((s.rd (0x901101 + n) + p.blocks) % 2 ^ 32)
  let s := (s.inc (0x901201 + n)).onLane n fun l => { l with sending := some r.1 }
  let s := s.onLanes fun l => { l with
    recent := (l.recent.filter fun x => decide (s.now ≤ x.2.1 + blocksTime x.2.2 + ms 1)) ++ [(sp, r.1.at_, p.blocks)] }
  s.headLeaves sp

/-- PACKET_DISPATCH (R175 to R177). -/
def execPacketDispatch (sprue : Nat) (s : State) : Host.Outcome State Fault Refusal :=
  match s.headOf sprue with
  | none => .next s
  | some p =>
    match s.pickLane sprue p.blocks with
    | none => .next s
    | some n => .next (s.startPacket sprue n p)

/-- PACKET_SENT (R183): the terminate block has left. -/
def execPacketSent (lane : Nat) (s : State) : Host.Outcome State Fault Refusal :=
  match (nth s.lanes.lanes lane Lane.reset).sending with
  | none => .next s
  | some q =>
    if s.now < q.endsAt then .next s
    else .next (((s.onLane lane fun l => { l with sending := none }).freePacket q.pkt).watchHeads)

/-- CREDIT_STALL (R178): the head entry has waited longer than object 0x9014:01. -/
def execCreditStall (sprue : Nat) (s : State) : Host.Outcome State Fault Refusal :=
  match nth s.lanes.headSince sprue none with
  | none => .next s
  | some t =>
    if nth s.lanes.stalled sprue false ∨ s.now ≤ t + us (s.rd 0x901401) then .next s
    else
      let s := (s.inc 0x901402).wr 0x901403 (s.rd 0x901403 ||| 255 * 2 ^ (8 * sprue))
      .next ((s.onLanes fun l => { l with stalled := setNth l.stalled sprue true }).logEvent 0x0401 (leBytes 1 sprue))

/-- POUR_AGE_DROP (R185). -/
def execPourAgeDrop (s : State) : Host.Outcome State Fault Refusal :=
  let limit := s.rd 0x902002
  if limit = 0 then .next s
  else
    match s.droppable with
    | none => .next s
    | some t => if t.at_ + us limit ≤ s.now then .next (s.dropPour 0x902202 t) else .next s

end Sys2Proof.Machine
end

