-- ==== Sys2Proof/Machine/Ring.lean ====
section
/-!
DEFINITION. The Vyesh ring: link and bypass switch (R222 to R224, R247), frames (R229, R232), ring time (R239 to R241), taps
(R215, R216, R242, R243), enumeration and roll call (R237, R238).
-/
namespace Sys2Proof.Machine

/-! ### Link (R222 to R224, R247) -/

/-- The ring receiver may train: from 200 µs of start-up on, not in reset or Sleep (R222, R368, R379). -/
def State.ringUp (s : State) : Bool :=
  match s.power.phase with
  | .pllLocked => true
  | .shaken => true
  | .scanned => true
  | .poured => true
  | .service => true
  | _ => false

/-- TRAINING_ACHIEVED (R223): the receiver is trained; the switch stays closed. -/
def execTrainingAchieved (s : State) : Host.Outcome State Fault Refusal :=
  .next (if s.ringUp ∧ s.rd 0x120002 < 2 then
      (s.wr 0x120002 2).onRing fun r => { r with trainedAt := some s.now }
    else s)

/-- RING_JOIN (R223, R247): 100 µs of training later the switch opens, and "ring joined" is logged, its frame leaving 1 µs later
at the earliest. -/
def execRingJoin (s : State) : Host.Outcome State Fault Refusal :=
  match s.ring.trainedAt with
  | none => .next s
  | some t =>
    if s.rd 0x120002 = 2 ∧ s.rd 0x120005 = 0 ∧ t + us 100 ≤ s.now then
      .next ((((s.wr 0x120002 3).wr 0x120003 0).logEvent 0x0602 []).onRing fun r => { r with txFree := s.now + us 1 })
    else .next s

/-- The switch closes; frames not yet sent are lost (R222, R224). -/
def State.closeSwitch (link : Nat) (s : State) : State :=
  ((s.wr 0x120002 link).wr 0x120003 1).onRing fun r => { r with
    tx := [], ins := [], trainedAt := if link = 2 then r.trainedAt else none }

/-- LOSS_OF_TRAINING (R224): counted and logged when the part was active; training starts again. -/
def execLossOfTraining (errors : Nat) (signal : Bool) (s : State) : Host.Outcome State Fault Refusal :=
  if !s.ringUp then .next s
  else
    let active := s.ringActive
    let s := (s.add 0x120103 errors).closeSwitch (if signal then 1 else 0)
    .next (if active then (let s := s.inc 0x120104; s.logEvent 0x0601 (leBytes 4 (s.rd 0x120104))) else s)

/-- Object 0x1200:05 written (R247): an active part closes its switch without a count. -/
def State.bypassHold (v : Nat) (s : State) : State :=
  let s := s.wr 0x120005 v
  if v = 1 ∧ s.ringActive then s.closeSwitch 2 else s

/-- BYPASS_HOLD_WRITE (R247). -/
def execBypassHoldWrite (tr : Transport) (v : Nat) (s : State) : Host.Outcome State Fault Refusal :=
  .next (s.hostWrite ⟨tr, 0x120005, 1, v⟩ (State.bypassHold v))

/-- The counters of object 0x1201:08 are cleared (R247). -/
def State.clearRingCounts (s : State) : State := s.zero (rangeFrom 0x120101 7 ++ rangeFrom 0x120301 3)

/-- CLEAR_RING_COUNTS (R247). -/
def execClearRingCounts (tr : Transport) (v : Nat) (s : State) : Host.Outcome State Fault Refusal :=
  .next (s.hostCommand tr 0x120108 v State.clearRingCounts)

/-! ### Frames (R226, R227, R229, R230) -/

/-- The CRC checks and the frame ended in EOF (R228, R229). -/
def goodFrame (f : Frame) : Bool := f.fin == .eof && f.crc == crc16 (frameBytes f)

/-- The time in which a frame and the gap after it leave: SOF, header, payload, CRC and end, then 4 idle characters of 40 ns
(R225 to R227). -/
def frameTime (f : Frame) : Instant := ns (40 * (16 + f.payload.length))

/-- An upstream frame leaves at RING_OUT, or waits in the insertion buffer while a frame of the part's own leaves or others wait
(R226). -/
def State.sendOut (f : Frame) (s : State) : State :=
  s.onRing fun r =>
    if r.txFree ≤ s.now ∧ r.ins = [] then { r with out := some f } else { r with ins := r.ins ++ [f] }

/-- The oldest frame of the insertion buffer leaves once the transmitter is free (R226). -/
def State.drainIns (s : State) : State :=
  match s.ring.ins with
  | [] => s
  | f :: l =>
    if s.ring.txFree ≤ s.now then s.onRing fun r => { r with out := some f, ins := l, txFree := s.now + frameTime f } else s

/-- A good frame is forwarded with HOPS one higher and a new CRC (R229). -/
def State.forward (f : Frame) (s : State) : State := s.sendOut (withCrc { f with hops := f.hops + 1, viol := 0 })

/-- A bad frame is forwarded with its CRC as received, ending in EOFE (R229). -/
def State.forwardBad (f : Frame) (s : State) : State := s.sendOut { f with hops := f.hops + 1, fin := .eofe, viol := 0 }

/-- A bad frame is counted (R229): one that was cut in neither object. -/
def State.countBad (f : Frame) (s : State) : State :=
  match f.fin with
  | .eof => if goodFrame f then s else s.inc 0x120101
  | .eofe => s.inc 0x120102
  | .cut => s

/-- The receiver hears a frame: its violations are counted, and there is a signal (R247). -/
def State.hearFrame (f : Frame) (s : State) : State :=
  if !s.ringUp then s
  else
    let s := s.add 0x120103 f.viol
    if s.rd 0x120002 = 0 then s.wr 0x120002 1 else s

/-- A frame reaches the part (R229): passive, it passes the closed switch; a bad one and one with HOPS of 31 or more are
never acted on. -/
def State.frameArrives (f : Frame) (act : State → State) (s : State) : State :=
  let s := s.hearFrame f
  if !s.ringActive then s
  else
    let s := s.countBad f
    if 31 ≤ f.hops then s.inc 0x120105
    else if !(goodFrame f) then s.forwardBad f
    else act s

/-- The types of R230 that are no requests. -/
def passingType (typ : Nat) : Bool := [0x10, 0x11, 0x12, 0x13, 0x81, 0x82, 0x90].contains typ

/-- The frame is a request to the part's own position, of a listed type or a reserved one, and carries no reserved address
(R220, R229, R233). -/
def State.ownFrame (s : State) (f : Frame) : Bool :=
  f.dst == s.rd 0x120001 && f.dst != 0xFE && !(0x20 ≤ f.src && f.src ≤ 0xFD) && !passingType f.typ

/-- FRAME_FORWARD (R229): every frame that the part neither consumes nor acts on. -/
def execFrameForward (f : Frame) (s : State) : Host.Outcome State Fault Refusal :=
  .next (s.frameArrives f fun s => if s.ownFrame f then s else s.forward f)

/-- A frame of the part's own may leave (R226): nothing of its own is leaving and the insertion buffer is empty. -/
def State.mayInsert (s : State) : Bool := s.ringActive && s.ring.txFree ≤ s.now && s.ring.ins.isEmpty

/-- FRAME_INSERT (R226): the oldest frame of the part's own leaves; what arrives meanwhile waits in the insertion buffer. -/
def execFrameInsert (s : State) : Host.Outcome State Fault Refusal :=
  match s.ring.tx with
  | [] => .next s
  | f :: l =>
    if s.mayInsert then .next (s.onRing fun r => { r with out := some f, tx := l, txFree := s.now + frameTime f }) else .next s

/-- A reply to a request (R232): its type follows the request's, a write reply's for an unknown TYPE (log entry 15). -/
def State.replyFrame (s : State) (f : Frame) (status abort version : Nat) (data : List Byte) : Frame :=
  Sys2Proof.Machine.ownFrame (s.rd 0x120001) (if f.typ = 0x01 then 0x81 else 0x82) f.seq
    (leBytes 1 status ++ [0, 0, 0] ++ leBytes 4 abort ++ leBytes 8 version ++ data)

/-- A reply with a status other than executed (R233). -/
def State.replyStatus (f : Frame) (status : Nat) (s : State) : State := s.sendFrame (s.replyFrame f status 0 0 [])

/-- UNKNOWN_FRAME_TYPE (R233): a frame of a reserved TYPE addressed to the part. -/
def execUnknownFrameType (f : Frame) (s : State) : Host.Outcome State Fault Refusal :=
  .next (s.frameArrives f fun s =>
    if !s.ownFrame f then s.forward f
    else if !s.serves then s.replyStatus f 0x02
    else s.replyStatus f 0x04)

/-! ### Enumeration and roll call (R235, R237, R238) -/

/-- The `n`-byte field at an offset of a payload. -/
def payloadField (p : List Byte) (off n : Nat) : Nat := leNat ((p.drop off).take n)

/-- A payload with bytes from an offset replaced. -/
def patch (p : List Byte) (off : Nat) (bs : List Byte) : List Byte := p.take off ++ bs ++ p.drop (off + bs.length)

/-- Queued requests are never answered and the kept replies go (R235); one that is being carried out goes on without a
reply. -/
def State.clearRequests (s : State) : State :=
  (s.onRing fun r => { r with kept := [] }).onStage fun g => { g with
    waiting := g.waiting.filter fun j => match j with
      | .frame _ _ => false
      | _ => true
    serving := match g.serving with
      | some (.frame _ t) => (g.mramWrite.orElse fun _ => g.reads.head?.bind MouldRead.txn).map fun x => Job.write x t
      | j => j }

/-- The part takes a ring address in an enumeration and the count it saw (R237, R247). -/
def State.takeAddress (a n : Nat) (s : State) : State := ((s.wr 0x120001 a).wr 0x120004 n).clearRequests

/-- ENUMERATE (R237): NEXT outside 1 to 31 is the overflow case (log entry 15). -/
def execEnumerate (f : Frame) (s : State) : Host.Outcome State Fault Refusal :=
  .next (s.frameArrives f fun s =>
    if f.dst ≠ 0xFE ∨ f.typ ≠ 0x10 ∨ f.payload.length ≠ 250 then s.forward f
    else
      let n := payloadField f.payload 0 1
      if 1 ≤ n ∧ n ≤ 31 then
        let slot := leBytes 4 (s.rd 0x100005) ++ leBytes 1 (s.rd 0x120002) ++ leBytes 1 (s.rd 0x6A0004) ++ [0, 0]
        let p := patch (patch f.payload (2 + 8 * (n - 1)) slot) 0 (leBytes 1 (n + 1))
        (s.forward { f with payload := p }).takeAddress n n
      else
        let p := patch f.payload 1 [nth f.payload 1 0 ||| 1]
        ((s.forward { f with payload := p }).takeAddress 0xFE 31).logEvent 0x0603 [])

/-- The status byte of the roll call (R238). -/
def State.rollByte (s : State) : Nat :=
  1 + 2 * b2n s.alertLow + 4 * (s.rd 0x6A0004 % 4) + 16 * b2n (s.rd 0x120203 == 1) + 32 * b2n s.stage.group.isSome +
  64 * b2n (s.rd 0xB02002 == 2)

/-- ROLL_CALL (R238). -/
def execRollCall (f : Frame) (s : State) : Host.Outcome State Fault Refusal :=
  .next (s.frameArrives f fun s =>
    let a := s.rd 0x120001
    if f.dst ≠ 0xFF ∨ f.typ ≠ 0x13 ∨ f.payload.length ≠ 32 ∨ a = 0xFE then s.forward f
    else s.forward { f with payload := patch f.payload a (leBytes 1 s.rollByte) })

/-! ### Ring time (R239 to R241) -/

/-- The rate in use is reported in units of 10⁻⁹ (R247). -/
def State.setRate (r : Int) (s : State) : State :=
  (s.onRing fun x => { x with rate := r }).wr 0x120205 (ofSigned 32 (roundDiv r 1000))

/-- A step of ring time to R_a (R240). -/
def State.stepTime (ra : Nat) (e : Int) (s : State) : State :=
  let s := s.onRing fun x => { x with nanos := min (2 ^ 64 - 1) ra, frac := 0 }
  ((s.inc 0x120207).setRate s.ring.freq).logEvent 0x0604 (leBytes 8 (ofSigned 64 e))

/-- A slew of ring time at rate 1 + r (R240). -/
def State.slewTime (e : Int) (s : State) : State :=
  let dt : Int := ((s.now - (s.ring.lastSync.getD s.now) : Nat) : Int)
  let es := fdiv (e * 57 * 1000000000000) dt
  let r := clampInt (-500000000) 500000000 (s.ring.freq + es)
  (s.onRing fun x => { x with freq := x.freq + fdiv es 8 }).setRate r

/-- Ring time is disciplined to R_a (R240, R241): a step or a slew, and the part is locked. A saturated ring time stays until
reset, so nothing steps or slews it (log entry 70). -/
def State.discipline (ra : Nat) (s : State) : State :=
  let e : Int := (ra : Int) - s.ring.nanos
  let s := s.wr 0x120204 (ofSigned 32 e)
  let s := if s.ring.nanos = 2 ^ 64 - 1 then s
    else if s.rd 0x120203 = 0 ∨ 10000 < e.natAbs then s.stepTime ra e
    else s.slewTime e
  (s.wr 0x120203 1).onRing fun x => { x with lastSync := some s.now }

/-- SYNC (R239, R240): R_a = T0 + C + D, and C' = C + D + H goes on. -/
def execSync (f : Frame) (residence : Nat) (s : State) : Host.Outcome State Fault Refusal :=
  .next (s.frameArrives f fun s =>
    if f.dst ≠ 0xFF ∨ f.typ ≠ 0x11 ∨ f.payload.length ≠ 16 then s.forward f
    else
      let c := payloadField f.payload 8 4 + s.rd 0x120202
      (s.discipline (payloadField f.payload 0 8 + c)).forward { f with
        payload := patch f.payload 8 (leBytes 4 (c + residence)) })

/-- SYNC_TIMEOUT (R241): a locked part enters holdover and runs at rate 1 + f. -/
def execSyncTimeout (s : State) : Host.Outcome State Fault Refusal :=
  match s.ring.lastSync with
  | none => .next s
  | some t =>
    if s.rd 0x120203 = 1 ∧ t + ms (s.rd 0x120206) ≤ s.now then
      .next (((s.wr 0x120203 2).setRate s.ring.freq).logEvent 0x0605 [])
    else .next s

/-- RING_TIME_SATURATED (R240). -/
def execRingTimeSaturated (s : State) : Host.Outcome State Fault Refusal :=
  if s.ring.nanos = 2 ^ 64 - 1 ∧ !s.ring.satLogged then
    .next ((s.onRing fun r => { r with satLogged := true }).logEvent 0x0606 [])
  else .next s

/-- One 100 MHz tick of ring time: 10 ns at rate 1 + r; at all-ones it stays (R239, R240). -/
def Ring.tick (r : Ring) : Ring :=
  let t : Int := r.frac + 10 * (1000000000000 + r.rate)
  let n := r.nanos + (t / 1000000000000).toNat
  if 2 ^ 64 - 1 ≤ n then { r with nanos := 2 ^ 64 - 1, frac := 0 }
  else { r with nanos := n, frac := (t % 1000000000000).toNat }

/-! ### Taps (R215, R216, R242, R243) -/

/-- A mould pour by tap: its entry is requested at once and its mould read begins (R200, R208, R215). -/
def State.tapPour (n : Nat) (bound : Boundary) (s : State) : State :=
  let img := s.slotImage n
  match readImage n img with
  | .inr _ => (s.requestEntry [] bound .tap none 0 none true).1
  | .inl d =>
    let r := s.requestEntry (mouldValues d) bound .tap (some n) (imageGen img) (some n) false
    if r.2 then r.1.onStage fun g => { g with reads := g.reads ++ [⟨n, false, none, r.1.rd 0x110002⟩] } else r.1

/-- One entry of the tap table acts on a tap (R215). -/
def State.tapOperation (act arg a : Nat) (s : State) (i : Nat) : State :=
  let v := s.rd (0x802001 + i)
  let bound : Boundary := if bitAt v 24 then .encoder arg else .time a
  if byteOf v 0 ≠ act then s
  else
    match byteOf v 1 with
    | 1 => (s.tapPour (byteOf v 2) bound).inc 0x802011
    | 2 =>
      match s.stage.group with
      | none => s.inc 0x802012
      | some g => (s.requestGroup g bound .tap).1.inc 0x802011
    | _ => s

/-- A tap is discarded (R243). -/
def State.tapDiscarded (s : State) (a : Nat) : Bool :=
  s.ringTime + 1000000000 < a || (s.ring.lastTapA.any fun l => a < l + 20000) ||
  8 ≤ (s.ring.taps.filter fun t => s.ringTime < t.at_).length

/-- A tap is carried out (R242): its table entries request at once, and its start event or line trigger is scheduled at A. -/
def State.carryTap (act arg a : Nat) (s : State) : State :=
  let s := s.wr 0x120304 a
  let pour := s.rd 0x210002 == 4 && s.rd 0x210008 == act
  let line := s.rd 0x340101 == 4 && s.rd 0x340104 == act
  let s := s.onRing fun r => { r with lastTapA := some a, taps := r.taps ++ [⟨a, pour, line, act⟩] }
  (List.range 16).foldl (State.tapOperation act arg a) s

/-- A tap arrives (R242, R243). -/
def State.tapArrives (act arg a : Nat) (s : State) : State :=
  let lead : Int := (a : Int) - s.ringTime
  let s := (s.inc 0x120301).wr 0x120305 (ofSigned 32 lead)
  if s.tapDiscarded a then (s.inc 0x120303).logEvent 0x0607 (leBytes 1 act ++ [0, 0, 0] ++ leBytes 4 a)
  else
    let s := if lead < 0 then
        (s.inc 0x120302).logEvent 0x0608 (leBytes 1 act ++ [0, 0, 0] ++ leBytes 4 (ofSigned 32 lead))
      else s
    s.carryTap act arg a

/-- TAP (R215, R216, R242, R243). -/
def execTap (f : Frame) (s : State) : Host.Outcome State Fault Refusal :=
  .next (s.frameArrives f fun s =>
    if f.dst ≠ 0xFF ∨ f.typ ≠ 0x12 ∨ f.payload.length ≠ 16 then s.forward f
    else (s.tapArrives (payloadField f.payload 0 1) (payloadField f.payload 4 4) (payloadField f.payload 8 8)).forward f)

/-- The events a tap scheduled occur, if the source and the action still match (R62, R85, R242). -/
def State.tapFires (t : PendingTap) (s : State) : State :=
  let s := if t.pour ∧ s.rd 0x210002 = 4 ∧ s.rd 0x210008 = t.act ∧ s.rd 0x210001 = 0 then s.startEvent s.now else s
  if t.line ∧ s.rd 0x340101 = 4 ∧ s.rd 0x340104 = t.act ∧ s.tdiMode then s.lineTrigger s.now s.position else s

/-- TAP_ACTION_TIME (R242): the first tick at or after A. -/
def execTapActionTime (s : State) : Host.Outcome State Fault Refusal :=
  match s.ring.taps.find? fun t => t.at_ ≤ s.ringTime with
  | none => .next s
  | some t =>
    let s := s.onRing fun r => { r with taps := r.taps.erase t }
    .next (if s.imaging then s.tapFires t else s)

end Sys2Proof.Machine
end

