-- ==== Sys2Proof/Machine/Log.lean ====
section
/-!
DEFINITION. Alert status, the event log in MRAM and its reading, transport and MRAM counters (R257 to R264).
-/
namespace Sys2Proof.Machine

/-! ### Alerts and events (R257, R261) -/

/-- A write of the alert status: bits written 1 clear unless their condition holds (R257). -/
def State.clearAlerts (v : Nat) (s : State) : State := s.wr 0x100101 (andNot (s.rd 0x100101) v ||| s.alertConditions)

/-- ALERT_STATUS_WRITE (R257). -/
def execAlertStatusWrite (tr : Transport) (v : Nat) (s : State) : Host.Outcome State Fault Refusal :=
  .next (s.hostWrite ⟨tr, 0x100101, 2, v⟩ (State.clearAlerts v))

/-- EVENT_LOGGED (R261, R262): an event of a listed code occurs; the part never logs another. -/
def execEventLogged (code : Nat) (data : List Byte) (s : State) : Host.Outcome State Fault Refusal :=
  .next (if s.power.phase ≠ Phase.inReset ∧ eventCodes.contains code then s.logEvent code data else s)

/-- CLEAR_TRANSPORT_COUNTS (R259). -/
def execClearTransportCounts (tr : Transport) (v : Nat) (s : State) : Host.Outcome State Fault Refusal :=
  .next (s.hostCommand tr 0x102009 v id)

/-- The effect of object 0xC100:06 (R264). -/
def State.clearMramDiagnostics (s : State) : State := s.toDefault (rangeFrom 0xC10001 5)

/-- CLEAR_MRAM_DIAGNOSTICS (R264). -/
def execClearMramDiagnostics (tr : Transport) (v : Nat) (s : State) : Host.Outcome State Fault Refusal :=
  .next (s.hostCommand tr 0xC10006 v State.clearMramDiagnostics)

/-! ### The log in MRAM (R260, R261) -/

/-- The bits [223:0] of an entry (R260). -/
def LogEntry.bits (e : LogEntry) : Nat :=
  e.seq + 2 ^ 32 * e.code + 2 ^ 48 * e.therm + 2 ^ 56 * b2n e.alrt + 2 ^ 57 * b2n e.esent + 2 ^ 58 * b2n e.esup +
  2 ^ 64 * e.rtime + 2 ^ 128 * leNat (pad 12 e.data)

/-- The checksum over bits [223:0] (R260). -/
def LogEntry.crc (e : LogEntry) : Nat := crc32 (leBytes 28 e.bits)

/-- The 32 bytes of an entry (R260). -/
def LogEntry.bytes (e : LogEntry) : List Byte := leBytes 28 e.bits ++ leBytes 4 e.ecrc

/-- Entry `s + 32,768` overwrites entry `s` (R260); the newest stands last. -/
def writeEntry (l : List LogEntry) (e : LogEntry) : List LogEntry :=
  l.filter (fun x => x.seq % 32768 != e.seq % 32768) ++ [{ e with ecrc := e.crc }]

/-- An entry is held: its ECRC is right and its word can be read (R33, R260). -/
def State.entryHeld (s : State) (e : LogEntry) : Bool := e.ecrc == e.crc && s.readable (logWords e.seq)

/-- The entries held in MRAM (R260). -/
def State.heldLog (s : State) : List LogEntry := s.mram.log.filter s.entryHeld

/-- The MRAM can be written now: after the scan, not in Sleep, no write inhibit (R355, R372, R378). -/
def State.mramWritable (s : State) : Bool :=
  s.power.scanned && s.power.phase != .asleep && s.power.phase != .waking && !s.inhibited

/-- LOG_ENTRY_WRITE (R261): the oldest queued entry is written; lost entries are reported once there is room. -/
def execLogEntryWrite (s : State) : Host.Outcome State Fault Refusal :=
  match s.log.queue with
  | [] => .next s
  | e :: l =>
    if !s.mramWritable then .next s
    else
      let s := (s.onMram fun m => { m with log := writeEntry m.log e }).wroteWords (logWords e.seq)
      let s := s.onLog fun x => { x with queue := l }
      if s.log.unreported = 0 then .next s
      else
        let n := min (2 ^ 32 - 1) s.log.unreported
        .next ((s.onLog fun x => { x with unreported := 0 }).logEvent 0x0102 (leBytes 4 n))

/-- The newest entry held (R260): none later within 2³¹ − 1. -/
def newestEntry (l : List LogEntry) : Option LogEntry :=
  l.find? fun e => l.all fun x => x.seq == e.seq || decide (2 ^ 31 ≤ (x.seq + 2 ^ 32 - e.seq) % 2 ^ 32)

/-- The number of the next event after a start (R260, R261). -/
def nextAfterStart (l : List LogEntry) : Nat :=
  match newestEntry l with
  | some e => (e.seq + 65) % 2 ^ 32
  | none => 0

/-- The oldest sequence number held: the one with the greatest distance to the newest (R263). -/
def oldestSeq (l : List LogEntry) : Nat :=
  match newestEntry l with
  | none => 0
  | some e => (e.seq + 2 ^ 32 - maxNat (l.map fun x => (e.seq + 2 ^ 32 - x.seq) % 2 ^ 32)) % 2 ^ 32

/-- The newest sequence number held, 0 for none (R263). -/
def newestSeq (l : List LogEntry) : Nat :=
  match newestEntry l with
  | some e => e.seq
  | none => 0

/-! ### Reading the log (R263) -/

/-- A transport's selection (R263): the ring's in object 0xC000:04, the two-wire interface's beside it. -/
def State.selection (s : State) (tr : Transport) : Nat :=
  match tr with
  | .ring => s.rd 0xC00004
  | .twi => s.twi.selected

/-- A transport's selection is set (R263). -/
def State.select (tr : Transport) (v : Nat) (s : State) : State :=
  match tr with
  | .ring => s.wr 0xC00004 v
  | .twi => s.onTwi fun t => { t with selected := v }

/-- A read of the selected entry, with auto-advance (R263); an entry whose word is uncorrectable is absent (R260). -/
def State.readLog (tr : Transport) (s : State) : State :=
  match s.mram.log.find? fun e => e.seq == s.selection tr with
  | none => s.refuse 0x06020000
  | some e =>
    let s := s.readWords (logWords e.seq)
    if !s.entryHeld e then s.refuse 0x06020000
    else
    let s := s.acceptData e.bytes
    if s.rd 0xC00006 = 1 then s.select tr ((s.selection tr + 1) % 2 ^ 32) else s

/-- LOG_ENTRY_READ (R263). -/
def execLogEntryRead (tr : Transport) (s : State) : Host.Outcome State Fault Refusal :=
  .next (s.hostRead tr 0xC00005 (State.readLog tr))

end Sys2Proof.Machine
end

