-- ==== Sys2Proof/Machine/TwoWire.lean ====
section
/-!
DEFINITION. The two-wire interface beside the service of its accesses: addresses (R266, R267), bus errors and TWI_RST_N (R276,
R277), and the controller role (R279 to R281).
-/
namespace Sys2Proof.Machine

/-! ### Addresses (R266, R267) -/

/-- An address the part never answers (R266). -/
def reservedAddress (a : Nat) : Bool := a < 8 || (0x78 ≤ a && a ≤ 0x7F)

/-- The address configuration that the address objects hold. -/
def State.addressObjects (s : State) : List Nat :=
  [s.rd 0xA00001, s.rd 0xA00101, s.rd 0xA00102, s.rd 0xA00103, s.rd 0xA00104, s.rd 0xA00201, s.rd 0xA00202, s.rd 0xA00203]

/-- Whether the part answers an address, and if so whether it is a group address (R266, R267). -/
def State.twiMatch (s : State) (a : Nat) : Option Bool :=
  let c := s.twi.addrs
  if reservedAddress a then none
  else if nth c 0 0 = 0 then
    ((c.drop 1).take 4).findSome? fun e => if bitAt e 8 && e % 128 == a then some (bitAt e 9) else none
  else if (a ^^^ nth c 5 0) &&& nth c 6 0 = 0 then some (nth c 7 0 == 1)
  else none

/-- A write of an address object (R266): applied after the STOP of the next transaction. Objects 0xA002:01 and 02 take values
with bit 7 set, as their table gives them no range; the match of R266 is taken on all 8 bits (log entry 69). -/
def State.addressWrite (t : Txn) (s : State) : State :=
  let entry := 0xA00101 ≤ t.key && t.key ≤ 0xA00104
  if (entry && bitAt t.val 8 && reservedAddress (t.val % 128)) || (t.key == 0xA00201 && reservedAddress t.val) then
    s.refuse abortValue
  else (s.wr t.key t.val).onTwi fun w => { w with newAddrs := true }

/-- A waiting change of the addresses applies (R266). -/
def State.applyAddresses (s : State) : State :=
  s.onTwi fun t => { t with addrs := if t.newAddrs then s.addressObjects else t.addrs, newAddrs := false }

/-- The interface sees a STOP: a waiting change of the addresses applies, and the recovery state ends (R266, R274). -/
def State.stopSeen (s : State) : State :=
  s.applyAddresses.onTwi fun t => { t with recovery := false, lastStop := some s.now }

/-- The interface sees a STOP if the transaction ends in one. -/
def State.stopIf (stop : Bool) (s : State) : State := if stop then s.stopSeen else s

/-! ### Bus errors and TWI_RST_N (R276, R277) -/

/-- A stretch of SCL that began at `t` has ended: the longest is kept, in µs (R274). -/
def State.noteStretch (t : Instant) (s : State) : State :=
  s.wr 0xA00405 (max (s.rd 0xA00405) (min 0xFFFF ((s.now - t) / 57000)))

/-- The transaction in progress for which SCL is held is discarded, and SCL released (R276). -/
def State.dropBusTxn (s : State) : State :=
  match s.twi.bus with
  | [] => s
  | b :: l => (s.noteStretch b.since).onTwi fun t => { t with bus := l }

/-- A bus error is counted, recorded and logged (R276). -/
def State.busError (cause : Nat) (s : State) : State :=
  ((s.dropBusTxn.inc 0xA00402).wr 0xA00403 cause).logEvent 0x0901 (leBytes 1 cause)

/-- TWI_BUS_ERROR (R276): the listed causes, 0x04 only while the SCL low timeout is on, none while the bus is ignored. -/
def execTwiBusError (cause : Nat) (s : State) : Host.Outcome State Fault Refusal :=
  .next (if s.power.phase = Phase.inReset ∨ s.twi.rstLow ∨ cause = 0 ∨ 5 < cause ∨ (cause = 4 ∧ s.rd 0xA00301 = 0) then s
    else s.busError cause)

/-! ### Controller transfers (R279 to R281) -/

/-- Entry `e` of a strobe-driver list (R280). -/
def driverEntry (list e : Nat) : Nat := list / 256 ^ (8 * e) % 256 ^ 8

/-- The first valid entry of a list from `e` on (R280). -/
def nextDriver (list e : Nat) : Option Nat := (rangeFrom e (16 - e)).find? fun i => bitAt (driverEntry list i) 7

/-- The bytes of an entry's write transaction: its address byte, then its data bytes in order (R280). -/
def driverBytes (list e : Nat) : List Byte :=
  let v := driverEntry list e
  BitVec.ofNat 8 (2 * (v % 128)) :: (leBytes 6 (v / 65536)).take (byteOf v 1)

/-- The transfer of entry `e` of a list is asked for (R280). -/
def driverTransfer (list e : Nat) (now : Instant) : Transfer := ⟨false, e, 0, now, true, list, driverBytes list e, 0⟩

/-- The boot fetch (R279): the EEPROM's address byte, memory address 0x0000, a repeated START with the address byte of a read,
then 16,384 bytes read. -/
def bootTransfer (addr : Nat) (now : Instant) : Transfer :=
  ⟨true, 0, 0, now, true, 0, [BitVec.ofNat 8 (2 * addr), 0, 0, BitVec.ofNat 8 (2 * addr + 1)], 16384⟩

/-- A list's sending begins: at once done when no entry is valid (R280, R281). -/
def State.beginList (list : Nat) (s : State) : State :=
  match nextDriver list 0 with
  | some e => s.onTwi fun t => { t with transfer := some (driverTransfer list e s.now) }
  | none => (s.wr 0xA01003 0).wr 0xA01103 0

/-- Sends finish in order: one that falls due while a transfer runs, or while TWI_RST_N holds the interface, starts after that
(R277, R280). -/
def State.sendList (s : State) : State :=
  if s.twi.transfer.isSome ∨ s.twi.rstLow then s.onTwi fun t => { t with sends := t.sends ++ [s.rd 0xA01101] }
  else s.beginList (s.rd 0xA01101)

/-- The lists that wait begin, until one has a valid entry. -/
def State.nextSend : Nat → State → State
  | 0, s => s
  | n + 1, s =>
    match s.twi.sends with
    | [] => s
    | l :: ls =>
      let s := (s.onTwi fun t => { t with sends := ls }).beginList l
      if s.twi.transfer.isSome then s else State.nextSend n s

/-- The lists that wait begin, unless TWI_RST_N holds the interface (R277, R280). -/
def State.nextSends (s : State) : State := if s.twi.rstLow then s else State.nextSend s.twi.sends.length s

/-- The controller transfer ends with a status code (R281). -/
def State.endTransfer (x : Transfer) (code : Nat) (s : State) : State :=
  let s := (s.onTwi fun t => { t with transfer := none }).wr 0xA01003 code
  let s := if x.boot then s else s.wr 0xA01103 (256 * x.entry + code)
  let s := if code = 0 then s
    else (s.inc 0xA01005).logEvent 0x0903
      (leBytes 1 code ++ leBytes 1 (if x.boot then s.rd 0xA01002 else driverEntry x.list x.entry % 128))
  s.nextSends

/-- The boot fetch ends (R279, R214): the image, or none for a failed fetch. -/
def State.bootEnds (image : Option (List Byte)) (s : State) : State := s.onPower fun p => { p with mouldReady := some image }

/-- A transfer fails. -/
def State.failTransfer (x : Transfer) (code : Nat) (s : State) : State :=
  let s := s.endTransfer x code
  if x.boot then s.bootEnds none else s

/-- The present transaction of a transfer ends without success (R281). -/
def State.attemptFails (x : Transfer) (code : Nat) (s : State) : State :=
  let s := if code = 3 ∨ code = 4 then (s.inc 0xA01004).logEvent 0x0902 (leBytes 1 code) else s
  if code = 1 ∨ code = 3 then
    (if 3 ≤ x.attempts + 1 then s.failTransfer x 0x07
      else
        let x' : Transfer := { x with attempts := x.attempts + 1, askedAt := s.now, waitFree := true }
        s.onTwi fun t => { t with transfer := some x' })
  else s.failTransfer x code

/-- SEND_LIST_NOW (R280, R282): refused while a list is being sent. -/
def State.sendListNow (s : State) : State :=
  if (s.twi.transfer.any fun x => !x.boot) || !s.twi.sends.isEmpty then s.refuse abortState else s.sendList

/-- SEND_LIST_NOW (R280). -/
def execSendListNow (tr : Transport) (v : Nat) (s : State) : Host.Outcome State Fault Refusal :=
  .next (s.hostCommand tr 0xA01102 v State.sendListNow)

/-- CONTROLLER_TRANSFER_END (R281): the transaction of the present entry ends; after success the next valid entry follows. -/
def execControllerTransferEnd (status : Nat) (s : State) : Host.Outcome State Fault Refusal :=
  match s.twi.transfer with
  | none => .next s
  | some x =>
    if 9 < status ∨ x.boot ∨ s.twi.rstLow then .next s
    else if status ≠ 0 then .next (s.attemptFails x status)
    else
      match nextDriver x.list (x.entry + 1) with
      | some e => .next (s.onTwi fun t => { t with transfer := some (driverTransfer x.list e s.now) })
      | none => .next (s.endTransfer x 0)

/-- The time that a fetch takes at least: 16,388 bytes of 9 clocks at 400 kHz (R371). -/
def fetchTime : Instant := us 368730

/-- BOOT_MOULD_FETCH (R214, R279, R281, R371): the fetch of start-up ends with a status code, a success not before `fetchTime`;
on success the image is checked. -/
def execBootMouldFetch (status : Nat) (image : List Byte) (s : State) : Host.Outcome State Fault Refusal :=
  match s.twi.transfer with
  | none => .next s
  | some x =>
    if 9 < status ∨ !x.boot ∨ s.twi.rstLow ∨ (status = 0 ∧ s.now < x.askedAt + fetchTime) then .next s
    else if status ≠ 0 then .next (s.attemptFails x status)
    else
      let img := pad 16384 image
      match readImage (imageField img 4 1) img with
      | .inl _ => .next ((s.endTransfer x 0).bootEnds (some img))
      | .inr _ => .next (s.failTransfer x 0x08)

/-- CONTROLLER_RETRY (R281): the bus is free, and the transfer is tried again. -/
def execControllerRetry (s : State) : Host.Outcome State Fault Refusal :=
  match s.twi.transfer with
  | none => .next s
  | some x =>
    if x.attempts = 0 ∨ !x.waitFree ∨ s.twi.rstLow then .next s
    else .next (s.onTwi fun t => { t with transfer := some { x with waitFree := false } })

/-- BUS_NOT_FREE_TIMEOUT (R281): code 0x05 after 10 ms. -/
def execBusNotFreeTimeout (s : State) : Host.Outcome State Fault Refusal :=
  match s.twi.transfer with
  | none => .next s
  | some x => if x.waitFree ∧ x.askedAt + ms 10 ≤ s.now then .next (s.failTransfer x 0x05) else .next s

/-- The counters of object 0xA004:06 are cleared (R282). -/
def State.clearTwiCounts (s : State) : State := s.zero (rangeFrom 0xA00401 5 ++ [0xA00407, 0xA01004, 0xA01005])

/-- CLEAR_TWI_COUNTS (R282). -/
def execClearTwiCounts (tr : Transport) (v : Nat) (s : State) : Host.Outcome State Fault Refusal :=
  .next (s.hostCommand tr 0xA00406 v State.clearTwiCounts)

/-- TWI_RST_N_ASSERT (R276, R277): a transaction for which SCL is held is discarded, which is bus error 0x05; the read buffer,
link latch and segment buffer go; committed accesses stay. -/
def execTwiRstNAssert (s : State) : Host.Outcome State Fault Refusal :=
  let s := if s.twi.bus.isEmpty ∨ s.twi.rstLow then s else s.busError 5
  let s := s.onTwi fun t => { t with rstLow := true, buf := .none, link := none, seg := none, held := none, bus := [] }
  match s.twi.transfer with
  | some x => .next (s.failTransfer x 0x09)
  | none => .next s

/-- TWI_RST_N_RELEASE (R274, R277). -/
def execTwiRstNRelease (s : State) : Host.Outcome State Fault Refusal :=
  if s.twi.rstLow then .next (s.onTwi fun t => { t with rstLow := false, recovery := true }).nextSends else .next s

end Sys2Proof.Machine
end

