-- ==== Sys2Proof/Machine/Dma.lean ====
section
/-!
DEFINITION. The DMA engine: address space, descriptors, elements, submits, chains, stops and the held pour (R314 to R331).
-/
namespace Sys2Proof.Machine

/-! ### Address space (R315) -/

/-- The regions of the DMA address space, by base and size; the held-pour window has its own size (R315, R316). -/
inductive DmaRegion where
  | held | index | staging | bankA | bankB | moulds
  deriving DecidableEq, Repr

/-- The base of a region (R315). -/
def DmaRegion.base : DmaRegion → Nat
  | .held => 0
  | .index => 0x04000000
  | .staging => 0x05000000
  | .bankA => 0x08000000
  | .bankB => 0x0A000000
  | .moulds => 0x0C000000

/-- The size of a region (R315, R316). -/
def State.dmaSize (s : State) (r : DmaRegion) : Nat :=
  match r with
  | .held => s.heldSize
  | .index => 0x100000
  | .staging => 0x100000
  | .bankA => 0x2000000
  | .bankB => 0x2000000
  | .moulds => 0x400000

/-- The region that holds `n` bytes at an address whole (R315). -/
def State.dmaRegion (s : State) (a n : Nat) : Option DmaRegion :=
  [DmaRegion.held, .index, .staging, .bankA, .bankB, .moulds].find? fun r =>
    r.base ≤ a && a + n ≤ r.base + s.dmaSize r

/-- A region holds descriptors and index tables (R315). -/
def DmaRegion.tables : DmaRegion → Bool
  | .index => true
  | .staging => true
  | _ => false

/-- Byte `i` of a correction-map bank (R126). -/
def Bank.byte (b : Bank) (i : Nat) : Byte := BitVec.ofNat 8 (b.entry (i / 2) / 256 ^ (i % 2))

/-- The region is in MRAM, with the address of its first word (R126, R206, R315). -/
def DmaRegion.firstWord : DmaRegion → Option Nat
  | .bankA => some 0
  | .bankB => some 524288
  | .moulds => some 1048576
  | _ => none

/-- A beat still in flight covers byte `i` of a region (R322). -/
def State.inFlight (s : State) (r : DmaRegion) (i : Nat) : Bool :=
  s.dma.flight.any fun b => (if b.staging then r == .staging else r == .index) && b.off ≤ i && i < b.off + b.len &&
    s.now < b.landed

/-- Byte `i` of a region, where the spec gives it one: not the place of a packet that is not yet complete (R316), not an
uncorrectable MRAM word (R33), and not a place that a beat in flight covers (R322). -/
def State.dmaByte (s : State) (r : DmaRegion) (i : Nat) : Option Byte :=
  if s.inFlight r i || (r.firstWord.any fun w => !s.readable (w + i / 64, 1)) then none
  else
    match r with
    | .held => s.heldByte i
    | .index => some (Mem.read s.dma.index i)
    | .staging => some (Mem.read s.dma.staging i)
    | .bankA => some (s.mram.bankA.byte i)
    | .bankB => some (s.mram.bankB.byte i)
    | .moulds => some (nth (s.mram.mould (i / 16384)) (i % 16384) 0)

/-- `n` bytes of a region as a DMA read returns them; a byte that the spec gives no value is a free one (log entry 2). -/
def State.dmaBytes (s : State) (r : DmaRegion) (off n : Nat) : List Byte :=
  (List.range n).map fun j => (s.dmaByte r (off + j)).getD (Config.undefinedByte (s.free + j))

/-- `n` bytes of a descriptor or index table (R315). -/
def State.dmaTable (s : State) (a n : Nat) : Option (List Byte) :=
  match s.dmaRegion a n with
  | some r => if r.tables then some (s.dmaBytes r (a - r.base) n) else none
  | none => none

/-- The free values that a read of `n` bytes may have drawn. -/
def State.drew (n : Nat) (s : State) : State := { s with free := s.free + n }

/-- The errors of the MRAM words that a DMA read covers are counted (R33, R264). -/
def State.readRegion (r : DmaRegion) (off n : Nat) (s : State) : State :=
  match r.firstWord with
  | none => s
  | some w =>
    let words : WordRange := (w + off / 64, (off + n - 1) / 64 + 1 - off / 64)
    let bad := (s.errorsIn words).filter fun e => e.2 && regionOf e.1 ≤ 1
    bad.foldl (fun s e => (s.inc 0x401201).wr 0x401202 e.1) (s.readWords words)

/-! ### Channels (R314, R328) -/

/-- One channel updated. -/
def State.onChan (n : Nat) (f : DmaChan → DmaChan) (s : State) : State :=
  s.onDma fun d => { d with chans := modifyNth d.chans n f }

/-- Channel `n`. -/
def State.chan (s : State) (n : Nat) : DmaChan := nth s.dma.chans n ⟨none, none, 0, false, false, 0⟩

/-- Channel `n` is running (R328). -/
def State.chanRuns (s : State) (n : Nat) : Bool := s.rd (0x702001 + n) == 1

/-- The engine runs: not in reset, Hold or Sleep (R329). -/
def State.dmaRuns (s : State) : Bool := s.timing.clk100 && s.rd 0xB02002 != 2

/-- A channel stops with a status (R328). -/
def State.chanStop (n status : Nat) (s : State) : State :=
  (s.wr (0x702001 + n) status).onChan n fun c => { c with fetch := none, desc := none, k := 0, submit := false, stopReq := false }

/-- Channels named by a mask. -/
def chansOf (mask : Nat) : List Nat := (List.range 8).filter (bitAt mask)

/-- A start (R314). -/
def State.startChan (s : State) (n : Nat) : State :=
  let a := s.rd (0x701001 + n)
  ((s.wr (0x702001 + n) 1).wr (0x702501 + n) 0).onChan n fun _ => ⟨some a, none, 0, false, false, s.now⟩

/-- START_CHANNELS (R314): refused when a selected channel runs. -/
def State.startChans (mask : Nat) (s : State) : State :=
  if (chansOf mask).any s.chanRuns then s.refuse abortState else (chansOf mask).foldl State.startChan s

/-- START_CHANNELS (R314). -/
def execStartChannels (tr : Transport) (v : Nat) (s : State) : Host.Outcome State Fault Refusal :=
  .next (s.hostWrite ⟨tr, 0x701201, 1, v⟩ (State.startChans v))

/-- The descriptor at `a` is the one in progress, with no element completed (R327, R331). -/
def State.aimChan (n a : Nat) (s : State) : State := (s.wr (0x702101 + n) a).wr (0x702201 + n) 0xFFFFFFFF

/-- A stop (R329): with a descriptor in progress, after its element; with its fetch in progress, at once (R328). -/
def State.stopChan (s : State) (n : Nat) : State :=
  if !s.chanRuns n then s
  else
    match (s.chan n).desc, (s.chan n).fetch with
    | some _, _ => s.onChan n fun c => { c with stopReq := true }
    | none, some a => (s.aimChan n a).chanStop n 8
    | none, none => s.chanStop n 8

/-- The selected channels are stopped (R329). -/
def State.stopChans (mask : Nat) (s : State) : State := (chansOf mask).foldl State.stopChan s

/-- STOP_CHANNELS (R329). -/
def execStopChannels (tr : Transport) (v : Nat) (s : State) : Host.Outcome State Fault Refusal :=
  .next (s.hostWrite ⟨tr, 0x701202, 1, v⟩ (State.stopChans v))

/-- A write of a channel's descriptor address or hop budget: refused while it runs (R314). -/
def State.dmaRegister (t : Txn) (s : State) : State :=
  if s.chanRuns ((t.key - 1) % 256) then s.refuse abortState else s.wr t.key t.val

/-- The effect of object 0x7026:01 (R331). -/
def State.clearDmaCounts (s : State) : State := s.zero (rangeFrom 0x702401 8)

/-- CLEAR_DMA_COUNTS (R331). -/
def execClearDmaCounts (tr : Transport) (v : Nat) (s : State) : Host.Outcome State Fault Refusal :=
  .next (s.hostCommand tr 0x702601 v State.clearDmaCounts)

/-! ### Descriptors (R317, R318, R323) -/

/-- A descriptor of 32 bytes (R317). -/
def Desc.ofBytes (b : List Byte) : Desc :=
  let v := leNat b
  { src := field v 31 0, dst := field v 63 32, itab := field v 95 64, count := field v 127 96, elen := field v 143 128,
    sw := field v 146 144, dw := field v 149 147, mode := field v 151 150, sinc := bitAt v 152, dinc := bitAt v 153,
    bar := bitAt v 154, link := bitAt v 155, next := field v 191 160, tag := field v 223 192 }

/-- A width in bytes (R317). -/
def widthBytes (w : Nat) : Nat := 2 ^ w

/-- The submit checks (R323). -/
def State.submitOk (s : State) (d : Desc) : Bool :=
  0x05000000 ≤ d.src && d.src + d.count ≤ 0x05100000 && 1 ≤ d.dst % 256 && d.dst % 256 ≤ 3 && d.dst / 2 ^ 24 == 0 &&
  s.dma.stage == .filling 4 0 && (d.dst % 256 != 1 || d.src == 0x05000000)

/-- The checks of a descriptor at its fetch (R318). -/
def State.descOk (s : State) (b : List Byte) : Bool :=
  let d := Desc.ofBytes b
  let sb := widthBytes d.sw
  let db := widthBytes d.dw
  leNat (b.drop 28) == crc32 (b.take 28) && field (leNat b) 159 156 == 0 && d.sw ≤ 4 && d.dw ≤ 4 &&
  if d.mode = 3 then 64 ≤ d.count && d.count ≤ 1048576 && d.count % 64 == 0 && s.submitOk d
  else
    1 ≤ d.count && d.count ≤ 16777216 && 1 ≤ d.elen && d.elen ≤ 4096 && d.elen % max sb db == 0 && d.src % sb == 0 &&
    d.dst % db == 0 && (d.mode == 2 || (d.itab % 4 == 0 && (s.dmaTable d.itab 4).isSome))

/-- A submit is handed to the owner of its target, and restarts the abandonment timer in any case (R323, R324). -/
def State.submit (n : Nat) (d : Desc) (s : State) : State :=
  let target := d.dst % 256
  let segment := field d.dst 23 8
  let off := d.src - 0x05000000
  let reject (cause : Nat) (s : State) : State := (s.rejectBulk cause target segment d.tag).chanStop n 7
  let s := s.onDma fun x => { x with stageAt := s.now }
  match targetLimits target with
  | none => reject 0x05 s
  | some l =>
    if !s.targetOpen target then reject 0x01 s
    else if l.1 < segment ∨ d.count < l.2.1 ∨ l.2.2 < d.count then reject 0x03 s
    else
      let r := (s.wr 0x903005 1).handSegment target segment (Mem.readAll s.dma.staging off d.count)
      if r.2 then
        (r.1.onDma fun x => { x with submitter := some n }).onChan n fun c => { c with desc := some d, submit := true, k := 0 }
      else reject 0x06 r.1

/-- DESCRIPTOR_FETCH (R318, R323): the next descriptor of the chain is read and checked. -/
def execDescriptorFetch (ch : Nat) (s : State) : Host.Outcome State Fault Refusal :=
  let c := s.chan ch
  match c.fetch with
  | none => .next s
  | some a =>
    if !s.dmaRuns ∨ !s.chanRuns ch ∨ c.desc.isSome then .next s
    else
      let s := s.aimChan ch a
      match (if a % 32 = 0 then s.dmaTable a 32 else none) with
      | none => .next (s.chanStop ch 6)
      | some b =>
        let s := s.drew 32
        if !s.descOk b then .next (s.chanStop ch 5)
        else
          let d := Desc.ofBytes b
          if d.mode = 3 then .next (s.submit ch d)
          else .next (s.onChan ch fun c => { c with desc := some d, k := 0, waitAt := s.now })

/-! ### Elements (R319 to R324) -/

/-- The source and destination address of element `k`, or an address error at its index-table entry (R319, R320). -/
def State.elementAddresses (s : State) (d : Desc) (k : Nat) : Option (Nat × Nat) :=
  let at_ (base off : Nat) : Nat := (base + off) % 2 ^ 32
  match d.mode with
  | 0 => (s.dmaTable (d.itab + 4 * k) 4).map fun t => (at_ d.src (leNat t), at_ d.dst (k * d.elen))
  | 1 => (s.dmaTable (d.itab + 4 * k) 4).map fun t => (at_ d.src (k * d.elen), at_ d.dst (leNat t))
  | _ => some (if d.sinc then at_ d.src (k * d.elen) else d.src, if d.dinc then at_ d.dst (k * d.elen) else d.dst)

/-- The source address stays fixed (R320). -/
def Desc.srcFixed (d : Desc) : Bool := d.mode == 2 && !d.sinc

/-- The destination address stays fixed (R320). -/
def Desc.dstFixed (d : Desc) : Bool := d.mode == 2 && !d.dinc

/-- Where an element's bytes come from: the region and offset (R315, R318); a fixed source is its first beat (R320). -/
def State.elementSource (s : State) (d : Desc) (a : Nat) : Option (DmaRegion × Nat) :=
  if a % widthBytes d.sw ≠ 0 then none
  else (s.dmaRegion a (if d.srcFixed then widthBytes d.sw else d.elen)).map fun r => (r, a - r.base)

/-- Bytes written to a region, staging filling with target 0x04 (R315, R324). -/
def State.dmaWrite (r : DmaRegion) (off : Nat) (bs : List Byte) (s : State) : State :=
  match r with
  | .index => s.onDma fun d => { d with index := Mem.writeAll d.index off bs }
  | .staging => s.onDma fun d => { d with
      staging := Mem.writeAll d.staging off bs, stage := .filling 4 0, stageAt := s.now }
  | _ => s

/-- Where an element's bytes go: the region and offset, or the status of the stop (R315, R320, R324). -/
def State.elementTarget (s : State) (d : Desc) (a : Nat) : (DmaRegion × Nat) ⊕ Nat :=
  let db := widthBytes d.dw
  let n := if d.dstFixed then db else d.elen
  if a % db ≠ 0 then .inr 6
  else
    match s.dmaRegion a n with
    | none => .inr 6
    | some r =>
      if !r.tables then .inr 6
      else if r = .staging ∧ !s.dma.stage.takes 4 0 then .inr 7
      else .inl (r, a - r.base)

/-- Completion of a descriptor (R322, R326, R329). -/
def State.descComplete (n : Nat) (d : Desc) (s : State) : State :=
  let a := s.rd (0x702101 + n)
  let stopped := (s.chan n).stopReq
  let s := (s.wr (0x702301 + n) d.tag).inc (0x702401 + n)
  if stopped then s.chanStop n 8
  else if !d.link then s.chanStop n 2
  else if s.rd (0x701101 + n) ≤ s.rd (0x702501 + n) then
    (s.chanStop n 3).logEvent 0x0801 (leBytes 1 n ++ [0, 0, 0] ++ leBytes 4 a)
  else
    (s.wr (0x702501 + n) (s.rd (0x702501 + n) + 1)).onChan n fun c => { c with
      fetch := some d.next, desc := none, k := 0, submit := false, waitAt := s.now }

/-- An element is written and completes (R322). -/
def State.elementDone (n : Nat) (d : Desc) (s : State) : State :=
  let k := (s.chan n).k
  let s := (s.wr (0x702201 + n) k).onChan n fun c => { c with k := k + 1, waitAt := s.now }
  if k + 1 = d.count then s.descComplete n d
  else if (s.chan n).stopReq then s.chanStop n 8
  else s

/-- Fill `j` of the holding register: its bytes as the source beats read them, `n` of them (R320, R321). -/
def State.fillBytes (s : State) (d : Desc) (src : DmaRegion × Nat) (j n : Nat) : List Byte :=
  let sb := widthBytes d.sw
  if d.srcFixed then (List.replicate (n / sb) (s.dmaBytes src.1 src.2 sb)).flatten.take n
  else s.dmaBytes src.1 (src.2 + 32 * j) n

/-- Fill `j` of the holding register passes from source to destination: up to 32 bytes read, then written, so that a later
fill reads what an earlier one wrote; a fixed destination keeps the last beat (R320, R321; log entry 73). -/
def State.moveFill (d : Desc) (src dst : DmaRegion × Nat) (s : State) (j : Nat) : State :=
  let n := min 32 (d.elen - 32 * j)
  let b := s.fillBytes d src j n
  let s := s.drew n
  if d.dstFixed then s.dmaWrite dst.1 dst.2 (b.drop (n - widthBytes d.dw)) else s.dmaWrite dst.1 (dst.2 + 32 * j) b

/-- An element moves through the holding register (R321). -/
def State.moveElement (d : Desc) (src dst : DmaRegion × Nat) (s : State) : State :=
  (List.range (ceilDiv d.elen 32)).foldl (State.moveFill d src dst) s

/-- The last beat of an element with BAR at 0: issued and not acknowledged, for a time that the spec leaves open up to the
limit of R327 (R322; log entry 2). -/
def State.issueLast (d : Desc) (dst : DmaRegion × Nat) (s : State) : State :=
  if d.bar then s
  else
    let f := s.takeFree
    let n := widthBytes d.dw
    let beat : Beat := ⟨dst.1 == .staging, if d.dstFixed then dst.2 else dst.2 + d.elen - n, n, s.now + f.1 % (us 20 + 1)⟩
    f.2.onDma fun x => { x with flight := beat :: x.flight.filter fun b => s.now < b.landed }

/-- DMA_ELEMENT_COMPLETE (R319 to R322): the element in progress is carried out, or ends the channel. -/
def execDmaElementComplete (ch : Nat) (s : State) : Host.Outcome State Fault Refusal :=
  let c := s.chan ch
  match c.desc with
  | none => .next s
  | some d =>
    if !s.dmaRuns ∨ c.submit then .next s
    else
      match s.elementAddresses d c.k with
      | none => .next (s.chanStop ch 6)
      | some (src, dst) =>
        let s := s.drew 4
        match s.elementSource d src, s.elementTarget d dst with
        | none, _ => .next (s.chanStop ch 6)
        | some _, .inr status => .next (s.chanStop ch status)
        | some src, .inl dst =>
          let s := s.readRegion src.1 src.2 (if d.srcFixed then widthBytes d.sw else d.elen)
          .next (((s.moveElement d src dst).issueLast d dst).elementDone ch d)

/-- `n` bytes whose content the spec leaves undefined (R327). -/
def undefinedBytes (i n : Nat) : List Byte := (rangeFrom i n).map Config.undefinedByte

/-- A region may leave a read without an answer for 20 µs: every one but the SRAM regions, which always answer (R327). -/
def DmaRegion.canStall (r : DmaRegion) : Bool := !r.tables

/-- The element in progress waits for a region that may leave it without an answer (R327). -/
def State.elementStalls (s : State) (d : Desc) (k : Nat) : Bool :=
  match s.elementAddresses d k with
  | none => false
  | some (src, dst) =>
    match s.elementSource d src, s.elementTarget d dst with
    | some (r, _), .inl _ => r.canStall
    | _, _ => false

/-- Of the element in progress some beats have reached the destination, how many the spec does not say, and their bytes are
undefined (R327; log entry 2). -/
def State.spoilElement (d : Desc) (k : Nat) (s : State) : State :=
  match s.elementAddresses d k with
  | none => s
  | some (_, dst) =>
    match s.elementTarget d dst with
    | .inr _ => s
    | .inl (r, off) =>
      let f := s.takeFree
      let db := widthBytes d.dw
      let beats := f.1 % (d.elen / db)
      if beats = 0 then f.2
      else
        let n := if d.dstFixed then db else beats * db
        (f.2.dmaWrite r off (undefinedBytes f.2.free n)).drew n

/-- DMA_NO_RESPONSE (R327): 20 µs with no data from the source of the element in progress. The SRAM regions always answer, so a
descriptor fetch and a write never end so; a submit is not timed (R323). -/
def execDmaNoResponse (ch : Nat) (s : State) : Host.Outcome State Fault Refusal :=
  let c := s.chan ch
  match c.desc with
  | none => .next s
  | some d =>
    if !s.dmaRuns ∨ !s.chanRuns ch ∨ c.submit ∨ s.now < c.waitAt + us 20 ∨ !s.elementStalls d c.k then .next s
    else
      let s := s.spoilElement d c.k
      .next ((s.chanStop ch 4).logEvent 0x0802 (leBytes 1 ch ++ [0, 0, 0] ++ leBytes 4 (s.rd (0x702201 + ch))))

/-! ### Release of a submit (R323) -/

/-- The owner of a submitted segment is done with it (R158, R211, R323). -/
def State.ownerDone (s : State) (target : Nat) : Bool :=
  match target with
  | 1 => !(s.corr.upload.any fun u => u.writing.isSome)
  | 2 => !(s.corr.upload.any fun u => u.what != 1 && u.segData.isSome)
  | _ => !(s.stage.op.any fun o => o.op == 2)

/-- The owner releases staging, which fills with target 0x04 again with its contents unchanged (R323). -/
def State.refillStaging (s : State) : State := s.onDma fun d => { d with stage := .filling 4 0, stageAt := s.now }

/-- The submit descriptor completes (R323). -/
def State.submitDone (ch : Nat) (s : State) : State :=
  let s := s.onDma fun d => { d with submitter := none }
  match (s.chan ch).desc with
  | some d => s.descComplete ch d
  | none => s

/-- SUBMIT_RELEASE (R323): the owner releases staging, and the submit descriptor completes, in Hold once the engine runs again
(R329). -/
def execSubmitRelease (s : State) : Host.Outcome State Fault Refusal :=
  match s.dma.submitter with
  | none => .next s
  | some ch =>
    match s.dma.stage with
    | .writing target _ =>
      if !s.ownerDone target then .next s
      else if s.dmaRuns then .next (s.refillStaging.submitDone ch)
      else .next s.refillStaging
    | _ => if s.dmaRuns then .next (s.submitDone ch) else .next s

/-! ### The held pour (R316) -/

/-- Pour `p` may still come to be admitted: its index lies ahead, or it is in progress or a web line not yet sent. -/
def State.toCome (s : State) (p : Nat) : Bool :=
  s.rd 0x110003 < p || (s.image.pours.any fun q => q.idx == p && !q.area) ||
  s.tdi.webs.any fun w => w.w == p && !w.dropped

/-- A write of the held pour index (R316). -/
def State.holdPour (v : Nat) (s : State) : State :=
  if v = s.rd 0x704001 ∧ s.dma.heldIdx = some v then s
  else
    let s := s.endHold.wr 0x704001 v
    if v = 0 then s.wr 0x704002 0
    else if s.lanes.tundish.any fun t => t.idx == v then
      (s.wr 0x704002 2).onDma fun d => { d with heldIdx := some v }
    else s.wr 0x704002 (if s.toCome v then 1 else 3)

/-- HELD_POUR_WRITE (R316). -/
def execHeldPourWrite (tr : Transport) (v : Nat) (s : State) : Host.Outcome State Fault Refusal :=
  .next (s.hostWrite ⟨tr, 0x704001, 8, v⟩ (State.holdPour v))

/-- The hold is released (R316). -/
def State.releaseHold (s : State) : State := s.endHold.wr 0x704002 0

/-- RELEASE_HOLD (R316). -/
def execReleaseHold (tr : Transport) (v : Nat) (s : State) : Host.Outcome State Fault Refusal :=
  .next (s.hostCommand tr 0x704004 v State.releaseHold)

end Sys2Proof.Machine
end

