-- ==== Sys2Proof/Machine/Housekeeping.lean ====
section
/-!
DEFINITION. The housekeeping converter: results of its channels, its clients and their order, the sequence, injected
conversions and self-calibration (R332 to R342, R358).
-/
namespace Sys2Proof.Machine

/-! ### Results (R333 to R335) -/

/-- The divider of a voltage channel (R332). -/
def dividerOf (ch : Nat) : Nat := if ch = 17 then 4 else if ch = 18 ∨ ch = 22 then 2 else 1

/-- A voltage result in µV (R333). -/
def voltageResult (ch code : Nat) : Int := roundDiv (code * 1200000) 16384 * dividerOf ch

/-- A diode result in 1/16 °C, rounded to the nearest unit: `dv` in nV, ideality in 10⁻⁴, series resistance in 0.1 Ω
(R334). -/
def diodeResult (dv : Int) (eta rser : Nat) : Int :=
  roundDiv (5 * 16000 * (dv - 15000 * rser) - 21852 * eta * 23892) (5 * eta * 23892)

/-- The scale of the fixed-point logarithm. -/
abbrev lnScale : Int := 2 ^ 60

/-- ln 2 in the fixed-point scale. -/
abbrev lnTwo : Int := 799144290325165979

/-- `p ÷ q` brought into 1 to 2 by `k` halvings or doublings. -/
def lnReduce : Nat → Nat → Nat → Int → Nat × Nat × Int
  | 0, p, q, k => (p, q, k)
  | n + 1, p, q, k =>
    if 2 * q ≤ p then lnReduce n p (2 * q) (k + 1)
    else if p < q then lnReduce n (2 * p) q (k - 1)
    else (p, q, k)

/-- The terms y ÷ d + y³ ÷ (d + 2) + … of the series for the logarithm, `n` of them. -/
def lnTerms : Nat → Int → Int → Int → Int
  | 0, _, _, _ => 0
  | n + 1, y, y2, d => fdiv y d + lnTerms n (fdiv (y * y2) lnScale) y2 (d + 2)

/-- ln(p ÷ q) in the fixed-point scale, for p and q above 0. -/
def lnRatio (p q : Nat) : Int :=
  let r := lnReduce 64 p q 0
  let y := fdiv (((r.1 : Int) - r.2.1) * lnScale) (r.1 + r.2.1)
  r.2.2 * lnTwo + 2 * lnTerms 24 y (fdiv (y * y) lnScale) 1

/-- A thermistor result in 1/16 °C (R335), rounded to the nearest unit: none where the formula has no value. -/
def thermistorResult (code rnom b : Nat) : Option Int :=
  if code = 0 ∨ 16384 ≤ code then none
  else
    let l := lnRatio (10000 * code) ((16384 - code) * rnom)
    let den := 20 * b * lnScale + 5963 * l
    if den ≤ 0 then none
    else some (roundDiv (80 * 5963 * b * lnScale - 21852 * den) (5 * den))

/-- The result of a sample in its channel's unit (R333 to R335): none where the spec states none. -/
def State.sampleResult (s : State) (ch code : Nat) (dv : Int) : Option Int :=
  let r : Option Int :=
    if ch < 4 then some (diodeResult dv (s.rd (0x602001 + ch)) (s.rd (0x602101 + ch)))
    else if ch < 8 then thermistorResult code (s.rd (0x602201 + (ch - 4))) (s.rd (0x602301 + (ch - 4)))
    else if ch < 23 then some (voltageResult ch code)
    else some (diodeResult dv (Config.dieIdeality ch) 0)
  r.filter fun v => v.natAbs < 2 ^ 31

/-- A result as it is read: the one stated, or a free value (log entry 2). -/
def State.freeResult (s : State) (r : Option Int) : Int × State :=
  match r with
  | some v => (v, s)
  | none =>
    let f := s.takeFree
    (toSigned 32 f.1, f.2)

/-- The channel's status gains VALID (R342). -/
def State.markValid (ch : Nat) (s : State) : State := s.wr (0x601201 + ch) (setBit (s.rd (0x601201 + ch)) 2)

/-- The sample code of a channel (R333). -/
def State.placeCode (ch code : Nat) (s : State) : State := s.wr (0x601101 + ch) code

/-- A result of a channel is placed; channels 23 to 25 hold only the monitor's filtered samples (R333). -/
def State.placeResult (ch : Nat) (v : Int) (s : State) : State :=
  if 23 ≤ ch then s else (s.wr (0x601001 + ch) (ofSigned 32 v)).markValid ch

/-- The code of a clamped conversion (R342). -/
def clampCode (low : Bool) : Nat := if low then 0 else 0x3FFF

/-- A clamped conversion of a channel (R342): the first since OOR was cleared is logged. -/
def State.clampSample (ch : Nat) (low : Bool) (s : State) : State :=
  let old := s.rd (0x601201 + ch)
  let s := (s.placeCode ch (clampCode low)).wr (0x601201 + ch) (old / 4 * 4 + 2 * b2n low + 1)
  if bitAt old 0 then s else s.logEvent 0x0A04 (leBytes 1 ch ++ [0] ++ leBytes 2 (clampCode low))

/-! ### Clients (R336, R338, R340) -/

/-- The channel that an entry of the sequence or a request names (R337, R339). -/
def chanOf (e : Nat) : Nat := field e 5 0

/-- The samples averaged for a result (R337, R339). -/
def avgOf (e : Nat) : Nat := 2 ^ field e 7 6

/-- No sample of a result taken. -/
abbrev HkSum.zero : HkSum := ⟨0, 0, false⟩

/-- A sample joins its result: `r` is its value, none where it was clamped. -/
def HkSum.add (a : HkSum) (r : Option Int) : HkSum := ⟨a.sum + r.getD 0, a.taken + 1, a.bad || r.isNone⟩

/-- A pass of the sequence starts at entry 0 with the table and length as they stand (R338). -/
def State.beginPass (s : State) : State :=
  (s.wr 0x600203 0).onHk fun h => { h with
    seq := HkSum.zero, rep := 0, entry := 0, table := (List.range 32).map fun i => s.rd (0x600301 + i),
    len := s.rd 0x600202, delayUntil := none, restart := false }

/-- The self-calibration begins (R340). -/
def State.beginHkCal (s : State) : State :=
  (s.wr 0x600102 1).onHk fun h => { h with calAsked := none, calAt := some s.now }

/-- The oldest queued request is taken into service where none is (R339). -/
def State.takeRequest (s : State) : State :=
  match s.hk.serving, s.hk.inj with
  | none, r :: rest => s.onHk fun h => { h with serving := some r, req := HkSum.zero, inj := rest }
  | _, _ => s

/-- The converter starts its next sample at a sample boundary (R336, R340): a calibration that waits for no request, a due
sample of the monitor, the next of the oldest request, or the next of the sequence. -/
def State.hkNext (s : State) : State :=
  if s.hk.client ≠ .idle ∨ s.hk.calAt.isSome ∨ !s.timing.clk100 then s
  else
    match s.hk.calAsked, s.hk.due with
    | some 0, _ => s.beginHkCal
    | _, ch :: _ => s.onHk fun h => { h with client := .monitor ch }
    | _, [] =>
      let s := s.takeRequest
      match s.hk.serving with
      | some r => s.onHk fun h => { h with client := .injected r }
      | none => if s.hk.inSeq ∧ s.hk.delayUntil.isNone then s.onHk fun h => { h with client := .sequence } else s

/-- The entry after the one in progress; after the last the pass is counted and the next one starts (R337). -/
def State.nextEntry (s : State) : State :=
  if s.hk.len ≤ s.hk.entry + 1 then (s.inc 0x600204).beginPass
  else (s.wr 0x600203 (s.hk.entry + 1)).onHk fun h => { h with entry := h.entry + 1, rep := 0, delayUntil := none }

/-- The entry has made its results: its post-delay runs, or the next entry follows (R338). -/
def State.entryDone (e : Nat) (s : State) : State :=
  if e / 65536 = 0 then s.nextEntry
  else s.onHk fun h => { h with delayUntil := some (s.now + us (e / 65536)) }

/-- A sample of the sequence has ended (R338). -/
def State.sequenceSample (e : Nat) (r : Option Int) (s : State) : State :=
  let a := s.hk.seq.add r
  if a.taken < avgOf e then s.onHk fun h => { h with seq := a }
  else
    let s := if a.bad then s else s.placeResult (chanOf e) (roundDiv a.sum a.taken)
    let rep := s.hk.rep + 1
    let s := s.onHk fun h => { h with seq := HkSum.zero, rep := rep }
    if field e 15 8 < rep then s.entryDone e else s

/-- A sample of the sequence has ended: the sequence goes on, starts anew where that was asked, or has stopped (R338). -/
def State.sequenceEnd (e : Nat) (r : Option Int) (s : State) : State :=
  let s := s.sequenceSample e r
  if !s.hk.inSeq then s.onHk fun h => { h with seq := HkSum.zero, rep := 0, delayUntil := none }
  else if s.hk.restart then s.beginPass
  else s

/-- An injected result joins its queue; where 4 stand in it the oldest is replaced and LOST set (R339). -/
def State.queueResult (req code : Nat) (r : Int) (oor : Bool) (s : State) : State :=
  s.onHk fun h =>
    let full := 4 ≤ h.injRes.length
    let e := leBytes 8 s.ringTime ++ leBytes 4 (ofSigned 32 r) ++ leBytes 2 code ++ leBytes 1 (chanOf req) ++
      leBytes 1 (b2n oor + 2 * b2n full)
    { h with injRes := (if full then h.injRes.drop 1 else h.injRes) ++ [e] }

/-- An injected result has been made: one that includes a clamped sample is not formed, and its queue entry holds a free
value with OOR set (R339, R342; log entry 2). -/
def State.injectedDone (req code : Nat) (a : HkSum) (s : State) : State :=
  let s := s.onHk fun h => { h with serving := none, req := HkSum.zero, calAsked := h.calAsked.map (· - 1) }
  if a.bad then
    let f := s.freeResult none
    f.2.queueResult req code f.1 true
  else
    (s.placeResult (chanOf req) (roundDiv a.sum a.taken)).queueResult req code (roundDiv a.sum a.taken) false

/-- A sample of an injected request has ended (R339). -/
def State.injectedSample (req code : Nat) (r : Option Int) (s : State) : State :=
  let a := s.hk.req.add r
  if a.taken < avgOf req then s.onHk fun h => { h with req := a } else s.injectedDone req code a

/-- The value of an unclamped sample: its result, or a free one where the spec states none. -/
def State.goodSample (s : State) (ch code : Nat) (dv : Int) : Int × State := s.freeResult (s.sampleResult ch code dv)

/-- The end of a sample of the channel `ch`: its code is placed, and `k` takes its result, none where it was clamped. -/
def State.takeSample (ch code : Nat) (dv : Int) (clamped : Bool) (k : Option Int → State → State) (s : State) : State :=
  if clamped then k none (s.clampSample ch (code == 0))
  else
    let g := s.goodSample ch code dv
    k (some g.1) (g.2.placeCode ch code)

/-! ### The sequence (R338) -/

/-- Object 0x6002:01 is written (R338): 1 starts the sequence at entry 0 once the sample in progress has ended, 0 stops it
after that sample. -/
def State.writeSequence (v : Nat) (s : State) : State :=
  let s := s.wr 0x600201 v
  if v = 0 then s.onHk fun h => { h with inSeq := false, restart := false, delayUntil := none }
  else
    let s := s.onHk fun h => { h with inSeq := true }
    if s.hk.client = .sequence then s.onHk fun h => { h with restart := true }
    else s.beginPass.hkNext

/-- SEQUENCE_START (R338): a write of 1 to object 0x6002:01. -/
def execSequenceStart (tr : Transport) (v : Nat) (s : State) : Host.Outcome State Fault Refusal :=
  .next (s.hostWrite ⟨tr, 0x600201, 1, v⟩ (State.writeSequence v))

/-- SEQUENCE_STOP (R338): a write of 0 to object 0x6002:01. -/
def execSequenceStop (tr : Transport) (v : Nat) (s : State) : Host.Outcome State Fault Refusal :=
  .next (s.hostWrite ⟨tr, 0x600201, 1, v⟩ (State.writeSequence v))

/-- SEQUENCE_POST_DELAY_END (R338). -/
def execSequencePostDelayEnd (s : State) : Host.Outcome State Fault Refusal :=
  match s.hk.delayUntil with
  | none => .next s
  | some t =>
    if t ≤ s.now ∧ s.hk.inSeq ∧ s.timing.clk100 then
      .next s.nextEntry.hkNext
    else .next s

/-! ### Injected conversions (R339) -/

/-- A request is written to object 0x6004:01 (R339). -/
def State.inject (v : Nat) (s : State) : State :=
  if 4 ≤ s.hk.inj.length then
    (((s.wr 0x600403 1).inc 0x600404).logEvent 0x0A05 (leBytes 1 (chanOf v))).refuse abortState
  else (s.onHk fun h => { h with inj := h.inj ++ [v] }).hkNext

/-- INJECTED_REQUEST (R339). -/
def execInjectedRequest (tr : Transport) (v : Nat) (s : State) : Host.Outcome State Fault Refusal :=
  .next (s.hostWrite ⟨tr, 0x600401, 2, v⟩ (State.inject v))

/-- A read of object 0x6004:05 returns the oldest result and removes it (R339); all zero where the queue is empty (R358). -/
def State.readInjected (s : State) : State :=
  (s.acceptData (pad 16 (nth s.hk.injRes 0 []))).onHk fun h => { h with injRes := h.injRes.drop 1 }

/-- INJECTED_RESULT_READ (R339). -/
def execInjectedResultRead (tr : Transport) (s : State) : Host.Outcome State Fault Refusal :=
  .next (s.hostRead tr 0x600405 State.readInjected)

/-- The effect of object 0x6004:07 (R358). -/
def State.clearHkCounts (s : State) : State := s.zero [0x600204, 0x600404]

/-- CLEAR_HOUSEKEEPING_COUNTS (R358). -/
def execClearHousekeepingCounts (tr : Transport) (v : Nat) (s : State) : Host.Outcome State Fault Refusal :=
  .next (s.hostCommand tr 0x600407 v State.clearHkCounts)

/-- A write of object 0x6012: a 1 clears OOR (R342). -/
def State.channelStatus (t : Txn) (s : State) : State :=
  if bitAt t.val 0 then s.wr t.key (clearBit (s.rd t.key) 0) else s

/-! ### Self-calibration (R340, R341) -/

/-- The injected requests that a calibration asked for now waits for (R340). -/
def State.requestsAhead (s : State) : Nat :=
  s.hk.inj.length + b2n s.hk.serving.isSome

/-- A self-calibration is asked for (R340). -/
def State.askHkCal (s : State) : State :=
  if s.hk.calAsked.isSome ∨ s.hk.calAt.isSome then s.refuse abortState
  else (s.onHk fun h => { h with calAsked := some s.requestsAhead }).hkNext

/-- HOUSEKEEPING_SELF_CALIBRATION (R340). -/
def execHousekeepingSelfCalibration (tr : Transport) (v : Nat) (s : State) : Host.Outcome State Fault Refusal :=
  .next (s.hostCommand tr 0x600101 v State.askHkCal)

/-- The cause of a calibration that fails (R341): the first of the table that holds; `offset` in codes, `gain` in 1/1000 of
a per cent, `vbg` in µV, `inl` in 1/256 LSB. -/
def hkCalCause (offset gain : Int) (vbg inl : Nat) : Option Nat :=
  if 64 < offset.natAbs then some 1
  else if 3000 < gain.natAbs then some 2
  else if vbg < 980000 ∨ 1020000 < vbg then some 3
  else if 1024 < inl then some 4
  else none

/-- The result of a calibration (R341): on failure the factors stay. -/
def State.hkCalResult (offset gain : Int) (weights : List Int) (vbg inl : Nat) (s : State) : State :=
  let s := s.onHk fun h => { h with calAt := none }
  match hkCalCause offset gain vbg inl with
  | some c => ((s.wr 0x600102 3).wr 0x600103 c).logEvent 0x0A06 (leBytes 1 c)
  | none => (s.wr 0x600102 2).onHk fun h => { h with offset := offset, gain := gain, weights := weights }

/-- HOUSEKEEPING_CALIBRATION_END (R340, R341, R347): 4.2 ms after its start; the calibration of start-up lets the monitor
take its first samples (R357, R368). -/
def execHousekeepingCalibrationEnd (offset gain : Int) (vbg inl : Nat) (s : State) (weights : List Int := []) :
    Host.Outcome State Fault Refusal :=
  match s.hk.calAt with
  | none => .next s
  | some t =>
    if t + ns 4200000 ≤ s.now ∧ s.timing.clk100 then
      let s := s.hkCalResult offset gain weights vbg inl
      let s := if s.therm.assessed then s
        else s.onTherm fun x => { x with scanAt := s.now, fillAt := s.now }
      .next s.hkNext
    else .next s

/-- The clock returns (R343): the sequence restarts at entry 0, a request in service is served from its first sample, and a
calibration that was running runs its 4.2 ms anew. -/
def State.hkClockReturn (s : State) : State :=
  let s := s.onHk fun h => { h with client := .idle, due := [], req := HkSum.zero, calAt := h.calAt.map fun _ => s.now }
  let s := if s.hk.inSeq then s.beginPass else s
  s.hkNext

end Sys2Proof.Machine
end

