-- ==== Sys2Proof/Machine/Thermal.lean ====
section
/-!
DEFINITION. The thermal monitor: sources, limits and filters, throttle, quench, the MRAM-die write inhibit and the supply
windows (R345 to R357, R359, R363).
-/
namespace Sys2Proof.Machine

/-! ### Sources and limits (R345, R349, R363) -/

/-- A limit of a source: above or below, its value, its hysteresis, and whether it is armed. -/
structure LimitSpec where
  above : Bool
  at_   : Int
  hyst  : Int
  armed : Bool
  deriving DecidableEq, Repr

/-- The housekeeping channel of source `i`: pixel, logic and MRAM die, then external channels. -/
def sourceChan (i : Nat) : Nat := match i with | 0 => 24 | 1 => 23 | 2 => 25 | n + 3 => n

/-- The external threshold entry of channel `n` (R349). -/
def State.threshold (s : State) (n : Nat) : Nat := s.rd (0x6A0301 + n)

/-- The limits of source `i` in order (R345, R349): warn, throttle, quench; the inhibit; HIGH, LOW. -/
def State.limitsOf (s : State) (i : Nat) : List LimitSpec :=
  let die (k : Nat) : LimitSpec := ⟨true, toSigned 16 (s.rd (0x6A0201 + k)), 48, true⟩
  match i with
  | 0 => [die 0, die 1, die 2]
  | 1 => [die 3, die 4, die 5]
  | 2 => [die 6]
  | n + 3 =>
    let e := s.threshold n
    let h : Int := if n < 8 then 48 else (field e 47 32 : Nat)
    [⟨true, i16Of e 0, h, bitAt e 48⟩, ⟨false, i16Of e 1, h, bitAt e 49⟩]

/-- Source `i` is armed (R345). -/
def State.armed (s : State) (i : Nat) : Bool := (s.limitsOf i).any LimitSpec.armed

/-- External source `n` demands the throttle: action 1 (R349). -/
def State.demands (s : State) (n : Nat) : Bool := field (s.threshold n) 51 50 == 1

/-- A sample lies at or beyond the limit; `none` is beyond every limit (R347). -/
def LimitSpec.reached (l : LimitSpec) (v : Option Int) : Bool :=
  match v with
  | none => true
  | some v => if l.above then l.at_ ≤ v else v ≤ l.at_

/-- A sample lies on the other side of the limit and its hysteresis (R348, R349). -/
def LimitSpec.left (l : LimitSpec) (v : Option Int) : Bool :=
  match v with
  | none => false
  | some v => if l.above then v < l.at_ - l.hyst else l.at_ + l.hyst < v

/-- The counts of a limit after a filtered sample (R348); `latched` keeps it set. -/
def Limit.sample (l : Limit) (reached left latched : Bool) : Limit :=
  let c := if reached then min 3 (l.c + 1) else 0
  let e := if !reached && left then min 3 (l.e + 1) else 0
  ⟨c, e, if c = 3 then true else if e = 3 then l.set && latched else l.set⟩

/-- The median of the last three raw samples, `none` standing for one beyond every limit (R347). -/
def median3 (l : List (Option Int)) : Option Int :=
  match l.filterMap id with
  | [a, b, c] => some (max (min a b) (min (max a b) c))
  | [a, b] => some (max a b)
  | _ => none

/-- A result of a channel in the unit of its source's limits: AUX channels in 100 µV (R349). -/
def limitUnit (ch : Nat) (v : Int) : Int := if 8 ≤ ch ∧ ch < 16 then roundDiv v 100 else v

/-! ### The state of a source -/

/-- The source `i` of the monitor. -/
def State.src (s : State) (i : Nat) : Source := nth s.therm.sources i (Source.reset 4)

/-- Source `i` updated. -/
def State.onSource (i : Nat) (f : Source → Source) (s : State) : State :=
  s.onTherm fun t => { t with sources := modifyNth t.sources i f }

/-- Limit `k` of a source. -/
def Source.limit (x : Source) (k : Nat) : Limit := nth x.limits k ⟨0, 0, false⟩

/-- The part's thermal level (R349). -/
def State.partLevel (s : State) : Nat :=
  let ext := (List.range 16).any fun n => s.demands n && ((s.src (3 + n)).limit 0).set
  max (max (s.rd 0x6A0001) (s.rd 0x6A0002)) (if ext then 2 else 0)

/-- Object 0x6A00:04 takes the part's level. -/
def State.refreshLevel (s : State) : State := s.wr 0x6A0004 s.partLevel

/-- The throttle step in force is the largest demanded one; each change from 0 is counted (R350). -/
def State.refreshStep (s : State) : State :=
  let k := maxNat (s.therm.sources.map Source.step)
  let old := s.rd 0x6A0005
  if k = old then s
  else ((if old = 0 then s.inc 0x6A1102 else s).wr 0x6A0005 k).onImage fun i => { i with freeFrom := s.now }

/-- The level of a die changes and is logged with the filtered sample `v` (R349). -/
def State.setLevel (i new : Nat) (v : Int) (s : State) : State :=
  let old := s.rd (0x6A0001 + i)
  if new = old then s
  else
    ((s.wr (0x6A0001 + i) new).refreshLevel).logEvent 0x0A01
      (leBytes 1 i ++ leBytes 1 old ++ leBytes 1 new ++ [0] ++ leBytes 2 (ofSigned 16 v))

/-- Bit `n` of the quench state, object 0x6A10:02. -/
def State.quenchBit (n : Nat) (b : Bool) (s : State) : State :=
  s.wr 0x6A1002 (if b then setBit (s.rd 0x6A1002) n else clearBit (s.rd 0x6A1002) n)

/-! ### Throttle (R350) -/

/-- The demanded step of a source after a filtered sample: `was` and `is` tell the throttle limit before and after it. -/
def Source.throttle (x : Source) (was is : Bool) (reached left : Bool) (start ceiling : Nat) : Source :=
  if is && !was then { x with step := min ceiling (max x.step start), run := 0 }
  else if is then
    if reached then
      if 3 ≤ x.run + 1 ∧ x.step < ceiling then { x with step := x.step + 1, run := 0 }
      else { x with step := min ceiling x.step, run := min 3 (x.run + 1) }
    else { x with step := min ceiling x.step, run := 0 }
  else { x with step := min ceiling (if left then x.step - 1 else x.step), run := 0 }

/-- Source `i` moves its demanded step under its limit `k` (R350). -/
def State.moveStep (i k : Nat) (was : Bool) (v : Option Int) (s : State) : State :=
  match (s.limitsOf i)[k]? with
  | none => s
  | some l => s.onSource i fun x =>
    x.throttle was (x.limit k).set (l.reached v) (l.left v) (s.rd 0x6A0101) (s.rd 0x6A0102)

/-- A write of the start step or the ceiling (R350). -/
def State.throttleWrite (t : Txn) (s : State) : State :=
  let bad := if t.key = 0x6A0101 then s.rd 0x6A0102 < t.val else t.val < s.rd 0x6A0101
  if bad then s.refuse abortValue else s.wr t.key t.val

/-! ### Quench (R352 to R354) -/

/-- The part enters quench (R352, R353, R356). -/
def State.enterQuench (s : State) : State :=
  let s := (s.inc 0x6A1101).onTherm fun t => { t with quench := true }
  s.quenchImage.forceTimers.abandonSelfCal.quenchMram

/-- A die's quench limit becomes set: its quench is not acknowledged and ends a re-arm in progress (R352, R354). -/
def State.dieQuench (i : Nat) (s : State) : State :=
  let s := ((s.quenchBit i true).quenchBit (2 + i) false).quenchBit 4 false
  let s := s.onTherm fun t => { t with rearmEnd := none }
  if s.therm.quench then s else s.enterQuench

/-- The part leaves quench and re-arms for 2.0 ms; a self-calibration that start-up abandoned runs again (R116, R354). -/
def State.leaveQuench (s : State) : State :=
  let s := s.onTherm fun t => { t with quench := false, rearmEnd := some (s.now + ms 2) }
  let s := (s.unforceTimers.darkRestart).quenchBit 4 true
  if s.conv.rerun then s.startSelfCal true else s

/-- A die's quench limit is cleared: the die takes level 2 with its step at the ceiling (R354). -/
def State.dieLeaves (i : Nat) (s : State) : State :=
  let s := s.onSource i fun x =>
    { x with limits := [⟨0, 0, true⟩, ⟨0, 0, true⟩, ⟨0, 0, false⟩], step := s.rd 0x6A0102, run := 0 }
  let s := (s.quenchBit i false).setLevel i 2 ((s.src i).filt.getD 0)
  if s.rd 0x6A1002 % 4 = 0 then s.leaveQuench else s

/-- The host acknowledges the quench of die `i` (R354). -/
def State.acknowledge (s : State) (i : Nat) : State :=
  if !bitAt (s.rd 0x6A1002) i then s
  else
    let s := (s.quenchBit (2 + i) true).logEvent 0x0A02 (leBytes 1 i)
    if ((s.src i).limit 2).e = 3 then s.dieLeaves i else s

/-- A write of object 0x6A10:01 (R354). -/
def State.acknowledgeQuench (v : Nat) (s : State) : State :=
  (((List.range 2).filter (bitAt v)).foldl State.acknowledge s).refreshStep

/-- ACKNOWLEDGE_QUENCH (R354). -/
def execAcknowledgeQuench (tr : Transport) (v : Nat) (s : State) : Host.Outcome State Fault Refusal :=
  .next (s.hostWrite ⟨tr, 0x6A1001, 1, v⟩ (State.acknowledgeQuench v))

/-- RE_ARM_END (R354): 2.0 ms after the part left quench, or when a self-calibration run again by start-up is over. -/
def execReArmEnd (s : State) : Host.Outcome State Fault Refusal :=
  match s.therm.rearmEnd with
  | none => .next s
  | some t =>
    if t ≤ s.now ∧ !(s.conv.calAt.isSome && s.conv.startup) then
      .next ((s.onTherm fun x => { x with rearmEnd := none }).quenchBit 4 false)
    else .next s

/-- The comparator of the logic die has tripped: quench as if that die had reached its quench limit; the event's
temperature is a free value (R343; log entry 2). -/
def State.comparatorQuench (s : State) : State :=
  let f := s.takeFree
  let s := f.2
  if bitAt (s.rd 0x6A1002) 1 then s
  else
    let was := ((s.src 1).limit 1).set
    let s := s.onSource 1 fun x =>
      let x := { x with limits := [⟨3, 0, true⟩, ⟨3, 0, true⟩, ⟨3, 0, true⟩] }
      if was then x else x.throttle false true true false (s.rd 0x6A0101) (s.rd 0x6A0102)
    ((s.setLevel 1 3 (toSigned 16 f.1)).dieQuench 1).refreshStep

/-! ### A filtered sample (R347 to R350, R355) -/

/-- The limits of source `i` take a filtered sample: an unacknowledged quench limit stays set (R348). -/
def State.sampleLimits (i : Nat) (v : Option Int) (s : State) : State :=
  let latched (k : Nat) : Bool := k == 2 && !bitAt (s.rd 0x6A1002) (2 + i)
  let specs := s.limitsOf i
  s.onSource i fun x => { x with limits := x.limits.mapIdx fun k l =>
    match specs[k]? with
    | some p => if p.armed then l.sample (p.reached v) (p.left v) (latched k) else ⟨0, 0, false⟩
    | none => l }

/-- The level that the limits of a die give it (R348). -/
def Source.level (x : Source) : Nat :=
  if (x.limit 2).set then 3 else if (x.limit 1).set then 2 else if (x.limit 0).set then 1 else 0

/-- The pixel or logic die takes a filtered sample (R348 to R350, R352, R354). -/
def State.sampleDie (i : Nat) (v : Option Int) (f : Int) (s : State) : State :=
  let old := s.src i
  let s := s.sampleLimits i v
  if (old.limit 2).set && !((s.src i).limit 2).set then s.dieLeaves i
  else
    let s := s.moveStep i 1 (old.limit 1).set v
    let s := s.setLevel i (s.src i).level f
    if ((s.src i).limit 2).set && !(old.limit 2).set then s.dieQuench i else s

/-- The MRAM die takes a filtered sample: the write inhibit is entered or left (R355). -/
def State.sampleMramDie (v : Option Int) (s : State) : State :=
  let s := s.sampleLimits 2 v
  let on := b2n ((s.src 2).limit 0).set
  if on = s.rd 0x6A0003 then s
  else
    let s := ((s.wr 0x6A0003 on).resumeUpload).onPower fun p => { p with unwritten := none }
    (if on = 1 then s.inc 0x6A1104 else s).logEvent 0x0A03 (leBytes 1 on)

/-- Direction `d` (0 HIGH, 1 LOW) of external channel `n`: its bit of object 0x6A03:11, and the event where it becomes set
(R349). -/
def State.crossing (n d : Nat) (was : Bool) (f : Int) (s : State) : State :=
  let is := ((s.src (3 + n)).limit d).set
  let bits := s.rd 0x6A0311
  let s := s.wr 0x6A0311 (if is then setBit bits (2 * n + d) else clearBit bits (2 * n + d))
  if is && !was then s.logEvent 0x0A07 (leBytes 1 n ++ leBytes 1 d ++ leBytes 2 (ofSigned 16 f)) else s

/-- External source `n` takes a filtered sample (R349, R350). -/
def State.sampleExternal (n : Nat) (f : Int) (s : State) : State :=
  let old := s.src (3 + n)
  let s := s.sampleLimits (3 + n) (some f)
  let s := if s.demands n then s.moveStep (3 + n) 0 (old.limit 0).set (some f)
    else s.onSource (3 + n) fun x => { x with step := 0, run := 0 }
  ((s.refreshLevel).crossing n 0 (old.limit 0).set f).crossing n 1 (old.limit 1).set f

/-- A die's filtered sample is placed in its objects; the highest since cleared is kept (R333, R359). One that is clamped, `formed`
false, is no result: object 0x6010 keeps its value (R342). -/
def State.placeFiltered (i : Nat) (formed : Bool) (f : Int) (s : State) : State :=
  let s := s.wr (0x6A0007 + i) (ofSigned 16 f)
  let s := if formed then (s.wr (0x601001 + sourceChan i) (ofSigned 32 f)).markValid (sourceChan i) else s
  s.wr (0x6A1106 + i) (ofSigned 16 (max (toSigned 16 (s.rd (0x6A1106 + i))) (toSigned 16 (ofSigned 16 f))))

/-- Source `i` has a filtered sample `v`, `none` one beyond every limit, whose value is free (R347; log entry 2). -/
def State.filteredSample (i : Nat) (v : Option Int) (s : State) : State :=
  let r := s.freeResult v
  let s := r.2.onSource i fun x => { x with filt := some r.1 }
  if i < 3 then
    let s := s.placeFiltered i v.isSome r.1
    if i = 2 then s.sampleMramDie v else s.sampleDie i v r.1
  else s.sampleExternal (i - 3) r.1

/-- A clamped raw sample of external source `n` ends its runs and is logged; the value of the event is free (R347; log
entry 2). -/
def State.externalClamp (n : Nat) (s : State) : State :=
  let f := s.takeFree
  (f.2.onSource (3 + n) fun x =>
    { x with run := 0, limits := x.limits.map fun l => { l with c := 0, e := 0 } }).logEvent 0x0A07
      (leBytes 1 n ++ [2] ++ leBytes 2 f.1)

/-- The last three raw samples with a new one. -/
def Source.push (x : Source) (r : Option Int) : Source := { x with raws := (x.raws ++ [r]).drop (x.raws.length - 2) }

/-- Source `i` takes a raw sample, none a clamped one (R347). -/
def State.rawSample (i : Nat) (r : Option Int) (s : State) : State :=
  if 3 ≤ i ∧ r.isNone then s.externalClamp (i - 3)
  else
    let s := s.onSource i (·.push (r.map (limitUnit (sourceChan i))))
    let l := (s.src i).raws
    if l.length = 3 then s.filteredSample i (median3 l) else s

/-! ### Rails (R360, R363) -/

/-- The window of the rail with code `n`, in 1/15 µV so that every VID target is whole (R26, R360). -/
def State.railWindow (s : State) (n : Nat) : Int × Int :=
  match n with
  | 0 => (15 * 3135000, 15 * 3465000)
  | 1 => (15 * 1710000, 15 * 1890000)
  | 2 =>
    let t : Int := 15 * 720000 + s.rd 0x680203 * 160000
    (fdiv (t * 97 + 99) 100, fdiv (t * 103) 100)
  | 3 => (15 * 768000, 15 * 832000)
  | 4 => (15 * 855000, 15 * 945000)
  | _ => (15 * 1140000, 15 * 1260000)

/-- Rail `n` of the monitor. -/
def State.rail (s : State) (n : Nat) : Source := nth s.therm.rails n (Source.reset 1)

/-- Rail `n` updated. -/
def State.onRail (n : Nat) (f : Source → Source) (s : State) : State :=
  s.onTherm fun t => { t with rails := modifyNth t.rails n f }

/-- Rail `n` takes a filtered sample in µV (R363). -/
def State.filteredRail (n : Nat) (v : Int) (s : State) : State :=
  let w := s.railWindow n
  let out : Bool := 15 * v < w.1 || w.2 < 15 * v
  let was := ((s.rail n).limit 0).set
  let s := s.onRail n fun x => { x with filt := some v, limits := x.limits.map fun l => l.sample out (!out) false }
  let is := ((s.rail n).limit 0).set
  let bits := s.rd 0xB03001
  let s := s.wr 0xB03001 (if is then setBit bits n else clearBit bits n)
  if is && !was then s.logEvent 0x0104 (leBytes 1 n ++ [0] ++ leBytes 2 (roundDiv v 1000).toNat) else s

/-- Rail `n` takes a raw sample; a clamped one ends its runs (R363; log entry 16). -/
def State.rawRail (n : Nat) (r : Option Int) (s : State) : State :=
  match r with
  | none => s.onRail n fun x => { x with limits := x.limits.map fun l => { l with c := 0, e := 0 } }
  | some v =>
    let s := s.onRail n (·.push (some v))
    let l := (s.rail n).raws
    match if l.length = 3 then median3 l else none with
    | some v => s.filteredRail n v
    | none => s

/-! ### The scan (R346) -/

/-- The monitor runs: its clock runs, and a self-calibration has ended (R343, R357). -/
def State.monitorOn (s : State) : Bool := s.timing.clk100 && (2 ≤ s.rd 0x600102 || s.therm.assessed)

/-- A source has fewer than three raw samples. -/
def Source.fills (x : Source) : Bool := x.raws.length < 3

/-- Some armed source or a rail still takes its first three raw samples (R347). -/
def State.filling (s : State) : Bool :=
  ((List.range 19).any fun i => s.armed i && (s.src i).fills) || s.therm.rails.any Source.fills

/-- The latest filtered sample of an armed temperature source lies within 80 units of one of its armed limits (R346). -/
def State.nearLimit (s : State) : Bool :=
  (List.range 11).any fun i =>
    match (s.src i).filt with
    | none => false
    | some f => (s.limitsOf i).any fun l => l.armed && (f - l.at_).natAbs ≤ 80

/-- The channels that fall due: of every armed source and rail, or, `all` false, of those without three raw samples (R346, R347,
R363). The dies come first, then the external channels and the rails (log entry 74). -/
def State.dueNow (s : State) (all : Bool) : List Nat :=
  (((List.range 19).filter fun i => s.armed i && (all || (s.src i).fills)).map sourceChan) ++
    (((List.range 6).filter fun n => all || (s.rail n).fills).map (17 + ·))

/-- The next instant of a schedule after one that was due and has passed. -/
def nextDue (now due period : Instant) : Instant := due + ((now - due) / period + 1) * period

/-- The channels due join those that wait, each once, however many periods have passed (R340). -/
def State.addDue (l : List Nat) (s : State) : State :=
  s.onHk fun h => { h with due := h.due ++ l.filter fun ch => !h.due.contains ch }

/-- A monitor period begins: one sample of each armed source and rail falls due (R346, R363). -/
def State.beginScan (s : State) : State :=
  if s.therm.scan ∨ s.now < s.therm.scanAt then s
  else (s.addDue (s.dueNow true)).onTherm fun t => { t with scan := true }

/-- The next of the first raw samples of a source fall due (R347). -/
def State.beginFill (s : State) : State :=
  if s.now < s.therm.fillAt ∨ !s.filling then s
  else (s.addDue (s.dueNow false)).onTherm fun t => { t with fillAt := nextDue s.now t.fillAt (ns 500000) }

/-- The monitor's samples that fall due now wait for the converter, which starts the first where it takes none (R336, R346). -/
def State.tickMonitor (s : State) : State :=
  if s.monitorOn && (s.therm.scanAt ≤ s.now || s.therm.fillAt ≤ s.now) then s.beginScan.beginFill.hkNext else s

/-- The last sample of a scan has been taken: the period for the next is chosen (R346). -/
def State.endScan (s : State) : State :=
  let near := s.nearLimit
  (s.wr 0x6A0006 (if near then 500 else 10000)).onTherm fun t => { t with
    scan := false, scanAt := nextDue s.now t.scanAt (if near then ns 500000 else ms 10) }

/-- The source or rail of a channel takes its raw sample; a source that is no longer armed takes none (R346, R363). -/
def State.monitored (ch : Nat) (r : Option Int) (s : State) : State :=
  if 17 ≤ ch ∧ ch < 23 then s.rawRail (ch - 17) r
  else
    match (List.range 19).find? fun i => sourceChan i == ch with
    | some i => if s.armed i then s.rawSample i r else s
    | none => s

/-- A sample of the monitor has ended (R333, R336): where it is clamped `r` is none. -/
def State.monitorSample (ch : Nat) (r : Option Int) (s : State) : State :=
  let s := match r with
    | some v => s.placeResult ch v
    | none => s
  (s.onHk fun h => { h with due := h.due.erase ch }).onTherm fun t => { t with got := t.got ++ [(ch, r)] }

/-- The raw samples taken reach their sources and rails in the order in which they were taken. -/
def State.useSamples (s : State) : State :=
  (s.therm.got.foldl (fun s p => s.monitored p.1 p.2) (s.onTherm fun t => { t with got := [] })).refreshStep

/-- MONITOR_SCAN (R346): once in each monitor period, and 0.5 ms apart for sources without three raw samples (R347), when the
converter has taken every sample that was due: they are filtered, and limits, levels and throttle steps follow (R348 to
R350). -/
def execMonitorPeriod (s : State) : Host.Outcome State Fault Refusal :=
  if !s.timing.clk100 ∨ s.therm.got.isEmpty ∨ !s.hk.due.isEmpty then .next s
  else
    let s := s.useSamples.onTherm fun t => { t with
      assessed := t.assessed || (t.sources.take 3).all fun x => x.filt.isSome }
    .next (if s.therm.scan then s.endScan else s)

/-- The meaning of the second spelling of MONITOR_SCAN. -/
def execMonitorScan (_raws : List (Nat × Int)) (s : State) : Host.Outcome State Fault Refusal := execMonitorPeriod s

/-- HOUSEKEEPING_SAMPLE_END (R333, R336, R338, R339, R342): the sample reaches its client, and the next one starts. -/
def execHousekeepingSampleEnd (code : Nat) (dv : Int) (clamped : Bool) (s : State) : Host.Outcome State Fault Refusal :=
  let t := s.onHk fun h => { h with client := .idle }
  match s.hk.client with
  | .idle => .next s
  | .monitor ch => .next (t.takeSample ch code dv clamped (State.monitorSample ch)).hkNext
  | .injected req =>
    let code := if clamped then clampCode (code == 0) else code
    .next (t.takeSample (chanOf req) code dv clamped (State.injectedSample req code)).hkNext
  | .sequence =>
    let e := nth s.hk.table s.hk.entry 0
    .next (t.takeSample (chanOf e) code dv clamped (State.sequenceEnd e)).hkNext

/-- An external threshold entry has been written: its source starts anew with no limit set (R347, R349). -/
def State.thresholdWritten (n : Nat) (s : State) : State :=
  let idle := !s.filling
  let s := s.onSource (3 + n) fun _ => Source.reset 2
  let s := s.wr 0x6A0311 (clearBit (clearBit (s.rd 0x6A0311) (2 * n)) (2 * n + 1))
  let s := if idle ∧ s.armed (3 + n) then s.onTherm fun t => { t with fillAt := s.now } else s
  s.refreshLevel.refreshStep

/-- The clock returns: every source restarts its filter (R343, R347). -/
def State.thermClockReturn (s : State) : State :=
  s.onTherm fun t => { t with
    sources := t.sources.map fun x => { x with raws := [] }
    rails := t.rails.map fun x => { x with raws := [] }
    scanAt := s.now, scan := false, got := [], fillAt := s.now }

/-- The effect of object 0x6A11:09 (R359). -/
def State.clearThermalCounts (s : State) : State := s.toDefault (rangeFrom 0x6A1101 8)

/-- CLEAR_THERMAL_COUNTS (R359). -/
def execClearThermalCounts (tr : Transport) (v : Nat) (s : State) : Host.Outcome State Fault Refusal :=
  .next (s.hostCommand tr 0x6A1109 v State.clearThermalCounts)

end Sys2Proof.Machine
end

