-- ==== Sys2Proof/Machine/Power.lean ====
section
/-!
DEFINITION. Reset (R365, R366), start-up (R214, R368, R370 to R372), Hold (R373), Sleep and wake (R377 to R379), fuses (R381),
life cycle (R382 to R387) and maker test modes (R3).
-/
namespace Sys2Proof.Machine

/-! ### Reset (R365, R366) -/

/-- The values that a reset keeps: those of MRAM-backed objects (R250). -/
def Dict.kept (d : Dict) : Dict := d.filter fun w => isMramKey w.1

/-- An MRAM word write that has started completes (R362, R366). -/
def State.startedWrite (s : State) : State :=
  match s.stage.mramWrite with
  | some t => s.wr t.key t.val
  | none => s

/-- The MRAM-backed objects as they stand in MRAM: repairs that the write inhibit holds back are not in it (R370). -/
def State.storedDict (s : State) : Dict :=
  (Dict.kept s.startedWrite.dict).setAll ((s.power.unwritten.map Prod.snd).getD [])

/-- A reset with source `code` is asserted (R365, R366): everything but MRAM, the fuses, the pins and the test access port
starts anew; of several sources in force the lower code counts. Repairs of MRAM that the write inhibit held back were never
written (R370). -/
def State.assertReset (code : Nat) (s : State) : State :=
  let r := State.reset
  { r with
    pending := s.pending
    now := s.now
    free := s.free
    answer := s.answer
    dict := s.storedDict
    mram := (s.power.unwritten.map Prod.fst).getD s.mram
    image := { r.image with nextSlot := s.now + slotUnits }
    log := ⟨[], nextAfterStart s.heldLog, 0⟩
    timing := { r.timing with pins := s.timing.pins }
    twi := { r.twi with rstLow := s.twi.rstLow }
    power := { r.power with
      origin := s.now
      source := if s.power.phase = .inReset then min s.power.source code else code
      testen := s.power.testen
      testenHeld := s.power.testenHeld
      fuses := s.power.fuses
      brownAt := s.power.brownAt }
    jtag := s.jtag }

/-- POWER_ON (R365). -/
def execPowerOn (s : State) : Host.Outcome State Fault Refusal := .next (s.assertReset 1)

/-- PORST_N_PULSE (R364, R365): a low pulse of `width` ns, ignored up to 0.1 µs and a reset from 1.0 µs on; between them the
spec states neither, and a free value decides (log entry 2). -/
def execPorstNPulse (width : Nat) (s : State) : Host.Outcome State Fault Refusal :=
  if 1000 ≤ width then .next (s.assertReset 2)
  else if width ≤ 100 then .next s
  else
    let f := s.takeFree
    .next (if bitAt f.1 0 then f.2.assertReset 2 else f.2)

/-- BROWN_OUT (R362): a rail has stayed below its threshold for longer than the filter. -/
def execBrownOut (s : State) : Host.Outcome State Fault Refusal :=
  .next ((s.assertReset 3).onPower fun p => { p with brownAt := some s.now })

/-- SEQUENCER_WATCHDOG (R365). -/
def execSequencerWatchdog (s : State) : Host.Outcome State Fault Refusal := .next (s.assertReset 6)

/-- A write of object 0xB022:01 (R365): the serial number asks for a reset 10 µs later. -/
def State.resetWrite (v : Nat) (s : State) : State :=
  if v = s.rd 0x100005 then s.onPower fun p => { p with resetAt := some (s.now + us 10) } else s.refuse abortValue

/-- RESET_COMMAND (R365): the write and, when it is accepted, the reset it leads to. -/
def execResetCommand (tr : Transport) (v : Nat) (s : State) : Host.Outcome State Fault Refusal :=
  let t := s.hostWrite ⟨tr, 0xB02201, 4, v⟩ (State.resetWrite v)
  .next (if t.power.resetAt = s.power.resetAt then t else t.assertReset 4)

/-! ### Start-up (R368, R370 to R372) -/

/-- A phase of start-up follows the one before it once `t` has gone by since the origin (R368). -/
def State.startsUp (s : State) (phase : Phase) (t : Instant) : Bool := s.power.phase == phase && s.power.origin + t ≤ s.now

/-- The phase of start-up. -/
def State.toPhase (ph : Phase) (s : State) : State := s.onPower fun p => { p with phase := ph }

/-- The Defaults that the straps give the address objects (R266). -/
def State.strapObjects (straps : Nat) (s : State) : State :=
  ((s.wr 0xA00002 straps).wr 0xA00101 (0x0130 + straps)).wr 0xA00201 (0x30 + straps)

/-- The log as the part finds it in MRAM (R260, R261, R263): the selections are the newest entry, and the events since the
reset take the numbers from `s + 65` on. -/
def State.findLog (s : State) : State :=
  let next := nextAfterStart s.heldLog
  let newest := newestSeq s.heldLog
  ((s.wr 0xC00004 newest).onTwi fun t => { t with selected := newest }).onLog fun l => { l with
    queue := l.queue.mapIdx fun i e => { e with seq := (next + i) % 2 ^ 32 }
    next := (next + l.queue.length) % 2 ^ 32 }

/-- RESET_RELEASE (R266, R362, R368, R383): TESTEN and the straps are latched; no sooner than 1 ms after a brown-out, whatever the
source of the reset. PORST_N was released only where the source is 1 or 2. -/
def execResetRelease (testen : Bool) (straps : Nat) (s : State) : Host.Outcome State Fault Refusal :=
  if s.power.phase ≠ .inReset ∨ (s.power.brownAt.any fun t => decide (s.now < t + ms 1)) then .next s
  else
    let s := s.onPower fun p => { p with
      phase := .released, origin := s.now, testen := testen, testenHeld := testen && (s.power.source ≤ 2 || s.power.testenHeld), straps := straps }
    let s := s.strapObjects straps
    .next (s.onTwi fun t => { t with addrs := s.addressObjects }).findLog

/-- FUSE_READ (R368, R380): 50 µs; a life-cycle transition that led to this start is logged (R383, R385). -/
def execFuseRead (s : State) : Host.Outcome State Fault Refusal :=
  if !s.startsUp .released (us 50) then .next s
  else
    let s := (s.toPhase .fusesRead).onPower fun p => { p with fusesRead := p.fuses }
    .next (if s.power.source = 5 then s.logEvent 0x0105 (leBytes 1 (s.life - 1) ++ leBytes 1 s.life) else s)

/-- The row-slot grid goes on from the first boundary not yet past; slots that no clock ran are not counted. -/
def State.alignSlots (s : State) : State :=
  s.onImage fun i =>
    let n := ceilDiv (s.now - i.nextSlot) slotUnits
    { i with
      nextSlot := i.nextSlot + n * slotUnits, slotNo := i.slotNo + n, sampled := none
      stepNow := if n = 0 then i.stepNow else s.rd 0x6A0005 }

/-- The pace timer and the pace measurements begin anew with their clocks (R23, R24; log entry 57). -/
def State.paceRestart (s : State) : State :=
  s.onPace fun p => { p with evalAt := s.now + us 64, runs := p.runs.map fun r => { r with since := s.now } }

/-- PLL_LOCK (R340, R368): 200 µs; shakeout and the housekeeping self-calibration start. -/
def execPllLock (s : State) : Host.Outcome State Fault Refusal :=
  if !s.startsUp .fusesRead (us 200) then .next s
  else
    let s := ((s.toPhase .pllLocked).onTiming fun t => { t with clk100 := true }).takePins
    .next s.alignSlots.paceRestart.beginHkCal

/-- LFXI_DETECTION (R296, R368, R397): a signal from 30.0 kHz to 35.5 kHz, after 8 of its periods. -/
def execLfxiDetection (hz : Nat) (s : State) : Host.Outcome State Fault Refusal :=
  if !s.startsUp .pllLocked (us 200 + (if hz = 0 then us 250 else 8 * 57000000000 / hz)) then .next s
  else .next (s.wr 0x501102 (b2n (30000 ≤ hz && hz ≤ 35500)))

/-- The lanes are released: enabled downlinks drive from now on (R164). -/
def State.releaseLanes (s : State) : State :=
  s.onLanes fun l => { l with released := true, lanes := l.lanes.map fun x => { x with since := s.now } }

/-- SHAKEOUT_COMPLETE (R32, R368): 6.2 ms; the strobes are driven inactive and the lanes released. The stores were emptied at
the reset itself. -/
def execShakeoutComplete (s : State) : Host.Outcome State Fault Refusal :=
  if !s.startsUp .pllLocked (ns 6200000) then .next s
  else
    let s := (s.toPhase .shaken).onTiming fun t => { t with driven := true }
    .next (s.eachTimer State.driveTimer).releaseLanes

/-! ### Wipes (R3, R383, R385) -/

/-- A bank written with zeros and its header with STATE 0x00 (R383). -/
def Bank.wiped : Bank := Bank.sealed ⟨false, [], bankTag, 0, false, 0, 0, 0, []⟩

/-- The MRAM-backed objects that a wipe returns to their shipped values (R383). -/
def wipedKeys : List Nat := mramKeys.filter (· != 0xB00004)

/-- The regions that both transitions wipe: moulds, shadow slot, mould journal and event log (R383). -/
def Mram.wipeCommon (m : Mram) : Mram := { m with moulds := [], shadow := none, journal := none, log := [] }

/-- The wipe into RETURN keeps the bank whose ORIGIN is 1 and the current copy of set 0; the wipe into SCRAP keeps neither
(R383, R385). -/
def Mram.wipe (target : Nat) (m : Mram) : Mram :=
  let bank (b : Bank) : Bank := if target = 2 ∧ b.origin then b else Bank.wiped
  { m.wipeCommon with
    bankA := bank m.bankA, bankB := bank m.bankB,
    sets := m.sets.map fun t => if target = 2 ∧ t.holds 0 then t else SetSlot.unused }

/-- The words that the wipe writes: banks, slots, moulds, log, mould journal and shadow slot, but for the bank and the slot that
it keeps (R383, R385). -/
def State.wipedWords (target : Nat) (s : State) : List WordRange :=
  let bank (n : Nat) : List WordRange :=
    if target = 2 ∧ (s.bankOf n).origin then [] else [(524288 * n, 524288), headerWords n]
  let slot (i : Nat) : List WordRange :=
    if target = 2 ∧ (nth s.mram.sets i SetSlot.unused).holds 0 then [] else [setWords i]
  bank 0 ++ bank 1 ++ (List.range 4).flatMap slot ++
    [(1048576, 65536), (1146880, 16384), journalWords, shadowWords] ++ wipedKeys.map objectWords

/-- The wipe of a life-cycle transition (R383, R385). -/
def State.wipe (target : Nat) (s : State) : State :=
  let words := s.wipedWords target
  (words.foldl (fun s r => s.wroteWords r) (s.onMram (Mram.wipe target))).toDefault wipedKeys

/-! ### The MRAM scan (R372) -/

/-- A life-cycle or fuse command has failed (R387). -/
def State.lifeFail (cmd cause : Nat) (s : State) : State :=
  ((s.wr 0xB00103 3).wr 0xB00104 cause).logEvent 0x0106 (leBytes 1 cmd ++ leBytes 1 cause)

/-- A transition journal found at start (R385): the wipe is done over again, or the transition never took place. -/
def State.resolveTransition (s : State) : State :=
  match s.mram.lcJournal with
  | none => s
  | some t =>
    let s := s.onMram fun m => { m with lcJournal := none }
    if bitAt s.power.fusesRead (32 + t) then (s.wipe t).logEvent 0x0105 (leBytes 1 (t - 1) ++ leBytes 1 t)
    else s.lifeFail t 0x07

/-- A bank header that reads 0x01 or 0x02 is rewritten with 0xFF (R128). -/
def State.repairBank (n : Nat) (s : State) : State :=
  if s.readable (headerWords n) ∧ ((s.bankOf n).state = 1 ∨ (s.bankOf n).state = 2) then s.bankState n 0xFF else s

/-- The bank is usable at a start: its header and its segment CRC table can be read, and are right (R33, R128). -/
def State.bankUsable (s : State) (n : Nat) : Bool :=
  s.readable (headerWords n) && s.readable (tableWords n) && (s.bankOf n).usable

/-- The bank live at a start (R128). -/
def State.bankAtStart (s : State) : Nat :=
  if s.bankUsable 0 ∧ s.bankUsable 1 then (if s.mram.bankA.gen < s.mram.bankB.gen then 1 else 0)
  else if s.bankUsable 0 then 0
  else if s.bankUsable 1 then 1
  else 0xFF

/-- The banks at a start (R128, R160). -/
def State.scanBanks (s : State) : State :=
  let s := (s.repairBank 0).repairBank 1
  let n := s.bankAtStart
  let s := (s.wr 0x401001 n).wr 0x401007 (if n ≤ 1 then n else if s.factoryBank ≤ 1 then s.factoryBank else 0)
  if n = 0xFF then s.logEvent 0x0301 (leBytes 1 s.mram.bankA.state ++ leBytes 1 s.mram.bankB.state) else s

/-- Slot `i` holds a copy of a set with a correct header and data CRC (R134); a word that cannot be read makes them wrong. -/
def State.slotOk (s : State) (i : Nat) : Bool :=
  let t := nth s.mram.sets i SetSlot.unused
  t.headerOk && t.set ≤ 2 && t.dataOk && s.readable (setWords i)

/-- Slot `i` holds the current copy of its set: of the correct ones the one with the highest generation, of equal ones the first
(R134). -/
def State.slotChosen (s : State) (i : Nat) : Bool :=
  let t := nth s.mram.sets i SetSlot.unused
  s.slotOk i && (List.range 4).all fun j =>
    let u := nth s.mram.sets j SetSlot.unused
    j == i || !s.slotOk j || u.set != t.set || u.gen < t.gen || (u.gen == t.gen && i < j)

/-- The temperature-set slots at a start: the headers of all but the current copies are rewritten as free (R134). -/
def State.scanSets (s : State) : State :=
  let keep := (List.range 4).map s.slotChosen
  let s := s.onMram fun m => { m with sets := m.sets.mapIdx fun i t => if nth keep i false then t else t.freed }
  (List.range 4).foldl (fun s i => if nth keep i false then s else s.wroteWords ((setWords i).1, 1)) s

/-- A mould copy that the journal names is completed from the shadow (R212, R372). -/
def State.repairMould (s : State) : State :=
  let s := match s.mram.journal, s.mram.shadow with
    | some n, some img => s.writeMould n img
    | _, _ => s
  if s.mram.journal.isSome then s.writeJournal none else s

/-- The set cache at a start: the current copy of the active set, all zero where it is empty or its load failed (R33, R134,
R135). -/
def State.startCache (s : State) : State :=
  s.onCorr fun c => { c with
    cache := if c.unread = some (s.rd 0x400101) then SetSlot.unused
      else (s.setCopy (s.rd 0x400101)).getD SetSlot.unused }

/-- The converter self-calibration of start-up begins, or waits for the end of quench (R113, R116, R370). -/
def State.startupSelfCal (s : State) : State :=
  if s.therm.quench then (s.wr 0x300102 4).onConv fun c => { c with rerun := true } else s.startSelfCal true

/-- The start mould's slot is read: its image, or no usable one where a word cannot be read (R33, R214). -/
def State.readStart (n : Nat) (s : State) : State :=
  (s.readWords (s.imageWords n)).bootEnds (some (if s.readable (s.imageWords n) then s.slotImage n else []))

/-- The read of the start mould's slot, or its fetch, starts (R214, R279, R368). -/
def State.fetchStart (s : State) : State :=
  let n := s.rd 0x801201
  if n = 0x0100 then s.onTwi fun t => { t with transfer := some (bootTransfer (s.rd 0xA01002) s.now) }
  else if n < 256 then s.readStart n
  else s.bootEnds none

/-- MRAM_SCAN (R33, R357, R368, R372): complete at 9.0 ms, when the converter self-calibration starts, but not before the monitor
has sampled the dies (log entry 65). While the write inhibit is in force the repairs count as made and are written when it
ends (R370). The lists name the MRAM words that hold an uncorrectable or a corrected error at this start. -/
def execMramScan (s : State) (bad corrected : List Nat := []) : Host.Outcome State Fault Refusal :=
  if !s.startsUp .shaken (ms 9) ∨ !s.therm.assessed then .next s
  else
    let s := (s.noteErrors mramWords bad corrected).readWords (1114112, 65536)
    let s := if s.inhibited then s.onPower fun p => { p with
      unwritten := some (s.mram, mramKeys.map fun k => (k, s.rd k)) } else s
    let s := s.resolveTransition.scanBanks.scanSets.repairMould.startCache.findLog
    let s := ((s.inc 0xB00004).toPhase .scanned).onPower fun p => { p with scanned := true }
    .next s.startupSelfCal.fetchStart

/-- The start mould is refused, or its fetch has failed (R214). -/
def State.startRefused (cause : Nat) (s : State) : State := (s.wr 0x801202 cause).logEvent 0x0505 (leBytes 1 cause)

/-- The pour of the start mould with image `img` as an entry of kind 1 (R214). -/
def State.pourStart (n : Nat) (img : List Byte) (s : State) : State :=
  let r := match readImage n img with
    | .inl d => s.requestEntry (mouldValues d) .idle .part (some n) (imageGen img) none false
    | .inr _ => s.requestEntry [] .idle .part none 0 none true
  if r.2 then r.1 else r.1.startRefused (r.1.rd 0x800102)

/-- START_MOULD_POUR (R214, R368): once both the read and the self-calibration are over; the load of the set cache starts. -/
def execStartMouldPour (s : State) : Host.Outcome State Fault Refusal :=
  match s.power.mouldReady with
  | none => .next s
  | some img =>
    if s.power.phase ≠ .scanned ∨ s.conv.calAt.isSome then .next s
    else
      let n := s.rd 0x801201
      let s := s.toPhase .poured
      let s := match img with
        | some b => s.pourStart (if n = 0x0100 then imageField b 4 1 else n) b
        | none => if n = 0xFFFF then s else s.startRefused 0x0A
      .next (if s.corr.loading.isSome then s else s.startCacheLoad)

/-- START_COMPLETE (R368): the cache is loaded and the start mould's hand-over has taken place; dictionary service begins. -/
def execStartComplete (s : State) : Host.Outcome State Fault Refusal :=
  if s.power.phase = .poured ∧ s.corr.loading.isNone ∧ s.stage.queue.isEmpty ∧ s.stage.window.isNone then
    let s := s.startCache.toPhase .service
    .next (s.logEvent 0x0101 (leBytes 1 s.power.source ++ leBytes 1 (s.rd 0x801202)))
  else .next s

/-- READY is high (R369). -/
def State.readyPin (s : State) : Bool :=
  s.serves && !s.quiet && s.rd 0xB02002 == 0 && s.power.sleepAt.isNone && s.life != 3

/-! ### Clocks that return (R297, R308, R343) -/

/-- The clocks of the part run again after Hold or Sleep (R297, R308, R329, R343): DMA waits are timed from here. -/
def State.clocksReturn (s : State) : State :=
  let s := s.clockReturn.hkClockReturn.thermClockReturn.alignSlots.paceRestart
  s.onDma fun d => { d with chans := d.chans.map fun c => { c with waitAt := s.now } }

/-! ### Hold (R373) -/

/-- Hold ends (R373): its PLLs relock, and the test access port leaves the pins (`State.pinsByScan`, R375). -/
def State.leaveHold (s : State) : State :=
  let held := s.rd 0xB02002 == 2
  let s := (s.wr 0xB02001 0).wr 0xB02002 0
  if held then s.clocksReturn else s

/-- A write of object 0xB020:01 (R373). -/
def State.holdWrite (v : Nat) (s : State) : State :=
  if v = 0 then s.leaveHold
  else if !s.power.testen then s.refuse abortState
  else if s.rd 0xB02002 = 0 then (s.wr 0xB02001 1).wr 0xB02002 1
  else s

/-- HOLD_REQUEST (R373). -/
def execHoldRequest (tr : Transport) (v : Nat) (s : State) : Host.Outcome State Fault Refusal :=
  .next (s.hostWrite ⟨tr, 0xB02001, 1, v⟩ (State.holdWrite v))

/-- HOLD_ENTERED (R373): once the part is idle, the converters are parked and the PLLs stop. -/
def execHoldEntered (s : State) : Host.Outcome State Fault Refusal :=
  if s.serves ∧ s.rd 0xB02002 = 1 ∧ s.idle then .next (s.wr 0xB02002 2).stopTimerClock else .next s

/-- The level of TESTEN; a low level breaks the hold of R383. -/
def State.testenLevel (b : Bool) (s : State) : State :=
  s.onPower fun p => { p with testen := b, testenHeld := p.testenHeld && b }

/-- HOLD_EXIT (R373): TESTEN falling ends Hold, else the write does. -/
def execHoldExit (tr : Transport) (v : Nat) (testen : Bool) (s : State) : Host.Outcome State Fault Refusal :=
  if s.power.testen ∧ !testen then .next (s.testenLevel false).leaveHold
  else .next ((s.testenLevel testen).hostWrite ⟨tr, 0xB02001, 1, v⟩ (State.holdWrite v))

/-! ### Sleep (R377 to R379) -/

/-- A DMA chain runs. -/
def State.dmaActive (s : State) : Bool := (List.range 8).any fun n => s.chanRuns n

/-- The conditions of R377 apart from quench, re-arm and Hold. -/
def State.settled (s : State) : Bool :=
  s.rd 0x210002 == 0 && s.rd 0x340101 == 0 && s.idle && s.stage.queue.isEmpty && s.stage.group.isNone &&
  s.conv.calAt.isNone && s.hk.calAt.isNone && s.hk.calAsked.isNone && !s.calRunning && !s.uploading &&
  !s.mapCommitting && s.stage.op.isNone && s.power.op.isNone && !s.dmaActive && s.booked == 0

/-- A write of 1 to object 0xB021:01 (R377). -/
def State.sleepWrite (s : State) : State :=
  if s.settled && !s.quiet && s.rd 0xB02002 == 0 then s.onPower fun p => { p with sleepAt := some (s.now + us 30) }
  else s.refuse abortState

/-- Sleep is entered (R377, R378): the ring switch closes, the lanes stop, the PLLs stop. -/
def State.enterSleep (s : State) : State :=
  let s := (s.closeSwitch 0).wr 0x120203 0
  let s := s.onRing fun r => { r with lastSync := none }
  let s := (s.wr 0x900301 0).wr 0x900302 0
  let s := s.onLanes fun l => { l with released := false }
  (s.onPower fun p => { p with phase := .asleep, sleepAt := none }).stopTimerClock

/-- SLEEP_REQUEST (R377): the write and, when it is accepted, the Sleep it leads to. -/
def execSleepRequest (tr : Transport) (v : Nat) (s : State) : Host.Outcome State Fault Refusal :=
  let t := s.hostCommand tr 0xB02101 v State.sleepWrite
  .next (if t.power.sleepAt = s.power.sleepAt then t else t.enterSleep)

/-- A wake event (R379): 1 two-wire, 2 TRIG0, 3 thermal comparator. -/
def State.startWake (src : Nat) (s : State) : State :=
  (s.wr 0xB02103 src).onPower fun p => { p with phase := .waking, wakeAt := some s.now, wakeQuench := src == 3 }

/-- TRIG0_WAKE (R379): `width` ns low. -/
def execTrig0Wake (width : Nat) (s : State) : Host.Outcome State Fault Refusal :=
  .next (if s.power.phase = .asleep ∧ s.rd 0xB02102 = 1 ∧ 1000 ≤ width then s.startWake 2 else s)

/-- TWI_WAKE (R275, R379): the address matches; SCL is held low until the part can go on. -/
def execTwiWake (addr : Nat) (s : State) : Host.Outcome State Fault Refusal :=
  if s.twi.rstLow ∨ (s.twiMatch addr).isNone then .next s
  else
    let hold (s : State) : State := s.onTwi fun t => { t with held := t.held.orElse fun _ => some s.now }
    match s.power.phase with
    | .asleep => .next (hold (s.startWake 1))
    | .waking => .next (hold s)
    | _ => .next s

/-- THERMAL_COMPARATOR_TRIP (R343): only while the clock is stopped; from Sleep the part wakes first, a trip during a wake
acts when the clock is back, and a trip in Hold ends Hold (log entry 17). -/
def execThermalComparatorTrip (s : State) : Host.Outcome State Fault Refusal :=
  if s.timing.clk100 then .next s
  else if s.power.phase = .asleep then .next (s.startWake 3)
  else if s.power.phase = .waking then .next (s.onPower fun p => { p with wakeQuench := true })
  else if s.serves ∧ s.rd 0xB02002 = 2 then .next ((s.wr 0xB02103 3).leaveHold.comparatorQuench)
  else .next s

/-! ### Fuses (R381) -/

/-- FUSE_KEY_WRITE (R381): the serial number arms a command for 1 s; any other value arms none. -/
def State.fuseKey (v : Nat) (s : State) : State :=
  s.onPower fun p => { p with fuseKey := if v = s.rd 0x100005 then some s.now else none }

/-- FUSE_KEY_WRITE (R381). -/
def execFuseKeyWrite (tr : Transport) (v : Nat) (s : State) : Host.Outcome State Fault Refusal :=
  .next (s.hostWrite ⟨tr, 0xB01001, 4, v⟩ (State.fuseKey v))

/-- The cause for which a blow command is refused (R381, R387). -/
def State.blowFault (s : State) : Option Nat :=
  if !(s.power.fuseKey.any fun t => decide (s.now ≤ t + ms 1000)) then some 1
  else if s.power.op.isSome then some 4
  else if s.therm.quench then some 5
  else none

/-- A blow command (R381): `cmd` in event 0x0106 and the fuse bits asked for. -/
def State.blow (cmd bits : Nat) (s : State) : State :=
  let fault := s.blowFault
  let s := s.onPower fun p => { p with fuseKey := none }
  match fault with
  | some c => (s.lifeFail cmd c).refuse abortState
  | none => (s.wr 0xB00103 1).onPower fun p => { p with op := some (.fuses cmd bits) }

/-- BLOW_RING_WRITE_DISABLE (R381). -/
def execBlowRingWriteDisable (tr : Transport) (v : Nat) (s : State) : Host.Outcome State Fault Refusal :=
  .next (s.hostWrite ⟨tr, 0xB01002, 2, v⟩ (State.blow 0x10 v))

/-- BLOW_TWO_WIRE_WRITE_DISABLE (R381). -/
def execBlowTwoWireWriteDisable (tr : Transport) (v : Nat) (s : State) : Host.Outcome State Fault Refusal :=
  .next (s.hostWrite ⟨tr, 0xB01003, 2, v⟩ (State.blow 0x11 (v * 2 ^ 16)))

/-- BLOW_FACTORY_CALIBRATION_LOCK (R381). -/
def execBlowFactoryCalibrationLock (tr : Transport) (v : Nat) (s : State) : Host.Outcome State Fault Refusal :=
  .next (s.hostCommand tr 0xB01004 v (State.blow 0x12 (2 ^ 32)))

/-- The end of a fuse command: the bits are blown, or some subset of them that the spec does not state (R381; log entry 2). -/
def State.fusesDone (cmd bits : Nat) (ok : Bool) (s : State) : State :=
  let s := s.onPower fun p => { p with op := none }
  if ok then (s.wr 0xB00103 2).onPower fun p => { p with fuses := p.fuses ||| bits }
  else
    let f := s.takeFree
    (f.2.onPower fun p => { p with fuses := p.fuses ||| (bits &&& f.1) }).lifeFail cmd 6

/-- The end of programming the fuse of a life-cycle state (R383): the wipe follows, or the journal is cleared. -/
def State.lifeFuse (target : Nat) (ok : Bool) (s : State) : State :=
  if ok then s.onPower fun p => { p with fuses := setBit p.fuses (32 + target), op := some (.life target true) }
  else
    ((s.onMram fun m => { m with lcJournal := none }).onPower fun p => { p with op := none }).lifeFail target 6

/-- FUSE_BLOW_COMPLETE (R381, R383): programming and read-back have ended. -/
def execFuseBlowComplete (ok : Bool) (s : State) : Host.Outcome State Fault Refusal :=
  match s.power.op with
  | some (.fuses cmd bits) => .next (s.fusesDone cmd bits ok)
  | some (.life target false) => .next (if s.inhibited then s else s.lifeFuse target ok)
  | _ => .next s

/-! ### Life cycle (R382 to R387) -/

/-- LIFE_CYCLE_KEY_WRITE (R383). -/
def State.lifeKey (tr : Transport) (v : Nat) (s : State) : State :=
  s.onPower fun p => { p with lifeKey := if v = s.rd 0x100005 then some (tr, s.now) else none }

/-- LIFE_CYCLE_KEY_WRITE (R383): the serial number arms a command from the same transport for 1 s. -/
def execLifeCycleKeyWrite (tr : Transport) (v : Nat) (s : State) : Host.Outcome State Fault Refusal :=
  .next (s.hostWrite ⟨tr, 0xB00102, 4, v⟩ (State.lifeKey tr v))

/-- The cause for which a move to state `target` is refused, in the order of R387. -/
def State.lifeFault (tr : Transport) (target : Nat) (s : State) : Option Nat :=
  if !(s.power.lifeKey.any fun k => k.1 == tr && decide (s.now ≤ k.2 + ms 1000)) then some 1
  else if target = 2 ∧ !s.power.testenHeld then some 2
  else if target ≠ s.life + 1 then some 3
  else if !s.settled ∨ s.therm.rearmEnd.isSome then some 4
  else if s.therm.quench ∨ s.inhibited then some 5
  else none

/-- A life-cycle command (R383, R385, R386): on acceptance the journal names the state and its fuse is blown. -/
def State.lifeCommand (tr : Transport) (target : Nat) (s : State) : State :=
  let fault := s.lifeFault tr target
  let s := s.onPower fun p => { p with lifeKey := none }
  match fault with
  | some c => (s.lifeFail target c).refuse abortState
  | none =>
    let s := ((s.wr 0xB00103 1).wr 0xB00105 0).onMram fun m => { m with lcJournal := some target }
    s.onPower fun p => { p with op := some (.life target false) }

/-- TO_RETURN (R383): a write of 2 to object 0xB001:01. -/
def execToReturn (tr : Transport) (v : Nat) (s : State) : Host.Outcome State Fault Refusal :=
  .next (s.hostWrite ⟨tr, 0xB00101, 1, v⟩ (State.lifeCommand tr v))

/-- TO_SCRAP (R385): a write of 3 to object 0xB001:01. -/
def execToScrap (tr : Transport) (v : Nat) (s : State) : Host.Outcome State Fault Refusal :=
  .next (s.hostWrite ⟨tr, 0xB00101, 1, v⟩ (State.lifeCommand tr v))

/-- WIPE_COMPLETE (R383 to R385): the journal word is cleared and the part resets with source 0x05; the wipe pauses while the
write inhibit is in force. -/
def execWipeComplete (s : State) : Host.Outcome State Fault Refusal :=
  match s.power.op with
  | some (.life target true) =>
    if s.inhibited then .next s
    else .next (((s.wipe target).onMram fun m => { m with lcJournal := none }).assertReset 5)
  | _ => .next s

/-! ### Maker test modes (R3) -/

/-- MAKER_TEST_MODE_ENTRY (R3): in RETURN only; both banks, the temperature sets and the event log are erased. -/
def execMakerTestModeEntry (s : State) : Host.Outcome State Fault Refusal :=
  if s.serves ∧ s.life = 2 ∧ !s.power.makerTest then
    let s := s.onMram fun m => { m with
      bankA := Bank.wiped, bankB := Bank.wiped, sets := m.sets.map fun _ => SetSlot.unused, log := []
      errs := m.errs.filter fun e => inWords (1048576, 65536) e.1 || 1163266 ≤ e.1 }
    .next (s.onPower fun p => { p with makerTest := true })
  else .next s

/-- MAKER_TEST_MODE_EXIT (R3, R365). -/
def execMakerTestModeExit (s : State) : Host.Outcome State Fault Refusal :=
  .next (if s.power.makerTest then s.assertReset 7 else s)

end Sys2Proof.Machine
end

