-- ==== Sys2Proof/Machine/Access.lean ====
section
/-!
DEFINITION. What a write of each object does and what a read of each object returns (R14, R191, R217, R249, R250): the objects
that are kept elsewhere than in the live store, and the registers and commands of every chapter behind one dictionary access.
-/
namespace Sys2Proof.Machine

/-! ### Reads -/

/-- Bytes of a list of signed values of `n` bytes each (R9). -/
def signedBytes (n : Nat) (l : List Int) : List Byte := l.flatMap fun x => leBytes n (ofSigned (8 * n) x)

/-- The fuse array as objects 0xB000:06 and 0xB010:05 report it (R380). -/
def fuseArray (fuses : Nat) : Nat := (fuses % 2 ^ 36 + 2 ^ 36 * Config.makerFuses) % 2 ^ 64

/-- The time that packets occupied the lanes of a sprue within the last 1 ms. -/
def State.sprueBusy (s : State) (sp : Nat) : Instant :=
  sumNat (s.lanes.recent.map fun x =>
    if x.1 = sp then min s.now (x.2.1 + blocksTime x.2.2) - max (s.now - ms 1) x.2.1 else 0)

/-- Sprue occupancy over the last 1 ms in 0.1 %, rounded down (R188, R190; log entry 18). -/
def State.occupancy (s : State) (sp : Nat) : Nat :=
  let n := ((sprueLanes sp).filter fun l => bitAt (s.rd 0x900101) l).length
  if n = 0 then 0 else min 1000 (s.sprueBusy sp * 1000 / (n * ms 1))

/-- The CRC that a bank's table holds for segment `g` (R126, R127); the factory's own where none was written since. -/
def Bank.segmentCrc (b : Bank) (g : Nat) : Nat :=
  if b.crcs.isEmpty ∧ b.factory then
    crc32 ((rangeFrom (524288 * g) 524288).flatMap fun i => leBytes 2 (factoryMap i))
  else nth b.crcs g 0

/-- The objects of range 1, common and ring, that are not in the live store. -/
def State.view1 (s : State) (key : Nat) : Option (List Byte) :=
  if key = 0x110008 then some (leBytes 1 s.stage.queue.length)
  else if key = 0x120201 then some (leBytes 8 s.ringTime)
  else if key = 0x100103 then some (leBytes 1 (b2n s.alertLow))
  else if key = 0x101001 then some (leBytes 2 (s.power.fusesRead % 2 ^ 13))
  else if key = 0x101002 then some (leBytes 2 (s.power.fusesRead / 2 ^ 16 % 2 ^ 13))
  else none

/-- The area-mode objects that follow from the live state (R61, R65, R77, R80). -/
def State.view2 (s : State) (key : Nat) : Option (List Byte) :=
  let d := s.dict
  if key = 0x210101 then some (leBytes 4 (tMinSlots d (s.rd 0x6A0005)))
  else if key = 0x210102 then
    some (leBytes 4 (if s.rd 0x210001 = 0 ∧ s.rd 0x210002 = 1 then freeRunSlots d (s.rd 0x6A0005) else 0))
  else if key / 256 = 0x2114 then some (leBytes 2 (if fusedOut d ∧ key % 256 - 1 < subCount d then gainOf d (key % 256 - 1) else 0))
  else if key = 0x212501 then some (leBytes 2 (rowReads d))
  else if key = 0x212502 then some (leBytes 4 (areaPixels d))
  else none

/-- The ladle, converter and TDI objects that are not in the live store (R27, R105, R124). -/
def State.view3 (s : State) (key : Nat) : Option (List Byte) :=
  let d := s.dict
  if key / 256 = 0x3200 then some (leBytes 2 (nth s.image.flasks (key % 256 - 1) Flask.reset).held)
  else if key / 256 = 0x3433 then some (leBytes 2 (if s.tdiMode then offsetOf d (key % 256 - 1) else 0))
  else if key = 0x345001 then some (leBytes 2 (stageRows d))
  else if key = 0x345002 then some (leBytes 4 (ceilDiv (fullStageInterval d (s.rd 0x6A0005)) 57))
  else if key = 0x345003 then some (leBytes 4 s.reserve)
  else if key = 0x345004 then some (leBytes 2 (interleave d * stageRows d))
  else if key = 0x301001 then some (signedBytes 4 s.conv.gains)
  else if key = 0x301002 then some (signedBytes 2 s.conv.offsets)
  else if key = 0x301003 then some (signedBytes 4 s.conv.gtrims)
  else if key = 0x301004 then some (signedBytes 2 s.conv.otrims)
  else none

/-- The set and bank objects (R160). -/
def State.view4 (s : State) (key : Nat) : Option (List Byte) :=
  let n := key % 256 - 1
  let set := s.setCopy n
  if key / 256 = 0x4002 then
    some (match set with
      | some t => signedBytes 2 t.points
      | none => List.replicate 10 0)
  else if key / 256 = 0x4003 then some (leBytes 1 (b2n set.isSome))
  else if key / 256 = 0x4004 then some (leBytes 4 ((set.map SetSlot.gen).getD 0))
  else if key = 0x401002 then some (leBytes 4 (if s.liveBank ≤ 1 then (s.bankOf s.liveBank).gen else 0))
  else if key = 0x401003 then some (leBytes 1 s.mram.bankA.state)
  else if key = 0x401004 then some (leBytes 1 s.mram.bankB.state)
  else if key = 0x401005 then some (leBytes 1 s.factoryBank)
  else if key / 256 = 0x4011 then some ((List.range 32).flatMap fun g => leBytes 4 ((s.bankOf n).segmentCrc g))
  else none

/-- The timer, capture and quadrature objects that are not in the live store (R304, R305, R309, R312). -/
def State.view5 (s : State) (tr : Transport) (key : Nat) : Option (List Byte) :=
  let n := key % 256 - 1
  if key / 256 = 0x5007 then some (leBytes 4 (s.timerCount n))
  else if key / 256 = 0x5008 then some (leBytes 1 (s.timerStatus n))
  else if key / 256 = 0x5106 then some (leBytes 1 (s.capture n).queue.length)
  else if key = 0x520003 then
    some (leBytes 2 (match tr with
      | .ring => s.timing.wordRing
      | .twi => s.twi.wordLatch))
  else if key = 0x520005 then some (leBytes 8 (s.position + 2 ^ 32 * s.rd 0x520004))
  else none

/-- The housekeeping and DMA objects that are not in the live store (R330, R358). -/
def State.view6 (s : State) (key : Nat) : Option (List Byte) :=
  if key = 0x600402 then some (leBytes 1 s.hk.inj.length)
  else if key = 0x600406 then some (leBytes 1 s.hk.injRes.length)
  else if key = 0x703001 then some (Mem.readAll s.dma.staging 0 1048576)
  else if key = 0x704003 then some (leBytes 4 s.heldSize)
  else none

/-- Bit n for each slot that holds an image which reads without a fault (R207, R218). -/
def State.validMask (s : State) : Nat :=
  (List.range 256).foldl (fun m n => match readImage n (s.slotImage n) with
    | .inl _ => setBit m n
    | .inr _ => m) 0

/-- The state, group and mould objects that are not in the live store (R218). -/
def State.view8 (s : State) (key : Nat) : Option (List Byte) :=
  if key = 0x800007 then some (leBytes 1 ((s.stage.group.map fun g => transportNumber g.owner).getD 0))
  else if key = 0x800008 then some (leBytes 2 ((s.stage.group.map fun g => g.values.length).getD 0))
  else if key = 0x800009 then some (leBytes 4 ((s.stage.group.map fun g => Dict.bytes g.values).getD 0))
  else if key = 0x80000B then some (leBytes 4 (Dict.bytes s.stage.loose))
  else if key = 0x801102 then some (leBytes 32 s.validMask)
  else if key = 0x801302 then some (pad 16384 (s.stage.selected.getD (s.slotImage (s.rd 0x801301))))
  else none

/-- The number of DMA staging's state in object 0x9030:04. -/
def Staging.number : Staging → Nat
  | .free => 0
  | .filling _ _ => 1
  | .writing _ _ => 2

/-- The lane objects that are not in the live store (R190). -/
def State.view9 (s : State) (key : Nat) : Option (List Byte) :=
  if key / 256 = 0x9013 then some (leBytes 2 (s.occupancy (key % 256 - 1)))
  else if key = 0x902101 then some (leBytes 4 s.sendArea)
  else if key = 0x902102 then some (leBytes 4 s.booked)
  else if 0x902103 ≤ key ∧ key ≤ 0x902106 then some (leBytes 4 (s.queuedFor (key - 0x902103)))
  else if key = 0x902108 then some (leBytes 4 (pourSize s.dict))
  else if key = 0x903004 then some (leBytes 1 s.dma.stage.number)
  else none

/-- The MiB that a wipe has written: while it runs a free value, up to the 71 MiB of the regions of R383 (R388; log entry 2). -/
def State.wipeProgress (s : State) : Nat :=
  match s.power.op with
  | some (.life _ true) => Config.freeValue s.free % 72
  | _ => 0

/-- The life-cycle and event-log objects that are not in the live store (R263, R388). -/
def State.viewB (s : State) (tr : Transport) (key : Nat) : Option (List Byte) :=
  if key = 0xB00001 then some (leBytes 1 s.life)
  else if key = 0xB00002 then some (leBytes 1 (b2n s.power.testenHeld))
  else if key = 0xB00105 then some (leBytes 1 s.wipeProgress)
  else if key = 0xB00003 then some (leBytes 1 s.power.source)
  else if key = 0xB00005 then some (leBytes 1 (b2n s.calLocked))
  else if key = 0xB00006 then some (leBytes 8 (fuseArray s.power.fusesRead))
  else if key = 0xB01005 then some (leBytes 8 (fuseArray s.power.fuses))
  else if key = 0xC00001 then some (leBytes 4 s.heldLog.length)
  else if key = 0xC00002 then some (leBytes 4 (oldestSeq s.heldLog))
  else if key = 0xC00003 then some (leBytes 4 (newestSeq s.heldLog))
  else if key = 0xC00004 then some (leBytes 4 (s.selection tr))
  else if key = 0xC00009 then some (leBytes 4 s.log.next)
  else none

/-- The value of an object that is not in the live store, if it is one of those. -/
def State.view (s : State) (tr : Transport) (key : Nat) : Option (List Byte) :=
  match key / 0x100000 with
  | 1 => s.view1 key
  | 2 => s.view2 key
  | 3 => s.view3 key
  | 4 => s.view4 key
  | 5 => s.view5 tr key
  | 6 => s.view6 key
  | 7 => s.view6 key
  | 8 => s.view8 key
  | 9 => s.view9 key
  | 11 => s.viewB tr key
  | 12 => s.viewB tr key
  | _ => none

/-- The bytes that an ordinary read of an object returns (R191, R249): a WO object its Default. -/
def State.present (s : State) (tr : Transport) (key : Nat) : List Byte :=
  (s.view tr key).getD (leBytes (objSize key) (s.rd key))

/-- The MRAM words that a read of an object needs (R34, R254): those of an MRAM-backed object, of the points of a set, of a
segment CRC table, of the selected mould. -/
def State.wordsOf (s : State) (key : Nat) : List WordRange :=
  let n := key % 256 - 1
  if isMramKey key then [objectWords key]
  else if key / 256 = 0x4002 then
    (if s.setEmpty n then [] else (List.range 5).map fun i => ((s.copyWords n).1 + pointBase i / 64, 1))
  else if key / 256 = 0x4011 then [tableWords n]
  else if key = 0x801302 then [s.imageWords (s.rd 0x801301)]
  else []

/-- A read that passed its checks: the value, or the staged view of an RWS object (R191), or one of the reads that change
something (R263, R301, R302, R305, R339). -/
def State.readValue (tr : Transport) (key : Nat) (staged : Bool) (s : State) : State :=
  if staged ∧ (objRow key).any fun r => r.acc == .rws then s.acceptData (leBytes (objSize key) (s.staged key))
  else s.needWords (s.wordsOf key) fun s =>
  if key / 256 = 0x5105 then s.readCapture (key % 256 - 1)
  else if key / 256 = 0x5109 then s.readCompatible (key % 256 - 1)
  else if key = 0x520002 then s.readLowWord tr
  else if key = 0x600405 then s.readInjected
  else if key = 0xC00005 then s.readLog tr
  else s.acceptData (s.present tr key)

/-! ### Writes -/

/-- A write of a field marked W1C that is the object's one field of bit 0 (R14). -/
def State.clearFlag (t : Txn) (bit : Nat) (s : State) : State :=
  if bitAt t.val bit then s.wr t.key (clearBit (s.rd t.key) bit) else s

/-- The counts of object 0x2101:06 are cleared (R80). -/
def State.clearPourCounts (s : State) : State := s.zero (rangeFrom 0x210103 3)

/-- The counts of object 0x3460:07 are cleared (R105). -/
def State.clearTdiCounts (s : State) : State := s.toDefault (rangeFrom 0x346001 6)

/-- The counts of object 0x8001:09 are cleared (R218). -/
def State.clearHandOverCounts (s : State) : State := s.zero (rangeFrom 0x800104 4)

/-- A write of the slot selected for reading fixes its image (R218, R234). -/
def State.selectMould (t : Txn) (s : State) : State :=
  (s.wr t.key t.val).onStage fun g => { g with selected := some (s.slotWillBe t.val) }

/-- The commands of the WO objects of ranges 1 to 3. -/
def State.command3 (t : Txn) (s : State) : State :=
  match t.key with
  | 0x120108 => s.clearRingCounts
  | 0x210007 => s.startOnePour t.val
  | 0x210106 => s.clearPourCounts
  | 0x320111 => s.clearHighWater
  | 0x320211 => s.clearLadleSlag
  | 0x340106 => s.makeOneLine t.val
  | 0x344003 => s.askRestart
  | 0x346007 => s.clearTdiCounts
  | 0x300101 => s.hostSelfCal
  | 0x310601 => s.clearConverterCounts
  | _ => s

/-- The commands of the WO objects of ranges 4 and 5. -/
def State.command5 (t : Txn) (s : State) : State :=
  match t.key with
  | 0x402301 => s.clearCorrectionCounts
  | 0x420001 => s.startCal t.val
  | 0x421001 => s.startUpload t.val
  | 0x421002 => s.finishUpload
  | 0x421003 => s.uploadFail
  | 0x500901 => s.restartTimers t.val
  | 0x510B01 => s.clearCaptureCounts
  | 0x510C01 => s.resetPrescalers t.val
  | 0x52000C => s.clearQuadratureCounts
  | _ => s

/-- The commands of the WO objects of ranges 6 and 7. -/
def State.command7 (t : Txn) (s : State) : State :=
  match t.key with
  | 0x680103 => s.clearLowestMargin
  | 0x600101 => s.askHkCal
  | 0x600401 => s.inject t.val
  | 0x600407 => s.clearHkCounts
  | 0x6A1001 => s.acknowledgeQuench t.val
  | 0x6A1109 => s.clearThermalCounts
  | 0x701201 => s.startChans t.val
  | 0x701202 => s.stopChans t.val
  | 0x702601 => s.clearDmaCounts
  | 0x704004 => s.releaseHold
  | _ => s

/-- The commands of the WO objects of ranges 8 and 9. -/
def State.command9 (t : Txn) (s : State) : State :=
  match t.key with
  | 0x800001 => s.openGroup t.tr
  | 0x800005 => s.closeGroup t.tr t.val
  | 0x800006 => s.abandonGroup t.tr t.val
  | 0x800109 => s.clearHandOverCounts
  | 0x801001 => s.pourMould t
  | 0x801002 => s.loadMould t
  | 0x801003 => s.mouldCommand 1 t.val
  | 0x801005 => s.mouldCommand 3 t.val
  | 0x902205 => s.clearLaneCounts
  | _ => s

/-- The commands of the WO objects of ranges 10 to 12. -/
def State.commandC (t : Txn) (s : State) : State :=
  match t.key with
  | 0xA00406 => s.clearTwiCounts
  | 0xA01102 => s.sendListNow
  | 0xB00101 => s.lifeCommand t.tr t.val
  | 0xB00102 => s.lifeKey t.tr t.val
  | 0xB01001 => s.fuseKey t.val
  | 0xB01002 => s.blow 0x10 t.val
  | 0xB01003 => s.blow 0x11 (t.val * 2 ^ 16)
  | 0xB01004 => s.blow 0x12 (2 ^ 32)
  | 0xB02101 => s.sleepWrite
  | 0xB02201 => s.resetWrite t.val
  | 0xC10006 => s.clearMramDiagnostics
  | _ => s

/-- A write of a WO object. -/
def State.command (t : Txn) (s : State) : State :=
  match t.key / 0x100000 with
  | 1 => s.command3 t
  | 2 => s.command3 t
  | 3 => s.command3 t
  | 4 => s.command5 t
  | 5 => s.command5 t
  | 6 => s.command7 t
  | 7 => s.command7 t
  | 8 => s.command9 t
  | 9 => s.command9 t
  | _ => s.commandC t

/-- A write of an RW object of ranges 1 to 6 that is not MRAM-backed (R14, R249). -/
def State.register6 (t : Txn) (s : State) : State :=
  if t.key = 0x120005 then s.bypassHold t.val
  else if t.key = 0x100101 then s.clearAlerts t.val
  else if t.key = 0x401006 then s.mapSwitchMode t.val
  else if t.key / 256 = 0x5008 then s.clearFlag t 1
  else if t.key / 256 = 0x510A then s.clearFlag t 1
  else if t.key = 0x520001 then s.presetPosition t.val
  else if t.key = 0x52000D then s.clearFlag t 0
  else if t.key / 256 = 0x6802 then s.writeVcore (t.key % 256) t.val
  else if t.key = 0x600201 then s.writeSequence t.val
  else if t.key = 0x600403 then s.clearFlag t 0
  else if t.key / 256 = 0x6012 then s.channelStatus t
  else if t.key / 256 = 0x6A01 then s.throttleWrite t
  else s.wr t.key t.val

/-- A write of an RW object of ranges 7 to 12 that is not MRAM-backed (R14, R249). -/
def State.registerC (t : Txn) (s : State) : State :=
  if t.key / 256 = 0x7010 ∨ t.key / 256 = 0x7011 then s.dmaRegister t
  else if t.key = 0x704001 then s.holdPour t.val
  else if 0x800002 ≤ t.key ∧ t.key ≤ 0x800004 then s.groupRegister t
  else if t.key = 0x800108 then s.clearFlag t 0
  else if t.key = 0x801301 then s.selectMould t
  else if t.key = 0x900101 then s.setEnable t.val
  else if t.key = 0x900106 ∨ t.key = 0x900107 then s.laneSetting t.key t.val
  else if t.key = 0xA00001 ∨ t.key / 256 = 0xA001 ∨ t.key / 256 = 0xA002 then s.addressWrite t
  else if t.key = 0xB02001 then s.holdWrite t.val
  else if t.key = 0xC00004 then s.select t.tr t.val
  else s.wr t.key t.val

/-- A write of an RW object that is not MRAM-backed. -/
def State.register (t : Txn) (s : State) : State :=
  if t.key < 0x700000 then s.register6 t else s.registerC t

/-- The command of a WO object whose values are 0 and 1 (R249). -/
def ObjRow.isFlag (r : ObjRow) : Bool := r.acc == .wo && r.check == .range 0 1

/-- The commands that look at their value themselves. -/
def ownsZero (key : Nat) : Bool := [0x210007, 0x340106, 0x800005, 0x800006].contains key

/-- What a write that passed the checks 1 to 6 of R254 does. -/
def State.effect (t : Txn) (s : State) : State :=
  match objRow t.key with
  | none => s
  | some r =>
    if r.acc = .rws then s.stageWrite t
    else if r.acc = .wo then
      (if r.isFlag ∧ t.val = 0 ∧ !ownsZero t.key then s else s.command t)
    else if r.mram then s.startMramWrite t
    else s.register t

/-- A general write reaches the sequencer. -/
def State.write (t : Txn) (s : State) : State := s.hostWrite t (State.effect t)

/-- A write from the bytes of its value (R9). -/
def txnOf (tr : Transport) (index sub : Nat) (data : List Byte) : Txn := ⟨tr, index * 256 + sub, data.length, leNat data⟩

/-- STAGED_WRITE (R192, R197, R203): a write of an RWS object. -/
def execStagedWrite (tr : Transport) (index sub : Nat) (data : List Byte) (s : State) : Host.Outcome State Fault Refusal :=
  .next (s.write (txnOf tr index sub data))

/-- REGISTER_WRITE (R249): a write of an object. -/
def execRegisterWrite (tr : Transport) (index sub : Nat) (data : List Byte) (s : State) : Host.Outcome State Fault Refusal :=
  .next (s.write (txnOf tr index sub data))

end Sys2Proof.Machine
end

