-- ==== Sys2Proof/Machine/Serve.lean ====
section
/-!
DEFINITION. The control sequencer: ring requests (R231 to R236), two-wire accesses (R268 to R275), the transactions that wait,
and what ends a wait: the grant of a hand-over (R195, R196) and the MRAM operations of an access (R208, R250).
-/
namespace Sys2Proof.Machine

/-! ### Segments (R234, R270) -/

/-- What a write segment leads to. -/
inductive SegStep where
  | error
  | more (b : SegBuf)
  | whole (bytes : List Byte)
  deriving DecidableEq, Repr

/-- A write segment of an object of `size` bytes that arrived at `now` meets the segment buffer (R234); `gap` is the longest wait
between arrivals. -/
def segStep (buf : Option SegBuf) (gap now : Instant) (key size offset : Nat) (data : List Byte) (last : Bool) : SegStep :=
  let cur := buf.filter fun b => decide (now ≤ b.lastAt + gap)
  let new : Option (List Byte) :=
    if offset = 0 then some data
    else
      match cur with
      | some b => if b.key = key ∧ b.bytes.length = offset then some (b.bytes ++ data) else none
      | none => none
  match new with
  | none => .error
  | some bs =>
    if size < bs.length ∨ 16384 < bs.length then .error
    else if !last then .more ⟨key, bs, now⟩
    else if bs.length = size then .whole bs
    else .error

/-! ### Ring requests (R231 to R235) -/

/-- The object of a request (R231). -/
def reqKey (p : List Byte) : Nat := payloadField p 0 2 * 256 + payloadField p 2 1

/-- The flag STAGED, SEG or LASTSEG of a request (R231). -/
def reqFlag (p : List Byte) (n : Nat) : Bool := bitAt (payloadField p 3 1) n

/-- The offset of a request (R231). -/
def reqOffset (p : List Byte) : Nat := payloadField p 4 2

/-- The length of a request (R231). -/
def reqLen (p : List Byte) : Nat := payloadField p 6 2

/-- A malformed request (R231, R233). -/
def malformed (f : Frame) : Bool :=
  let p := f.payload
  let seg := reqFlag p 1
  f.resv != 0 || f.len != p.length || 8 ≤ payloadField p 3 1 || 240 < reqLen p ||
  (!seg && (reqOffset p != 0 || reqFlag p 2)) ||
  (if f.typ = 0x01 then p.length != 8 || (seg && reqLen p == 0)
    else p.length < 9 || 248 < p.length || reqLen p + 8 != p.length)

/-- Two frames are the same request: every byte but HOPS, which the ring changes, and the CRC that follows from it (R229,
R235). -/
def sameRequest (a b : Frame) : Bool := { a with hops := 0, crc := 0 } == { b with hops := 0, crc := 0 }

/-- A request reuses the SEQ of a kept one: answered again, or refused (R235). -/
def State.repeated (k : Kept) (f : Frame) (s : State) : State :=
  if sameRequest k.req f then (s.sendFrame k.reply).inc 0x120107 else s.replyStatus f 0x07

/-- The reply to a request that was executed; it is kept (R232, R235). -/
def State.endFrame (f : Frame) (s : State) : State :=
  let a := s.answer
  let r := s.replyFrame f 0x00 a.abort a.version (if f.typ = 0x01 ∧ a.abort = 0 then a.data else [])
  let k : Kept := ⟨f.seq, f, r⟩
  (s.sendFrame r).onRing fun x => { x with kept := (x.kept ++ [k]).drop (x.kept.length - 15) }

/-- A reply now, or when the access that is under way completes (R208, R232, R250). -/
def State.frameServed (f : Frame) (s : State) : State :=
  if s.answer.deferred then s.onStage fun g => { g with serving := some (.frame f s.now) } else s.endFrame f

/-- The part of the data that an access asked for. -/
def State.cutData (off n : Nat) (s : State) : State :=
  { s with answer := { s.answer with data := (s.answer.data.drop off).take n } }

/-- The length of a non-segmented read matches the value's, or is 0 for the whole of it (R231, R254; log entry 71). -/
def readLengthOk (len size : Nat) : Bool := len == 0 || len == size

/-- A ring read (R231, R232, R234). -/
def State.serveRead (f : Frame) (s : State) : State :=
  let p := f.payload
  let key := reqKey p
  let size := (s.present .ring key).length
  if (readAbort key).isSome then (s.readNow .ring key id).frameServed f
  else if reqFlag p 1 then
    (if size ≤ reqOffset p then s.replyStatus f 0x06
      else ((s.readNow .ring key (State.readValue .ring key (reqFlag p 0))).cutData (reqOffset p) (reqLen p)).frameServed f)
  else if 240 < size then s.replyStatus f 0x05
  else if !readLengthOk (reqLen p) size then ((s.refuse 0x03010000).counted .ring key).endFrame f
  else (s.readNow .ring key (State.readValue .ring key (reqFlag p 0))).frameServed f

/-- The ring's segment buffer replaced. -/
def State.ringSeg (b : Option SegBuf) (s : State) : State := s.onRing fun r => { r with seg := b }

/-- A segment of a ring write that arrived at `at_` (R234), checked as every write is (R254). -/
def State.serveSegment (f : Frame) (at_ : Instant) (key : Nat) (s : State) : State :=
  let p := f.payload
  match s.permitAbort .ring key with
  | some c => ((s.refuse c).counted .ring key).endFrame f
  | none =>
    match segStep s.ring.seg (ms 10) at_ key (objSize key) (reqOffset p) (p.drop 8) (reqFlag p 2) with
    | .error => (s.ringSeg none).replyStatus f 0x06
    | .more b =>
      match s.stateAbort key with
      | some c => ((s.refuse c).counted .ring key).endFrame f
      | none => ((s.ringSeg (some b)).accept.counted .ring key).endFrame f
    | .whole bs =>
      let t : Txn := ⟨.ring, key, bs.length, leNat bs⟩
      ((s.ringSeg none).writeNow t (State.effect t)).frameServed f

/-- A ring write (R231, R232, R234). -/
def State.serveWrite (f : Frame) (at_ : Instant) (s : State) : State :=
  let p := f.payload
  let key := reqKey p
  let t : Txn := ⟨.ring, key, reqLen p, leNat (p.drop 8)⟩
  if (objRow key).isNone then (s.writeNow t id).frameServed f
  else if reqFlag p 1 then s.serveSegment f at_ key
  else if 240 < objSize key then s.replyStatus f 0x05
  else (s.writeNow t (State.effect t)).frameServed f

/-- A ring request that arrived at `at_` comes to be served (R235). -/
def State.serveFrame (f : Frame) (at_ : Instant) (s : State) : State :=
  match s.ring.kept.find? fun k => k.seq == f.seq with
  | some k => s.repeated k f
  | none => if f.typ = 0x01 then s.serveRead f else s.serveWrite f at_

/-- Ring requests that wait or are served (R235). -/
def State.requestsHeld (s : State) : Nat :=
  (s.stage.waiting ++ s.stage.serving.toList).countP fun j => match j with
    | .frame _ _ => true
    | _ => false

/-- A request for the part arrives (R233, R235). -/
def State.request (f : Frame) (s : State) : State :=
  if !s.serves then s.replyStatus f 0x02
  else if malformed f then s.replyStatus f 0x03
  else
    match s.ring.kept.find? fun k => k.seq == f.seq with
    | some k => s.repeated k f
    | none =>
      if 8 ≤ s.requestsHeld then (s.replyStatus f 0x01).inc 0x120106
      else if s.busy then s.wait (.frame f s.now)
      else s.serveFrame f s.now

/-- A request frame of TYPE `typ` reaches the part (R229, R231). -/
def State.requestFrame (typ : Nat) (f : Frame) (s : State) : State :=
  s.frameArrives f fun s => if s.ownFrame f ∧ f.typ = typ then s.request f else s.forward f

/-- READ_REQUEST (R231). -/
def execReadRequest (f : Frame) (s : State) : Host.Outcome State Fault Refusal := .next (s.requestFrame 0x01 f)

/-- WRITE_REQUEST (R231). -/
def execWriteRequest (f : Frame) (s : State) : Host.Outcome State Fault Refusal := .next (s.requestFrame 0x02 f)

/-! ### Two-wire accesses (R268 to R273) -/

/-- CMD, the first byte after the address byte (R268). -/
def twiCmd (bs : List Byte) : Nat := leNat (bs.take 1)

/-- The object of an access (R268). -/
def twiKey (bs : List Byte) : Nat := reqKey (bs.drop 1)

/-- FLAGS (R269). -/
def twiFlags (bs : List Byte) : Nat := payloadField (bs.drop 1) 3 1

/-- HALF (R269). -/
def twiHalf (bs : List Byte) : Nat := field (twiFlags bs) 4 3

/-- OFFSET (R268). -/
def twiOffset (bs : List Byte) : Nat := reqOffset (bs.drop 1)

/-- LENGTH (R268). -/
def twiLen (bs : List Byte) : Nat := reqLen (bs.drop 1)

/-- The data bytes of a write access (R268). -/
def twiData (bs : List Byte) : List Byte := bs.drop 9

/-- The object has type U64 (R248): the 8-byte objects but those of 0x6A03, which are byte arrays. -/
def isU64 (key : Nat) : Bool := objSize key == 8 && key / 256 != 0x6A03

/-- A write with HALF at 2, which only fills the link latch (R269). -/
def twiLatches (bs : List Byte) : Bool := twiCmd bs == 2 && isU64 (twiKey bs) && twiHalf bs == 2

/-- The abort of an access for its header, FLAGS and length, in the order of R254 (R269, R270, R273). -/
def State.twiAbort (s : State) (bs : List Byte) : Option Nat :=
  let key := twiKey bs
  let seg := bitAt (twiFlags bs) 1
  let size := (s.present .twi key).length
  match readAbort key with
  | some c => some c
  | none =>
    let acc := ((objRow key).map ObjRow.acc).getD .ro
    if twiCmd bs = 2 ∧ !twiLatches bs ∧ (acc = .ro ∨ acc = .const_) then some 0x02010000
    else if twiCmd bs = 2 ∧ !twiLatches bs ∧
        !(((objRow key).map fun r => rowAllows r .twi).getD false && s.fusesAllow .twi key) then some 0x02020000
    else if isU64 key ∧ (twiHalf bs = 0 ∨ twiLen bs ≠ 4) then some 0x03010000
    else if twiCmd bs = 2 ∧ (twiData bs).length ≠ twiLen bs then some 0x03010000
    else if !seg ∧ (256 < size ∨ 256 < twiLen bs) then some 0x03010000
    else if !seg ∧ !isU64 key ∧
        !(if twiCmd bs = 2 then twiLen bs == objSize key else readLengthOk (twiLen bs) size) then some 0x03010000
    else if 32 ≤ twiFlags bs ∨ twiHalf bs = 3 ∨ (!isU64 key ∧ twiHalf bs ≠ 0) ∨
        (!seg ∧ (twiOffset bs ≠ 0 ∨ bitAt (twiFlags bs) 2)) then some abortValue
    else if seg ∧ (twiLen bs = 0 ∨ 256 < twiLen bs) then some abortState
    else none

/-- The half of a linked value that is latched or present (R217). -/
def State.highHalf (s : State) (key : Nat) (data : List Byte) : Nat :=
  match s.twi.link with
  | some l => if l.1 = key then l.2 else leNat (data.drop 4)
  | none => leNat (data.drop 4)

/-- The answer's data replaced. -/
def State.withData (b : List Byte) (s : State) : State := { s with answer := { s.answer with data := b } }

/-- The link latch replaced (R217, R269). -/
def State.setLink (key v : Nat) (s : State) : State := s.onTwi fun t => { t with link := some (key, v) }

/-- A read of a U64 object in a half (R217, R269). -/
def State.readHalf (key half : Nat) (staged : Bool) (s : State) : State :=
  let s := State.readValue .twi key staged s
  let data := s.answer.data
  if half = 1 then (s.setLink key (leNat (data.drop 4))).withData (data.take 4)
  else s.withData (leBytes 4 (s.highHalf key data))

/-- The two-wire segment buffer replaced. -/
def State.twiSeg (b : Option SegBuf) (s : State) : State := s.onTwi fun t => { t with seg := b }

/-- A two-wire read that passed the checks of its header (R269 to R271). -/
def State.twiRead (bs : List Byte) (s : State) : State :=
  let key := twiKey bs
  let staged := bitAt (twiFlags bs) 0
  let size := (s.present .twi key).length
  if isU64 key then s.readNow .twi key (State.readHalf key (twiHalf bs) staged)
  else if bitAt (twiFlags bs) 1 then
    (if size ≤ twiOffset bs then (s.refuse abortState).counted .twi key
      else (s.readNow .twi key (State.readValue .twi key staged)).cutData (twiOffset bs) (twiLen bs))
  else s.readNow .twi key (State.readValue .twi key staged)

/-- A two-wire write that passed the checks of its header and arrived at `at_` (R269, R270); a write of a low half joins the link
latch (log entry 4). -/
def State.twiWrite (bs : List Byte) (at_ : Instant) (s : State) : State :=
  let key := twiKey bs
  let v := leNat (twiData bs)
  if twiLatches bs then ((s.setLink key v).accept).counted .twi key
  else if isU64 key then
    let t : Txn := ⟨.twi, key, 8, v + 2 ^ 32 * ((s.twi.link.map Prod.snd).getD 0)⟩
    s.writeNow t (State.effect t)
  else if bitAt (twiFlags bs) 1 then
    match segStep s.twi.seg (ms 100) at_ key (objSize key) (twiOffset bs) (twiData bs) (bitAt (twiFlags bs) 2) with
    | .error => ((s.twiSeg none).refuse abortState).counted .twi key
    | .more b =>
      match s.stateAbort key with
      | some c => (s.refuse c).counted .twi key
      | none => ((s.twiSeg (some b)).accept).counted .twi key
    | .whole d =>
      let t : Txn := ⟨.twi, key, d.length, leNat d⟩
      (s.twiSeg none).writeNow t (State.effect t)
  else
    let t : Txn := ⟨.twi, key, (twiData bs).length, v⟩
    s.writeNow t (State.effect t)

/-- An access that the sequencer has served: a read fills the read buffer (R271). -/
def State.endTwi (bs : List Byte) (s : State) : State :=
  if twiCmd bs = 1 then
    s.onTwi fun t => { t with buf := if s.answer.abort = 0 then ReadBuf.bytes s.answer.data else ReadBuf.aborted }
  else s

/-- An access whose header fails a check ends in its abort; a segment of a wrong length empties the segment buffer (R270). -/
def State.twiRefuse (bs : List Byte) (c : Nat) (s : State) : State :=
  ((if twiCmd bs = 2 ∧ c = abortState then s.twiSeg none else s).refuse c).counted .twi (twiKey bs)

/-- A committed access that arrived at `at_` is served (R269, R272). -/
def State.serveTwi (bs : List Byte) (at_ : Instant) (s : State) : State :=
  let s := match s.twiAbort bs with
    | some c => s.twiRefuse bs c
    | none => if twiCmd bs = 1 then s.twiRead bs else s.twiWrite bs at_
  if s.answer.deferred then s.onStage fun g => { g with serving := some (.twi bs at_) } else s.endTwi bs

/-! ### The phases of a transaction (R268, R271 to R273) -/

/-- A read phase returns the read buffer from byte 0, then 0xFF; with nothing to return its address is not acknowledged
(R271). -/
def State.readPhase (count : Nat) (s : State) : State :=
  match s.twi.buf with
  | .bytes b => s.acceptData ((b ++ List.replicate (count - b.length) 0xFF).take count)
  | _ => s.acceptData []

/-- A transaction that never commits leaves an abort code for object 0 (R273). -/
def State.twiDiscard (s : State) : State := (s.wr 0x102007 0x03010000).wr 0x102008 0

/-- An access reaches its commit point: it is counted and served, or waits; `later` tells that others wait before it (R253,
R272). -/
def State.commitTwi (later : Bool) (bs : List Byte) (s : State) : State :=
  let s := s.committed .twi
  if later || s.busy then s.wait (.twi bs s.now) else s.serveTwi bs s.now

/-- A write phase ends at its commit point or is discarded (R268, R272, R273). -/
def State.writePhase (later : Bool) (bs : List Byte) (stop : Bool) (s : State) : State :=
  if twiCmd bs ≠ 1 ∧ twiCmd bs ≠ 2 then (if bs.isEmpty then s.twiDiscard else s)
  else if twiCmd bs = 2 ∧ !stop then s.inc 0xA00407
  else if bs.length < 9 ∨ 265 < bs.length then s.twiDiscard
  else s.commitTwi later bs

/-- A transaction that addresses the part goes through its phase to its end, a STOP among others (R266, R271, R272). -/
def State.runPhase (later : Bool) (ph : BusPhase) (stop : Bool) (s : State) : State :=
  match ph with
  | .write bs => (s.stopIf stop).writePhase later bs stop
  | .read n => (s.stopIf stop).readPhase n

/-! ### Clock stretching (R274) -/

/-- An access waits for service, so the part is busy for the interface (R274). -/
def State.twiBusy (s : State) : Bool := s.stage.waiting.any Job.isTwi

/-- Once no access waits, SCL is released for the transaction it was held for, which goes on and commits after everything that
arrived meanwhile, at most `n` of them (R272, R274). -/
def State.releaseScl : Nat → State → State
  | 0, s => s
  | n + 1, s =>
    if s.twiBusy then s
    else
      match s.twi.bus with
      | [] => s
      | b :: _ => State.releaseScl n (s.dropBusTxn.runPhase true b.phase b.stop)

/-! ### The transactions that wait (R35, R196, R253) -/

/-- A transaction that waited is served. -/
def State.serveJob (j : Job) (s : State) : State :=
  match j with
  | .write t _ => s.writeNow t (State.effect t)
  | .read tr key _ => s.readNow tr key (State.readValue tr key false)
  | .frame f t => s.serveFrame f t
  | .twi bs t => s.serveTwi bs t

/-- A change of the address objects applies at once where the STOP of the next transaction went by while the write that carries
it waited (R266). -/
def State.lateAddresses (j : Job) (old s : State) : State :=
  if !old.twi.newAddrs && s.twi.lastStop.any (fun t => j.arrived < t) then s.applyAddresses else s

/-- Transactions that wait are served in arrival order until one of them must wait, at most `n` of them. -/
def State.drain : Nat → State → State
  | 0, s => s
  | n + 1, s =>
    if s.busy then s
    else
      match s.stage.waiting with
      | [] => s
      | j :: l =>
        let s := s.onStage fun g => { g with waiting := l }
        let s := State.lateAddresses j s (s.serveJob j)
        State.drain n (State.releaseScl s.twi.bus.length s)

/-- All that waits is served, as far as it can be. -/
def State.drainAll (s : State) : State := State.drain (s.stage.waiting.length + s.twi.bus.length) s

/-- The access being served has its answer: it is counted and answered, and the next ones follow (R232, R250, R259). -/
def State.endServing (s : State) : State :=
  let job := s.stage.serving
  let s := s.onStage fun g => { g with serving := none }
  let s := match job with
    | some (.write t _) => s.counted t.tr t.key
    | some (.frame f _) => (s.counted .ring (reqKey f.payload)).endFrame f
    | some (.twi bs _) => (s.counted .twi (twiKey bs)).endTwi bs
    | _ => s
  (if s.stage.waiting = [] then s else s.heldInWindow).drainAll

/-- MRAM_OBJECT_WRITE_COMPLETE (R250, R356): a write that has started completes; a threshold entry takes effect (R349). -/
def execMramObjectWriteComplete (s : State) : Host.Outcome State Fault Refusal :=
  match s.stage.mramWrite with
  | none => .next s
  | some t =>
    let s := ((s.onStage fun g => { g with mramWrite := none }).accept.wr t.key t.val).wroteWords (objectWords t.key)
    let s := if t.key / 256 = 0x6A03 then s.thresholdWritten (t.key % 256 - 1) else s
    .next s.endServing

/-- MOULD_READ_COMPLETE (R33, R200, R208, R209): the oldest mould read; a transaction's answer follows from its image. -/
def execMouldReadComplete (bad : List Nat) (s : State) (corrected : List Nat := []) : Host.Outcome State Fault Refusal :=
  match s.stage.reads with
  | [] => .next s
  | r :: _ =>
    if r.txn.isSome then .next (s.endRead r bad corrected).endServing else .next (s.endRead r bad corrected)

/-! ### Two-wire transactions (R266, R271 to R275) -/

/-- The interface may not hold SCL low: in Hold or with TESTEN high, in quench, and until the first STOP after TWI_RST_N
(R274). -/
def State.neverStretches (s : State) : Bool :=
  s.rd 0xB02002 == 2 || s.power.testen || s.rd 0x6A1002 % 4 != 0 || s.twi.recovery

/-- SCL is held low for a transaction (R274, R275). -/
def State.holdScl (ph : BusPhase) (stop : Bool) (s : State) : State :=
  s.onTwi fun t => { t with bus := t.bus ++ [⟨ph, stop, s.now⟩] }

/-- A transaction addresses the part: outside reset, TWI_RST_N and Sleep an address that matches is acknowledged once the
dictionary is served, but not by a busy part that never stretches, which counts it; a group address never takes a read phase
(R266, R267, R274, R275). -/
def State.addressed (addr : Nat) (ph : BusPhase) (stop : Bool) (s : State) : State :=
  if s.power.phase = .inReset ∨ s.power.phase = .asleep ∨ s.twi.rstLow then s
  else
    match s.twiMatch addr with
    | none => s.stopIf stop
    | some group =>
      if s.power.phase = .waking then s.holdScl ph stop
      else if !s.serves then s.stopIf stop
      else if s.twiBusy ∧ s.neverStretches then (s.stopIf stop).inc 0xA00404
      else if group && (ph matches .read _) then (s.stopIf stop).acceptData []
      else if s.twiBusy then s.holdScl ph stop
      else s.runPhase false ph stop

/-- TWI_WRITE_TRANSACTION (R272): it ends in a STOP. -/
def execTwiWriteTransaction (addr : Nat) (bytes : List Byte) (s : State) : Host.Outcome State Fault Refusal :=
  .next (s.addressed addr (.write bytes) true)

/-- TWI_READ_HEADER (R271, R272): it ends in a STOP or in a repeated START. -/
def execTwiReadHeader (addr : Nat) (bytes : List Byte) (stop : Bool) (s : State) : Host.Outcome State Fault Refusal :=
  .next (s.addressed addr (.write bytes) stop)

/-- TWI_WRITE_DISCARDED (R272): the write phase ends in a repeated START. -/
def execTwiWriteDiscarded (addr : Nat) (bytes : List Byte) (s : State) : Host.Outcome State Fault Refusal :=
  .next (s.addressed addr (.write bytes) false)

/-- TWI_READ_PHASE (R267, R271, R274): the read it would return may have to be served first. -/
def execTwiReadPhase (addr count : Nat) (stop : Bool) (s : State) : Host.Outcome State Fault Refusal :=
  .next (s.addressed addr (.read count) stop)

/-- What the return from Sleep does beside the two-wire interface (R112, R343, R379): the clocks run, the lanes are released with
no credit and the VCORE loop resumes; a wake by the comparator enters quench. -/
def State.wake (s : State) : State :=
  let quench := s.power.wakeQuench
  let s := s.onPower fun p => { p with phase := .service, wakeAt := none, wakeQuench := false }
  let s := s.clocksReturn.darkRestart
  let s := (s.zero (rangeFrom 0x901001 32 ++ rangeFrom 0x901101 32)).releaseLanes
  if quench then s.comparatorQuench else s

/-- WAKE_COMPLETE (R275, R379): 200 µs after the wake event; SCL is released, and the transaction that woke the part goes on. -/
def execWakeComplete (s : State) : Host.Outcome State Fault Refusal :=
  match s.power.wakeAt with
  | none => .next s
  | some t =>
    if s.power.phase ≠ .waking ∨ s.now < t + us 200 then .next s
    else
      let s := s.wake
      let s := match s.twi.held with
        | some t => (s.noteStretch t).onTwi fun x => { x with held := none }
        | none => s
      .next (State.releaseScl s.twi.bus.length s).drainAll

/-! ### Hand-overs: the grant and idle (R195, R196) -/

/-- The new live values reach the timers, the capture channels and the strobe drivers (R196, R280, R287, R300). -/
def State.grant (s : State) : State :=
  let old := Dict.setAll s.dict s.stage.granted
  let s := ((s.grantTimers old).grantGrid old).grantQuadrature old
  let s := (List.range 4).foldl (State.grantCapture old) s
  let s := if s.stage.granted.any fun w => w.1 == 0xA01101 then s.sendList else s
  s.onStage fun g => { g with granted := [], window := none }

/-- HAND_OVER_GRANT (R196): 40 ns after the boundary request; the transaction in the holding latch is applied. -/
def execHandOverGrant (s : State) : Host.Outcome State Fault Refusal :=
  match s.stage.window with
  | none => .next s
  | some t => if t + ns 40 ≤ s.now then .next s.grant.drainAll else .next s

/-- A source that a hand-over at idle makes free-running makes its first event at the grant (R65, R85). -/
def State.freeRunBegins (old : Dict) (s : State) : State :=
  let s := if s.rd 0x210001 = 0 ∧ s.rd 0x210002 = 1 ∧ !(old.get 0x210001 = 0 ∧ old.get 0x210002 = 1) then
      s.onImage fun i => { i with freeAt := some s.now } else s
  if s.rd 0x210001 = 1 ∧ s.rd 0x340101 = 1 ∧ !(old.get 0x210001 = 1 ∧ old.get 0x340101 = 1) then
    s.onTdi fun t => { t with freeAt := some s.now } else s

/-- The hand-over of an entry at idle (R195). -/
def State.idleHandOver (e : Entry) (s : State) : State :=
  ((s.handOver e (s.rd 0x110003) s.position none).grant).freeRunBegins s.dict

/-- HAND_OVER_AT_IDLE (R194, R195): the head entry, once its condition is met and it is ready. -/
def execHandOverAtIdle (s : State) : Host.Outcome State Fault Refusal :=
  if !(s.idle ∧ s.imaging ∧ s.stage.window.isNone) then .next s
  else
    let s := s.markIdle
    match s.stage.queue with
    | e :: _ => if e.due ∧ s.ready e then .next (s.idleHandOver e) else .next s
    | [] => .next s

end Sys2Proof.Machine
end

