-- ==== Sys2Proof/Machine/Dispatch.lean ====
section
/-!
DEFINITION. What each command does: one direct call of its meaning for every row of spec/opcode_table.json.
-/
namespace Sys2Proof.Machine

def exec (i : Instr) (s : State) : Host.Outcome State Fault Refusal :=
  match i with
  | .rowSlot levels dark refs => Sys2Proof.Machine.execRowSlot levels dark refs s
  | .coreRow flask => Sys2Proof.Machine.execCoreRow flask s
  | .mapWindowFetch flask bad corrected => Sys2Proof.Machine.execMapWindowFetch flask bad corrected s
  | .paceMeasurement flask busy => Sys2Proof.Machine.execPaceMeasurement flask busy s
  | .replicaMeasurement flask margin => Sys2Proof.Machine.execReplicaMeasurement flask margin s
  | .paceEvaluation => Sys2Proof.Machine.execPaceEvaluation s
  | .vcoreLoopConfigWrite tr sub v => Sys2Proof.Machine.execVcoreLoopConfigWrite tr sub v s
  | .clearLowestMargin tr v => Sys2Proof.Machine.execClearLowestMargin tr v s
  | .clearHighWaterMarks tr v => Sys2Proof.Machine.execClearHighWaterMarks tr v s
  | .clearLadleSlagCounts tr v => Sys2Proof.Machine.execClearLadleSlagCounts tr v s
  | .captureInputEdge ch level => Sys2Proof.Machine.execCaptureInputEdge ch level s
  | .trigPinEdge pin level => Sys2Proof.Machine.execTrigPinEdge pin level s
  | .heldStartEventAccept => Sys2Proof.Machine.execHeldStartEventAccept s
  | .freeRunStartEvent => Sys2Proof.Machine.execFreeRunStartEvent s
  | .startOnePour tr v => Sys2Proof.Machine.execStartOnePour tr v s
  | .exposureStart => Sys2Proof.Machine.execExposureStart s
  | .transferSequence => Sys2Proof.Machine.execTransferSequence s
  | .freeRunLineTrigger => Sys2Proof.Machine.execFreeRunLineTrigger s
  | .makeOneLine tr v => Sys2Proof.Machine.execMakeOneLine tr v s
  | .restartTdi tr v => Sys2Proof.Machine.execRestartTdi tr v s
  | .quadratureEdge a b => Sys2Proof.Machine.execQuadratureEdge a b s
  | .encZEdge level => Sys2Proof.Machine.execEncZEdge s level
  | .positionChangeSample => Sys2Proof.Machine.execPositionChangeSample s
  | .positionPreset tr v => Sys2Proof.Machine.execPositionPreset tr v s
  | .positionLowWordRead tr => Sys2Proof.Machine.execPositionLowWordRead tr s
  | .foregroundSelfCalibration tr v => Sys2Proof.Machine.execForegroundSelfCalibration tr v s
  | .selfCalibrationResult measured => Sys2Proof.Machine.execSelfCalibrationResult measured s
  | .trimPeriodEnd => Sys2Proof.Machine.execTrimPeriodEnd s
  | .clearConverterCounts tr v => Sys2Proof.Machine.execClearConverterCounts tr v s
  | .darkRun tr => Sys2Proof.Machine.execDarkRun tr s
  | .columnRun tr => Sys2Proof.Machine.execColumnRun tr s
  | .flatRun tr => Sys2Proof.Machine.execFlatRun tr s
  | .fullMapRun tr => Sys2Proof.Machine.execFullMapRun tr s
  | .seedRun tr => Sys2Proof.Machine.execSeedRun tr s
  | .acquisitionStart => Sys2Proof.Machine.execAcquisitionStart s
  | .acquisitionComplete => Sys2Proof.Machine.execAcquisitionComplete s
  | .calibrationWaitTundish => Sys2Proof.Machine.execCalibrationWaitTundish s
  | .mapEntriesComputed => Sys2Proof.Machine.execMapEntriesComputed s
  | .mapSegmentWritten ok => Sys2Proof.Machine.execMapSegmentWritten ok s
  | .setCommitComplete ok => Sys2Proof.Machine.execSetCommitComplete ok s
  | .setCacheLoadComplete bad corrected => Sys2Proof.Machine.execSetCacheLoadComplete s bad corrected
  | .mapSwitchModeWrite tr v => Sys2Proof.Machine.execMapSwitchModeWrite tr v s
  | .startMapUpload tr v => Sys2Proof.Machine.execStartMapUpload tr v s
  | .startSetUpload tr v => Sys2Proof.Machine.execStartSetUpload tr v s
  | .finishUpload tr v => Sys2Proof.Machine.execFinishUpload tr v s
  | .abortUpload tr v => Sys2Proof.Machine.execAbortUpload tr v s
  | .uploadTimeout => Sys2Proof.Machine.execUploadTimeout s
  | .clearCorrectionCounts tr v => Sys2Proof.Machine.execClearCorrectionCounts tr v s
  | .uplinkBlockLock ul => Sys2Proof.Machine.execUplinkBlockLock ul s
  | .uplinkLossOfLock ul signal errors => Sys2Proof.Machine.execUplinkLossOfLock ul s signal errors
  | .uplinkHighBer ul high => Sys2Proof.Machine.execUplinkHighBer ul high s
  | .creditGrant ul mask limits => Sys2Proof.Machine.execCreditGrant ul mask limits s
  | .bulkChunk ul useq target segment offset data => Sys2Proof.Machine.execBulkChunk ul useq target segment offset data s
  | .segmentEnd ul useq target segment length crc => Sys2Proof.Machine.execSegmentEnd ul useq target segment length crc s
  | .quiesce ul lane => Sys2Proof.Machine.execQuiesce ul lane s
  | .resume ul lane => Sys2Proof.Machine.execResume ul lane s
  | .retrain ul lane => Sys2Proof.Machine.execRetrain ul lane s
  | .retrainEnd lane => Sys2Proof.Machine.execRetrainEnd lane s
  | .uplinkPacketDiscard ul packet => Sys2Proof.Machine.execUplinkPacketDiscard ul s packet
  | .stagingAbandon => Sys2Proof.Machine.execStagingAbandon s
  | .packetDispatch sprue => Sys2Proof.Machine.execPacketDispatch sprue s
  | .packetSent lane => Sys2Proof.Machine.execPacketSent lane s
  | .laneMarker lane => Sys2Proof.Machine.execLaneMarker lane s
  | .creditStall sprue => Sys2Proof.Machine.execCreditStall sprue s
  | .pourAgeDrop => Sys2Proof.Machine.execPourAgeDrop s
  | .downlinkEnableWrite tr v => Sys2Proof.Machine.execDownlinkEnableWrite tr v s
  | .testPatternWrite tr v => Sys2Proof.Machine.execTestPatternWrite tr v s
  | .clearLaneCounts tr v => Sys2Proof.Machine.execClearLaneCounts tr v s
  | .stagedWrite tr index sub data => Sys2Proof.Machine.execStagedWrite tr index sub data s
  | .registerWrite tr index sub data => Sys2Proof.Machine.execRegisterWrite tr index sub data s
  | .mramObjectWriteComplete => Sys2Proof.Machine.execMramObjectWriteComplete s
  | .openCommitGroup tr v => Sys2Proof.Machine.execOpenCommitGroup tr v s
  | .closeCommitGroup tr v => Sys2Proof.Machine.execCloseCommitGroup tr v s
  | .abandonCommitGroup tr v => Sys2Proof.Machine.execAbandonCommitGroup tr v s
  | .groupIdleTimeout => Sys2Proof.Machine.execGroupIdleTimeout s
  | .handOverAtIdle => Sys2Proof.Machine.execHandOverAtIdle s
  | .handOverGrant => Sys2Proof.Machine.execHandOverGrant s
  | .pourMould tr n => Sys2Proof.Machine.execPourMould tr n s
  | .loadMould tr n => Sys2Proof.Machine.execLoadMould tr n s
  | .mouldReadComplete bad corrected => Sys2Proof.Machine.execMouldReadComplete bad s corrected
  | .storeMould tr n => Sys2Proof.Machine.execStoreMould tr n s
  | .eraseMould tr n => Sys2Proof.Machine.execEraseMould tr n s
  | .mouldOperationComplete how => Sys2Proof.Machine.execMouldOperationComplete how s
  | .trainingAchieved => Sys2Proof.Machine.execTrainingAchieved s
  | .ringJoin => Sys2Proof.Machine.execRingJoin s
  | .lossOfTraining errors signal => Sys2Proof.Machine.execLossOfTraining errors signal s
  | .bypassHoldWrite tr v => Sys2Proof.Machine.execBypassHoldWrite tr v s
  | .readRequest f => Sys2Proof.Machine.execReadRequest f s
  | .writeRequest f => Sys2Proof.Machine.execWriteRequest f s
  | .enumerate f => Sys2Proof.Machine.execEnumerate f s
  | .sync f residence => Sys2Proof.Machine.execSync f residence s
  | .syncTimeout => Sys2Proof.Machine.execSyncTimeout s
  | .ringTimeSaturated => Sys2Proof.Machine.execRingTimeSaturated s
  | .tap f => Sys2Proof.Machine.execTap f s
  | .tapActionTime => Sys2Proof.Machine.execTapActionTime s
  | .rollCall f => Sys2Proof.Machine.execRollCall f s
  | .unknownFrameType f => Sys2Proof.Machine.execUnknownFrameType f s
  | .frameForward f => Sys2Proof.Machine.execFrameForward f s
  | .frameInsert => Sys2Proof.Machine.execFrameInsert s
  | .clearRingCounts tr v => Sys2Proof.Machine.execClearRingCounts tr v s
  | .alertStatusWrite tr v => Sys2Proof.Machine.execAlertStatusWrite tr v s
  | .clearTransportCounts tr v => Sys2Proof.Machine.execClearTransportCounts tr v s
  | .eventLogged code data => Sys2Proof.Machine.execEventLogged code data s
  | .logEntryWrite => Sys2Proof.Machine.execLogEntryWrite s
  | .logEntryRead tr => Sys2Proof.Machine.execLogEntryRead tr s
  | .clearMramDiagnostics tr v => Sys2Proof.Machine.execClearMramDiagnostics tr v s
  | .twiWriteTransaction addr bytes => Sys2Proof.Machine.execTwiWriteTransaction addr bytes s
  | .twiReadHeader addr bytes stop => Sys2Proof.Machine.execTwiReadHeader addr bytes stop s
  | .twiReadPhase addr count stop => Sys2Proof.Machine.execTwiReadPhase addr count stop s
  | .twiWriteDiscarded addr bytes => Sys2Proof.Machine.execTwiWriteDiscarded addr bytes s
  | .twiBusError cause => Sys2Proof.Machine.execTwiBusError cause s
  | .twiRstNAssert => Sys2Proof.Machine.execTwiRstNAssert s
  | .twiWake addr => Sys2Proof.Machine.execTwiWake addr s
  | .bootMouldFetch status image => Sys2Proof.Machine.execBootMouldFetch status image s
  | .sendListNow tr v => Sys2Proof.Machine.execSendListNow tr v s
  | .controllerTransferEnd status => Sys2Proof.Machine.execControllerTransferEnd status s
  | .controllerRetry => Sys2Proof.Machine.execControllerRetry s
  | .busNotFreeTimeout => Sys2Proof.Machine.execBusNotFreeTimeout s
  | .clearTwiCounts tr v => Sys2Proof.Machine.execClearTwiCounts tr v s
  | .timerValley ch => Sys2Proof.Machine.execTimerValley ch s
  | .restartChannels tr v => Sys2Proof.Machine.execRestartChannels tr v s
  | .strobePulseStart ch => Sys2Proof.Machine.execStrobePulseStart ch s
  | .strobePulseEnd ch => Sys2Proof.Machine.execStrobePulseEnd ch s
  | .lfClockSwitch => Sys2Proof.Machine.execLfClockSwitch s
  | .resetPrescalers tr v => Sys2Proof.Machine.execResetPrescalers tr v s
  | .captureEntryRead tr ch => Sys2Proof.Machine.execCaptureEntryRead tr ch s
  | .compatibleCaptureRead tr ch => Sys2Proof.Machine.execCompatibleCaptureRead tr ch s
  | .clearCaptureCounts tr v => Sys2Proof.Machine.execClearCaptureCounts tr v s
  | .clearQuadratureCounts tr v => Sys2Proof.Machine.execClearQuadratureCounts tr v s
  | .startChannels tr v => Sys2Proof.Machine.execStartChannels tr v s
  | .stopChannels tr v => Sys2Proof.Machine.execStopChannels tr v s
  | .descriptorFetch ch => Sys2Proof.Machine.execDescriptorFetch ch s
  | .dmaElementComplete ch => Sys2Proof.Machine.execDmaElementComplete ch s
  | .dmaNoResponse ch => Sys2Proof.Machine.execDmaNoResponse ch s
  | .submitRelease => Sys2Proof.Machine.execSubmitRelease s
  | .heldPourWrite tr v => Sys2Proof.Machine.execHeldPourWrite tr v s
  | .releaseHold tr v => Sys2Proof.Machine.execReleaseHold tr v s
  | .clearDmaCounts tr v => Sys2Proof.Machine.execClearDmaCounts tr v s
  | .housekeepingSampleEnd code dv clamped => Sys2Proof.Machine.execHousekeepingSampleEnd code dv clamped s
  | .sequenceStart tr v => Sys2Proof.Machine.execSequenceStart tr v s
  | .sequenceStop tr v => Sys2Proof.Machine.execSequenceStop tr v s
  | .sequencePostDelayEnd => Sys2Proof.Machine.execSequencePostDelayEnd s
  | .injectedRequest tr v => Sys2Proof.Machine.execInjectedRequest tr v s
  | .injectedResultRead tr => Sys2Proof.Machine.execInjectedResultRead tr s
  | .clearHousekeepingCounts tr v => Sys2Proof.Machine.execClearHousekeepingCounts tr v s
  | .housekeepingSelfCalibration tr v => Sys2Proof.Machine.execHousekeepingSelfCalibration tr v s
  | .housekeepingCalibrationEnd offset gain vbg inl weights => Sys2Proof.Machine.execHousekeepingCalibrationEnd offset gain vbg inl s weights
  | .monitorPeriod => Sys2Proof.Machine.execMonitorPeriod s
  | .thermalComparatorTrip => Sys2Proof.Machine.execThermalComparatorTrip s
  | .acknowledgeQuench tr v => Sys2Proof.Machine.execAcknowledgeQuench tr v s
  | .reArmEnd => Sys2Proof.Machine.execReArmEnd s
  | .clearThermalCounts tr v => Sys2Proof.Machine.execClearThermalCounts tr v s
  | .powerOn => Sys2Proof.Machine.execPowerOn s
  | .porstNPulse width => Sys2Proof.Machine.execPorstNPulse width s
  | .brownOut => Sys2Proof.Machine.execBrownOut s
  | .resetCommand tr v => Sys2Proof.Machine.execResetCommand tr v s
  | .sequencerWatchdog => Sys2Proof.Machine.execSequencerWatchdog s
  | .fuseRead => Sys2Proof.Machine.execFuseRead s
  | .pllLock => Sys2Proof.Machine.execPllLock s
  | .lfxiDetection hz => Sys2Proof.Machine.execLfxiDetection hz s
  | .shakeoutComplete => Sys2Proof.Machine.execShakeoutComplete s
  | .mramScan bad corrected => Sys2Proof.Machine.execMramScan s bad corrected
  | .startMouldPour => Sys2Proof.Machine.execStartMouldPour s
  | .startComplete => Sys2Proof.Machine.execStartComplete s
  | .holdRequest tr v => Sys2Proof.Machine.execHoldRequest tr v s
  | .holdEntered => Sys2Proof.Machine.execHoldEntered s
  | .holdExit tr v testen => Sys2Proof.Machine.execHoldExit tr v testen s
  | .sleepRequest tr v => Sys2Proof.Machine.execSleepRequest tr v s
  | .trig0Wake width => Sys2Proof.Machine.execTrig0Wake width s
  | .wakeComplete => Sys2Proof.Machine.execWakeComplete s
  | .fuseKeyWrite tr v => Sys2Proof.Machine.execFuseKeyWrite tr v s
  | .blowRingWriteDisable tr v => Sys2Proof.Machine.execBlowRingWriteDisable tr v s
  | .blowTwoWireWriteDisable tr v => Sys2Proof.Machine.execBlowTwoWireWriteDisable tr v s
  | .blowFactoryCalibrationLock tr v => Sys2Proof.Machine.execBlowFactoryCalibrationLock tr v s
  | .lifeCycleKeyWrite tr v => Sys2Proof.Machine.execLifeCycleKeyWrite tr v s
  | .toReturn tr v => Sys2Proof.Machine.execToReturn tr v s
  | .toScrap tr v => Sys2Proof.Machine.execToScrap tr v s
  | .makerTestModeEntry => Sys2Proof.Machine.execMakerTestModeEntry s
  | .trstNAssert => Sys2Proof.Machine.execTrstNAssert s
  | .extest => Sys2Proof.Machine.execExtest s
  | .samplePreload pins cells => Sys2Proof.Machine.execSamplePreload pins cells s
  | .idcode => Sys2Proof.Machine.execIdcode s
  | .highz => Sys2Proof.Machine.execHighz s
  | .clamp => Sys2Proof.Machine.execClamp s
  | .bypass => Sys2Proof.Machine.execBypass s
  | .timerCompareMatch ch => Sys2Proof.Machine.execTimerCompareMatch ch s
  | .resetRelease testen straps => Sys2Proof.Machine.execResetRelease testen straps s
  | .wipeComplete => Sys2Proof.Machine.execWipeComplete s
  | .fuseBlowComplete ok => Sys2Proof.Machine.execFuseBlowComplete ok s
  | .makerTestModeExit => Sys2Proof.Machine.execMakerTestModeExit s
  | .twiRstNRelease => Sys2Proof.Machine.execTwiRstNRelease s

end Sys2Proof.Machine
end

