-- ==== Sys2Proof/Machine/Tick.lean ====
section
/-!
DEFINITION. One tick of 10 ns with no command (log entry 5): the time, ring time, timers, sampled history and
the monitor's schedule go on, and a reset
or Sleep that was commanded takes place when it is due.
-/
namespace Sys2Proof.Machine

/-- The capture filters keep the last 31 samples of ring time, position and wrap count (R299, R301). -/
def State.tickHistory (s : State) : State :=
  if s.timing.clk100 then
    s.onTiming fun t => { t with hist := ((s.ringTime, s.position, s.rd 0x520004) :: t.hist).take 31 }
  else s

/-- The time goes on. -/
def State.tickTime (s : State) : State := { s with now := s.now + tickUnits }

/-- Ring time counts from the release of reset on (R239), and a frame of the insertion buffer leaves when it can (R226). -/
def State.tickRing (s : State) : State := if s.power.phase = .inReset then s else (s.onRing Ring.tick).drainIns

/-- The timers count on the clock they have (R283, R296), and a level that R289 held back follows. -/
def State.tickClocks (s : State) : State := (if s.timing.clk100 then s.tickTimers else s.tickLf).releaseLevels

/-- A commanded reset takes place 10 µs after its reply, a commanded Sleep 30 µs after (R365, R377). -/
def State.tickPower (s : State) : State :=
  if s.power.resetAt.any fun t => decide (t ≤ s.now) then s.assertReset 4
  else if s.power.sleepAt.any fun t => decide (t ≤ s.now) then s.enterSleep
  else s

/-- One tick. -/
def State.tick (s : State) : State := s.tickHistory.tickTime.tickRing.tickClocks.tickMonitor.watchHeads.settleBanks.tickPower

end Sys2Proof.Machine
end

