-- ==== Sys2Proof/Machine/Pins.lean ====
section
/-!
DEFINITION. The levels of the output pins (R26, R257, R294, R362, R366, R369), and the boundary register's hold on them (R375, R400).
-/
namespace Sys2Proof.Machine

/-- The single-ended digital pins that the part can drive (R400, R402). -/
inductive OutPin where
  | ready
  | alertN
  | twiScl
  | twiSda
  | vid (n : Nat)
  | stb (n : Nat)
  deriving DecidableEq, Repr

/-- The boundary cell that holds a pin's data; the cell after it is its enable cell. Cells are taken in the order of the land
list: LFXI, PORST_N, TESTEN, READY, ALERT_N, TWI_SCL, TWI_SDA, TWI_RST_N, TWI_A0, TWI_A1, VID, ENC, TRIG, STB (R400, R402). -/
def OutPin.dataCell : OutPin → Nat
  | .ready => 3
  | .alertN => 5
  | .twiScl => 8
  | .twiSda => 11
  | .vid n => 16 + 2 * n
  | .stb n => 31 + 2 * n

/-- A pin that is only pulled low or released (R394, R400). -/
def OutPin.openDrain : OutPin → Bool
  | .alertN | .twiScl | .twiSda => true
  | _ => false

/-- What the part makes of a pin by its own logic, none where it does not drive it: READY (R369), ALERT_N (R257), the VID code
(R26, R362) and the strobes (R294). The bits on TWI_SCL and TWI_SDA are below the commands (log entry 53). -/
def State.ownLevel (s : State) : OutPin → Option Bool
  | .ready => some s.readyPin
  | .alertN => if s.alertLow then some false else none
  | .vid n => some (bitAt (s.rd 0x680203) n)
  | .stb n => s.stbPin n
  | .twiScl | .twiSda => none

/-- What the boundary register makes of a pin: driven where its enable cell is 1, an open-drain pin only to low (R400). -/
def State.scanLevel (s : State) (p : OutPin) : Option Bool :=
  let data := bitAt s.jtag.update p.dataCell
  if bitAt s.jtag.update (p.dataCell + 1) && !(p.openDrain && data) then some data else none

/-- The level at which the part drives a pin, none where it does not: the boundary register's under EXTEST and CLAMP, none under
HIGHZ, else its own (R375). -/
def State.pinLevel (s : State) (p : OutPin) : Option Bool :=
  if s.pinsByScan then s.scanLevel p else if s.pinsFloat then none else s.ownLevel p

end Sys2Proof.Machine
end

