-- ==== Sys2Proof/Safety.lean ====
section
/-!
DEFINITION. The terms the statements use: the canonical form of the stores and buffers, when the part takes an access of the
host, which write a command of the host makes, and what stays unchanged.
-/
namespace Sys2Proof.Machine

/-- The object store and the two addressed buffers are in canonical form. -/
def State.canonical (s : State) : Bool :=
  Dict.wf s.dict && Mem.wf s.dma.index && Mem.wf s.dma.staging

/-- The sequencer applies a write at once and no check of R252, R254, R236 or R382 refuses it. -/
def State.admits (s : State) (t : Txn) : Prop := s.hears t.tr = true ∧ s.busy = false ∧ s.writeAbort t = none

/-- The sequencer serves a read at once and no check of R254 refuses it. -/
def State.admitsRead (s : State) (tr : Transport) (key : Nat) : Prop :=
  s.hears tr = true ∧ s.busy = false ∧ readAbort key = none

/-- The objects in which an access through a transport is counted and reported (R259, R272). -/
def accessCounters (tr : Transport) : List Nat :=
  [(transportKeys tr).1, (transportKeys tr).2.1, (transportKeys tr).2.2.1, (transportKeys tr).2.2.2] ++
    if tr = .twi then [0xA00401] else []

/-- Every object but the listed ones reads in the live store as before. -/
def sameObjects (ks : List Nat) (s t : State) : Prop := ∀ k, k ∉ ks → t.rd k = s.rd k

/-- A counter that saturates at 0xFFFF_FFFF one step on. -/
def countUp (n : Nat) : Nat := min 0xFFFFFFFF (n + 1)

/-- Start events and line triggers count: the part makes pours, no quench, re-arm or Hold discards them, and no hand-over waits. -/
def State.takesEvents (s : State) : Prop := s.makesPours = true ∧ s.eventsOff = false ∧ s.stage.queue = []

/-- A start event at `at_` would be accepted: start events count, none is held, and the schedule of R64 holds. -/
def State.takesPour (s : State) (at_ : Instant) : Prop :=
  s.takesEvents ∧ s.image.held = none ∧ s.scheduleOk s.dict at_ = true

/-- `t` is `s` with one more pour in progress, whose boundary is at `at_`: it takes the next pour index, fixes the live values and
is stamped with ring time and position as they stood at `at_`, and the pour index object follows it (R63, R202). -/
def pourAccepted (s t : State) (at_ : Instant) : Prop :=
  ∃ p, t.image.pours = s.image.pours ++ [p] ∧ p.area = true ∧ p.idx = s.nextIndex ∧ p.at_ = at_ ∧
    p.rtime = (s.stampAt at_).1 ∧ p.enc = (s.stampAt at_).2.1 ∧ t.rd 0x110003 = s.nextIndex ∧ t.image.held = none ∧
    t.mram = s.mram ∧ t.stage.queue = []

/-- `t` is `s` after a line boundary at `at_`: the line takes the next pour index and is stamped with ring time as it stood at
`at_` and with position `enc`; it joins the lines in progress, of which those leave that are complete; the boundary is the last
one (R87, R93, R202). -/
def lineAccepted (s t : State) (at_ : Instant) (enc : Nat) : Prop :=
  ∃ p, p.area = false ∧ p.idx = s.nextIndex ∧ p.at_ = at_ ∧ p.rtime = (s.stampAt at_).1 ∧ p.enc = enc ∧
    t.image.pours = (s.image.pours ++ [p]).dropWhile Pour.done ∧ t.rd 0x110003 = s.nextIndex ∧
    t.tdi.lastLine = some at_ ∧ t.mram = s.mram

/-- From `s` to `t` a frame that goes on downstream leaves at RING_OUT, or waits in the insertion buffer while a frame
of the part's own leaves or others wait (R226). -/
def frameLeaves (s t : State) (g : Frame) : Prop :=
  if s.ring.txFree ≤ s.now ∧ s.ring.ins = [] then t.ring.out = some g ∧ t.ring.ins = []
  else t.ring.out = s.ring.out ∧ t.ring.ins = s.ring.ins ++ [g]

/-- An admitted write of 1 by command `c` to object `key` returns the objects `ks` to their Default (the highest booked bytes,
object 0x9021:07, to the bytes booked now) and changes nothing else but the counters of the access. -/
def clearsCounts (c : Instr) (tr : Transport) (key : Nat) (ks : List Nat) (s : State) : Prop :=
  s.admits ⟨tr, key, 1, 1⟩ → ∃ t, exec c s = .next t ∧ t.answer.abort = 0 ∧
    (∀ k ∈ ks, t.rd k = if k = 0x902107 then s.booked else objDefault k) ∧ sameObjects (ks ++ accessCounters tr) s t ∧
    t = { s with dict := t.dict, answer := t.answer }

/-- The write of an object that a command of the host is, for the commands that are one write of one object. -/
def Instr.txn : Instr → Option Txn
  | .vcoreLoopConfigWrite tr sub v => some ⟨tr, 0x680200 + sub, 1, v⟩
  | .clearLowestMargin tr v => some ⟨tr, 0x680103, 1, v⟩
  | .clearHighWaterMarks tr v => some ⟨tr, 0x320111, 1, v⟩
  | .clearLadleSlagCounts tr v => some ⟨tr, 0x320211, 1, v⟩
  | .startOnePour tr v => some ⟨tr, 0x210007, 1, v⟩
  | .makeOneLine tr v => some ⟨tr, 0x340106, 1, v⟩
  | .restartTdi tr v => some ⟨tr, 0x344003, 1, v⟩
  | .positionPreset tr v => some ⟨tr, 0x520001, 4, v⟩
  | .foregroundSelfCalibration tr v => some ⟨tr, 0x300101, 1, v⟩
  | .clearConverterCounts tr v => some ⟨tr, 0x310601, 1, v⟩
  | .darkRun tr => some ⟨tr, 0x420001, 1, 1⟩
  | .columnRun tr => some ⟨tr, 0x420001, 1, 2⟩
  | .flatRun tr => some ⟨tr, 0x420001, 1, 3⟩
  | .fullMapRun tr => some ⟨tr, 0x420001, 1, 4⟩
  | .seedRun tr => some ⟨tr, 0x420001, 1, 5⟩
  | .mapSwitchModeWrite tr v => some ⟨tr, 0x401006, 1, v⟩
  | .startMapUpload tr v => some ⟨tr, 0x421001, 1, v⟩
  | .startSetUpload tr v => some ⟨tr, 0x421001, 1, v⟩
  | .finishUpload tr v => some ⟨tr, 0x421002, 1, v⟩
  | .abortUpload tr v => some ⟨tr, 0x421003, 1, v⟩
  | .clearCorrectionCounts tr v => some ⟨tr, 0x402301, 1, v⟩
  | .downlinkEnableWrite tr v => some ⟨tr, 0x900101, 4, v⟩
  | .testPatternWrite tr v => some ⟨tr, 0x900106, 1, v⟩
  | .clearLaneCounts tr v => some ⟨tr, 0x902205, 1, v⟩
  | .stagedWrite tr index sub data => some (txnOf tr index sub data)
  | .registerWrite tr index sub data => some (txnOf tr index sub data)
  | .openCommitGroup tr v => some ⟨tr, 0x800001, 1, v⟩
  | .closeCommitGroup tr v => some ⟨tr, 0x800005, 1, v⟩
  | .abandonCommitGroup tr v => some ⟨tr, 0x800006, 1, v⟩
  | .pourMould tr n => some ⟨tr, 0x801001, 1, n⟩
  | .loadMould tr n => some ⟨tr, 0x801002, 1, n⟩
  | .storeMould tr n => some ⟨tr, 0x801003, 1, n⟩
  | .eraseMould tr n => some ⟨tr, 0x801005, 1, n⟩
  | .bypassHoldWrite tr v => some ⟨tr, 0x120005, 1, v⟩
  | .clearRingCounts tr v => some ⟨tr, 0x120108, 1, v⟩
  | .alertStatusWrite tr v => some ⟨tr, 0x100101, 2, v⟩
  | .clearTransportCounts tr v => some ⟨tr, 0x102009, 1, v⟩
  | .clearMramDiagnostics tr v => some ⟨tr, 0xC10006, 1, v⟩
  | .sendListNow tr v => some ⟨tr, 0xA01102, 1, v⟩
  | .clearTwiCounts tr v => some ⟨tr, 0xA00406, 1, v⟩
  | .restartChannels tr v => some ⟨tr, 0x500901, 1, v⟩
  | .resetPrescalers tr v => some ⟨tr, 0x510C01, 1, v⟩
  | .clearCaptureCounts tr v => some ⟨tr, 0x510B01, 1, v⟩
  | .clearQuadratureCounts tr v => some ⟨tr, 0x52000C, 1, v⟩
  | .startChannels tr v => some ⟨tr, 0x701201, 1, v⟩
  | .stopChannels tr v => some ⟨tr, 0x701202, 1, v⟩
  | .heldPourWrite tr v => some ⟨tr, 0x704001, 8, v⟩
  | .releaseHold tr v => some ⟨tr, 0x704004, 1, v⟩
  | .clearDmaCounts tr v => some ⟨tr, 0x702601, 1, v⟩
  | .sequenceStart tr v => some ⟨tr, 0x600201, 1, v⟩
  | .sequenceStop tr v => some ⟨tr, 0x600201, 1, v⟩
  | .injectedRequest tr v => some ⟨tr, 0x600401, 2, v⟩
  | .clearHousekeepingCounts tr v => some ⟨tr, 0x600407, 1, v⟩
  | .housekeepingSelfCalibration tr v => some ⟨tr, 0x600101, 1, v⟩
  | .acknowledgeQuench tr v => some ⟨tr, 0x6A1001, 1, v⟩
  | .clearThermalCounts tr v => some ⟨tr, 0x6A1109, 1, v⟩
  | .holdRequest tr v => some ⟨tr, 0xB02001, 1, v⟩
  | .fuseKeyWrite tr v => some ⟨tr, 0xB01001, 4, v⟩
  | .blowRingWriteDisable tr v => some ⟨tr, 0xB01002, 2, v⟩
  | .blowTwoWireWriteDisable tr v => some ⟨tr, 0xB01003, 2, v⟩
  | .blowFactoryCalibrationLock tr v => some ⟨tr, 0xB01004, 1, v⟩
  | .lifeCycleKeyWrite tr v => some ⟨tr, 0xB00102, 4, v⟩
  | .toReturn tr v => some ⟨tr, 0xB00101, 1, v⟩
  | .toScrap tr v => some ⟨tr, 0xB00101, 1, v⟩
  | _ => none

end Sys2Proof.Machine
end

