-- ==== Sys2Proof/Certificates/Slice0/Obligations.lean ====
section
/-!
DEFINITION. The statements for the provers.
-/
open Sys2Proof Sys2Proof.Machine

/-- A step carries out the command at the front of the queue, with the rest of the queue waiting -/
def Obligations.StepRunsTheFrontCommand : Prop :=
  ∀ (c : Instr) (rest : List Instr) (s : State), s.pending = c :: rest → step s = exec c { s with pending := rest }

/-- The tick on an empty queue is the model's choice (log entry 5). -/
def Obligations.EmptyQueueStepIsOneTick : Prop :=
  ∀ s : State, s.pending = [] → s.power.resetAt = none → s.power.sleepAt = none → s.ring.ins = [] → s.corr.spoil = [] →
    s.corr.upload = none → (s.monitorOn = true → s.now + 570 < s.therm.scanAt ∧ s.now + 570 < s.therm.fillAt) →
    ∃ t, step s = .next t ∧ t.now = s.now + 570 ∧
      t.ring = (if s.power.phase = .inReset then s.ring else s.ring.tick) ∧
      (s.timing.clk100 = true →
        t.timing.hist = ((s.ring.nanos, s.position, s.rd 0x520004) :: s.timing.hist).take 31) ∧
      sameObjects (rangeFrom 0x500801 8) s t ∧
      t.lanes = { s.lanes with headSince := t.lanes.headSince } ∧
      t.timing = { s.timing with timers := t.timing.timers, hist := t.timing.hist } ∧
      t = { s with now := t.now, dict := t.dict, lanes := t.lanes, ring := t.ring, timing := t.timing }

/-- The Defaults are the spec's; the fields beside the objects follow log entry 4. -/
def Obligations.ResetLeavesEveryObjectAtItsDefault : Prop :=
  (∀ k, State.reset.rd k = objDefault k) ∧
    State.reset.rd 0x680203 = 15 ∧ State.reset.rd 0x6A0005 = 0 ∧ State.reset.rd 0x110003 = 0 ∧
    State.reset.pending = [] ∧ State.reset.stage.waiting = [] ∧ State.reset.stage.serving = none ∧
    (∀ f < 16, State.reset.flask f = Flask.reset) ∧ (∀ q ∈ State.reset.lanes.queues, q = []) ∧
    State.reset.ring.tx = [] ∧ State.reset.log.queue = [] ∧ State.reset.image.pours = [] ∧
    State.reset.power.phase = .inReset ∧ State.reset.serves = false

/-- The stores and buffers are in canonical form right after reset -/
def Obligations.ResetStateIsCanonical : Prop :=
  State.reset.canonical = true

/-- Every step of every command, and every tick, keeps the object store and the buffers in canonical form -/
def Obligations.EveryStepKeepsTheCanonicalForm : Prop :=
  ∀ s t : State, s.canonical = true → step s = .next t → t.canonical = true

/-- A host write is ignored while the dictionary is not served, waits while the sequencer is busy, and refused changes only counters -/
def Obligations.HostWritesAreTurnedAwayAsTheChecksSay : Prop :=
  ∀ (c : Instr) (w : Txn) (s : State), Instr.txn c = some w →
    (s.hears w.tr = false → exec c s = .next s) ∧
    (s.hears w.tr = true → s.busy = true → exec c s = .next ((s.committed w.tr).wait (.write w s.now))) ∧
    (∀ code, s.hears w.tr = true → s.busy = false → s.writeAbort w = some code →
      ∃ t, exec c s = .next t ∧ t.answer = ⟨code, 0, [], false⟩ ∧
        (code ≠ 0 → t.rd (transportKeys w.tr).2.1 = countUp (s.rd (transportKeys w.tr).2.1) ∧
          t.rd (transportKeys w.tr).2.2.1 = code ∧ t.rd (transportKeys w.tr).2.2.2 = w.key) ∧
        t.rd (transportKeys w.tr).1 = countUp (s.rd (transportKeys w.tr).1) ∧
        sameObjects (accessCounters w.tr) s t ∧ t = { s with dict := t.dict, answer := t.answer })

/-- A command of the host does what a register write of the same bytes to its object does -/
def Obligations.CommandsAreTheWritesOfTheirObjects : Prop :=
  ∀ (c : Instr) (w : Txn) (s : State), c.wf = true → Instr.txn c = some w → exec c s = .next (s.write w)

/-- A clear command written 1 returns its counts to their reset value and changes no other object -/
def Obligations.ClearCommandsClearTheirCounts : Prop :=
  ∀ (tr : Transport) (s : State),
    clearsCounts (.clearLowestMargin tr 1) tr 0x680103 [0x680102] s ∧
    clearsCounts (.clearHighWaterMarks tr 1) tr 0x320111 (rangeFrom 0x320101 16) s ∧
    clearsCounts (.clearLadleSlagCounts tr 1) tr 0x320211 (rangeFrom 0x320201 16) s ∧
    clearsCounts (.clearConverterCounts tr 1) tr 0x310601 (rangeFrom 0x310001 16 ++ rangeFrom 0x310101 16 ++
      rangeFrom 0x310201 16 ++ rangeFrom 0x310301 16 ++ [0x310401, 0x310501]) s ∧
    clearsCounts (.clearCorrectionCounts tr 1) tr 0x402301
      ([0x401201] ++ rangeFrom 0x402001 16 ++ rangeFrom 0x402101 16 ++ rangeFrom 0x402201 16) s ∧
    clearsCounts (.clearLaneCounts tr 1) tr 0x902205 (rangeFrom 0x900203 2 ++ rangeFrom 0x900303 4 ++ rangeFrom 0x901201 32 ++
      [0x901402, 0x902201, 0x902202, 0x902204, 0x902107]) s ∧
    clearsCounts (.clearRingCounts tr 1) tr 0x120108 (rangeFrom 0x120101 7 ++ rangeFrom 0x120301 3) s ∧
    clearsCounts (.clearTransportCounts tr 1) tr 0x102009 (rangeFrom 0x102001 8) s ∧
    clearsCounts (.clearMramDiagnostics tr 1) tr 0xC10006 (rangeFrom 0xC10001 5) s ∧
    clearsCounts (.clearTwiCounts tr 1) tr 0xA00406 (rangeFrom 0xA00401 5 ++ [0xA00407, 0xA01004, 0xA01005]) s ∧
    clearsCounts (.clearCaptureCounts tr 1) tr 0x510B01 (rangeFrom 0x510701 4 ++ rangeFrom 0x510801 4) s ∧
    clearsCounts (.clearQuadratureCounts tr 1) tr 0x52000C [0x520009, 0x52000A, 0x52000E] s ∧
    clearsCounts (.clearDmaCounts tr 1) tr 0x702601 (rangeFrom 0x702401 8) s ∧
    clearsCounts (.clearHousekeepingCounts tr 1) tr 0x600407 [0x600204, 0x600404] s ∧
    clearsCounts (.clearThermalCounts tr 1) tr 0x6A1109 (rangeFrom 0x6A1101 8) s

/-- The sensor margin before every flask has one is the model's choice (log entry 57), the rounding too (log entry 11). -/
def Obligations.PaceMeasurementsReportTheMargin : Prop :=
  ∀ (f busy m : Nat) (s : State), f < 16 → s.pace.runs.length = 16 → s.converterClock = true →
    let r := s.paceRun f
    let margins (t : State) : List Nat := (List.range 16).map fun g => t.rd (0x680001 + g)
    let rest (t : State) : Prop :=
      (∀ g, g ≠ f → t.paceRun g = s.paceRun g) ∧
      (t.allMeasured = true → t.rd 0x680101 ∈ margins t ∧ (∀ x ∈ margins t, t.rd 0x680101 ≤ x) ∧
        t.rd 0x680102 = min (s.rd 0x680102) (t.rd 0x680101)) ∧
      (t.allMeasured = false → t.rd 0x680101 = s.rd 0x680101 ∧ t.rd 0x680102 = s.rd 0x680102) ∧
      (∀ g < 16, g ≠ f → (t.rd 0x680104).testBit g = (s.rd 0x680104).testBit g) ∧
      sameObjects [0x680001 + f, 0x680101, 0x680102, 0x680104] s t ∧
      t = { s with dict := t.dict, pace := { s.pace with runs := t.pace.runs } }
    (0 < busy → 65536 ≤ r.pixels → ∃ t, exec (.paceMeasurement f busy) s = .next t ∧
      t.rd (0x680001 + f) = min 0xFFFF (65536 * 70 * 1000 / (1024 * busy)) ∧ (t.rd 0x680104).testBit f = false ∧
      t.paceRun f = ⟨r.pixels - 65536, s.now, true⟩ ∧ rest t) ∧
    (r.pixels < 65536 → r.since + ms 1 ≤ s.now → ∃ t, exec (.replicaMeasurement f m) s = .next t ∧
      t.rd (0x680001 + f) = min 0xFFFF m ∧ (t.rd 0x680104).testBit f = true ∧ t.paceRun f = ⟨0, s.now, true⟩ ∧ rest t) ∧
    (r.pixels < 65536 → exec (.paceMeasurement f busy) s = .next s) ∧
    (65536 ≤ r.pixels ∨ s.now < r.since + ms 1 → exec (.replicaMeasurement f m) s = .next s)

/-- An evaluation of the adaptive VCORE loop moves the VID code as the table of R26 says and logs at most one event -/
def Obligations.PaceEvaluationMovesTheVidCode : Prop :=
  ∀ s : State, s.pace.running = true → s.timing.clk100 = true → s.pace.evalAt ≤ s.now → s.rd 0x680201 = 0 →
    s.allMeasured = true →
    let m := s.rd 0x680101
    let code := s.rd 0x680203
    let lo := s.rd 0x680204
    let hi := s.rd 0x680205
    let settled := s.pace.changedAt.all fun c => decide (c + us 64 < s.pace.evalAt)
    ∃ t, exec .paceEvaluation s = .next t ∧ t.pace.evalAt = s.pace.evalAt + us 64 ∧ t.pace.running = true ∧
      t.rd 0x680203 =
        (if settled = false then code else if hi < code then hi else if code < lo then lo
        else if code = hi ∧ m < 1100 then code else if m < 1120 ∧ code < hi then min hi (code + 2)
        else if 1120 ≤ m ∧ m < 1200 then min hi (code + 1) else if m ≤ 1300 then code
        else if 32 ≤ s.pace.above + 1 then max lo (code - 1) else code) ∧
      (settled = true → code = hi → lo ≤ code → m < 1100 → (t.rd 0x100101).testBit 0 = true) ∧
      sameObjects [0x680203, 0x100101, 0xC00007, 0xC00008] s t ∧
      t = { s with dict := t.dict, log := t.log, ring := t.ring, pace := t.pace }

/-- A write of the VCORE loop objects is refused where it would break floor ≤ pinned ≤ ceiling, and pins the code at once -/
def Obligations.VcoreLoopWritesKeepFloorPinnedCeilingOrdered : Prop :=
  ∀ (tr : Transport) (sub v : Nat) (s : State), sub ∈ [1, 2, 4, 5] → s.admits ⟨tr, 0x680200 + sub, 1, v⟩ →
    let lo := s.rd 0x680204
    let hi := s.rd 0x680205
    let pin := s.rd 0x680202
    let bad : Prop := (sub = 2 ∧ (v < lo ∨ hi < v)) ∨ (sub = 4 ∧ (hi < v ∨ pin < v)) ∨ (sub = 5 ∧ (v < lo ∨ v < pin))
    (bad → ∃ t, exec (.vcoreLoopConfigWrite tr sub v) s = .next t ∧ t.answer.abort = abortValue ∧
      sameObjects (accessCounters tr) s t ∧ t = { s with dict := t.dict, answer := t.answer }) ∧
    (¬bad → ∃ t, exec (.vcoreLoopConfigWrite tr sub v) s = .next t ∧ t.answer.abort = 0 ∧ t.rd (0x680200 + sub) = v ∧
      (t.rd 0x680201 = 1 → s.pace.running = true → t.rd 0x680203 = t.rd 0x680202) ∧
      (t.rd 0x680201 ≠ 1 → t.rd 0x680203 = s.rd 0x680203) ∧
      sameObjects ([0x680200 + sub, 0x680203] ++ accessCounters tr) s t ∧
      t = { s with dict := t.dict, answer := t.answer, pace := t.pace })

/-- A row slot captures the next row, hands the row of the slot before to the live ladles, and moves the grid on 70 periods -/
def Obligations.RowSlotCapturesAndConverts : Prop :=
  ∀ (levels dark : List (Nat × Int)) (refs : List (Nat × Int × Int)) (s : State),
    s.converterClock = true → s.image.nextSlot ≤ s.now → s.image.flasks.length = 16 → (∀ f < 16, (s.flask f).rows = []) →
    (s.image.pours = [] → ∃ t, exec (.rowSlot levels dark refs) s = .next t ∧ t.image.slotNo = s.image.slotNo + 1 ∧
      t.image.nextSlot = s.image.nextSlot + 14000 ∧ t.image.sampled = none ∧
      t.image.stepNow = (if (s.image.slotNo + 1) % 16 = 0 then s.rd 0x6A0005 else s.image.stepNow)) ∧
    (∀ (p : Pour) (e : Exposure) (r0 r : RowRef) (rest : List RowRef),
      s.image.pours = [p] → p.area = true → p.acq = false → p.exps = [e] → e.toRead = r :: rest → (∃ l ∈ p.left, l.2 ≠ 0) →
      s.image.sampled = some r0 → r0.pour = p.idx → s.therm.quench = false →
      (s.image.slotNo + 1) % 16 ≠ 0 → slotIdle (s.image.slotNo + 1) s.image.stepNow = false →
      max e.tx (s.image.releaseAt + ns 170) + ns 60 ≤ s.image.nextSlot + 68 * periodUnits →
      ∃ t, exec (.rowSlot levels dark refs) s = .next t ∧ t.image.slotNo = s.image.slotNo + 1 ∧
        t.image.nextSlot = s.image.nextSlot + 14000 ∧ t.image.sampled = some r ∧
        t.image.pours = [{ p with exps := [{ e with toRead := rest }] }] ∧
        (∀ f < 16, (t.flask f).rows.map LadleRow.ref = if f ∈ liveFlasks p.cfg then [r0] else []))

/-- A flask core takes the row at the front of its ladle and sends its packet to its sprue's dispatch queue -/
def Obligations.CoreRowSendsTheRowOfItsLadle : Prop :=
  ∀ (f : Nat) (s : State) (p : Pour) (r : LadleRow),
    f < 16 → s.image.flasks.length = 16 → s.lanes.queues.length = 4 → s.pace.runs.length = 16 → s.image.pours = [p] →
    p.area = true → p.acq = false → p.idx = r.ref.pour → (s.flask f).rows = [r] → r.slag = false →
    s.nextToCome p r.ref = false → (p.bank = 0xFF ∨ (s.flask f).window.contains r.ref = true) →
    digFactor p.cfg = 1 → fusedOut p.cfg = false → (∃ u ∈ s.lanes.tundish, u.idx = p.idx) →
    ∃ t k, exec (.coreRow f) s = .next t ∧ (t.flask f).rows = [] ∧
      nth t.lanes.queues (f / 4) [] = nth s.lanes.queues (f / 4) [] ++ [k] ∧
      k.typ = 1 ∧ k.flask = f ∧ k.pour = p.idx ∧ k.plane = r.ref.sub ∧ k.row = r.ref.ord ∧ k.arow = r.ref.row ∧
      k.pixels.length = r.samples.length ∧ (t.paceRun f).pixels = (s.paceRun f).pixels + r.samples.length ∧
      t = { s with dict := t.dict, image := t.image, lanes := t.lanes, pace := t.pace }

/-- The map window takes the entries of the next row of its ladle; words read with errors are counted, and bad ones marked -/
def Obligations.MapWindowTakesTheNextRowsEntries : Prop :=
  ∀ (f : Nat) (s : State) (r : LadleRow) (p : Pour), f < 16 → s.image.flasks.length = 16 → s.nextWindowRow f = some r →
    s.pourOf r.ref.pour = some p → p.bank ≤ 1 → r.ref.row < 1024 →
    let words := rowWords p.bank r.ref.row f
    (∃ t, exec (.mapWindowFetch f [] []) s = .next t ∧ (t.flask f).window = (s.flask f).window ++ [r.ref] ∧
      (∀ g, g ≠ f → t.flask g = s.flask g) ∧ t.mram.errs = s.mram.errs.filter (fun e => !inWords words e.1) ∧
      t = { s with image := { s.image with flasks := t.image.flasks }, mram := { s.mram with errs := t.mram.errs } }) ∧
    (∀ w, inWords words w = true → ∃ t q, exec (.mapWindowFetch f [w] []) s = .next t ∧
      (t.flask f).window = (s.flask f).window ++ [r.ref] ∧ t.pourOf r.ref.pour = some q ∧ q.bad = p.bad ++ [w] ∧
      t.rd 0x401201 = countUp (s.rd 0x401201) ∧ t.rd 0x401202 = w ∧ t.rd 0xC10002 = countUp (s.rd 0xC10002) ∧
      t.rd 0xC10004 = w ∧ t.rd 0xC10005 = p.bank ∧ t.rd 0x100101 = s.rd 0x100101 ∧
      sameObjects [0x401201, 0x401202, 0xC10002, 0xC10004, 0xC10005, 0xC00007, 0xC00008] s t) ∧
    (∀ w, inWords words w = true → ∃ t, exec (.mapWindowFetch f [] [w]) s = .next t ∧
      (t.flask f).window = (s.flask f).window ++ [r.ref] ∧ t.image.pours = s.image.pours ∧
      t.rd 0xC10001 = countUp (s.rd 0xC10001) ∧ t.rd 0xC10003 = w ∧ sameObjects [0xC10001, 0xC10003] s t)

/-- The start of a free-running or held pour at the earliest instant its schedule allows is the model's reading (log entry 59). -/
def Obligations.StartEventsMakePours : Prop :=
  (∀ (tr : Transport) (s : State), s.admits ⟨tr, 0x210007, 1, 1⟩ → s.rd 0x210001 = 0 → s.rd 0x210002 = 5 →
    s.takesPour s.now → ∃ t, exec (.startOnePour tr 1) s = .next t ∧ t.answer.abort = 0 ∧ pourAccepted s t s.now) ∧
  (∀ (s : State) (h : Held), s.image.held = some h → s.stage.queue = [] → s.startAt s.dict h.at_ ≤ s.now →
    ∃ t, exec .heldStartEventAccept s = .next t ∧ pourAccepted s t (s.startAt s.dict h.at_) ∧
      t.rd 0x210105 = min 0xFFFFFFFF (max (s.rd 0x210105) ((s.startAt s.dict h.at_ - h.at_) / 57))) ∧
  (∀ (s : State) (x : Instant), s.freeRunAt = some x → x ≤ s.now → s.takesEvents →
    ∃ t, exec .freeRunStartEvent s = .next t ∧ pourAccepted s t x) ∧
  (∀ (pin : Nat) (level : Bool) (s : State), pin < s.timing.trig.length → s.timing.clk100 = true →
    nth s.timing.trig pin level ≠ level → s.rd 0x210001 = 0 → s.rd 0x210002 = 3 → s.rd 0x210003 = pin →
    s.rd 0x210004 = (if level then 0 else 1) → s.takesPour (s.now - 570) →
    ∃ t, exec (.trigPinEdge pin level) s = .next t ∧ pourAccepted s t (s.now - 570) ∧
      nth t.timing.trig pin (!level) = level)

/-- A start event outside its schedule is held and counted; a second one, or one in quench or Hold, is discarded and counted -/
def Obligations.StartEventsThatCannotStartAreHeldOrCounted : Prop :=
  ∀ (tr : Transport) (s : State), s.admits ⟨tr, 0x210007, 1, 1⟩ →
    (s.rd 0x210002 ≠ 5 → ∃ t, exec (.startOnePour tr 1) s = .next t ∧ t.answer.abort = abortValue ∧
      sameObjects (accessCounters tr) s t ∧ t = { s with dict := t.dict, answer := t.answer }) ∧
    (s.rd 0x210002 = 5 → s.rd 0x210001 = 0 → s.eventsOff = false → s.stage.queue = [] →
      (s.image.held = none → s.scheduleOk s.dict s.now = false → ∃ t, exec (.startOnePour tr 1) s = .next t ∧
        t.image = { s.image with held := some ⟨s.now⟩ } ∧ t.rd 0x210103 = countUp (s.rd 0x210103) ∧
        sameObjects ([0x210103] ++ accessCounters tr) s t) ∧
      (s.image.held.isSome = true → ∃ t, exec (.startOnePour tr 1) s = .next t ∧
        t.image = { s.image with ospd := min 0xFFFF (s.image.ospd + 1) } ∧ t.rd 0x210104 = countUp (s.rd 0x210104) ∧
        sameObjects ([0x210104] ++ accessCounters tr) s t)) ∧
    (s.rd 0x210002 = 5 → s.rd 0x210001 = 0 → s.quiet = true → s.rd 0xB02002 = 0 →
      ∃ t, exec (.startOnePour tr 1) s = .next t ∧ t.rd 0x6A1105 = countUp (s.rd 0x6A1105) ∧
        sameObjects ([0x6A1105] ++ accessCounters tr) s t ∧ t = { s with dict := t.dict, answer := t.answer })

/-- The wait of a transfer sequence for the release of the storage is the model's choice (log entry 58). -/
def Obligations.ExposuresOpenAndStore : Prop :=
  ∀ (s : State) (p : Pour) (e : Exposure) (l : List Exposure), s.image.pours = [p] → p.exps = e :: l →
    s.timing.timers.length = 8 →
    (e.stage = .planned → e.grst ≤ s.now → ∃ t, exec .exposureStart s = .next t ∧
      t.image = { s.image with pours := [{ p with exps := { e with stage := .opened } :: l }] } ∧
      (∀ ch < 8, e.bank ≤ 3 → (p.cfg.get (0x501001 + e.bank)).testBit ch = true →
        (t.timer ch).window = true ∧ (t.timer ch).txAt = e.tx) ∧
      t = { s with image := t.image, timing := { s.timing with timers := t.timing.timers } }) ∧
    (∀ x, x = max e.tx (s.image.releaseAt + ns 170) → e.stage = .opened → x ≤ s.now → e.toRead ≠ [] →
      (∀ y ∈ l, y.stage ≠ .stored) → ∃ t, exec .transferSequence s = .next t ∧
        t.image.pours = [{ p with exps := { e with stage := .stored, tx := x } :: l }] ∧ t.image.madeTx = some x ∧
        t.image = { s.image with pours := t.image.pours, madeTx := t.image.madeTx, lastTx := t.image.lastTx } ∧
        (∀ ch < 8, (t.timer ch).window = false ∧ (t.timer ch).pulse = false ∧ (t.timer ch).running = false) ∧
        t = { s with image := t.image, timing := { s.timing with timers := t.timing.timers } })

/-- A line trigger of the live source makes one line with the next pour index at its own instant -/
def Obligations.LineTriggersMakeLines : Prop :=
  (∀ (tr : Transport) (s : State), s.admits ⟨tr, 0x340106, 1, 1⟩ → s.rd 0x210001 = 1 → s.rd 0x340101 = 5 → s.takesEvents →
    ∃ t, exec (.makeOneLine tr 1) s = .next t ∧ t.answer.abort = 0 ∧ lineAccepted s t s.now s.position) ∧
  (∀ (s : State) (x : Instant), s.freeLineAt = some x → x ≤ s.now → s.takesEvents →
    ∃ t, exec .freeRunLineTrigger s = .next t ∧ lineAccepted s t x (s.stampAt x).2.1 ∧ t.tdi.freeAt = none) ∧
  (∀ (tr : Transport) (s : State), s.admits ⟨tr, 0x340106, 1, 1⟩ → s.rd 0x340101 ≠ 5 →
    ∃ t, exec (.makeOneLine tr 1) s = .next t ∧ t.answer.abort = abortValue ∧ sameObjects (accessCounters tr) s t ∧
      t = { s with dict := t.dict, answer := t.answer })

/-- Restart TDI closes the web lines at once when the line source is off, else at the next line boundary -/
def Obligations.TdiRestartClosesTheWebLines : Prop :=
  ∀ (tr : Transport) (s : State), s.admits ⟨tr, 0x344003, 1, 1⟩ →
    (s.rd 0x210001 = 1 → s.rd 0x340101 = 0 → ∃ t, exec (.restartTdi tr 1) s = .next t ∧ t.answer.abort = 0 ∧
      t.tdi.origin = none ∧ t.tdi.accs = [] ∧ t.tdi.webs = [] ∧ t.tdi.restartReq = false ∧ t.mram = s.mram) ∧
    (s.rd 0x210001 = 1 → s.rd 0x340101 ≠ 0 → ∃ t, exec (.restartTdi tr 1) s = .next t ∧
      t.tdi = { s.tdi with restartReq := true } ∧ sameObjects (accessCounters tr) s t ∧
      t = { s with dict := t.dict, answer := t.answer, tdi := t.tdi }) ∧
    (s.rd 0x210001 = 0 → ∃ t, exec (.restartTdi tr 1) s = .next t ∧ sameObjects (accessCounters tr) s t ∧
      t = { s with dict := t.dict, answer := t.answer })

/-- A capture event stamps time and position at its first filter sample and joins the queue of four; a read takes the oldest entry -/
def Obligations.CaptureEdgesAreQueuedAndReadsTakeTheOldestEntry : Prop :=
  (∀ (ch : Nat) (level : Bool) (s : State), ch < s.timing.captures.length → s.timing.clk100 = true →
    (s.capture ch).level ≠ level → s.rd (0x510101 + ch) = 1 →
    (s.rd (0x510201 + ch) = 2 ∨ s.rd (0x510201 + ch) = if level then 0 else 1) →
    s.rd 0x210001 = 0 → s.rd 0x210002 ≠ 2 → s.rd (0x510701 + ch) < 0xFFFFFFFF →
    let n := s.rd (0x510401 + ch)
    let filter := s.rd (0x510301 + ch)
    let now := (s.ringTime, s.position, s.rd 0x520004)
    let st := if filter ≤ 1 then now else nth s.timing.hist (filter - 2) now
    let entry := leBytes 8 st.1 ++ leBytes 4 st.2.1 ++ leBytes 2 st.2.2 ++ [if level then 0 else 1, 0]
    ((s.capture ch).pre + 1 < n → ∃ t, exec (.captureInputEdge ch level) s = .next t ∧
      t.capture ch = { s.capture ch with level := level, pre := (s.capture ch).pre + 1 } ∧
      (∀ c, c ≠ ch → t.capture c = s.capture c) ∧
      t = { s with timing := { s.timing with captures := t.timing.captures, pins := setNth s.timing.pins (s.rd (0x510001 + ch)) level } }) ∧
    (n ≤ (s.capture ch).pre + 1 → ∃ t, exec (.captureInputEdge ch level) s = .next t ∧
      t.rd (0x510701 + ch) = s.rd (0x510701 + ch) + 1 ∧
      t.capture ch = { level := level, pre := 0, queue :=
        if (s.capture ch).queue.length < 4 then (s.capture ch).queue ++ [entry] else (s.capture ch).queue } ∧
      t.rd (0x510801 + ch) =
        (if (s.capture ch).queue.length < 4 then s.rd (0x510801 + ch) else countUp (s.rd (0x510801 + ch))) ∧
      (∀ c, c ≠ ch → t.capture c = s.capture c) ∧
      sameObjects [0x510701 + ch, 0x510801 + ch] s t ∧
      t = { s with dict := t.dict, timing :=
        { s.timing with captures := t.timing.captures, pins := setNth s.timing.pins (s.rd (0x510001 + ch)) level } })) ∧
  (∀ (ch : Nat) (level : Bool) (s : State), s.timing.clk100 = false → exec (.captureInputEdge ch level) s =
    .next { s with timing := { s.timing with pins := setNth s.timing.pins (s.rd (0x510001 + ch)) level } }) ∧
  (∀ (tr : Transport) (ch : Nat) (s : State), ch < 4 → s.timing.captures.length = 4 →
    (s.admitsRead tr (0x510501 + ch) → ∃ t, exec (.captureEntryRead tr ch) s = .next t ∧ t.answer.abort = 0 ∧
      t.answer.data = ((s.capture ch).queue.head?).getD (List.replicate 16 0) ∧
      t.capture ch = { s.capture ch with queue := (s.capture ch).queue.tail } ∧
      (∀ c, c ≠ ch → t.capture c = s.capture c) ∧ sameObjects (accessCounters tr) s t ∧
      t = { s with dict := t.dict, answer := t.answer, timing := { s.timing with captures := t.timing.captures } }) ∧
    (s.admitsRead tr (0x510901 + ch) → ∃ t, exec (.compatibleCaptureRead tr ch) s = .next t ∧ t.answer.abort = 0 ∧
      t.answer.data = leBytes 4 (s.rd (0x510901 + ch)) ∧ (t.rd (0x510A01 + ch)).testBit 0 = false ∧
      (∀ i, i ≠ 0 → (t.rd (0x510A01 + ch)).testBit i = (s.rd (0x510A01 + ch)).testBit i) ∧
      sameObjects ([0x510A01 + ch] ++ accessCounters tr) s t ∧ t = { s with dict := t.dict, answer := t.answer }))

/-- The quadrature counter moves by one in the sense the levels give, wraps with EWRAP, and both levels at once are an error -/
def Obligations.QuadratureEdgesCount : Prop :=
  ∀ (a b : Bool) (s : State), (s.rd 0x210001 ≠ 1 ∨ s.rd 0x340101 ≠ 6) →
    let a0 := s.timing.a
    let b0 := s.timing.b
    let mode := s.rd 0x520007
    let both := mode = 1 ∧ a ≠ a0 ∧ b ≠ b0
    let moves := (mode = 1 ∧ (a ≠ a0 ∨ b ≠ b0) ∧ ¬(a ≠ a0 ∧ b ≠ b0)) ∨ ((mode = 2 ∨ mode = 3) ∧ a0 = false ∧ a = true)
    let up := if mode = 1 then (if a ≠ a0 then a ≠ b0 else b = a0) else b = false
    let p := s.position
    let pins := setNth (setNth s.timing.pins 0 a) 1 b
    (s.timing.clk100 = false → exec (.quadratureEdge a b) s = .next { s with timing := { s.timing with pins := pins } }) ∧
    (s.timing.clk100 = true → ∃ t, exec (.quadratureEdge a b) s = .next t ∧
      t.timing = { s.timing with a := a, b := b, pins := pins } ∧
      (both → t.rd 0x52000A = countUp (s.rd 0x52000A) ∧ sameObjects [0x52000A] s t) ∧
      (¬both → ¬moves → t.dict = s.dict) ∧
      (moves → up → t.position = (p + 1) % 2 ^ 32 ∧
        t.rd 0x520004 = if p = 2 ^ 32 - 1 then (s.rd 0x520004 + 1) % 65536 else s.rd 0x520004) ∧
      (moves → ¬up → t.position = (p + 2 ^ 32 - 1) % 2 ^ 32 ∧
        t.rd 0x520004 = if p = 0 then (s.rd 0x520004 + 65535) % 65536 else s.rd 0x520004) ∧
      sameObjects [0x520001, 0x520004, 0x52000A, 0x100101, 0xC00007, 0xC00008] s t ∧
      t = { s with dict := t.dict, timing := t.timing, log := t.log, ring := t.ring })

/-- ENC_Z latches the position and counts; every millisecond the change of the position over the last millisecond is reported -/
def Obligations.EncoderZAndPositionChange : Prop :=
  ∀ s : State,
    let seen (level : Bool) : State := { s with timing := { s.timing with pins := setNth s.timing.pins 2 level } }
    exec (.encZEdge false) s = .next (seen false) ∧
    (s.timing.clk100 = false → exec (.encZEdge true) s = .next (seen true) ∧ exec .positionChangeSample s = .next s) ∧
    (s.timing.clk100 = true → ∃ t, exec (.encZEdge true) s = .next t ∧ t.rd 0x520008 = s.position ∧
      t.rd 0x520009 = countUp (s.rd 0x520009) ∧ sameObjects [0x520008, 0x520009] s t ∧
      t = { seen true with dict := t.dict }) ∧
    (s.timing.clk100 = true → s.timing.sampleAt ≤ s.now → ∃ t, exec .positionChangeSample s = .next t ∧
      t.rd 0x52000B = (s.position + 2 ^ 32 - s.timing.lastPos) % 2 ^ 32 ∧
      t.timing = { s.timing with lastPos := s.position, sampleAt := s.timing.sampleAt + ms 1 } ∧
      sameObjects [0x52000B] s t ∧ t = { s with dict := t.dict, timing := t.timing })

/-- A preset of the position is refused while the encoder grid or a queued boundary uses it; else it leaves EWRAP unchanged -/
def Obligations.APresetOfThePositionIsRefusedWhileItIsInUse : Prop :=
  ∀ (tr : Transport) (v : Nat) (s : State), s.admits ⟨tr, 0x520001, 4, v⟩ →
    let used := (s.rd 0x210001 = 1 ∧ s.rd 0x340101 = 6) ∨ ∃ e ∈ s.stage.queue, ∃ x, e.bound = .encoder x
    (used → ∃ t, exec (.positionPreset tr v) s = .next t ∧ t.answer.abort = 0x05010000 ∧
      sameObjects (accessCounters tr) s t ∧ t = { s with dict := t.dict, answer := t.answer }) ∧
    (¬used → ∃ t, exec (.positionPreset tr v) s = .next t ∧ t.answer.abort = 0 ∧ t.position = v ∧
      t.rd 0x520004 = s.rd 0x520004 ∧
      sameObjects ([0x520001] ++ accessCounters tr) s t ∧ t = { s with dict := t.dict, answer := t.answer })

/-- A low-word read of the position latches the high word for its transport, and a read of the whole position is whole -/
def Obligations.ALowWordReadLatchesTheHighWordOfItsTransport : Prop :=
  ∀ (tr : Transport) (s : State), s.admitsRead tr 0x520002 →
    ∃ t, exec (.positionLowWordRead tr) s = .next t ∧ t.answer.abort = 0 ∧ t.answer.data = leBytes 2 s.position ∧
      t.timing = (if tr = .ring then { s.timing with wordRing := s.position / 65536 } else s.timing) ∧
      t.twi = (if tr = .twi then { s.twi with wordLatch := s.position / 65536 } else s.twi) ∧ t.twi.link = s.twi.link ∧
      (∀ other, (t.readValue other 0x520003 false).answer.data =
        (if other = tr then leBytes 2 (s.position / 65536) else (s.readValue other 0x520003 false).answer.data)) ∧
      (∀ other, (t.readValue other 0x520001 false).answer.data = leBytes 4 s.position) ∧
      sameObjects (accessCounters tr) s t ∧
      t = { s with dict := t.dict, answer := t.answer, timing := t.timing, twi := t.twi }

/-- At a valley the shadow values become active; a restart takes the phase; a pulse starts and ends; other channels stay -/
def Obligations.TimerCommandsActOnTheirChannelAlone : Prop :=
  ∀ (ch : Nat) (s : State), ch < s.timing.timers.length →
    let x := s.timer ch
    let frame (t : State) : Prop := (∀ c, c ≠ ch → t.timer c = s.timer c) ∧
      t = { s with timing := { s.timing with timers := t.timing.timers } }
    (s.timerBit ch 2 = false → (x.mode = 1 ∨ x.mode = 2) → x.per ≠ 0 → x.pos = 0 → s.timing.clk100 = true →
      ∃ t, exec (.timerValley ch) s = .next t ∧ (t.timer ch).per = x.shPer ∧ (t.timer ch).cmp = x.shCmp ∧
        (t.timer ch).upd = false ∧ (t.timer ch).value = 0 ∧ (t.timer ch).mode = x.mode ∧ frame t) ∧
    (s.timerBit ch 2 = true → (x.mode = 1 ∨ x.mode = 2) → x.lfPos = 0 →
      ∃ t, exec (.timerValley ch) s = .next t ∧ (t.timer ch).per = x.shPer ∧ (t.timer ch).cmp = x.shCmp ∧
        t.timerBit ch 3 = (toLf x.shPer == 0) ∧ t.timerBit ch 2 = (toLf x.shPer != 0) ∧
        (t.timerBit ch 2 = true → t.timerCount ch = 0) ∧
        (∀ c, c ≠ ch → t.timer c = s.timer c) ∧ sameObjects [0x500801 + ch] s t ∧
        t = { s with dict := t.dict, timing := { s.timing with timers := t.timing.timers } }) ∧
    (∃ t, exec (.timerCompareMatch ch) s = .next t ∧ frame t ∧
      let level := s.targetLevel ch
      let pol := x.ctl.testBit 0
      t.timer ch = (if (level != pol) = (x.level != x.pol) then { x with level := level, pol := pol, pend := false }
        else if x.since + 1140 ≤ s.now then { x with level := level, pol := pol, since := s.now, pend := false }
        else { x with pend := true })) ∧
    (x.mode = 3 → x.running = true → x.window = true → x.delay ≤ x.count → x.pulse = false → s.now + 1140 ≤ x.txAt →
      ∃ t, exec (.strobePulseStart ch) s = .next t ∧ (t.timer ch).pulse = true ∧ (t.timer ch).running = true ∧ frame t) ∧
    (x.mode = 3 → x.pulse = true → (x.delay + x.width ≤ x.count ∨ x.txAt < s.now + 570) →
      ∃ t, exec (.strobePulseEnd ch) s = .next t ∧ (t.timer ch).pulse = false ∧ (t.timer ch).running = false ∧ frame t)

/-- Restart puts every cycling timer of its mask at its phase; reset prescalers returns the capture prescalers of its mask to 0 -/
def Obligations.RestartAndPrescalerResetActOnTheirMask : Prop :=
  (∀ (tr : Transport) (v : Nat) (s : State), s.timing.timers.length = 8 → s.admits ⟨tr, 0x500901, 1, v⟩ →
    ∃ t, exec (.restartChannels tr v) s = .next t ∧ t.answer.abort = 0 ∧
      (∀ ch < 8, if v.testBit ch = true ∧ ((s.timer ch).mode = 1 ∨ (s.timer ch).mode = 2) then
          (t.timer ch).per = (s.timer ch).shPer ∧ (t.timer ch).cmp = (s.timer ch).shCmp ∧
          (t.timer ch).pos = (if (s.timer ch).shPer = 0 then 0 else (s.timer ch).phase % (2 * (s.timer ch).shPer)) ∧
          (s.timing.lfOn = true → toLf (s.timer ch).shPer ≠ 0 → (t.timer ch).lfPer = toLf (s.timer ch).shPer ∧
            t.timerBit ch 2 = true)
        else t.timer ch = s.timer ch) ∧
      sameObjects ((if s.timing.lfOn = true then rangeFrom 0x500801 8 else []) ++ accessCounters tr) s t ∧
      t = { s with dict := t.dict, answer := t.answer, timing := { s.timing with timers := t.timing.timers } }) ∧
  (∀ (tr : Transport) (v : Nat) (s : State), s.admits ⟨tr, 0x510C01, 1, v⟩ →
    ∃ t, exec (.resetPrescalers tr v) s = .next t ∧ t.answer.abort = 0 ∧
      (∀ ch < 4, t.capture ch = if v.testBit ch then { s.capture ch with pre := 0 } else s.capture ch) ∧
      sameObjects (accessCounters tr) s t ∧
      t = { s with dict := t.dict, answer := t.answer, timing := { s.timing with captures := t.timing.captures } })

/-- At the first LF tick after the 100 MHz clock stopped the timers move to the LF clock, and object 0x5011:01 says which -/
def Obligations.TimersMoveToTheLfClock : Prop :=
  ∀ s : State, s.timing.clk100 = false → s.timing.driven = true →
    ((s.now - s.timing.lfAt) * 32768 < 57000000000 → exec .lfClockSwitch s = .next s) ∧
    (57000000000 ≤ (s.now - s.timing.lfAt) * 32768 → s.timing.lfOn = false → ∃ t, exec .lfClockSwitch s = .next t ∧
      t.timing.lfOn = true ∧ t.rd 0x501101 = (if s.rd 0x501102 = 1 then 1 else 2) ∧
      sameObjects (0x501101 :: rangeFrom 0x500801 8) s t ∧
      t = { s with dict := t.dict, timing := { s.timing with timers := t.timing.timers, lfOn := true } })

/-- A foreground self-calibration starts only on an idle image path and posts its result 38.0 ms later -/
def Obligations.SelfCalibrationRunsAndPosts : Prop :=
  (∀ (tr : Transport) (s : State), s.admits ⟨tr, 0x300101, 1, 1⟩ →
    let free := s.rd 0x210002 = 0 ∧ s.rd 0x340101 = 0 ∧ s.rowsToConvert = false ∧ s.conv.calAt = none ∧
      s.corr.cal = none ∧ s.corr.mapWrite = none ∧ s.therm.quench = false
    (free → ∃ t, exec (.foregroundSelfCalibration tr 1) s = .next t ∧ t.answer.abort = 0 ∧ t.rd 0x300102 = 1 ∧
      t.conv = { s.conv with calAt := some s.now, startup := false, rerun := false } ∧
      sameObjects ([0x300102] ++ accessCounters tr) s t ∧
      t = { s with dict := t.dict, answer := t.answer, conv := t.conv }) ∧
    (¬free → ∃ t, exec (.foregroundSelfCalibration tr 1) s = .next t ∧ t.answer.abort = 0x05010000 ∧
      sameObjects (accessCounters tr) s t ∧ t = { s with dict := t.dict, answer := t.answer })) ∧
  (∀ (l : List ConvMeasure) (x : Instant) (s : State), s.conv.calAt = some x →
    (s.now < x + ms 38 → exec (.selfCalibrationResult l) s = .next s) ∧
    (x + ms 38 ≤ s.now → failedConverters l = [] → s.conv.gains.length = 260 → s.conv.offsets.length = 260 →
      s.conv.gtrims.length = 260 → s.conv.otrims.length = 260 → s.conv.weights.length = 260 →
      ∃ t, exec (.selfCalibrationResult l) s = .next t ∧ t.conv.calAt = none ∧
        (∀ i < 260, nth t.conv.weights i [] = (measureOf l i).weights ∧ nth t.conv.gains i 0 = (measureOf l i).gain ∧
          nth t.conv.offsets i 0 = (measureOf l i).offset ∧
          nth t.conv.gtrims i 0 = 0 ∧ nth t.conv.otrims i 0 = 0) ∧
        t.rd 0x300102 = 2 ∧ t.rd 0x300103 = 0 ∧ t.rd 0x301101 = 0 ∧ t.rd 0x300104 = 0 ∧
        sameObjects [0x300102, 0x300103, 0x300104, 0x301101, 0x680203] s t))

/-- At the end of a trim period every converter with enough slots forms a pending set within the trim limits -/
def Obligations.TrimsStayWithinTheirLimits : Prop :=
  ∀ s : State, s.rd 0x300201 ≠ 0 → 2 ^ s.rd 0x300202 ≤ s.conv.slots → s.conv.pendG.length = 260 →
    s.conv.pendO.length = 260 → s.conv.sums.length = 260 →
    ∃ t, exec .trimPeriodEnd s = .next t ∧ t.conv.slots = 0 ∧ (∀ x ∈ t.conv.sums, x = ⟨0, 0, 0, 0⟩) ∧
      t.conv.gtrims = s.conv.gtrims ∧ t.conv.otrims = s.conv.otrims ∧ t.conv.gains = s.conv.gains ∧
      t.conv.offsets = s.conv.offsets ∧
      (∀ i < 260, let x := nth s.conv.sums i ⟨0, 0, 0, 0⟩
        if s.conv.slots < 2 * x.out ∨ x.n = 0 then
          nth t.conv.pendG i none = nth s.conv.pendG i none ∧ nth t.conv.pendO i none = nth s.conv.pendO i none
        else ∃ g o, nth t.conv.pendG i none = some g ∧ nth t.conv.pendO i none = some o ∧
          -167772 ≤ g ∧ g ≤ 167772 ∧ -4096 ≤ o ∧ o ≤ 4096) ∧
      sameObjects [0x301101, 0x301201, 0x301202, 0x100101, 0xC00007, 0xC00008] s t

/-- A start write begins its calibration run only under the conditions of R145; else it is refused and changes nothing -/
def Obligations.CalibrationRunsStartOrAreRefused : Prop :=
  let starts (o : Host.Outcome State Fault Refusal) (tr : Transport) (run : Nat) (s : State) : Prop := s.admits ⟨tr, 0x420001, 1, run⟩ →
    let source := s.copyWords (s.rd 0x420006)
    ((s.calFree && s.calAllowed run) = false → ∃ t, o = .next t ∧ t.answer.abort = 0x05010000 ∧
      sameObjects (accessCounters tr) s t ∧ t = { s with dict := t.dict, answer := t.answer }) ∧
    ((s.calFree && s.calAllowed run) = true → (run = 5 → s.readable source = true) →
      ∃ t x, o = .next t ∧ t.answer.abort = 0 ∧
      t.corr.cal = some x ∧ x.run = run ∧ x.pours = 0 ∧ t.rd 0x420008 = (if run = 5 then 3 else 1) ∧
      t.rd 0x420009 = 0 ∧ t.corr.commit.isSome = (run == 5) ∧ t.mram = s.mram ∧
      (run ≠ 4 → sameObjects ([0x420008, 0x420009, 0xC10001, 0xC10003] ++ accessCounters tr) s t ∧
        t = { s with dict := t.dict, answer := t.answer, corr := t.corr })) ∧
    ((s.calFree && s.calAllowed run) = true → run = 5 → s.readable source = false →
      ∃ t, o = .next t ∧ t.answer.abort = 0x06010000 ∧
        sameObjects (rangeFrom 0xC10001 5 ++ accessCounters tr) s t ∧
        t = { s with dict := t.dict, answer := t.answer })
  ∀ (tr : Transport) (s : State), starts (exec (.darkRun tr) s) tr 1 s ∧
    starts (exec (.columnRun tr) s) tr 2 s ∧ starts (exec (.flatRun tr) s) tr 3 s ∧
    starts (exec (.fullMapRun tr) s) tr 4 s ∧ starts (exec (.seedRun tr) s) tr 5 s

/-- An acquisition pour starts without moving the pour index; the complete acquisition fails by the first failing check or goes on -/
def Obligations.AcquisitionPoursAddUpAndAreChecked : Prop :=
  (∀ (c : Cal) (s : State), s.corr.cal = some c → c.started = true → c.pours < acqPours c.run → s.rd 0x420008 = 1 →
    s.converterClock = true → s.stage.queue = [] →
    let t0 := s.startAt (s.calValues c.run) (c.at_ + c.pours * s.calPeriod c.run)
    t0 ≤ s.now → ∃ t p, exec .acquisitionStart s = .next t ∧ t.image.pours = s.image.pours ++ [p] ∧ p.acq = true ∧
      p.area = true ∧ p.at_ = t0 ∧ (∀ k r, objRow k = some r → r.acc = .rws → p.cfg.get k = (s.calValues c.run).get k) ∧ t.rd 0x110003 = s.rd 0x110003 ∧
      t.corr.cal = some { c with pours := c.pours + 1, temp0 := if c.pours = 0 then s.pixelTemp else c.temp0,
                                 tempEnd := s.pixelTemp, means := c.means ++ [(0, 0)] } ∧
      t.rd 0x420008 = 1 ∧ t.mram = s.mram ∧ t.lanes = s.lanes) ∧
  (∀ (c : Cal) (s : State), s.corr.cal = some c → c.started = true → acqPours c.run ≤ c.pours → s.rd 0x420008 = 1 →
    s.image.pours.any Pour.acq = false →
    (∀ n, s.calCheck c = some n → ∃ t, exec .acquisitionComplete s = .next t ∧ t.corr.cal = none ∧ t.rd 0x420008 = 6 ∧
      t.mram = s.mram) ∧
    (s.calCheck c = none → c.run = 4 → ∃ t, exec .acquisitionComplete s = .next t ∧ t.rd 0x420008 = 2 ∧
      t.corr.cal = some { c with at_ := s.now } ∧ sameObjects [0x420008] s t ∧ t.mram = s.mram) ∧
    (∀ k w, s.calCheck c = none → s.setCopy c.target = some k → s.readable (s.copyWords c.target) = true →
      ((c.run = 1 ∧ s.darkResult c k = some w) ∨ (c.run = 2 ∧ columnResult s.dict c k = some w)) →
      ∃ t, exec .acquisitionComplete s = .next t ∧ t.rd 0x420008 = 3 ∧ t.corr.cal = some { c with at_ := s.now } ∧
        t.corr.commit = some ⟨c.target, replaceWords k.allWords w, true⟩ ∧ t.mram = s.mram) ∧
    (∀ v, s.calCheck c = none → c.run = 3 → s.flatResult c = some v → ∃ t, exec .acquisitionComplete s = .next t ∧
      t.rd 0x420008 = 5 ∧ t.corr.cal = none ∧ t.staged 0x410001 = v ∧ t.rd 0x410001 = s.rd 0x410001)) ∧
  (∀ (c : Cal) (s : State), s.corr.cal = some c → c.started = false →
    (s.booked ≤ 8388608 → ∃ t, exec .calibrationWaitTundish s = .next t ∧ t.rd 0x420008 = 1 ∧
      t.corr.cal = some { c with started := true, at_ := s.now } ∧ sameObjects [0x420008] s t) ∧
    (8388608 < s.booked → c.at_ + ms 10000 ≤ s.now → ∃ t, exec .calibrationWaitTundish s = .next t ∧
      t.corr.cal = none ∧ t.rd 0x420008 = 6))

/-- A new map goes to the idle bank segment by segment; a set commit or a cache load takes effect when it ends -/
def Obligations.NewMapsAreWrittenSegmentBySegment : Prop :=
  (∀ (c : Cal) (s : State), s.corr.cal = some c → s.rd 0x420008 = 2 → c.at_ + us 75600 ≤ s.now →
    s.inhibited = false → s.bankInUse s.idleBank = false →
    s.defectsOk (c.sums.map fun q => (pixelIndex q.row q.col, newEntry c s.liveEntry q.row q.col)) = true →
    ∃ t, exec .mapEntriesComputed s = .next t ∧ t.rd 0x420008 = 3 ∧ t.corr.mapWrite = some s.idleBank ∧
      t.corr.mapDone = 0 ∧ (t.corr.cal.map Cal.bank) = some s.idleBank ∧ (t.bankOf s.idleBank).state = 1) ∧
  (∀ (b : Nat) (c : Cal) (s : State), s.corr.mapWrite = some b → s.corr.cal = some c →
    (s.inhibited = true → exec (.mapSegmentWritten true) s = .next s) ∧
    (s.inhibited = false → c.at_ + ms 55 ≤ s.now →
      (s.corr.mapDone < 31 → ∃ t, exec (.mapSegmentWritten true) s = .next t ∧
        t.corr.mapDone = s.corr.mapDone + 1 ∧ t.rd 0x420009 = s.corr.mapDone + 1 ∧ t.rd 0x420008 = 3 ∧
        t.corr.mapWrite = some b) ∧
      (s.corr.mapDone = 31 → s.rd 0x401006 = 1 → ∃ t, exec (.mapSegmentWritten true) s = .next t ∧
        t.corr.mapWrite = none ∧ t.corr.cal = none ∧ t.rd 0x420008 = 4 ∧ t.corr.waiting = some b ∧
        (t.bankOf b).state = 2) ∧
      (c.retried = true → ∃ t, exec (.mapSegmentWritten false) s = .next t ∧ t.corr.cal = none ∧
        t.corr.mapWrite = none ∧ t.rd 0x420008 = 6))) ∧
  (∀ (k : SetCommit) (s : State), s.corr.commit = some k → s.inhibited = false → k.cal = true → k.set ≤ 2 →
    s.rd 0x400101 ≠ k.set → (∃ x ∈ s.mram.sets, x.current = false) →
    ∃ t, exec (.setCommitComplete true) s = .next t ∧ t.rd 0x420008 = 5 ∧ t.corr.cal = none ∧
      t.corr.commit = none ∧ (t.setCopy k.set).map SetSlot.words = some k.words ∧
      (∀ n, n ≠ k.set → t.setCopy n = s.setCopy n)) ∧
  (∀ (bad corrected : List Nat) (s : State), s.corr.loading.isSome = true →
    ∃ t, exec (.setCacheLoadComplete bad corrected) s = .next t ∧ t.corr.loading = none ∧ t.rd 0x400106 = 0 ∧
      (bad = [] → t.corr.unread = s.corr.unread.filter (· != s.staged 0x400101)) ∧
      t.mram = { s.mram with errs := t.mram.errs } ∧ sameObjects (0x400106 :: rangeFrom 0xC10001 5) s t)

/-- An upload opens on a free part, finishes with its segments, is abandoned by an abort or after 10 s, and the switch mode is kept -/
def Obligations.MapAndSetUploadsRunToTheirEnd : Prop :=
  (∀ (tr : Transport) (s : State), s.admits ⟨tr, 0x421001, 1, 1⟩ →
    (s.uploadFree = true → (s.calLocked && s.idleBank == s.factoryBank) = false →
      ∃ t u, exec (.startMapUpload tr 1) s = .next t ∧ t.answer.abort = 0 ∧ t.corr.upload = some u ∧ u.what = 1 ∧
        u.bank = s.idleBank ∧ u.lastAt = s.now ∧ t.rd 0x421004 = 0 ∧ t.rd 0x421005 = 1) ∧
    ((s.uploadFree = false ∨ (s.calLocked = true ∧ s.idleBank = s.factoryBank)) →
      ∃ t, exec (.startMapUpload tr 1) s = .next t ∧ t.answer.abort = 0x05010000 ∧ sameObjects (accessCounters tr) s t ∧
        t = { s with dict := t.dict, answer := t.answer })) ∧
  (∀ (tr : Transport) (v : Nat) (s : State), v = 2 ∨ v = 3 → s.admits ⟨tr, 0x421001, 1, v⟩ → s.uploadFree = true →
    ∃ t u, exec (.startSetUpload tr v) s = .next t ∧ t.answer.abort = 0 ∧ t.corr.upload = some u ∧ u.what = v ∧
      u.segData = none ∧ t.rd 0x421004 = 0 ∧ t.rd 0x421005 = 1 ∧ t.mram = s.mram) ∧
  (∀ (tr : Transport) (u : Upload) (w : List (Nat × Nat)) (s : State), s.admits ⟨tr, 0x421002, 1, 1⟩ →
    s.corr.upload = some u → u.what ≠ 1 → u.segData = some w → s.corr.commit = none → u.finish = false →
    userPointsOk (uploadedPoints w) = true → ∃ t, exec (.finishUpload tr 1) s = .next t ∧ t.answer.abort = 0 ∧
      t.corr = { s.corr with commit := some ⟨u.what - 1, w, false⟩ } ∧ sameObjects (accessCounters tr) s t) ∧
  (∀ (tr : Transport) (u : Upload) (s : State), s.admits ⟨tr, 0x421002, 1, 1⟩ → s.corr.upload = some u → u.what = 1 →
    u.begun = true → u.finish = false → u.writing = none → s.corr.commit = none → s.rd 0x421004 = 2 ^ 32 - 1 →
    s.inhibited = false → s.rd 0x401006 = 1 → ∃ t, exec (.finishUpload tr 1) s = .next t ∧ t.answer.abort = 0 ∧
      t.rd 0x421005 = 2 ∧ t.corr.upload = none ∧ t.corr.waiting = some u.bank ∧ (t.bankOf u.bank).state = 2 ∧
      sameObjects ([0x421005] ++ accessCounters tr) s t) ∧
  (∀ (tr : Transport) (u : Upload) (s : State), s.admits ⟨tr, 0x421003, 1, 1⟩ → s.corr.upload = some u →
    ∃ t, exec (.abortUpload tr 1) s = .next t ∧ t.corr.upload = none ∧ t.rd 0x421005 = 4 ∧ t.corr.cal = s.corr.cal) ∧
  (∀ (u : Upload) (s : State), s.corr.upload = some u → s.corr.commit = none → s.uploadPaused u = false →
    u.lastAt + ms 10000 ≤ s.now →
    ∃ t, exec .uploadTimeout s = .next t ∧ t.corr.upload = none ∧ t.rd 0x421005 = 4) ∧
  (∀ (tr : Transport) (v : Nat) (s : State), s.admits ⟨tr, 0x401006, 1, v⟩ → s.corr.waiting = none →
    ∃ t, exec (.mapSwitchModeWrite tr v) s = .next t ∧ t.answer.abort = 0 ∧ t.rd 0x401006 = v ∧
      sameObjects ([0x401006] ++ accessCounters tr) s t ∧ t = { s with dict := t.dict, answer := t.answer })

/-- Block lock, loss of lock and high BER set the uplink's state; a bad packet is counted, a good one acts as its type says -/
def Obligations.UplinkStatesFollowTheReceiver : Prop :=
  ∀ (ul : Nat) (s : State), ul < 2 →
    let key := 0x900301 + ul
    (s.rd key < 2 → s.lanes.released = true → ∃ t, exec (.uplinkBlockLock ul) s = .next t ∧ t.rd key = 2 ∧
      sameObjects [key] s t ∧ t = { s with dict := t.dict }) ∧
    (∀ (signal : Bool) (errors : Nat), s.lanes.released = true →
      ∃ t, exec (.uplinkLossOfLock ul signal errors) s = .next t ∧ t.rd key = (if signal then 1 else 0) ∧
      t.rd (0x900305 + ul) = (if 2 ≤ s.rd key then countUp (s.rd (0x900305 + ul)) else s.rd (0x900305 + ul)) ∧
      t.rd (0x900203 + ul) =
        (if s.rd 0x900202 = 1 then min 0xFFFFFFFF (s.rd (0x900203 + ul) + errors) else s.rd (0x900203 + ul)) ∧
      sameObjects [key, 0x900305 + ul, 0x900203 + ul] s t ∧ t = { s with dict := t.dict }) ∧
    (∀ high : Bool, 2 ≤ s.rd key → ∃ t, exec (.uplinkHighBer ul high) s = .next t ∧ t.rd key = (if high then 3 else 2) ∧
      sameObjects [key] s t ∧ t = { s with dict := t.dict }) ∧
    (∀ packet : List Byte, (s.rd key = 2 ∧ uplinkDecode packet = none) ∨ s.rd key = 3 →
      ∃ t, exec (.uplinkPacketDiscard ul packet) s = .next t ∧
        t.rd (0x900303 + ul) = countUp (s.rd (0x900303 + ul)) ∧ sameObjects [0x900303 + ul] s t ∧
        t = { s with dict := t.dict }) ∧
    (∀ packet : List Byte, s.rd key < 2 → exec (.uplinkPacketDiscard ul packet) s = .next s) ∧
    (∀ (packet : List Byte) (useq mask : Nat) (limits : List Nat), uplinkDecode packet = some (useq, .grant mask limits) →
      exec (.uplinkPacketDiscard ul packet) s = exec (.creditGrant ul mask limits) s) ∧
    (∀ (packet : List Byte) (useq target segment offset : Nat) (data : List Byte),
      uplinkDecode packet = some (useq, .chunk target segment offset data) →
      exec (.uplinkPacketDiscard ul packet) s = exec (.bulkChunk ul useq target segment offset data) s) ∧
    (∀ (packet : List Byte) (useq target segment length crc : Nat),
      uplinkDecode packet = some (useq, .segEnd target segment length crc) →
      exec (.uplinkPacketDiscard ul packet) s = exec (.segmentEnd ul useq target segment length crc) s) ∧
    (∀ (packet : List Byte) (useq lane : Nat),
      (uplinkDecode packet = some (useq, .lane 1 lane) →
        exec (.uplinkPacketDiscard ul packet) s = exec (.quiesce ul lane) s) ∧
      (uplinkDecode packet = some (useq, .lane 2 lane) →
        exec (.uplinkPacketDiscard ul packet) s = exec (.resume ul lane) s) ∧
      (uplinkDecode packet = some (useq, .lane 3 lane) →
        exec (.uplinkPacketDiscard ul packet) s = exec (.retrain ul lane) s))

/-- Credit grants and lane commands act on exactly the lanes they name, and only on a locked uplink -/
def Obligations.GrantsAndLaneCommandsActOnTheNamedLanes : Prop :=
  ∀ (ul : Nat) (s : State), ul < 2 →
    let listens := s.rd (0x900301 + ul) = 2
    (∀ (mask : Nat) (limits : List Nat), listens → ∃ t, exec (.creditGrant ul mask limits) s = .next t ∧
      (∀ n < 32, t.rd (0x901001 + n) = if mask.testBit n then nth limits n 0 else s.rd (0x901001 + n)) ∧
      sameObjects (rangeFrom 0x901001 32) s t ∧
      t = { s with dict := t.dict, lanes := { s.lanes with headSince := t.lanes.headSince } }) ∧
    (∀ (mask : Nat) (limits : List Nat), s.rd (0x900301 + ul) = 3 → ∃ t, exec (.creditGrant ul mask limits) s = .next t ∧
      t.rd (0x900303 + ul) = countUp (s.rd (0x900303 + ul)) ∧ sameObjects [0x900303 + ul] s t ∧
      t = { s with dict := t.dict }) ∧
    (∀ lane < 32, listens → ∃ t u, exec (.quiesce ul lane) s = .next t ∧ exec (.resume ul lane) s = .next u ∧
      (t.rd 0x900101).testBit lane = false ∧ (u.rd 0x900101).testBit lane = true ∧
      (∀ i < 32, i ≠ lane → (t.rd 0x900101).testBit i = (s.rd 0x900101).testBit i ∧
        (u.rd 0x900101).testBit i = (s.rd 0x900101).testBit i) ∧
      sameObjects [0x900101] s t ∧ sameObjects [0x900101] s u) ∧
    (∀ lane < 32, s.lanes.lanes.length = 32 → listens → ∃ t, exec (.retrain ul lane) s = .next t ∧
      (nth t.lanes.lanes lane Lane.reset).retrainUntil =
        some ((match (nth s.lanes.lanes lane Lane.reset).sending with
          | some q => max s.now q.endsAt
          | none => s.now) + us (s.rd 0x900108)) ∧
      (∀ n < 32, n ≠ lane → nth t.lanes.lanes n Lane.reset = nth s.lanes.lanes n Lane.reset) ∧ t.dict = s.dict) ∧
    (∀ lane x, lane < 32 → s.lanes.lanes.length = 32 → (nth s.lanes.lanes lane Lane.reset).retrainUntil = some x →
      x ≤ s.now → ∃ t, exec (.retrainEnd lane) s = .next t ∧
        nth t.lanes.lanes lane Lane.reset = { nth s.lanes.lanes lane Lane.reset with retrainUntil := none } ∧
        t = { s with lanes := { s.lanes with lanes := t.lanes.lanes, headSince := t.lanes.headSince } }) ∧
    (∀ lane, 32 ≤ lane → lane ≠ 0xFF → listens → ∃ t, exec (.quiesce ul lane) s = .next t ∧
      exec (.resume ul lane) s = .next t ∧ exec (.retrain ul lane) s = .next t ∧
      t.rd (0x900303 + ul) = countUp (s.rd (0x900303 + ul)) ∧ sameObjects [0x900303 + ul] s t ∧
      t = { s with dict := t.dict }) ∧
    (∀ tr v, s.admits ⟨tr, 0x900101, 4, v⟩ → ∃ t, exec (.downlinkEnableWrite tr v) s = .next t ∧ t.answer.abort = 0 ∧
      t.rd 0x900101 = v ∧ sameObjects ([0x900101] ++ accessCounters tr) s t) ∧
    (∀ tr v, s.admits ⟨tr, 0x900106, 1, v⟩ → ∃ t, exec (.testPatternWrite tr v) s = .next t ∧ t.answer.abort = 0 ∧
      t.rd 0x900106 = v ∧ sameObjects ([0x900106] ++ accessCounters tr) s t ∧
      t = { s with dict := t.dict, answer := t.answer, lanes := { s.lanes with headSince := t.lanes.headSince } })

/-- An accepted bulk chunk writes exactly its bytes of staging; a segment end passes on its CRC or frees staging; 10 s frees it -/
def Obligations.BulkChunksFillStagingAndSegmentsAreChecked : Prop :=
  ∀ (ul useq target segment offset length : Nat) (data : List Byte) (s : State), ul < 2 → s.rd (0x900301 + ul) = 2 →
    (64 ≤ data.length → data.length ≤ 4096 → data.length % 64 = 0 →
      (s.chunkFault target segment offset data.length = none →
        ∃ t, exec (.bulkChunk ul useq target segment offset data) s = .next t ∧
          (∀ a, Mem.read t.dma.staging a =
            if offset ≤ a ∧ a < offset + data.length then data.getD (a - offset) 0 else Mem.read s.dma.staging a) ∧
          t.dma.stage = .filling target segment ∧ t.dma.stageAt = s.now ∧ t.rd 0x903001 = countUp (s.rd 0x903001) ∧
          sameObjects [0x903001] s t ∧
          t = { s with dict := t.dict, dma := { s.dma with staging := t.dma.staging, stage := t.dma.stage, stageAt := s.now } }) ∧
      (∀ cause, s.chunkFault target segment offset data.length = some cause →
        ∃ t, exec (.bulkChunk ul useq target segment offset data) s = .next t ∧ t.rd 0x903003 = cause ∧
          t.rd 0x903002 = countUp (s.rd 0x903002) ∧ t.dma = s.dma ∧ t.mram = s.mram)) ∧
    (s.targetOpen target = true → s.dma.stage = .filling target segment →
      (∀ l, targetLimits target = some l → segment ≤ l.1 → l.2.1 ≤ length → length ≤ l.2.2 →
        ∃ t, exec (.segmentEnd ul useq target segment length (crc32 (Mem.readAll s.dma.staging 0 length) + 1)) s = .next t ∧
          t.dma = { s.dma with stage := .free } ∧ t.rd 0x903005 = 2 ∧ t.rd 0x903003 = 4 ∧
          t.rd 0x903002 = countUp (s.rd 0x903002) ∧ t.corr = s.corr ∧ t.mram = s.mram) ∧
      (target = 4 → segment = 0 → 64 ≤ length → length ≤ 1048576 →
        ∃ t, exec (.segmentEnd ul useq target segment length (crc32 (Mem.readAll s.dma.staging 0 length))) s = .next t ∧
          t.rd 0x903005 = 1 ∧ sameObjects [0x903005] s t ∧ t = { s with dict := t.dict })) ∧
    (s.dma.stage = .filling target segment → s.dma.stageAt + ms 10000 ≤ s.now →
      ∃ t, exec .stagingAbandon s = .next t ∧ t = { s with dma := { s.dma with stage := .free } })

/-- A dispatched packet takes a free lane of its sprue with the most credit, pays its blocks, and takes its flask's counts -/
def Obligations.PacketsLeaveOnTheLaneWithTheMostCredit : Prop :=
  ∀ (sp : Nat) (s : State), sp < 4 → s.lanes.lanes.length = 32 → s.lanes.stalled.length = 4 →
    s.image.flasks.length = 16 →
    (∀ p n, s.headOf sp = some p → p.flask < 16 → s.pickLane sp p.blocks = some n →
      n / 8 = sp ∧ s.laneFree p.blocks n = true ∧
      (∀ m, m / 8 = sp → s.laneFree p.blocks m = true → s.credit m ≤ s.credit n ∧ (m < n → s.credit m < s.credit n)) ∧
      ∃ t q, exec (.packetDispatch sp) s = .next t ∧ (nth t.lanes.lanes n Lane.reset).sending = some q ∧ q.pkt = p ∧
        q.seq = (s.flask p.flask).seq ∧ q.slag = (s.flask p.flask).slag ∧ q.lostn = (s.flask p.flask).lostn ∧
        (t.flask p.flask).seq = ((s.flask p.flask).seq + 1) % 2 ^ 32 ∧ (t.flask p.flask).slag = 0 ∧
        t.rd (0x901101 + n) = (s.rd (0x901101 + n) + p.blocks) % 2 ^ 32 ∧
        t.rd (0x901201 + n) = countUp (s.rd (0x901201 + n)) ∧
        sameObjects [0x901101 + n, 0x901201 + n, 0x901403] s t ∧ nth t.lanes.stalled sp true = false) ∧
    (∀ n q, n < 32 → (nth s.lanes.lanes n Lane.reset).sending = some q → q.endsAt ≤ s.now →
      ∃ t, exec (.packetSent n) s = .next t ∧
        nth t.lanes.lanes n Lane.reset = { nth s.lanes.lanes n Lane.reset with sending := none } ∧
        t.lanes.queues = s.lanes.queues ∧ t = { s with lanes := t.lanes }) ∧
    (∀ n < 32, s.markerDue n = true → (nth s.lanes.lanes n Lane.reset).sending = none →
      ∃ t, exec (.laneMarker n) s = .next t ∧ (nth t.lanes.lanes n Lane.reset).since = s.now ∧
        (nth t.lanes.lanes n Lane.reset).markers = (nth s.lanes.lanes n Lane.reset).markers + 1 ∧
        (nth t.lanes.lanes n Lane.reset).lastMarker = some ([n, if s.rd 0x120001 = 0xFE then 0xFF else s.rd 0x120001,
          n / 8 + 4 * ((nth s.lanes.lanes n Lane.reset).markers % 64), 0x0F, 0, 0, 0].map (BitVec.ofNat 8)) ∧
        t = { s with lanes := { s.lanes with lanes := t.lanes.lanes } }) ∧
    (∀ x, nth s.lanes.headSince sp none = some x → nth s.lanes.stalled sp false = false →
      x + us (s.rd 0x901401) < s.now → ∃ t, exec (.creditStall sp) s = .next t ∧ nth t.lanes.stalled sp false = true ∧
        t.rd 0x901402 = countUp (s.rd 0x901402) ∧ t.rd 0x901403 = s.rd 0x901403 ||| (255 * 2 ^ (8 * sp)) ∧
        t.mram = s.mram)

/-- A pour that no packet has left within its age limit is dropped whole and counted -/
def Obligations.AgedPoursAreDroppedWhole : Prop :=
  ∀ s : State, (s.rd 0x902002 = 0 → exec .pourAgeDrop s = .next s) ∧
    (∀ u, s.droppable = some u → s.rd 0x902002 ≠ 0 → u.at_ + us (s.rd 0x902002) ≤ s.now →
      ∃ t, exec .pourAgeDrop s = .next t ∧ t.rd 0x902202 = countUp (s.rd 0x902202) ∧ t.rd 0x902203 = u.stamps.pour ∧
        (∀ v ∈ t.lanes.tundish, v ∈ s.lanes.tundish ∧ v.idx ≠ u.idx) ∧
        (s.image.flasks.length = 16 → ∀ f < 16, (t.flask f).slag = min 0xFFFF ((s.flask f).slag + 1)) ∧
        (∀ q ∈ t.lanes.queues, ∀ p ∈ q, p.ofPour u = false) ∧ t.mram = s.mram)

/-- The ring link trains, joins 100 µs later, and closes its switch on a loss or a bypass hold, losing the frames not yet sent -/
def Obligations.RingLinkJoinsAndLeaves : Prop :=
  (∀ s : State, s.ringUp = true → s.rd 0x120002 < 2 → ∃ t, exec .trainingAchieved s = .next t ∧ t.rd 0x120002 = 2 ∧
    t.ring = { s.ring with trainedAt := some s.now } ∧ sameObjects [0x120002] s t) ∧
  (∀ (x : Instant) (s : State), s.ring.trainedAt = some x → s.rd 0x120002 = 2 → s.rd 0x120005 = 0 → x + us 100 ≤ s.now →
    ∃ t, exec .ringJoin s = .next t ∧ t.rd 0x120002 = 3 ∧ t.rd 0x120003 = 0 ∧ t.ringActive = true ∧
      sameObjects [0x120002, 0x120003, 0x100101, 0xC00007, 0xC00008] s t ∧ t.mram = s.mram) ∧
  (∀ (errors : Nat) (signal : Bool) (s : State), s.ringUp = true →
    ∃ t, exec (.lossOfTraining errors signal) s = .next t ∧ t.rd 0x120002 = (if signal then 1 else 0) ∧
      t.rd 0x120003 = 1 ∧ t.rd 0x120103 = min 0xFFFFFFFF (s.rd 0x120103 + errors) ∧ t.ring.tx = [] ∧ t.ring.ins = [] ∧
      t.rd 0x120104 = (if s.rd 0x120002 = 3 then countUp (s.rd 0x120104) else s.rd 0x120104) ∧ t.ring.trainedAt = none ∧
      sameObjects [0x120002, 0x120003, 0x120103, 0x120104, 0x100101, 0xC00007, 0xC00008] s t) ∧
  (∀ (tr : Transport) (v : Nat) (s : State), s.admits ⟨tr, 0x120005, 1, v⟩ →
    ∃ t, exec (.bypassHoldWrite tr v) s = .next t ∧ t.answer.abort = 0 ∧ t.rd 0x120005 = v ∧
      (v = 1 → s.rd 0x120002 = 3 → t.rd 0x120002 = 2 ∧ t.rd 0x120003 = 1 ∧ t.ring.tx = []) ∧
      (v = 0 → t.ring = s.ring ∧ t.rd 0x120002 = s.rd 0x120002) ∧
      sameObjects ([0x120005, 0x120002, 0x120003] ++ accessCounters tr) s t)

/-- A passive part only hears frames; an active one forwards with HOPS one higher, marks bad ones EOFE, and drops HOPS of 31 -/
def Obligations.FramesAreForwardedCountedOrDiscarded : Prop :=
  let commands (f : Frame) : List Instr := [.readRequest f, .writeRequest f, .enumerate f, .sync f 0, .tap f, .rollCall f,
    .unknownFrameType f, .frameForward f]
  let heard (f : Frame) (s t : State) : Prop :=
    t.rd 0x120103 = if s.ringUp = true then min 0xFFFFFFFF (s.rd 0x120103 + f.viol) else s.rd 0x120103
  let goesOn (c : Instr) (f : Frame) (s : State) : Prop := ∃ t g, exec c s = .next t ∧ frameLeaves s t g ∧ heard f s t ∧
    g.hops = f.hops + 1 ∧ g.dst = f.dst ∧ g.src = f.src ∧ g.typ = f.typ ∧ g.seq = f.seq ∧ g.payload = f.payload ∧
    goodFrame g = true ∧ sameObjects [0x120103] s t ∧
    t = { s with dict := t.dict, ring := { s.ring with out := t.ring.out, ins := t.ring.ins } }
  (∀ (f : Frame) (s : State), ∀ c ∈ commands f,
    (s.ringActive = false → ∃ t, exec c s = .next t ∧ heard f s t ∧
      t.rd 0x120002 = (if s.ringUp = true ∧ s.rd 0x120002 = 0 then 1 else s.rd 0x120002) ∧
      sameObjects [0x120103, 0x120002] s t ∧ t = { s with dict := t.dict }) ∧
    (s.ringActive = true → 31 ≤ f.hops → goodFrame f = true → ∃ t, exec c s = .next t ∧ heard f s t ∧
      t.rd 0x120105 = countUp (s.rd 0x120105) ∧ sameObjects [0x120103, 0x120105] s t ∧ t = { s with dict := t.dict }) ∧
    (s.ringActive = true → f.hops < 31 → goodFrame f = false → ∃ t, exec c s = .next t ∧ heard f s t ∧
      frameLeaves s t { f with hops := f.hops + 1, fin := .eofe, viol := 0 } ∧
      t.rd 0x120101 = (if f.fin = .eof then countUp (s.rd 0x120101) else s.rd 0x120101) ∧
      t.rd 0x120102 = (if f.fin = .eofe then countUp (s.rd 0x120102) else s.rd 0x120102) ∧
      sameObjects [0x120101, 0x120102, 0x120103] s t ∧
      t = { s with dict := t.dict, ring := { s.ring with out := t.ring.out, ins := t.ring.ins } })) ∧
  (∀ (f : Frame) (s : State), s.ringActive = true → f.hops < 31 → goodFrame f = true → s.ownFrame f = false →
    goesOn (.readRequest f) f s ∧ goesOn (.writeRequest f) f s ∧ goesOn (.unknownFrameType f) f s ∧
    (∃ t g, exec (.frameForward f) s = .next t ∧ frameLeaves s t g ∧ g.hops = f.hops + 1 ∧ g.payload = f.payload) ∧
    goesOn (.frameForward f) f s) ∧
  (∀ (f : Frame) (s : State), s.ringActive = true → f.hops < 31 → goodFrame f = true → s.ownFrame f = true →
    s.serves = true → ∃ t r, exec (.unknownFrameType f) s = .next t ∧ t.ring = { s.ring with tx := s.ring.tx ++ [r] } ∧
      r.seq = f.seq ∧ r.dst = 0 ∧ r.src = s.rd 0x120001 ∧ r.payload.head? = some 4 ∧ heard f s t ∧
      sameObjects [0x120103] s t ∧ t = { s with dict := t.dict, ring := t.ring }) ∧
  (∀ (f : Frame) (l : List Frame) (s : State), s.ringActive = true → s.ring.tx = f :: l → s.ring.ins = [] →
    s.ring.txFree ≤ s.now → exec .frameInsert s = .next { s with ring :=
      { s.ring with tx := l, out := some f, txFree := s.now + 2280 * (16 + f.payload.length) } })

/-- A well-formed read request for the part is answered with status 0, the live version and the object's bytes, and is kept -/
def Obligations.ReadRequestsAreAnswered : Prop :=
  ∀ (f : Frame) (s : State), s.ringActive = true → f.hops < 31 → goodFrame f = true → s.ownFrame f = true → f.typ = 0x01 →
    s.serves = true → s.busy = false → malformed f = false → payloadField f.payload 3 1 = 0 →
    (∀ k ∈ s.ring.kept, k.seq ≠ f.seq) → s.requestsHeld < 8 →
    let key := reqKey f.payload
    readAbort key = none → (s.present .ring key).length ≤ 240 →
    (reqLen f.payload = 0 ∨ reqLen f.payload = (s.present .ring key).length) →
    (∀ x ∈ s.wordsOf key, s.readable x = true) → key ≠ 0x120103 →
    key / 256 ∉ [0x5105, 0x5109] → key ∉ [0x520002, 0x600405, 0xC00005] →
    ∃ t r, exec (.readRequest f) s = .next t ∧ t.ring.tx = s.ring.tx ++ [r] ∧ r.dst = 0 ∧ r.src = s.rd 0x120001 ∧
      r.typ = 0x81 ∧ r.seq = f.seq ∧ goodFrame r = true ∧
      r.payload = [0, 0, 0, 0] ++ leBytes 4 0 ++ leBytes 8 (s.rd 0x110001) ++ s.present .ring key ∧
      (∃ k ∈ t.ring.kept, k.seq = f.seq ∧ k.req = f ∧ k.reply = r) ∧
      t.rd 0x102001 = countUp (s.rd 0x102001) ∧ sameObjects [0x102001, 0x120103, 0xC10001, 0xC10003] s t ∧
      t = { s with dict := t.dict, answer := t.answer, ring := { s.ring with tx := t.ring.tx, kept := t.ring.kept } }

/-- A write request of a staged object with no group of the ring joins the loose set and is answered with the next version -/
def Obligations.WriteRequestsStageAndAnswer : Prop :=
  ∀ (f : Frame) (s : State), s.ringActive = true → f.hops < 31 → goodFrame f = true → s.ownFrame f = true → f.typ = 0x02 →
    s.serves = true → s.busy = false → malformed f = false → reqFlag f.payload 1 = false →
    (∀ k ∈ s.ring.kept, k.seq ≠ f.seq) → s.requestsHeld < 8 → s.stage.group = none →
    let key := reqKey f.payload
    let v := leNat (f.payload.drop 8)
    s.writeAbort ⟨.ring, key, reqLen f.payload, v⟩ = none → (∃ r, objRow key = some r ∧ r.acc = .rws) → objSize key ≤ 240 →
    Dict.bytes (Dict.insert s.stage.loose key v) ≤ 65536 →
    ∃ t r, exec (.writeRequest f) s = .next t ∧ t.ring.tx = s.ring.tx ++ [r] ∧ r.typ = 0x82 ∧ r.seq = f.seq ∧
      r.payload = [0, 0, 0, 0] ++ leBytes 4 0 ++ leBytes 8 (s.rd 0x110002 + 1) ∧
      t.stage.loose = Dict.insert s.stage.loose key v ∧ t.rd key = s.rd key ∧
      sameObjects [0x102001, 0x110004, 0x400106, 0x120103] s t ∧ t.mram = s.mram

/-- Enumeration gives the part its position, roll call adds its status byte, a sync frame disciplines its time, and each goes on -/
def Obligations.BroadcastFramesActAndGoOn : Prop :=
  (∀ (f : Frame) (s : State), s.ringActive = true → f.hops < 31 → goodFrame f = true →
    (f.dst = 0xFE → f.typ = 0x10 → f.payload.length = 250 →
      1 ≤ payloadField f.payload 0 1 → payloadField f.payload 0 1 ≤ 31 →
      ∃ t g, exec (.enumerate f) s = .next t ∧ t.rd 0x120001 = payloadField f.payload 0 1 ∧
        t.rd 0x120004 = payloadField f.payload 0 1 ∧ t.ring.kept = [] ∧ frameLeaves s t g ∧ g.hops = f.hops + 1 ∧
        payloadField g.payload 0 1 = payloadField f.payload 0 1 + 1 ∧ sameObjects [0x120001, 0x120004, 0x120103] s t ∧
        t.mram = s.mram) ∧
    (f.dst = 0xFF → f.typ = 0x13 → f.payload.length = 32 → s.rd 0x120001 < 32 →
      ∃ t g, exec (.rollCall f) s = .next t ∧ frameLeaves s t g ∧ g.hops = f.hops + 1 ∧ g.payload.length = 32 ∧
        (payloadField g.payload (s.rd 0x120001) 1).testBit 0 = true ∧
        (∀ i < 32, i ≠ s.rd 0x120001 → nth g.payload i 0 = nth f.payload i 0) ∧
        sameObjects [0x120103] s t ∧
        t = { s with dict := t.dict, ring := { s.ring with out := t.ring.out, ins := t.ring.ins } }) ∧
    (∀ residence, f.dst = 0xFF → f.typ = 0x11 → f.payload.length = 16 →
      ∃ t g, exec (.sync f residence) s = .next t ∧ t.rd 0x120203 = 1 ∧ t.ring.lastSync = some s.now ∧
        frameLeaves s t g ∧ g.hops = f.hops + 1 ∧ t.mram = s.mram ∧
        (s.ring.nanos = 2 ^ 64 - 1 → t.ring.nanos = 2 ^ 64 - 1) ∧
        (s.ring.nanos ≠ 2 ^ 64 - 1 → s.rd 0x120203 = 0 → t.ring.nanos =
          min (2 ^ 64 - 1) (payloadField f.payload 0 8 + payloadField f.payload 8 4 + s.rd 0x120202)))) ∧
  (∀ (x : Instant) (s : State), s.ring.lastSync = some x → s.rd 0x120203 = 1 → x + ms (s.rd 0x120206) ≤ s.now →
    ∃ t, exec .syncTimeout s = .next t ∧ t.rd 0x120203 = 2 ∧ t.ring.rate = s.ring.freq ∧ t.ring.nanos = s.ring.nanos ∧
      t.mram = s.mram) ∧
  (∀ s : State, s.ring.nanos = 2 ^ 64 - 1 →
    (s.ring.satLogged = false → ∃ t, exec .ringTimeSaturated s = .next t ∧ t.ring.satLogged = true ∧
      t.ring.nanos = 2 ^ 64 - 1 ∧ (s.log.queue.length < 64 → t.log.queue.length = s.log.queue.length + 1)) ∧
    (s.ring.satLogged = true → exec .ringTimeSaturated s = .next s))

/-- A tap in time is scheduled at its action time, one too far ahead or too close to the last is discarded, and it fires once -/
def Obligations.TapsAreScheduledAndFire : Prop :=
  (∀ (f : Frame) (s : State), s.ringActive = true → f.hops < 31 → goodFrame f = true → f.dst = 0xFF → f.typ = 0x12 →
    f.payload.length = 16 →
    let act := payloadField f.payload 0 1
    let a := payloadField f.payload 8 8
    (s.tapDiscarded a = true → ∃ t, exec (.tap f) s = .next t ∧ t.rd 0x120301 = countUp (s.rd 0x120301) ∧
      t.rd 0x120303 = countUp (s.rd 0x120303) ∧ t.ring.taps = s.ring.taps ∧ t.stage = s.stage) ∧
    (s.tapDiscarded a = false → (∀ i < 16, byteOf (s.rd (0x802001 + i)) 0 ≠ act) →
      ∃ t x, exec (.tap f) s = .next t ∧ t.rd 0x120301 = countUp (s.rd 0x120301) ∧ t.rd 0x120304 = a ∧
        t.ring.taps = s.ring.taps ++ [x] ∧ x.at_ = a ∧ x.act = act ∧ t.ring.lastTapA = some a ∧
        x.pour = (s.rd 0x210002 == 4 && s.rd 0x210008 == act) ∧
        x.line = (s.rd 0x340101 == 4 && s.rd 0x340104 == act) ∧
        (∃ g, frameLeaves s t g ∧ g.hops = f.hops + 1 ∧ g.payload = f.payload) ∧ t.stage = s.stage)) ∧
  (∀ (x : PendingTap) (l : List PendingTap) (s : State), s.ring.taps = x :: l → x.at_ ≤ s.ringTime →
    (x.pour = true → x.line = false → s.rd 0x210001 = 0 → s.rd 0x210002 = 4 → s.rd 0x210008 = x.act → s.takesPour s.now →
      ∃ t, exec .tapActionTime s = .next t ∧ t.ring.taps = l ∧ pourAccepted s t s.now) ∧
    (x.pour = false → x.line = true → s.tdiMode = true → s.rd 0x340101 = 4 → s.rd 0x340104 = x.act → s.takesEvents →
      ∃ t, exec .tapActionTime s = .next t ∧ t.ring.taps = l ∧ lineAccepted s t s.now s.position) ∧
    (x.pour = false → x.line = false →
      exec .tapActionTime s = .next { s with ring := { s.ring with taps := l } }))

/-- A staged write joins the owner's group or the loose set; an MRAM-backed write waits for MRAM; a plain register takes its value -/
def Obligations.StagedAndRegisterWritesLandWhereTheirObjectBelongs : Prop :=
  (∀ (tr : Transport) (index sub : Nat) (data : List Byte) (s : State),
    let w := txnOf tr index sub data
    let lands (c : Instr) : Prop := s.admits w → ∀ r, objRow w.key = some r →
    (r.acc = .rws →
      (∀ g, s.stage.group = some g → g.owner = tr →
        let vals := Dict.insert g.values w.key w.val
        (vals.length ≤ 4096 ∧ Dict.bytes vals ≤ 65536 → ∃ t x, exec c s = .next t ∧ t.answer = ⟨0, 0, [], false⟩ ∧
          t.stage = { s.stage with group := some x } ∧ x.owner = tr ∧ x.values = vals ∧ x.lastAt = s.now ∧
          sameObjects ([0x110004, 0x110005] ++ accessCounters tr) s t ∧
          t = { s with dict := t.dict, answer := t.answer, stage := t.stage }) ∧
        (¬(vals.length ≤ 4096 ∧ Dict.bytes vals ≤ 65536) → ∃ t, exec c s = .next t ∧ t.answer.abort = 0x05020000 ∧
          sameObjects (accessCounters tr) s t ∧ t = { s with dict := t.dict, answer := t.answer })) ∧
      ((s.stage.group = none ∨ ∃ g, s.stage.group = some g ∧ g.owner ≠ tr) →
        let vals := Dict.insert s.stage.loose w.key w.val
        (Dict.bytes vals ≤ 65536 → ∃ t, exec c s = .next t ∧ t.answer = ⟨0, s.rd 0x110002 + 1, [], false⟩ ∧
          t.stage = { s.stage with loose := vals } ∧
          sameObjects ([0x110004, 0x110005, 0x400106] ++ accessCounters tr) s t ∧
          t = { s with dict := t.dict, answer := t.answer, stage := t.stage,
                       corr := { s.corr with loading := t.corr.loading } }) ∧
        (65536 < Dict.bytes vals → ∃ t, exec c s = .next t ∧ t.answer.abort = 0x05020000 ∧
          sameObjects (accessCounters tr) s t ∧ t = { s with dict := t.dict, answer := t.answer }))) ∧
    (r.acc = .rw → r.mram = true → ∃ t, exec c s = .next t ∧ t.answer = ⟨0, 0, [], true⟩ ∧
      t.stage = { s.stage with mramWrite := some w, serving := some (.write w s.now) } ∧
      sameObjects (accessCounters tr) s t ∧ t = { s with dict := t.dict, answer := t.answer, stage := t.stage }) ∧
    (w.key ∈ [0x100102, 0xC00006, 0x120401] → ∃ t, exec c s = .next t ∧ t.answer.abort = 0 ∧ t.rd w.key = w.val ∧
      sameObjects (w.key :: accessCounters tr) s t ∧ t = { s with dict := t.dict, answer := t.answer })
    lands (.stagedWrite tr index sub data) ∧ lands (.registerWrite tr index sub data) ∧
    (s.admits w → w.key ∈ [0x100102, 0xC00006, 0x120401] → ∃ t, exec (.registerWrite tr index sub data) s = .next t ∧
      t.answer.abort = 0 ∧ t.rd w.key = w.val) ∧
    (s.admits w → ∀ r, objRow w.key = some r → r.acc = .rws → s.stage.group = none →
      Dict.bytes (Dict.insert s.stage.loose w.key w.val) ≤ 65536 →
      ∃ t, exec (.stagedWrite tr index sub data) s = .next t ∧ t.answer.abort = 0 ∧ t.staged w.key = w.val)) ∧
  (∀ (w : Txn) (x : Instant) (s : State), s.stage.mramWrite = some w → s.stage.serving = some (.write w x) →
    s.stage.waiting = [] →
    w.key / 256 ≠ 0x6A03 → w.key ∉ accessCounters w.tr →
    ∃ t, exec .mramObjectWriteComplete s = .next t ∧ t.answer = ⟨0, 0, [], false⟩ ∧ t.rd w.key = w.val ∧
      t.rd (transportKeys w.tr).1 = countUp (s.rd (transportKeys w.tr).1) ∧ sameObjects (w.key :: accessCounters w.tr) s t ∧
      t = { s with dict := t.dict, answer := t.answer, stage := { s.stage with mramWrite := none, serving := none },
                   mram := { s.mram with errs := t.mram.errs } })

/-- A group has one owner; its close requests one entry with the loose set under it; a refusal, abandon or timeout drops only it -/
def Obligations.CommitGroupsOpenCloseAndAreAbandoned : Prop :=
  (∀ (tr : Transport) (s : State),
    let refused (key : Nat) (c : Instr) (v : Nat) : Prop := s.admits ⟨tr, key, 1, v⟩ → ∃ t, exec c s = .next t ∧
      t.answer.abort = 0x05010000 ∧ sameObjects (accessCounters tr) s t ∧ t = { s with dict := t.dict, answer := t.answer }
    (s.stage.group.isSome = true → refused 0x800001 (.openCommitGroup tr 1) 1) ∧
    ((∀ g, s.stage.group = some g → g.owner ≠ tr) →
      refused 0x800005 (.closeCommitGroup tr 1) 1 ∧ refused 0x800006 (.abandonCommitGroup tr 1) 1) ∧
    (∀ g, s.stage.group = some g → g.owner ≠ tr →
      refused 0x800005 (.closeCommitGroup tr 0) 0 ∧ refused 0x800006 (.abandonCommitGroup tr 0) 0) ∧
    (s.stage.group = none → s.admits ⟨tr, 0x800001, 1, 1⟩ → ∃ t, exec (.openCommitGroup tr 1) s = .next t ∧
      t.answer.abort = 0 ∧ t.stage = { s.stage with group := some ⟨tr, [], none, s.now⟩ } ∧
      sameObjects (accessCounters tr) s t ∧ t = { s with dict := t.dict, answer := t.answer, stage := t.stage }) ∧
    (∀ g, s.stage.group = some g → g.owner = tr →
      let vals := Dict.putAll s.stage.loose g.values
      (s.admits ⟨tr, 0x800006, 1, 1⟩ → ∃ t, exec (.abandonCommitGroup tr 1) s = .next t ∧ t.answer.abort = 0 ∧
        t.stage = { s.stage with group := none } ∧ sameObjects (accessCounters tr) s t ∧
        t = { s with dict := t.dict, answer := t.answer, stage := t.stage }) ∧
      (s.admits ⟨tr, 0x800005, 1, 1⟩ →
        (s.entryFault false vals = none → ∃ t e, exec (.closeCommitGroup tr 1) s = .next t ∧
          t.answer = ⟨0, s.rd 0x110002 + 1, [], false⟩ ∧
          t.stage = { s.stage with group := none, loose := [], queue := s.stage.queue ++ [e] } ∧
          e.values = vals ∧ e.version = s.rd 0x110002 + 1 ∧ e.bound = s.closeBoundary ∧ e.by_ = .host ∧ e.due = false ∧
          t.rd 0x110002 = s.rd 0x110002 + 1 ∧
          sameObjects ([0x110002, 0x110004, 0x110005, 0x400106] ++ accessCounters tr) s t ∧ t.mram = s.mram) ∧
        (∀ cause obj, s.entryFault false vals = some (cause, obj) → ∃ t, exec (.closeCommitGroup tr 1) s = .next t ∧
          t.answer.abort = 0x05030000 ∧ t.stage = { s.stage with group := none } ∧ t.rd 0x800102 = cause ∧
          t.rd 0x800103 = obj ∧ t.rd 0x800104 = countUp (s.rd 0x800104) ∧
          sameObjects ([0x800102, 0x800103, 0x800104, 0x100101, 0xC00007, 0xC00008] ++ accessCounters tr) s t)))) ∧
  (∀ (g : Group) (s : State), s.stage.group = some g →
    (s.rd 0x80000A = 0 ∨ s.now < g.lastAt + ms (s.rd 0x80000A) → exec .groupIdleTimeout s = .next s) ∧
    (s.rd 0x80000A ≠ 0 → g.lastAt + ms (s.rd 0x80000A) ≤ s.now → ∃ t, exec .groupIdleTimeout s = .next t ∧
      t.stage = { s.stage with group := none } ∧ t.rd 0x800107 = countUp (s.rd 0x800107) ∧
      (s.log.queue.length < 64 → t.log.queue.length = s.log.queue.length + 1) ∧
      sameObjects [0x800107, 0xC00007, 0xC00008] s t))

/-- At idle a ready entry's values go live in one step with its version; the grant ends the window and applies what it held -/
def Obligations.HandOversTakePlaceWholeAndTheGrantEndsTheWindow : Prop :=
  (∀ (e : Entry) (l : List Entry) (s : State), s.idle = true → s.imaging = true → s.stage.window = none →
    s.stage.queue = e :: l → (e.due = true ∨ s.metAtIdle e.bound = true) → e.reading = none → s.corr.loading = none →
    s.selectsBank e.values = none → s.recheck e = none → Dict.rising e.values = true →
    (∀ w ∈ e.values, (objRow w.1).map ObjRow.acc = some .rws) →
    ∃ t, exec .handOverAtIdle s = .next t ∧ t.rd 0x110001 = e.version ∧
      (∀ w ∈ e.values, t.rd w.1 = w.2) ∧
      (∀ k, (objRow k).map ObjRow.acc = some .rws → Dict.find e.values k = none → t.rd k = s.rd k) ∧
      t.stage.queue.map Entry.version = l.map Entry.version ∧ t.stage.window = none ∧ t.stage.granted = [] ∧
      t.stage.loose = s.stage.loose ∧ t.stage.group = s.stage.group ∧ t.mram = s.mram) ∧
  (∀ s : State, s.idle = false ∨ s.stage.queue = [] → exec .handOverAtIdle s = .next s) ∧
  (∀ (x : Instant) (s : State), s.stage.window = some x →
    (s.now < x + ns 40 → exec .handOverGrant s = .next s) ∧
    (x + ns 40 ≤ s.now → s.stage.waiting = [] → ∃ t, exec .handOverGrant s = .next t ∧ t.stage.window = none ∧
      t.stage.granted = [] ∧ t.stage.queue = s.stage.queue ∧ t.mram = s.mram ∧
      (∀ k, (objRow k).map ObjRow.acc = some .rws → t.rd k = s.rd k)) ∧
    (x + ns 40 ≤ s.now → s.stage.serving = none → s.twi.bus = [] → ∀ w y, s.stage.waiting = [.write w y] →
      (∀ z, s.twi.lastStop = some z → z ≤ y) →
      exec .handOverGrant s = .next ((s.grant.onStage fun g => { g with waiting := [] }).writeNow w (State.effect w))))

/-- A mould pour requests an entry with every mould-carried object; a load replaces the group's writes; a bad image is refused -/
def Obligations.MouldPoursAndLoadsReadTheWholeImage : Prop :=
  (∀ (tr : Transport) (n : Nat) (s : State),
    (s.admits ⟨tr, 0x801001, 1, n⟩ → ∃ t, exec (.pourMould tr n) s = .next t ∧ t.answer = ⟨0, 0, [], true⟩ ∧
      sameObjects (accessCounters tr) s t ∧
      t = { s with dict := t.dict, answer := t.answer, stage := { s.stage with
        reads := s.stage.reads ++ [⟨n, false, some ⟨tr, 0x801001, 1, n⟩, 0⟩],
        serving := some (.write ⟨tr, 0x801001, 1, n⟩ s.now) } }) ∧
    (s.admits ⟨tr, 0x801002, 1, n⟩ →
      (s.ownsGroup tr = true → ∃ t, exec (.loadMould tr n) s = .next t ∧ t.answer = ⟨0, 0, [], true⟩ ∧
        sameObjects (accessCounters tr) s t ∧
        t = { s with dict := t.dict, answer := t.answer, stage := { s.stage with
          reads := s.stage.reads ++ [⟨n, true, some ⟨tr, 0x801002, 1, n⟩, 0⟩],
          serving := some (.write ⟨tr, 0x801002, 1, n⟩ s.now) } }) ∧
      (s.ownsGroup tr = false → ∃ t, exec (.loadMould tr n) s = .next t ∧ t.answer.abort = 0x05010000 ∧
        sameObjects (accessCounters tr) s t ∧ t = { s with dict := t.dict, answer := t.answer }))) ∧
  (∀ (r : MouldRead) (w : Txn) (y : Instant) (corrected : List Nat) (s : State), s.stage.reads = [r] → r.txn = some w →
    r.slot = w.val → s.stage.serving = some (.write w y) → s.stage.waiting = [] →
    let img := s.slotImage w.val
    let errors := rangeFrom 0xC10001 5
    let refusal := [0x800102, 0x800103, 0x800104, 0x100101, 0xC00007, 0xC00008] ++ errors ++ accessCounters w.tr
    let onlyErrors (t : State) : Prop := t.mram = { s.mram with errs := t.mram.errs }
    (∀ d, readImage w.val img = .inl d →
      (∀ k ∈ mouldKeys, Dict.find (mouldValues d) k = some ((Dict.find d k).getD (objDefault k))) ∧
      (r.load = false → s.entryFault false (Dict.putAll s.stage.loose (mouldValues d)) = none →
        ∃ t e, exec (.mouldReadComplete [] corrected) s = .next t ∧ t.answer = ⟨0, s.rd 0x110002 + 1, [], false⟩ ∧
          t.stage = { s.stage with reads := [], serving := none, loose := [], queue := s.stage.queue ++ [e] } ∧
          e.values = Dict.putAll s.stage.loose (mouldValues d) ∧ e.version = s.rd 0x110002 + 1 ∧ e.bound = .next ∧
          e.mould = some w.val ∧ e.gen = imageGen img ∧
          sameObjects ([0x110002, 0x110004, 0x110005, 0x400106] ++ errors ++ accessCounters w.tr) s t ∧ onlyErrors t) ∧
      (r.load = true → ∀ g, s.stage.group = some g → ∃ t x, exec (.mouldReadComplete [] corrected) s = .next t ∧
        t.answer.abort = 0 ∧ t.stage = { s.stage with reads := [], serving := none, group := some x } ∧ x.owner = g.owner ∧
        x.values = mouldValues d ∧ x.mould = some (w.val, imageGen img) ∧
        sameObjects (errors ++ accessCounters w.tr) s t ∧ onlyErrors t)) ∧
    (∀ cause, readImage w.val img = .inr cause → (r.load = true → s.stage.group.isSome = true) →
      ∃ t, exec (.mouldReadComplete [] corrected) s = .next t ∧ t.answer.abort = 0x05030000 ∧
        t.stage = { s.stage with reads := [], serving := none } ∧ t.rd 0x800104 = countUp (s.rd 0x800104) ∧
        sameObjects refusal s t ∧ onlyErrors t) ∧
    (∀ x, inWords (s.imageWords w.val) x = true → (r.load = true → s.stage.group.isSome = true) →
      (r.load = false → s.rd 0x110002 ≠ 2 ^ 64 - 1 ∧ s.stage.queue.length < 4) →
      ∃ t, exec (.mouldReadComplete [x] corrected) s = .next t ∧ t.answer.abort = 0x06010000 ∧
        t.stage = { s.stage with reads := [], serving := none } ∧ t.rd 0x800102 = 0x08 ∧
        t.rd 0xC10002 = countUp (s.rd 0xC10002) ∧ t.rd 0xC10004 = x ∧ t.rd 0xC10005 = regionOf x ∧
        sameObjects refusal s t ∧ onlyErrors t))

/-- A store or erase is refused while another runs or the slot is protected; only its own slot changes, and only when it passes -/
def Obligations.MouldSlotsChangeOnlyWhenAnOperationPasses : Prop :=
  (∀ (tr : Transport) (n : Nat) (s : State),
    let turnedAway (c : Instr) (key : Nat) : Prop := s.admits ⟨tr, key, 1, n⟩ →
      (s.stage.op.isSome = true → ∃ t, exec c s = .next t ∧ t.answer.abort = 0x05010000 ∧ t.stage = s.stage ∧
        t.mram = s.mram ∧ sameObjects ([0xC00007, 0xC00008] ++ accessCounters tr) s t) ∧
      (s.stage.op = none → (s.rd 0x801101).testBit n = true → ∃ t, exec c s = .next t ∧ t.answer.abort = 0x05010000 ∧
        t.rd 0x801006 = 3 ∧ t.rd 0x801007 = 2 ∧ t.stage = s.stage ∧ t.mram = s.mram ∧
        sameObjects ([0x801006, 0x801007, 0xC00007, 0xC00008] ++ accessCounters tr) s t)
    turnedAway (.storeMould tr n) 0x801003 ∧ turnedAway (.eraseMould tr n) 0x801005 ∧
    (s.admits ⟨tr, 0x801003, 1, n⟩ → s.stage.op = none → (s.rd 0x801101).testBit n = false →
      ∃ t vals, exec (.storeMould tr n) s = .next t ∧ t.answer.abort = 0 ∧ t.rd 0x801006 = 1 ∧
        t.stage = { s.stage with op := some ⟨1, n, buildImage n (s.nextGen n) (s.oldName n) vals, 1⟩ } ∧
        (∀ k ∈ mouldKeys, Dict.find vals k = some (if s.rd 0x801004 = 1 then s.staged k else s.rd k)) ∧
        sameObjects (0x801006 :: accessCounters tr) s t ∧
        t = { s with dict := t.dict, answer := t.answer, stage := t.stage }) ∧
    (s.admits ⟨tr, 0x801005, 1, n⟩ → s.stage.op = none → (s.rd 0x801101).testBit n = false →
      ∃ t, exec (.eraseMould tr n) s = .next t ∧ t.answer.abort = 0 ∧ t.rd 0x801006 = 1 ∧
        t.stage = { s.stage with op := some ⟨3, n, [], 1⟩ } ∧ sameObjects (0x801006 :: accessCounters tr) s t ∧
        t = { s with dict := t.dict, answer := t.answer, stage := t.stage })) ∧
  (∀ (o : MouldOp) (s : State), s.stage.op = some o →
    (∀ how, s.inhibited = true → exec (.mouldOperationComplete how) s = .next s) ∧
    (s.inhibited = false →
      (∃ t, exec (.mouldOperationComplete .passed) s = .next t ∧ t.stage = { s.stage with op := none } ∧
        t.rd 0x801006 = 2 ∧ sameObjects [0x801006] s t ∧ (∀ n, n ≠ o.slot → t.mram.mould n = s.mram.mould n) ∧
        (o.op ≠ 3 → t.mram.mould o.slot = pad 16384 o.image ∧ t.mram.journal = none) ∧
        (o.op = 3 → readImage o.slot (t.mram.mould o.slot) = .inr 1)) ∧
      (∃ t, exec (.mouldOperationComplete .shadowFailed) s = .next t ∧ t.stage = { s.stage with op := none } ∧
        t.rd 0x801006 = 3 ∧ t.rd 0x801007 = 4 ∧ t.mram = s.mram) ∧
      (∀ w, ∃ t, exec (.mouldOperationComplete (.unreadable w)) s = .next t ∧ t.stage = { s.stage with op := none } ∧
        t.rd 0x801006 = 3 ∧ t.rd 0x801007 = 3 ∧ t.rd 0xC10002 = countUp (s.rd 0xC10002) ∧ t.rd 0xC10004 = w ∧
        t.mram = { s.mram with errs := t.mram.errs }) ∧
      (o.op ≠ 3 → ∃ t u, exec (.mouldOperationComplete .journalled) s = .next u ∧ u.slotImage o.slot = o.image ∧
        u.dict = s.dict ∧ u.mram.moulds = s.mram.moulds ∧
        exec (.mouldOperationComplete .slotFailed) s = .next t ∧ t.stage = { s.stage with op := none } ∧
        t.rd 0x801006 = 3 ∧ t.rd 0x801007 = 4 ∧ t.slotImage o.slot = o.image ∧ t.mram.moulds = s.mram.moulds)))

/-- An event takes the next number, or is counted when 64 wait; entries reach MRAM in order; a read returns the selected entry -/
def Obligations.AlertsAndEventsReachTheLogAndAreRead : Prop :=
  (∀ (tr : Transport) (v : Nat) (s : State), s.admits ⟨tr, 0x100101, 2, v⟩ →
    let holds (i : Nat) : Prop := (i = 12 ∧ s.rd 0xB03001 ≠ 0) ∨ (i = 8 ∧ s.rd 0x6A0003 = 1) ∨
      (i = 7 ∧ (s.therm.quench = true ∨ s.rd 0x6A1002 % 4 ≠ 0)) ∨
      (i = 6 ∧ (s.rd 0x6A0001 = 1 ∨ s.rd 0x6A0001 = 2 ∨ s.rd 0x6A0002 = 1 ∨ s.rd 0x6A0002 = 2)) ∨
      (i = 2 ∧ s.power.scanned = true ∧ s.rd 0x401001 = 0xFF)
    ∃ t, exec (.alertStatusWrite tr v) s = .next t ∧ t.answer.abort = 0 ∧
      (∀ i < 16, (t.rd 0x100101).testBit i = true ↔ ((s.rd 0x100101).testBit i = true ∧ v.testBit i = false) ∨ holds i) ∧
      sameObjects (0x100101 :: accessCounters tr) s t ∧ t = { s with dict := t.dict, answer := t.answer }) ∧
  (∀ (code : Nat) (data : List Byte) (s : State),
    (s.power.phase = .inReset ∨ code ∉ eventCodes → exec (.eventLogged code data) s = .next s) ∧
    (s.power.phase ≠ .inReset → code ∈ eventCodes → ∃ t, exec (.eventLogged code data) s = .next t ∧
      (∀ b, alertBit code data = some b → (t.rd 0x100101).testBit b = true) ∧
      (∀ i, alertBit code data ≠ some i → (t.rd 0x100101).testBit i = (s.rd 0x100101).testBit i) ∧
      (s.log.queue.length < 64 → ∃ e, t.log = { s.log with queue := s.log.queue ++ [e], next := (s.log.next + 1) % 2 ^ 32 } ∧
        e.seq = s.log.next ∧ e.code = code ∧ e.rtime = s.ringTime ∧ e.data = pad 12 data ∧
        t.rd 0xC00007 = s.rd 0xC00007) ∧
      (64 ≤ s.log.queue.length → t.log = { s.log with unreported := s.log.unreported + 1 } ∧
        t.rd 0xC00007 = countUp (s.rd 0xC00007) ∧ t.ring = s.ring) ∧
      sameObjects [0x100101, 0xC00007, 0xC00008] s t ∧ t = { s with dict := t.dict, log := t.log, ring := t.ring })) ∧
  (∀ s : State, s.log.queue = [] ∨ s.mramWritable = false → exec .logEntryWrite s = .next s) ∧
  (∀ (e : LogEntry) (l : List LogEntry) (s : State), s.log.queue = e :: l → s.mramWritable = true →
    ∃ t, exec .logEntryWrite s = .next t ∧
      t.mram = { s.mram with
        log := s.mram.log.filter (fun x => x.seq % 32768 != e.seq % 32768) ++ [{ e with ecrc := e.crc }]
        errs := t.mram.errs } ∧
      (s.log.unreported = 0 → t.dict = s.dict ∧ t.log = { s.log with queue := l }) ∧
      (s.log.unreported ≠ 0 → l.length < 64 → t.log.unreported = 0 ∧ (t.rd 0x100101).testBit 15 = true ∧
        ∃ x, t.log.queue = l ++ [x] ∧ x.code = 0x0102 ∧
          x.data = pad 12 (leBytes 4 (min (2 ^ 32 - 1) s.log.unreported)))) ∧
  (∀ (tr : Transport) (s : State), s.admitsRead tr 0xC00005 →
    (∀ e, s.mram.log.find? (fun e => e.seq == s.selection tr) = some e →
      (e.ecrc = e.crc → s.readable (logWords e.seq) = true → ∃ t, exec (.logEntryRead tr) s = .next t ∧ t.answer.abort = 0 ∧
        t.answer.data = e.bytes ∧
        (∀ other, t.selection other =
          if other = tr ∧ s.rd 0xC00006 = 1 then (s.selection tr + 1) % 2 ^ 32 else s.selection other) ∧
        sameObjects ([0xC00004, 0xC10001, 0xC10003] ++ accessCounters tr) s t ∧ t.mram = s.mram ∧ t.log = s.log) ∧
      (e.ecrc ≠ e.crc ∨ s.readable (logWords e.seq) = false → ∃ t, exec (.logEntryRead tr) s = .next t ∧
        t.answer.abort = 0x06020000 ∧ sameObjects (rangeFrom 0xC10001 5 ++ accessCounters tr) s t ∧
        t = { s with dict := t.dict, answer := t.answer })) ∧
    (s.mram.log.find? (fun e => e.seq == s.selection tr) = none →
      ∃ t, exec (.logEntryRead tr) s = .next t ∧ t.answer.abort = 0x06020000 ∧ sameObjects (accessCounters tr) s t ∧
        t = { s with dict := t.dict, answer := t.answer }))

/-- A two-wire write commits at its STOP, a read header fills the read buffer that a read phase returns; a cut write is discarded -/
def Obligations.TwoWireTransactionsCommitReadBackAndAreDiscarded : Prop :=
  (∀ (addr n : Nat) (bytes : List Byte) (stop : Bool) (s : State),
    s.power.phase = .inReset ∨ s.power.phase = .asleep ∨ s.twi.rstLow = true →
    ∀ c ∈ [Instr.twiWriteTransaction addr bytes, .twiReadHeader addr bytes stop, .twiReadPhase addr n stop,
      .twiWriteDiscarded addr bytes], exec c s = .next s) ∧
  (∀ (addr : Nat) (group : Bool) (bytes : List Byte) (s : State),
    s.serves = true → s.twi.rstLow = false → s.busy = false → s.stage.waiting = [] → s.twiMatch addr = some group →
    let key := twiKey bytes
    (twiCmd bytes = 2 → 9 ≤ bytes.length → bytes.length ≤ 265 → twiFlags bytes = 0 → isU64 key = false →
      (∃ r, objRow key = some r ∧ r.acc = .rws) → s.stage.group = none →
      (twiData bytes).length = twiLen bytes → ((s.stopSeen.inc 0xA00401).present .twi key).length ≤ 256 → twiOffset bytes = 0 →
      s.writeAbort ⟨.twi, key, (twiData bytes).length, leNat (twiData bytes)⟩ = none →
      Dict.bytes (Dict.insert s.stage.loose key (leNat (twiData bytes))) ≤ 65536 →
      ∃ t, exec (.twiWriteTransaction addr bytes) s = .next t ∧
        t.stage = { s.stage with loose := Dict.insert s.stage.loose key (leNat (twiData bytes)) } ∧
        t.answer = ⟨0, s.rd 0x110002 + 1, [], false⟩ ∧ t.rd 0xA00401 = countUp (s.rd 0xA00401) ∧
        sameObjects [0xA00401, 0x110005, 0x400106, 0x102002] s t ∧ t.mram = s.mram) ∧
    (∀ stop, twiCmd bytes = 1 → bytes.length = 9 → twiFlags bytes = 0 → twiOffset bytes = 0 →
      (∀ x ∈ s.wordsOf key, s.readable x = true) → isU64 key = false → readAbort key = none → key / 256 ∉ [0x5105, 0x5109] → key ∉ [0x520002, 0x600405, 0xC00005] →
      let u := (if stop = true then s.stopSeen else s).inc 0xA00401
      (u.present .twi key).length ≤ 256 → (twiLen bytes = 0 ∨ twiLen bytes = (u.present .twi key).length) →
      ∃ t, exec (.twiReadHeader addr bytes stop) s = .next t ∧ t.twi = { u.twi with buf := .bytes (u.present .twi key) } ∧
        t.rd 0xA00401 = countUp (s.rd 0xA00401) ∧ t.rd 0x102002 = countUp (s.rd 0x102002) ∧
        sameObjects [0xA00401, 0x102002, 0xC10001, 0xC10003] s t ∧ t = { s with dict := t.dict, answer := t.answer, twi := t.twi }) ∧
    (twiCmd bytes = 2 → ∃ t, exec (.twiWriteDiscarded addr bytes) s = .next t ∧
      t.rd 0xA00407 = countUp (s.rd 0xA00407) ∧ sameObjects [0xA00407] s t ∧ t = { s with dict := t.dict }) ∧
    (∀ count : Nat, ∃ t, exec (.twiReadPhase addr count false) s = .next t ∧ t.answer.abort = 0 ∧
      t = { s with answer := t.answer } ∧
      t.answer.data = match group, s.twi.buf with
        | false, .bytes b => (b ++ List.replicate (count - b.length) 0xFF).take count
        | _, _ => [])) ∧
  (∀ s : State, s.twi.transfer = none → ∃ t, exec .twiRstNAssert s = .next t ∧
    t.twi = { s.twi with rstLow := true, buf := .none, link := none, seg := none, held := none, bus := [] } ∧
    t.stage = s.stage ∧
    (s.twi.bus = [] ∨ s.twi.rstLow = true → t = { s with twi := t.twi }) ∧
    (s.twi.bus ≠ [] → s.twi.rstLow = false → t.rd 0xA00402 = countUp (s.rd 0xA00402) ∧ t.rd 0xA00403 = 5 ∧
      sameObjects [0xA00402, 0xA00403, 0xA00405, 0xC00007, 0xC00008] s t)) ∧
  (∀ s : State, s.twi.rstLow = true → s.twi.sends = [] →
    exec .twiRstNRelease s = .next { s with twi := { s.twi with rstLow := false, recovery := true } }) ∧
  (∀ (addr : Nat) (s : State), s.power.phase = .asleep → s.twi.rstLow = false → (s.twiMatch addr).isSome = true →
    ∃ t, exec (.twiWake addr) s = .next t ∧ t.power.phase = .waking ∧ t.power.wakeAt = some s.now ∧ t.twi.held = some s.now ∧
      t.rd 0xB02103 = 1 ∧ sameObjects [0xB02103] s t)

/-- The controller sends the list's valid entries in order, tries a lost transaction three times, and reports each end once -/
def Obligations.ControllerTransfersRetryEndAndReport : Prop :=
  (∀ (cause : Nat) (s : State), s.power.phase ≠ .inReset → 1 ≤ cause → cause ≤ 5 → (cause = 4 → s.rd 0xA00301 ≠ 0) →
    s.twi.rstLow = false →
    ∃ t, exec (.twiBusError cause) s = .next t ∧ t.rd 0xA00402 = countUp (s.rd 0xA00402) ∧ t.rd 0xA00403 = cause ∧
      (s.log.queue.length < 64 → t.log.queue.length = s.log.queue.length + 1) ∧
      sameObjects [0xA00402, 0xA00403, 0xA00405, 0xC00007, 0xC00008] s t ∧
      t.twi = { s.twi with bus := s.twi.bus.tail } ∧ t.stage = s.stage) ∧
  (∀ (tr : Transport) (s : State), s.admits ⟨tr, 0xA01102, 1, 1⟩ →
    let list := s.rd 0xA01101
    (s.twi.transfer = none → s.twi.sends = [] → s.twi.rstLow = false →
      (∀ e, nextDriver list 0 = some e → ∃ t, exec (.sendListNow tr 1) s = .next t ∧ t.answer.abort = 0 ∧
        t.twi = { s.twi with transfer := some ⟨false, e, 0, s.now, true, list, driverBytes list e, 0⟩ } ∧ sameObjects (accessCounters tr) s t) ∧
      (nextDriver list 0 = none → ∃ t, exec (.sendListNow tr 1) s = .next t ∧ t.answer.abort = 0 ∧ t.twi = s.twi ∧
        t.rd 0xA01003 = 0 ∧ t.rd 0xA01103 = 0 ∧ sameObjects ([0xA01003, 0xA01103] ++ accessCounters tr) s t)) ∧
    (∀ x, s.twi.transfer = some x → x.boot = false → ∃ t, exec (.sendListNow tr 1) s = .next t ∧
      t.answer.abort = 0x05010000 ∧ sameObjects (accessCounters tr) s t ∧
      t = { s with dict := t.dict, answer := t.answer })) ∧
  (∀ (x : Transfer) (s : State), s.twi.transfer = some x → s.twi.sends = [] → s.twi.rstLow = false →
    let entry : Nat := if x.boot then s.rd 0xA01103 else 256 * x.entry
    let failed (c : Instr) (code : Nat) : Prop := ∃ t, exec c s = .next t ∧ t.twi = { s.twi with transfer := none } ∧
      t.rd 0xA01003 = code ∧ t.rd 0xA01103 = (if x.boot then entry else entry + code) ∧
      t.rd 0xA01005 = countUp (s.rd 0xA01005) ∧ (t.rd 0x100101).testBit 10 = true ∧
      (x.boot = true → t.power = { s.power with mouldReady := some none }) ∧ (x.boot = false → t.power = s.power) ∧
      sameObjects [0xA01003, 0xA01004, 0xA01005, 0xA01103, 0x100101, 0xC00007, 0xC00008] s t ∧ t.mram = s.mram
    let ends (status : Nat) : Prop := ∀ img : List Byte,
      let c := if x.boot = true then Instr.bootMouldFetch status img else .controllerTransferEnd status
      (status = 1 ∨ status = 3 →
        (x.attempts < 2 → ∃ t, exec c s = .next t ∧ t.twi.transfer =
            some { x with attempts := x.attempts + 1, askedAt := s.now, waitFree := true } ∧
          t.twi = { s.twi with transfer := t.twi.transfer } ∧
          (status = 3 → t.rd 0xA01004 = countUp (s.rd 0xA01004)) ∧ (status = 1 → t.dict = s.dict) ∧ t.mram = s.mram) ∧
        (2 ≤ x.attempts → failed c 7)) ∧
      (status ∈ [2, 4, 5, 6, 8, 9] → failed c status)
    (∀ status, ends status) ∧
    (x.boot = false → ∀ e, nextDriver x.list (x.entry + 1) = some e → ∃ t, exec (.controllerTransferEnd 0) s = .next t ∧
      t = { s with twi := { s.twi with transfer := some ⟨false, e, 0, s.now, true, x.list, driverBytes x.list e, 0⟩ } }) ∧
    (x.boot = false → nextDriver x.list (x.entry + 1) = none → ∃ t, exec (.controllerTransferEnd 0) s = .next t ∧
      t.twi = { s.twi with transfer := none } ∧ t.rd 0xA01003 = 0 ∧ t.rd 0xA01103 = 256 * x.entry ∧
      sameObjects [0xA01003, 0xA01103] s t ∧ t = { s with dict := t.dict, twi := t.twi }) ∧
    (x.boot = true → s.now < x.askedAt + us 368730 → ∀ img : List Byte,
      exec (.bootMouldFetch 0 img) s = .next s) ∧
    (x.boot = true → x.askedAt + us 368730 ≤ s.now → ∀ img : List Byte,
      let image := pad 16384 img
      (∀ d, readImage (imageField image 4 1) image = .inl d → ∃ t, exec (.bootMouldFetch 0 img) s = .next t ∧
        t.power = { s.power with mouldReady := some (some image) } ∧ t.twi = { s.twi with transfer := none } ∧
        t.rd 0xA01003 = 0 ∧ sameObjects [0xA01003] s t) ∧
      (∀ cause, readImage (imageField image 4 1) image = .inr cause → failed (.bootMouldFetch 0 img) 8)) ∧
    (x.attempts ≠ 0 → x.waitFree = true → exec .controllerRetry s =
      .next { s with twi := { s.twi with transfer := some { x with waitFree := false } } }) ∧
    (x.waitFree = true → x.askedAt + ms 10 ≤ s.now → failed .busNotFreeTimeout 5) ∧
    (s.now < x.askedAt + ms 10 → exec .busNotFreeTimeout s = .next s))

/-- DMA channels start, fetch and check descriptors, move elements into index area or staging only, and stop with the stated status -/
def Obligations.DmaChannelsFetchMoveAndStop : Prop :=
  (∀ (tr : Transport) (v : Nat) (s : State), s.dma.chans.length = 8 →
    (s.admits ⟨tr, 0x701201, 1, v⟩ →
      ((∃ ch < 8, v.testBit ch = true ∧ s.rd (0x702001 + ch) = 1) → ∃ t, exec (.startChannels tr v) s = .next t ∧
        t.answer.abort = 0x05010000 ∧ sameObjects (accessCounters tr) s t ∧ t = { s with dict := t.dict, answer := t.answer }) ∧
      ((∀ ch < 8, v.testBit ch = true → s.rd (0x702001 + ch) ≠ 1) → ∃ t, exec (.startChannels tr v) s = .next t ∧
        t.answer.abort = 0 ∧
        (∀ ch < 8, if v.testBit ch = true then
            t.rd (0x702001 + ch) = 1 ∧ t.rd (0x702501 + ch) = 0 ∧
              t.chan ch = ⟨some (s.rd (0x701001 + ch)), none, 0, false, false, s.now⟩
          else t.chan ch = s.chan ch ∧ t.rd (0x702001 + ch) = s.rd (0x702001 + ch) ∧
            t.rd (0x702501 + ch) = s.rd (0x702501 + ch)) ∧
        sameObjects (rangeFrom 0x702001 8 ++ rangeFrom 0x702501 8 ++ accessCounters tr) s t ∧
        t = { s with dict := t.dict, answer := t.answer, dma := { s.dma with chans := t.dma.chans } })) ∧
    (s.admits ⟨tr, 0x701202, 1, v⟩ → ∃ t, exec (.stopChannels tr v) s = .next t ∧ t.answer.abort = 0 ∧
      (∀ ch < 8, if v.testBit ch = true ∧ s.rd (0x702001 + ch) = 1 then
          (if (s.chan ch).desc.isSome = true then
            t.chan ch = { s.chan ch with stopReq := true } ∧ t.rd (0x702001 + ch) = 1
          else t.rd (0x702001 + ch) = 8 ∧ (t.chan ch).fetch = none ∧
            (∀ a, (s.chan ch).fetch = some a → t.rd (0x702101 + ch) = a ∧ t.rd (0x702201 + ch) = 0xFFFFFFFF))
        else t.chan ch = s.chan ch ∧ t.rd (0x702001 + ch) = s.rd (0x702001 + ch)) ∧
      sameObjects (rangeFrom 0x702001 8 ++ rangeFrom 0x702101 8 ++ rangeFrom 0x702201 8 ++ accessCounters tr) s t ∧
      t = { s with dict := t.dict, answer := t.answer, dma := { s.dma with chans := t.dma.chans } })) ∧
  (∀ (ch : Nat) (s : State), ch < 8 → s.dma.chans.length = 8 → s.dmaRuns = true → s.rd (0x702001 + ch) = 1 →
    (s.chan ch).submit = false →
    (∀ a, (s.chan ch).fetch = some a → (s.chan ch).desc = none → ∃ t, exec (.descriptorFetch ch) s = .next t ∧
      (a % 32 ≠ 0 ∨ s.dmaTable a 32 = none → t.rd (0x702001 + ch) = 6) ∧
      (∀ b, a % 32 = 0 → s.dmaTable a 32 = some b →
        (s.descOk b = false → t.rd (0x702001 + ch) = 5) ∧
        (s.descOk b = true → (Desc.ofBytes b).mode ≠ 3 → t.rd (0x702001 + ch) = 1 ∧
          t.chan ch = { s.chan ch with desc := some (Desc.ofBytes b), k := 0, waitAt := s.now })) ∧
      (a % 32 ≠ 0 ∨ s.dmaTable a 32 = none ∨ (∃ b, s.dmaTable a 32 = some b ∧
          (s.descOk b = false ∨ (Desc.ofBytes b).mode ≠ 3)) →
        t.rd (0x702101 + ch) = a ∧ t.rd (0x702201 + ch) = 0xFFFFFFFF ∧
        sameObjects [0x702001 + ch, 0x702101 + ch, 0x702201 + ch] s t ∧
        (∀ c, c ≠ ch → t.chan c = s.chan c) ∧
        t = { s with free := t.free, dict := t.dict, dma := { s.dma with chans := t.dma.chans } })) ∧
    (∀ d, (s.chan ch).desc = some d →
      let k := (s.chan ch).k
      (s.elementAddresses d k = none → ∃ t, exec (.dmaElementComplete ch) s = .next t ∧ t.rd (0x702001 + ch) = 6 ∧
        sameObjects [0x702001 + ch] s t ∧ t.dma.index = s.dma.index ∧ t.dma.staging = s.dma.staging) ∧
      (∀ src dst, s.elementAddresses d k = some (src, dst) →
        (s.elementSource d src = none → ∃ t, exec (.dmaElementComplete ch) s = .next t ∧ t.rd (0x702001 + ch) = 6 ∧
          t.dma.index = s.dma.index ∧ t.dma.staging = s.dma.staging) ∧
        (∀ x code, s.elementSource d src = some x → s.elementTarget d dst = .inr code →
          ∃ t, exec (.dmaElementComplete ch) s = .next t ∧ t.rd (0x702001 + ch) = code ∧ (code = 6 ∨ code = 7) ∧
          t.dma.index = s.dma.index ∧ t.dma.staging = s.dma.staging) ∧
        (∀ x r off, s.elementSource d src = some x → s.elementTarget d dst = .inl (r, off) →
          d.sw ≤ 4 → d.dw ≤ 4 → 1 ≤ d.elen → d.elen % max (widthBytes d.sw) (widthBytes d.dw) = 0 →
          let sb := widthBytes d.sw
          let db := widthBytes d.dw
          let n := if d.dstFixed = true then db else d.elen
          let mem (s : State) : Mem := if r = .index then s.dma.index else s.dma.staging
          ∃ t, exec (.dmaElementComplete ch) s = .next t ∧ (r = .index ∨ r = .staging) ∧
            (x.1 ≠ r ∨ d.elen ≤ 32 ∨ x.2 + d.elen ≤ off ∨ off + n ≤ x.2 →
              ∀ i < n, ∀ b, s.dmaByte x.1 (x.2 +
                  (if d.srcFixed = true then (d.elen - n + i) % sb else d.elen - n + i)) = some b →
                Mem.read (mem t) (off + i) = b) ∧
            (∀ i, i < off ∨ off + n ≤ i → Mem.read (mem t) i = Mem.read (mem s) i) ∧
            (r = .index → t.dma.staging = s.dma.staging) ∧ (r = .staging → t.dma.index = s.dma.index) ∧
            (d.bar = true → t.dma.flight = s.dma.flight) ∧
            (d.bar = false → ∃ y ∈ t.dma.flight, y.staging = (r == .staging) ∧ y.off = off + n - db ∧ y.len = db ∧
              s.now ≤ y.landed ∧ y.landed ≤ s.now + us 20) ∧
            t.rd (0x702201 + ch) = k ∧
            (k + 1 ≠ d.count → t.rd (0x702001 + ch) = (if (s.chan ch).stopReq = true then 8 else 1) ∧
              ((s.chan ch).stopReq = false → (t.chan ch).k = k + 1 ∧ (t.chan ch).desc = some d)) ∧
            (k + 1 = d.count → t.rd (0x702301 + ch) = d.tag ∧ t.rd (0x702401 + ch) = countUp (s.rd (0x702401 + ch)) ∧
              ((s.chan ch).stopReq = true → t.rd (0x702001 + ch) = 8) ∧
              ((s.chan ch).stopReq = false → d.link = false → t.rd (0x702001 + ch) = 2) ∧
              ((s.chan ch).stopReq = false → d.link = true → s.rd (0x701101 + ch) ≤ s.rd (0x702501 + ch) →
                t.rd (0x702001 + ch) = 3 ∧ (t.rd 0x100101).testBit 9 = true) ∧
              ((s.chan ch).stopReq = false → d.link = true → s.rd (0x702501 + ch) < s.rd (0x701101 + ch) →
                t.rd (0x702001 + ch) = 1 ∧ (t.chan ch).fetch = some d.next ∧ (t.chan ch).desc = none ∧
                t.rd (0x702501 + ch) = s.rd (0x702501 + ch) + 1)) ∧
            (∀ c, c ≠ ch → t.chan c = s.chan c) ∧ t.mram = s.mram))) ∧
    ((s.chan ch).desc = none ∨ s.now < (s.chan ch).waitAt + us 20 → exec (.dmaNoResponse ch) s = .next s) ∧
    (∀ d, (s.chan ch).desc = some d →
      (s.elementStalls d (s.chan ch).k = false → exec (.dmaNoResponse ch) s = .next s) ∧
      (s.elementStalls d (s.chan ch).k = true → (s.chan ch).waitAt + us 20 ≤ s.now →
        ∃ t, exec (.dmaNoResponse ch) s = .next t ∧ t.rd (0x702001 + ch) = 4 ∧ (t.rd 0x100101).testBit 9 = true ∧
          (∀ src dst r off, s.elementAddresses d (s.chan ch).k = some (src, dst) → s.elementTarget d dst = .inl (r, off) →
            ∀ i, i < off ∨ off + (if d.dstFixed = true then widthBytes d.dw else d.elen) ≤ i →
              (r = .index → Mem.read t.dma.index i = Mem.read s.dma.index i) ∧
              (r = .staging → Mem.read t.dma.staging i = Mem.read s.dma.staging i)) ∧
          (∀ c, c ≠ ch → t.chan c = s.chan c) ∧ t.mram = s.mram))) ∧
  (∀ (ch target segment : Nat) (d : Desc) (s : State), ch < 8 → s.dma.chans.length = 8 → s.dma.submitter = some ch →
    s.dma.stage = .writing target segment → (s.chan ch).desc = some d →
    (s.ownerDone target = false → exec .submitRelease s = .next s) ∧
    (s.ownerDone target = true → s.dmaRuns = false → exec .submitRelease s =
      .next { s with dma := { s.dma with stage := .filling 4 0, stageAt := s.now } }) ∧
    (s.ownerDone target = true → s.dmaRuns = true → ∃ t, exec .submitRelease s = .next t ∧ t.dma.stage = .filling 4 0 ∧
      t.dma.submitter = none ∧ t.dma.staging = s.dma.staging ∧ t.rd (0x702301 + ch) = d.tag ∧
      t.rd (0x702401 + ch) = countUp (s.rd (0x702401 + ch)) ∧
      ((s.chan ch).stopReq = false → d.link = false → t.rd (0x702001 + ch) = 2) ∧ t.mram = s.mram))

/-- Naming a pour holds it if it is admitted, waits for it if it is to come, and reports it gone otherwise; a release ends the hold -/
def Obligations.HeldPourIsNamedFoundOrGone : Prop :=
  (∀ (tr : Transport) (v : Nat) (s : State), s.admits ⟨tr, 0x704001, 8, v⟩ → s.dma.heldIdx ≠ some v →
    let held := (s.lanes.tundish.any fun p => p.idx == v && p.left != 0) = true
    ∃ t, exec (.heldPourWrite tr v) s = .next t ∧ t.answer.abort = 0 ∧ t.rd 0x704001 = v ∧
      (v = 0 → t.rd 0x704002 = 0 ∧ t.dma.heldIdx = none) ∧
      (v ≠ 0 → held → t.rd 0x704002 = 2 ∧ t.dma.heldIdx = some v) ∧
      (v ≠ 0 → ¬held → t.dma.heldIdx = none ∧ t.rd 0x704002 = (if s.toCome v = true then 1 else 3)) ∧
      t.lanes.tundish = s.lanes.tundish.filter (fun p => p.left != 0) ∧
      sameObjects ([0x704001, 0x704002] ++ accessCounters tr) s t ∧
      t = { s with dict := t.dict, answer := t.answer, dma := { s.dma with heldIdx := t.dma.heldIdx },
                   lanes := { s.lanes with tundish := t.lanes.tundish } }) ∧
  (∀ (tr : Transport) (s : State), s.admits ⟨tr, 0x704004, 1, 1⟩ →
    ∃ t, exec (.releaseHold tr 1) s = .next t ∧ t.answer.abort = 0 ∧ t.rd 0x704002 = 0 ∧ t.dma.heldIdx = none ∧
      t.lanes.tundish = s.lanes.tundish.filter (fun p => p.left != 0) ∧
      sameObjects (0x704002 :: accessCounters tr) s t ∧
      t = { s with dict := t.dict, answer := t.answer, dma := { s.dma with heldIdx := none },
                   lanes := { s.lanes with tundish := t.lanes.tundish } })

/-- A sample's code and result reach its channel; requests queue four deep and go before the sequence; calibration waits its turn -/
def Obligations.HousekeepingConvertsForTheSequenceAndForRequests : Prop :=
  (∀ (code : Nat) (dv : Int) (clamped : Bool) (s : State), s.hk.client = .idle →
    exec (.housekeepingSampleEnd code dv clamped) s = .next s) ∧
  (∀ (code : Nat) (dv : Int) (s : State), s.hk.client = .sequence → s.hk.inSeq = true → s.hk.seq = HkSum.zero →
    let e := nth s.hk.table s.hk.entry 0
    let ch := chanOf e
    avgOf e = 1 → ch < 26 →
    (∀ r, s.sampleResult ch code dv = some r → ∃ t, exec (.housekeepingSampleEnd code dv false) s = .next t ∧
      t.rd (0x601101 + ch) = code ∧
      (ch < 23 → t.rd (0x601001 + ch) = ofSigned 32 r ∧ (t.rd (0x601201 + ch)).testBit 2 = true) ∧
      sameObjects [0x601101 + ch, 0x601001 + ch, 0x601201 + ch, 0x600102, 0x600203, 0x600204] s t ∧ t.mram = s.mram) ∧
    (∃ t, exec (.housekeepingSampleEnd code dv true) s = .next t ∧
      t.rd (0x601101 + ch) = (if code = 0 then 0 else 0x3FFF) ∧ (t.rd (0x601201 + ch)).testBit 0 = true ∧
      (t.rd (0x601201 + ch)).testBit 1 = (code == 0) ∧
      sameObjects [0x601101 + ch, 0x601201 + ch, 0x600102, 0x600203, 0x600204, 0xC00007, 0xC00008] s t ∧
      t.mram = s.mram)) ∧
  (∀ (code req : Nat) (dv : Int) (s : State), s.hk.client = .injected req → s.hk.req = HkSum.zero → avgOf req = 1 →
    let ch := chanOf req
    ch < 26 → ∀ r, s.sampleResult ch code dv = some r → ∃ t, exec (.housekeepingSampleEnd code dv false) s = .next t ∧
      t.rd (0x601101 + ch) = code ∧
      t.hk.injRes = (if 4 ≤ s.hk.injRes.length then s.hk.injRes.drop 1 else s.hk.injRes) ++
        [leBytes 8 s.ringTime ++ leBytes 4 (ofSigned 32 r) ++ leBytes 2 code ++ leBytes 1 ch ++
          [if 4 ≤ s.hk.injRes.length then 2 else 0]] ∧
      sameObjects [0x601101 + ch, 0x601001 + ch, 0x601201 + ch, 0x600102] s t ∧ t.mram = s.mram) ∧
  (∀ (code req : Nat) (dv : Int) (s : State), s.hk.client = .injected req → s.hk.req = HkSum.zero → avgOf req = 1 →
    let ch := chanOf req
    let clamp := if code = 0 then 0 else 0x3FFF
    ch < 26 → ∃ t r, exec (.housekeepingSampleEnd code dv true) s = .next t ∧ t.rd (0x601101 + ch) = clamp ∧
      t.hk.injRes = (if 4 ≤ s.hk.injRes.length then s.hk.injRes.drop 1 else s.hk.injRes) ++
        [leBytes 8 s.ringTime ++ leBytes 4 (ofSigned 32 r) ++ leBytes 2 clamp ++ leBytes 1 ch ++
          [if 4 ≤ s.hk.injRes.length then 3 else 1]] ∧
      sameObjects [0x601101 + ch, 0x601201 + ch, 0x600102, 0xC00007, 0xC00008] s t ∧ t.mram = s.mram) ∧
  (∀ (ch code : Nat) (dv : Int) (s : State), s.hk.client = .monitor ch → ch < 26 →
    (∀ r, s.sampleResult ch code dv = some r → ∃ t, exec (.housekeepingSampleEnd code dv false) s = .next t ∧
      t.therm = { s.therm with got := s.therm.got ++ [(ch, some r)] } ∧ t.hk.due = s.hk.due.erase ch ∧
      t.rd (0x601101 + ch) = code ∧ (ch < 23 → t.rd (0x601001 + ch) = ofSigned 32 r) ∧
      sameObjects [0x601101 + ch, 0x601001 + ch, 0x601201 + ch, 0x600102] s t) ∧
    (∃ t, exec (.housekeepingSampleEnd code dv true) s = .next t ∧
      t.therm = { s.therm with got := s.therm.got ++ [(ch, none)] } ∧ t.hk.due = s.hk.due.erase ch ∧
      t.rd (0x601101 + ch) = (if code = 0 then 0 else 0x3FFF) ∧ (t.rd (0x601201 + ch)).testBit 0 = true)) ∧
  (∀ (tr : Transport) (s : State),
    (s.admits ⟨tr, 0x600201, 1, 0⟩ → ∃ t, exec (.sequenceStop tr 0) s = .next t ∧ t.answer.abort = 0 ∧
      t.rd 0x600201 = 0 ∧ t.hk = { s.hk with inSeq := false, restart := false, delayUntil := none } ∧
      sameObjects (0x600201 :: accessCounters tr) s t ∧ t = { s with dict := t.dict, answer := t.answer, hk := t.hk }) ∧
    (s.admits ⟨tr, 0x600201, 1, 1⟩ → ∃ t, exec (.sequenceStart tr 1) s = .next t ∧ t.answer.abort = 0 ∧
      t.rd 0x600201 = 1 ∧ t.hk.inSeq = true ∧ (s.hk.client = .sequence → t.hk.restart = true) ∧
      (s.hk.client ≠ .sequence → t.rd 0x600203 = 0 ∧ t.hk.entry = 0 ∧ t.hk.len = s.rd 0x600202 ∧
        t.hk.table = (List.range 32).map fun i => s.rd (0x600301 + i)) ∧
      sameObjects ([0x600201, 0x600203, 0x600102] ++ accessCounters tr) s t ∧
      t = { s with dict := t.dict, answer := t.answer, hk := t.hk }) ∧
    (∀ v, s.admits ⟨tr, 0x600401, 2, v⟩ →
      (4 ≤ s.hk.inj.length → ∃ t, exec (.injectedRequest tr v) s = .next t ∧ t.answer.abort = 0x05010000 ∧
        t.rd 0x600403 = 1 ∧ t.rd 0x600404 = countUp (s.rd 0x600404) ∧ t.hk = s.hk ∧
        sameObjects ([0x600403, 0x600404, 0xC00007, 0xC00008] ++ accessCounters tr) s t) ∧
      (s.hk.inj.length < 4 → s.hk.client ≠ .idle → ∃ t, exec (.injectedRequest tr v) s = .next t ∧ t.answer.abort = 0 ∧
        t.hk = { s.hk with inj := s.hk.inj ++ [v] } ∧ sameObjects (accessCounters tr) s t) ∧
      (s.hk.inj = [] → s.hk.client = .idle → s.hk.calAt = none → s.hk.calAsked = none → s.hk.due = [] →
        s.hk.serving = none → s.timing.clk100 = true →
        ∃ t, exec (.injectedRequest tr v) s = .next t ∧ t.answer.abort = 0 ∧
          t.hk = { s.hk with client := .injected v, req := HkSum.zero, serving := some v } ∧ sameObjects (accessCounters tr) s t)) ∧
    (s.admitsRead tr 0x600405 → ∃ t, exec (.injectedResultRead tr) s = .next t ∧ t.answer.abort = 0 ∧
      t.answer.data = pad 16 ((s.hk.injRes.head?).getD []) ∧ t.hk = { s.hk with injRes := s.hk.injRes.tail } ∧
      sameObjects (accessCounters tr) s t ∧ t = { s with dict := t.dict, answer := t.answer, hk := t.hk }) ∧
    (s.admits ⟨tr, 0x600101, 1, 1⟩ →
      (s.hk.calAsked.isSome = true ∨ s.hk.calAt.isSome = true → ∃ t,
        exec (.housekeepingSelfCalibration tr 1) s = .next t ∧ t.answer.abort = 0x05010000 ∧
        sameObjects (accessCounters tr) s t ∧ t = { s with dict := t.dict, answer := t.answer }) ∧
      (s.hk.calAsked = none → s.hk.calAt = none → s.hk.client = .idle → s.hk.inj = [] → s.hk.serving = none →
        s.timing.clk100 = true → ∃ t,
        exec (.housekeepingSelfCalibration tr 1) s = .next t ∧ t.answer.abort = 0 ∧ t.rd 0x600102 = 1 ∧
        t.hk = { s.hk with calAt := some s.now } ∧ sameObjects (0x600102 :: accessCounters tr) s t))) ∧
  (∀ (x : Instant) (s : State), s.hk.delayUntil = some x → s.hk.inSeq = true → s.timing.clk100 = true →
    (s.now < x → exec .sequencePostDelayEnd s = .next s) ∧
    (x ≤ s.now → s.hk.entry + 1 < s.hk.len → ∃ t, exec .sequencePostDelayEnd s = .next t ∧
      t.rd 0x600203 = s.hk.entry + 1 ∧ t.hk.entry = s.hk.entry + 1 ∧ t.hk.delayUntil = none ∧
      sameObjects [0x600203, 0x600102] s t) ∧
    (x ≤ s.now → s.hk.len ≤ s.hk.entry + 1 → ∃ t, exec .sequencePostDelayEnd s = .next t ∧ t.rd 0x600203 = 0 ∧
      t.hk.entry = 0 ∧ t.rd 0x600204 = countUp (s.rd 0x600204) ∧ sameObjects [0x600203, 0x600204, 0x600102] s t)) ∧
  (∀ (offset gain : Int) (weights : List Int) (vbg inl : Nat) (x : Instant) (s : State), s.hk.calAt = some x → s.hk.calAsked = none →
    s.timing.clk100 = true →
    (s.now < x + ns 4200000 → exec (.housekeepingCalibrationEnd offset gain vbg inl weights) s = .next s) ∧
    (x + ns 4200000 ≤ s.now → ∃ t, exec (.housekeepingCalibrationEnd offset gain vbg inl weights) s = .next t ∧ t.mram = s.mram ∧
      (64 < offset.natAbs → t.rd 0x600102 = 3 ∧ t.rd 0x600103 = 1 ∧ t.hk.offset = s.hk.offset ∧ t.hk.gain = s.hk.gain ∧
        (t.rd 0x100101).testBit 11 = true) ∧
      (offset.natAbs ≤ 64 → gain.natAbs ≤ 3000 → 980000 ≤ vbg → vbg ≤ 1020000 → inl ≤ 1024 →
        t.hk.offset = offset ∧ t.hk.gain = gain ∧ t.hk.weights = weights ∧ t.rd 0x600102 = 2)))

/-- The third filtered sample at a limit sets it: quench on a hot pixel or logic die, the write inhibit on the MRAM die -/
def Obligations.ThermalLimitsQuenchThrottleAndInhibit : Prop :=
  (∀ s : State, s.pending = [] → s.power.resetAt = none → s.power.sleepAt = none → s.ring.ins = [] → s.corr.spoil = [] →
    s.corr.upload = none → s.monitorOn = true → s.therm.scanAt ≤ s.now → s.therm.scan = false →
    ∃ t, step s = .next t ∧ t.therm.scan = true ∧ (∀ i < 19, s.armed i = true → sourceChan i ∈ t.hk.due)) ∧
  (∀ s : State, s.timing.clk100 = false ∨ s.therm.got = [] ∨ s.hk.due ≠ [] → exec .monitorPeriod s = .next s) ∧
  (∀ (ch : Nat) (r : Option Int) (s : State), s.timing.clk100 = true → s.hk.due = [] → s.therm.got = [(ch, r)] →
    s.therm.scan = true → (ch < 17 ∨ 23 ≤ ch) → (∀ i < 19, sourceChan i = ch → s.armed i = false) →
    s.rd 0x6A0005 = maxNat (s.therm.sources.map Source.step) →
    ∃ t, exec .monitorPeriod s = .next t ∧ t.rd 0x6A0006 = (if s.nearLimit = true then 500 else 10000) ∧
      s.now < t.therm.scanAt ∧ t.therm.scan = false ∧ t.therm.got = [] ∧
      t.therm.sources = s.therm.sources ∧ t.therm.rails = s.therm.rails ∧ t.therm.quench = s.therm.quench ∧
      sameObjects [0x6A0006] s t ∧ t = { s with dict := t.dict, therm := t.therm }) ∧
  (∀ (i : Nat) (v a b : Int) (l : List (Option Int)) (l0 l1 l2 : Limit) (s : State), i < 2 → s.timing.clk100 = true →
    s.hk.due = [] → s.therm.got = [(sourceChan i, some v)] → s.therm.sources.length = 19 → l.length ≤ 1 →
    (s.src i).raws = l ++ [some a, some b] → (s.src i).limits = [l0, l1, l2] → l2.c = 2 → l2.set = false →
    let m := max (min a b) (min (max a b) v)
    toSigned 16 (s.rd (0x6A0203 + 3 * i)) ≤ m →
    ∃ t, exec .monitorPeriod s = .next t ∧ t.therm.quench = true ∧
      t.rd (0x6A0007 + i) = ofSigned 16 m ∧ (t.rd 0x6A1002).testBit i = true ∧ (t.rd 0x6A1002).testBit (2 + i) = false ∧
      (s.therm.quench = false → t.rd 0x6A1101 = countUp (s.rd 0x6A1101) ∧ t.conv.calAt = none) ∧
      t.power.fuses = s.power.fuses) ∧
  (∀ (v a b : Int) (l : List (Option Int)) (l0 : Limit) (ls : List Limit) (s : State), s.timing.clk100 = true →
    s.hk.due = [] → s.therm.got = [(25, some v)] → s.therm.sources.length = 19 → l.length ≤ 1 →
    (s.src 2).raws = l ++ [some a, some b] → (s.src 2).limits = l0 :: ls → l0.c = 2 → s.inhibited = false →
    let m := max (min a b) (min (max a b) v)
    toSigned 16 (s.rd 0x6A0207) ≤ m →
    ∃ t, exec .monitorPeriod s = .next t ∧ t.inhibited = true ∧ t.rd 0x6A0009 = ofSigned 16 m ∧
      t.rd 0x6A1104 = countUp (s.rd 0x6A1104) ∧ (t.rd 0x100101).testBit 8 = true ∧ t.mram = s.mram) ∧
  (∀ s : State,
    (s.timing.clk100 = true → exec .thermalComparatorTrip s = .next s) ∧
    (s.timing.clk100 = false → s.power.phase = .asleep → ∃ t, exec .thermalComparatorTrip s = .next t ∧
      t.power.phase = .waking ∧ t.power.wakeQuench = true ∧ t.rd 0xB02103 = 3 ∧ sameObjects [0xB02103] s t) ∧
    (s.timing.clk100 = false → s.power.phase = .waking → exec .thermalComparatorTrip s =
      .next { s with power := { s.power with wakeQuench := true } }) ∧
    (s.timing.clk100 = false → s.serves = true → s.rd 0xB02002 = 2 → (s.rd 0x6A1002).testBit 1 = false → ∃ t,
      exec .thermalComparatorTrip s = .next t ∧ t.therm.quench = true ∧ t.rd 0xB02002 = 0 ∧ t.timing.clk100 = true ∧
      (t.rd 0x6A1002).testBit 1 = true)) ∧
  (∀ (tr : Transport) (i : Nat) (s : State), i < 2 → s.admits ⟨tr, 0x6A1001, 1, 2 ^ i⟩ → s.therm.sources.length = 19 →
    ((s.rd 0x6A1002).testBit i = false → s.rd 0x6A0005 = maxNat (s.therm.sources.map Source.step) →
      ∃ t, exec (.acknowledgeQuench tr (2 ^ i)) s = .next t ∧ t.answer.abort = 0 ∧ sameObjects (accessCounters tr) s t ∧
      t = { s with dict := t.dict, answer := t.answer }) ∧
    ((s.rd 0x6A1002).testBit i = true → ((s.src i).limit 2).e ≠ 3 →
      ∃ t, exec (.acknowledgeQuench tr (2 ^ i)) s = .next t ∧ t.answer.abort = 0 ∧
        (∀ j, (t.rd 0x6A1002).testBit j = ((s.rd 0x6A1002).testBit j || j == 2 + i)) ∧ t.therm = s.therm ∧
        t.mram = s.mram) ∧
    ((s.rd 0x6A1002).testBit i = true → (s.rd 0x6A1002).testBit (1 - i) = false → ((s.src i).limit 2).e = 3 →
      ∃ t, exec (.acknowledgeQuench tr (2 ^ i)) s = .next t ∧ t.answer.abort = 0 ∧ t.therm.quench = false ∧
        t.therm.rearmEnd = some (s.now + ms 2) ∧ (t.rd 0x6A1002).testBit i = false ∧
        (t.rd 0x6A1002).testBit 4 = true ∧ t.rd (0x6A0001 + i) = 2)) ∧
  (∀ (x : Instant) (s : State), s.therm.rearmEnd = some x →
    (s.now < x → exec .reArmEnd s = .next s) ∧
    (x ≤ s.now → s.conv.calAt = none → ∃ t, exec .reArmEnd s = .next t ∧ t.therm = { s.therm with rearmEnd := none } ∧
      (t.rd 0x6A1002).testBit 4 = false ∧ sameObjects [0x6A1002] s t))

/-- Every reset source keeps MRAM, fuses and MRAM-backed objects and nothing else; start-up goes through its phases in order -/
def Obligations.ResetsKeepMramAndStartUpRunsInOrder : Prop :=
  let after (s t : State) (code : Nat) : Prop := t.power.phase = .inReset ∧
    t.power.source = (if s.power.phase = .inReset then min s.power.source code else code) ∧
    t.power.fuses = s.power.fuses ∧ t.stage = State.reset.stage ∧
    t.ring = State.reset.ring ∧ t.lanes = State.reset.lanes ∧ t.log = ⟨[], nextAfterStart s.heldLog, 0⟩ ∧ t.serves = false ∧
    t.pending = s.pending ∧ t.timing.pins = s.timing.pins ∧ t.jtag = s.jtag ∧ (∀ k, isMramKey k = false → t.rd k = objDefault k) ∧
    (s.power.unwritten = none → t.mram = s.mram ∧ (∀ k, isMramKey k = true →
      t.rd k = if (s.stage.mramWrite.any fun w => w.key == k) = true then (s.stage.mramWrite.map Txn.val).getD 0 else s.rd k)) ∧
    (∀ (m : Mram) (f : Nat → Nat), s.power.unwritten = some (m, mramKeys.map fun k => (k, f k)) →
      t.mram = m ∧ ∀ k ∈ mramKeys, t.rd k = f k)
  (∀ (width : Nat) (s : State),
    (∃ t, exec .powerOn s = .next t ∧ after s t 1) ∧
    (1000 ≤ width → ∃ t, exec (.porstNPulse width) s = .next t ∧ after s t 2) ∧
    (width ≤ 100 → exec (.porstNPulse width) s = .next s) ∧
    (100 < width → width < 1000 → ∃ t, exec (.porstNPulse width) s = .next t ∧
      (after s t 2 ∨ t = { s with free := s.free + 1 })) ∧
    (∃ t, exec .brownOut s = .next t ∧ after s t 3 ∧ t.power.brownAt = some s.now) ∧
    (∃ t, exec .sequencerWatchdog s = .next t ∧ after s t 6) ∧
    (s.power.makerTest = true → ∃ t, exec .makerTestModeExit s = .next t ∧ after s t 7) ∧
    (s.power.makerTest = false → exec .makerTestModeExit s = .next s)) ∧
  (∀ (tr : Transport) (v : Nat) (s : State), s.admits ⟨tr, 0xB02201, 4, v⟩ → s.power.resetAt = none →
    (v = s.rd 0x100005 → ∃ t, exec (.resetCommand tr v) s = .next t ∧ t.answer.abort = 0 ∧ after s t 4) ∧
    (v ≠ s.rd 0x100005 → ∃ t, exec (.resetCommand tr v) s = .next t ∧ t.answer.abort = 0x04010000 ∧
      sameObjects (accessCounters tr) s t ∧ t = { s with dict := t.dict, answer := t.answer })) ∧
  (∀ (testen : Bool) (straps : Nat) (s : State), s.power.phase = .inReset →
    (∀ x, s.power.brownAt = some x → s.now < x + ms 1 → exec (.resetRelease testen straps) s = .next s) ∧
    ((∀ x, s.power.brownAt = some x → x + ms 1 ≤ s.now) → ∃ t, exec (.resetRelease testen straps) s = .next t ∧
      t.power = { s.power with
        phase := .released, origin := s.now, testen := testen, straps := straps,
        testenHeld := testen && (s.power.source ≤ 2 || s.power.testenHeld) } ∧
      t.rd 0xA00002 = straps ∧ t.rd 0xA00101 = 0x0130 + straps ∧ t.rd 0xA00201 = 0x30 + straps ∧
      t.twi.addrs = t.addressObjects ∧ t.rd 0xC00004 = newestSeq s.heldLog ∧ t.twi.selected = newestSeq s.heldLog ∧
      t.log.next = (nextAfterStart s.heldLog + s.log.queue.length) % 2 ^ 32 ∧
      sameObjects [0xA00002, 0xA00101, 0xA00201, 0xC00004] s t ∧ t.mram = s.mram)) ∧
  (∀ s : State, s.power.phase = .released →
    (s.now < s.power.origin + us 50 → exec .fuseRead s = .next s) ∧
    (s.power.origin + us 50 ≤ s.now → ∃ t, exec .fuseRead s = .next t ∧
      t.power = { s.power with phase := .fusesRead, fusesRead := s.power.fuses } ∧
      (s.power.source ≠ 5 → t.log = s.log) ∧
      (s.power.source = 5 → s.log.queue.length < 64 → ∃ e, t.log.queue = s.log.queue ++ [e] ∧ e.code = 0x0105))) ∧
  (∀ s : State, s.power.phase = .fusesRead →
    (s.now < s.power.origin + us 200 → exec .pllLock s = .next s) ∧
    (s.power.origin + us 200 ≤ s.now → ∃ t, exec .pllLock s = .next t ∧ t.power = { s.power with phase := .pllLocked } ∧
      t.timing.clk100 = true ∧ t.hk.calAt = some s.now ∧ t.rd 0x600102 = 1 ∧ sameObjects [0x600102] s t)) ∧
  (∀ (hz : Nat) (s : State), s.power.phase = .pllLocked → s.power.origin + us 450 ≤ s.now →
    (hz = 0 → ∃ t, exec (.lfxiDetection hz) s = .next t ∧ t.rd 0x501102 = 0 ∧ sameObjects [0x501102] s t) ∧
    (s.power.origin + us 467 ≤ s.now → 30000 ≤ hz → ∃ t, exec (.lfxiDetection hz) s = .next t ∧
      t.rd 0x501102 = (if hz ≤ 35500 then 1 else 0) ∧ sameObjects [0x501102] s t)) ∧
  (∀ s : State, s.power.phase = .pllLocked →
    (s.now < s.power.origin + ns 6200000 → exec .shakeoutComplete s = .next s) ∧
    (s.power.origin + ns 6200000 ≤ s.now → ∃ t, exec .shakeoutComplete s = .next t ∧
      t.power = { s.power with phase := .shaken } ∧ t.timing.driven = true ∧ t.lanes.released = true ∧ t.mram = s.mram ∧
      t.stage = s.stage)) ∧
  (∀ (bad corrected : List Nat) (s : State), s.power.phase = .shaken →
    let u := s.noteErrors mramWords bad corrected
    (s.now < s.power.origin + ms 9 ∨ s.therm.assessed = false → exec (.mramScan bad corrected) s = .next s) ∧
    (s.power.origin + ms 9 ≤ s.now → s.therm.assessed = true → s.mram.lcJournal = none → s.therm.quench = false →
      ∃ t, exec (.mramScan bad corrected) s = .next t ∧
      t.power.phase = .scanned ∧ t.power.scanned = true ∧ t.conv.calAt = some s.now ∧ t.mram.journal = none ∧
      t.rd 0xB00004 = countUp (s.rd 0xB00004) ∧ t.mram.log = s.mram.log ∧
      t.power.unwritten = (if s.inhibited = true then some (u.mram, mramKeys.map fun k => (k, s.rd k)) else s.power.unwritten) ∧
      (∀ n ≤ 1, ((u.bankOf n).state = 1 ∨ (u.bankOf n).state = 2) → u.readable (headerWords n) = true →
        (t.bankOf n).state = 0xFF ∧ t.bankUsable n = false) ∧
      (∀ n ≤ 1, ((u.bankOf n).state ≠ 1 ∧ (u.bankOf n).state ≠ 2) ∨ u.readable (headerWords n) = false →
        t.bankOf n = s.bankOf n) ∧
      (∃ n, t.rd 0x401001 = n ∧ (n ≤ 1 ∨ n = 0xFF) ∧ (n ≤ 1 → t.bankUsable n = true ∧
          (t.bankUsable (1 - n) = true → (t.bankOf (1 - n)).gen + n ≤ (t.bankOf n).gen)) ∧
        (n = 0xFF → t.bankUsable 0 = false ∧ t.bankUsable 1 = false)) ∧
      (∀ n img, s.mram.journal = some n → s.mram.shadow = some img → t.mram.mould n = pad 16384 img) ∧
      (∀ i < 4, i < s.mram.sets.length → nth t.mram.sets i SetSlot.unused =
        if u.slotChosen i = true then nth s.mram.sets i SetSlot.unused else (nth s.mram.sets i SetSlot.unused).freed))) ∧
  (∀ (img : Option (List Byte)) (s : State), s.power.phase = .scanned → s.power.mouldReady = some img →
    (s.conv.calAt.isSome = true → exec .startMouldPour s = .next s) ∧
    (s.conv.calAt = none →
      (img = none → ∃ t, exec .startMouldPour s = .next t ∧ t.power.phase = .poured ∧ t.corr.loading.isSome = true ∧
        t.stage = s.stage ∧ t.rd 0x801202 = (if s.rd 0x801201 = 0xFFFF then s.rd 0x801202 else 0x0A)) ∧
      (img = some [] → s.rd 0x110002 < 2 ^ 64 - 1 → s.stage.queue = [] → ∃ t, exec .startMouldPour s = .next t ∧
        t.power.phase = .poured ∧ t.corr.loading.isSome = true ∧ t.stage.queue = [] ∧ t.rd 0x801202 = 0x08) ∧
      (∀ b d, img = some b →
        let n := if s.rd 0x801201 = 0x0100 then imageField b 4 1 else s.rd 0x801201
        readImage n b = .inl d →
        let u := s.toPhase .poured
        u.entryFault false (Dict.putAll s.stage.loose (mouldValues d)) = none →
        ∃ t e, exec .startMouldPour s = .next t ∧ t.power.phase = .poured ∧ t.corr.loading.isSome = true ∧
          t.stage.queue = s.stage.queue ++ [e] ∧ e.bound = .idle ∧ e.by_ = .part ∧ e.version = s.rd 0x110002 + 1 ∧
          e.values = Dict.putAll s.stage.loose (mouldValues d) ∧ t.rd 0x801202 = s.rd 0x801202))) ∧
  (∀ s : State, s.power.phase = .poured →
    (s.stage.queue ≠ [] ∨ s.corr.loading.isSome = true → exec .startComplete s = .next s) ∧
    (s.stage.queue = [] → s.corr.loading = none → s.stage.window = none → ∃ t, exec .startComplete s = .next t ∧
      t.serves = true ∧ (s.log.queue.length < 64 → ∃ e, t.log.queue = s.log.queue ++ [e] ∧ e.code = 0x0101) ∧
      sameObjects [0xC00007, 0xC00008] s t ∧ t.mram = s.mram))

/-- Hold needs TESTEN, is entered once idle and left by a write of 0 or TESTEN falling; Sleep needs a settled part and wakes on three events -/
def Obligations.HoldAndSleepStopAndReturnTheClocks : Prop :=
  (∀ (tr : Transport) (s : State),
    (s.admits ⟨tr, 0xB02001, 1, 1⟩ →
      (s.power.testen = false → ∃ t, exec (.holdRequest tr 1) s = .next t ∧ t.answer.abort = 0x05010000 ∧
        sameObjects (accessCounters tr) s t ∧ t = { s with dict := t.dict, answer := t.answer }) ∧
      (s.power.testen = true → s.rd 0xB02002 = 0 → ∃ t, exec (.holdRequest tr 1) s = .next t ∧ t.answer.abort = 0 ∧
        t.rd 0xB02001 = 1 ∧ t.rd 0xB02002 = 1 ∧ sameObjects ([0xB02001, 0xB02002] ++ accessCounters tr) s t ∧
        t = { s with dict := t.dict, answer := t.answer })) ∧
    (s.admits ⟨tr, 0xB02001, 1, 0⟩ → ∀ c ∈ [Instr.holdRequest tr 0, .holdExit tr 0 s.power.testen],
      ∃ t, exec c s = .next t ∧ t.answer.abort = 0 ∧ t.rd 0xB02001 = 0 ∧ t.rd 0xB02002 = 0 ∧
        t.pinsByScan = false ∧ t.pinsFloat = false ∧
        (s.rd 0xB02002 = 2 → t.timing.clk100 = true) ∧ (s.rd 0xB02002 ≠ 2 → t.timing = s.timing) ∧ t.mram = s.mram) ∧
    (∀ v, s.power.testen = true → ∃ t, exec (.holdExit tr v false) s = .next t ∧ t.rd 0xB02002 = 0 ∧
      t.power = { s.power with testen := false, testenHeld := false } ∧ t.pinsByScan = false ∧ t.pinsFloat = false ∧
      (s.rd 0xB02002 = 2 → t.timing.clk100 = true) ∧ t.mram = s.mram) ∧
    (s.admits ⟨tr, 0xB02101, 1, 1⟩ → s.power.sleepAt = none →
      let ready := s.settled = true ∧ s.quiet = false ∧ s.rd 0xB02002 = 0
      (ready → ∃ t, exec (.sleepRequest tr 1) s = .next t ∧ t.answer.abort = 0 ∧ t.power = { s.power with phase := .asleep } ∧
        t.timing.clk100 = false ∧ t.lanes.released = false ∧ t.rd 0x120002 = 0 ∧ t.ring.tx = [] ∧ t.ring.ins = [] ∧
        sameObjects ([0x120002, 0x120003, 0x120203, 0x900301, 0x900302] ++ accessCounters tr) s t ∧ t.stage = s.stage ∧
        t.mram = s.mram) ∧
      (¬ready → ∃ t, exec (.sleepRequest tr 1) s = .next t ∧ t.answer.abort = 0x05010000 ∧
        sameObjects (accessCounters tr) s t ∧ t = { s with dict := t.dict, answer := t.answer }))) ∧
  (∀ s : State,
    (s.serves = true → s.rd 0xB02002 = 1 → s.idle = true → ∃ t, exec .holdEntered s = .next t ∧ t.rd 0xB02002 = 2 ∧
      t.timing = { s.timing with clk100 := false, lfAt := s.now, lfOn := false } ∧ sameObjects [0xB02002] s t ∧
      t = { s with dict := t.dict, timing := t.timing }) ∧
    (s.rd 0xB02002 ≠ 1 ∨ s.idle = false → exec .holdEntered s = .next s)) ∧
  (∀ (width : Nat) (s : State),
    (s.power.phase = .asleep → s.rd 0xB02102 = 1 → 1000 ≤ width → ∃ t, exec (.trig0Wake width) s = .next t ∧
      t.power = { s.power with phase := .waking, wakeAt := some s.now, wakeQuench := false } ∧ t.rd 0xB02103 = 2 ∧
      sameObjects [0xB02103] s t ∧ t = { s with dict := t.dict, power := t.power }) ∧
    (s.power.phase ≠ .asleep ∨ s.rd 0xB02102 ≠ 1 ∨ width < 1000 → exec (.trig0Wake width) s = .next s)) ∧
  (∀ (x : Instant) (s : State), s.power.phase = .waking → s.power.wakeAt = some x →
    (s.now < x + us 200 → exec .wakeComplete s = .next s) ∧
    (x + us 200 ≤ s.now → ∃ t, exec .wakeComplete s = .next ((State.releaseScl t.twi.bus.length t).drainAll) ∧
      (s.twi.bus = [] → s.stage.waiting = [] → exec .wakeComplete s = .next t) ∧ t.serves = true ∧ t.timing.clk100 = true ∧
      t.lanes.released = true ∧ (∀ n < 32, t.rd (0x901001 + n) = 0 ∧ t.rd (0x901101 + n) = 0) ∧ t.twi.held = none ∧
      t.twi.bus = s.twi.bus ∧ t.stage.waiting = s.stage.waiting ∧ t.power.wakeAt = none ∧
      (s.power.wakeQuench = true → (s.rd 0x6A1002).testBit 1 = false → t.therm.quench = true) ∧
      (s.power.wakeQuench = false → t.therm.quench = s.therm.quench ∧ t.mram = s.mram)))

/-- A fuse or life-cycle command needs its key within 1 s and only adds fuse bits; only the next state is reached, through wipe and reset -/
def Obligations.FusesAndLifeCycleNeedTheirKeysAndMoveForward : Prop :=
  (∀ (tr : Transport) (v : Nat) (s : State),
    (s.admits ⟨tr, 0xB01001, 4, v⟩ → ∃ t, exec (.fuseKeyWrite tr v) s = .next t ∧ t.answer.abort = 0 ∧
      t.power = { s.power with fuseKey := if v = s.rd 0x100005 then some s.now else none } ∧
      sameObjects (accessCounters tr) s t ∧ t = { s with dict := t.dict, answer := t.answer, power := t.power }) ∧
    (s.admits ⟨tr, 0xB00102, 4, v⟩ → ∃ t, exec (.lifeCycleKeyWrite tr v) s = .next t ∧ t.answer.abort = 0 ∧
      t.power = { s.power with lifeKey := if v = s.rd 0x100005 then some (tr, s.now) else none } ∧
      sameObjects (accessCounters tr) s t ∧ t = { s with dict := t.dict, answer := t.answer, power := t.power })) ∧
  (∀ (tr : Transport) (v : Nat) (s : State),
    let armed := ∃ x, s.power.fuseKey = some x ∧ s.now ≤ x + ms 1000
    let refused := [0xB00103, 0xB00104, 0x100101, 0xC00007, 0xC00008] ++ accessCounters tr
    let blows (o : Host.Outcome State Fault Refusal) (w : Txn) (cmd bits : Nat) : Prop := s.admits w →
      (armed → s.power.op = none → s.therm.quench = false → ∃ t, o = .next t ∧ t.answer.abort = 0 ∧
        t.power = { s.power with fuseKey := none, op := some (.fuses cmd bits) } ∧ t.rd 0xB00103 = 1 ∧
        sameObjects (0xB00103 :: accessCounters tr) s t ∧ t.mram = s.mram) ∧
      (¬armed ∨ s.power.op ≠ none ∨ s.therm.quench = true → ∃ t, o = .next t ∧ t.answer.abort = 0x05010000 ∧
        t.power = { s.power with fuseKey := none } ∧ t.rd 0xB00103 = 3 ∧ (¬armed → t.rd 0xB00104 = 1) ∧
        (armed → t.rd 0xB00104 = if s.power.op = none then 5 else 4) ∧ (t.rd 0x100101).testBit 13 = true ∧
        sameObjects refused s t ∧ t.mram = s.mram)
    blows (exec (.blowRingWriteDisable tr v) s) ⟨tr, 0xB01002, 2, v⟩ 0x10 v ∧
    blows (exec (.blowTwoWireWriteDisable tr v) s) ⟨tr, 0xB01003, 2, v⟩ 0x11 (v * 2 ^ 16) ∧
    blows (exec (.blowFactoryCalibrationLock tr 1) s) ⟨tr, 0xB01004, 1, 1⟩ 0x12 (2 ^ 32)) ∧
  (∀ (cmd bits : Nat) (s : State), s.power.op = some (.fuses cmd bits) →
    (∃ t, exec (.fuseBlowComplete true) s = .next t ∧
      t.power = { s.power with op := none, fuses := s.power.fuses ||| bits } ∧ t.rd 0xB00103 = 2 ∧
      sameObjects [0xB00103] s t ∧ t.mram = s.mram) ∧
    (∃ t, exec (.fuseBlowComplete false) s = .next t ∧ t.power.op = none ∧ t.rd 0xB00103 = 3 ∧ t.rd 0xB00104 = 6 ∧
      (∀ i, s.power.fuses.testBit i = true → t.power.fuses.testBit i = true) ∧
      (∀ i, t.power.fuses.testBit i = true → s.power.fuses.testBit i = true ∨ bits.testBit i = true) ∧ t.mram = s.mram)) ∧
  (∀ (tr : Transport) (v : Nat) (s : State), s.admits ⟨tr, 0xB00101, 1, v⟩ →
    let moves (o : Host.Outcome State Fault Refusal) : Prop :=
      (∀ cause, s.lifeFault tr v = some cause → ∃ t, o = .next t ∧ t.answer.abort = 0x05010000 ∧
        t.power = { s.power with lifeKey := none } ∧ t.mram = s.mram ∧ t.rd 0xB00103 = 3 ∧ t.rd 0xB00104 = cause ∧
        (t.rd 0x100101).testBit 13 = true ∧
        sameObjects ([0xB00103, 0xB00104, 0x100101, 0xC00007, 0xC00008] ++ accessCounters tr) s t) ∧
      (s.lifeFault tr v = none → ∃ t, o = .next t ∧ t.answer.abort = 0 ∧ v = s.life + 1 ∧
        t.power = { s.power with lifeKey := none, op := some (.life v false) } ∧
        t.mram = { s.mram with lcJournal := some v } ∧ t.rd 0xB00103 = 1 ∧ t.rd 0xB00105 = 0 ∧
        sameObjects ([0xB00103, 0xB00105] ++ accessCounters tr) s t)
    moves (exec (.toReturn tr v) s) ∧ moves (exec (.toScrap tr v) s)) ∧
  (∀ (target : Nat) (s : State),
    (s.power.op = some (.life target false) →
      (∀ ok, s.inhibited = true → exec (.fuseBlowComplete ok) s = .next s) ∧
      (s.inhibited = false →
        (exec (.fuseBlowComplete true) s = .next { s with power := { s.power with
          fuses := s.power.fuses ||| 2 ^ (32 + target), op := some (.life target true) } }) ∧
        (∃ t, exec (.fuseBlowComplete false) s = .next t ∧ t.power = { s.power with op := none } ∧
          t.mram = { s.mram with lcJournal := none } ∧ t.rd 0xB00103 = 3 ∧ t.rd 0xB00104 = 6))) ∧
    (s.power.op = some (.life target true) →
      (s.inhibited = true → exec .wipeComplete s = .next s) ∧
      (s.inhibited = false → s.power.phase ≠ .inReset → s.power.unwritten = none → s.stage.mramWrite = none → ∃ t, exec .wipeComplete s = .next t ∧
        t.power.phase = .inReset ∧ t.power.source = 5 ∧ t.power.fuses = s.power.fuses ∧ t.mram.moulds = [] ∧
        t.mram.shadow = none ∧ t.mram.journal = none ∧ t.mram.lcJournal = none ∧ t.mram.log = [] ∧ t.log.next = 0 ∧
        (∀ k, k ≠ 0xB00004 → t.rd k = objDefault k) ∧ t.rd 0xB00004 = s.rd 0xB00004 ∧
        (target = 2 → t.mram.sets = s.mram.sets.map (fun x => if x.holds 0 = true then x else SetSlot.unused) ∧
          (s.mram.bankA.origin = true → t.mram.bankA = s.mram.bankA) ∧
          (s.mram.bankB.origin = true → t.mram.bankB = s.mram.bankB)) ∧
        (target = 3 → t.mram.sets = s.mram.sets.map (fun _ => SetSlot.unused) ∧ t.mram.bankA = Bank.wiped ∧ t.mram.bankB = Bank.wiped)))) ∧
  (∀ s : State,
    (s.serves = true → s.life = 2 → s.power.makerTest = false → ∃ t, exec .makerTestModeEntry s = .next t ∧
      t.power = { s.power with makerTest := true } ∧
      t.mram = { s.mram with
        bankA := Bank.wiped, bankB := Bank.wiped, errs := t.mram.errs, sets := s.mram.sets.map fun _ => SetSlot.unused,
        log := [] } ∧
      t = { s with mram := t.mram, power := t.power }) ∧
    (s.serves = false ∨ s.life ≠ 2 ∨ s.power.makerTest = true → exec .makerTestModeEntry s = .next s))

/-- The test access port takes every instruction and touches nothing else; it takes the pins in Hold only, and TRST_N resets it -/
def Obligations.TestPortActsInEveryStateAndTakesPinsOnlyInHold : Prop :=
  ∀ s : State,
    let port (o : Host.Outcome State Fault Refusal) (i act : JtagInstr) : Prop := ∃ t, o = .next t ∧
      t = { s with jtag := { s.jtag with instr := i } } ∧ t.tapActs = act ∧
      (t.pinsByScan = true ↔ act = .extest ∨ act = .clamp) ∧ (t.pinsFloat = true ↔ act = .highz) ∧
      (∀ p, t.pinLevel p =
        if act = .extest ∨ act = .clamp then s.scanLevel p else if act = .highz then none else s.ownLevel p)
    let cell (n : Nat) : Bool := s.jtag.update.testBit n
    let inHold (i : JtagInstr) : JtagInstr := if s.rd 0xB02002 = 2 then i else .bypass
    port (exec .trstNAssert s) .idcode .idcode ∧ port (exec .bypass s) .bypass .bypass ∧
    port (exec .extest s) .extest (inHold .extest) ∧ port (exec .clamp s) .clamp (inHold .clamp) ∧
    port (exec .highz s) .highz (inHold .highz) ∧
    (∀ n < 8, s.scanLevel (.stb n) = if cell (32 + 2 * n) = true then some (cell (31 + 2 * n)) else none) ∧
    (∀ n < 4, s.scanLevel (.vid n) = if cell (17 + 2 * n) = true then some (cell (16 + 2 * n)) else none) ∧
    s.scanLevel .ready = (if cell 4 = true then some (cell 3) else none) ∧
    s.scanLevel .alertN = (if cell 6 = true ∧ cell 5 = false then some false else none) ∧
    s.scanLevel .twiScl = (if cell 9 = true ∧ cell 8 = false then some false else none) ∧
    s.scanLevel .twiSda = (if cell 12 = true ∧ cell 11 = false then some false else none) ∧
    (∃ t, exec .idcode s = .next t ∧ t = { s with jtag := { s.jtag with instr := .idcode, captured := 0x16416C3B } } ∧
      t.pinsByScan = false ∧ t.pinsFloat = false) ∧
    (∀ pins cells, pins < 2 ^ 47 → cells < 2 ^ 47 → ∃ t, exec (.samplePreload pins cells) s = .next t ∧
      t = { s with jtag := ⟨.samplePreload, pins, cells⟩ } ∧ t.pinsByScan = false ∧ t.pinsFloat = false)
end

