-- ==== Sys2Proof/Laws/Bits.lean ====
section
/-!
SUPPORT. What the bit, list and byte helpers do: bits of a value after setting or clearing one, elements of a list after one is
replaced, lengths of byte lists.
-/
namespace Sys2Proof.Machine

theorem testBit_setBit (v n i : Nat) : (setBit v n).testBit i = (v.testBit i || decide (i = n)) := by
  rw [setBit, Nat.testBit_or, Nat.testBit_two_pow]
  by_cases h : n = i <;> simp [h, eq_comm]

theorem testBit_clearBit (v n i : Nat) : (clearBit v n).testBit i = (v.testBit i && !decide (i = n)) := by
  unfold clearBit
  split
  case isTrue h =>
    have hr : v % 2 ^ n < 2 ^ n := Nat.mod_lt _ (Nat.two_pow_pos n)
    have hodd : v / 2 ^ n % 2 = 1 := by simpa [Nat.testBit_eq_decide_div_mod_eq] using h
    have hv : v = 2 ^ n * (v / 2 ^ n) + v % 2 ^ n := (Nat.div_add_mod v (2 ^ n)).symm
    generalize v / 2 ^ n = q at hodd hv
    generalize v % 2 ^ n = r at hr hv
    obtain ⟨b, rfl⟩ : ∃ b, q = 2 * b + 1 := ⟨q / 2, by omega⟩
    have he : v - 2 ^ n = 2 ^ n * (2 * b) + r := by rw [hv, Nat.mul_add, Nat.mul_one]; omega
    rw [he, Nat.testBit_two_pow_mul_add _ hr]
    rw [hv, Nat.testBit_two_pow_mul_add _ hr]
    by_cases h1 : i < n
    · simp [h1, Nat.ne_of_lt h1]
    · by_cases h2 : i = n
      · subst h2; simp [Nat.testBit_zero]
      · obtain ⟨m, hm⟩ : ∃ m, i - n = m + 1 := ⟨i - n - 1, by omega⟩
        simp only [h1, h2, hm, if_false, Nat.testBit_succ]
        rw [show 2 * b / 2 = b by omega, show (2 * b + 1) / 2 = b by omega]
        simp
  case isFalse h =>
    by_cases hj : i = n
    · subst hj; simp [h]
    · simp [hj]

theorem mem_rangeFrom (lo n k : Nat) : k ∈ rangeFrom lo n ↔ lo ≤ k ∧ k < lo + n := by
  simp only [rangeFrom, List.mem_map, List.mem_range]
  constructor
  · rintro ⟨i, hi, rfl⟩; omega
  · rintro ⟨h1, h2⟩; exact ⟨k - lo, by omega, by omega⟩

@[simp] theorem length_modifyNth {α : Type} (l : List α) (i : Nat) (f : α → α) : (modifyNth l i f).length = l.length := by
  induction l generalizing i with
  | nil => rfl
  | cons a l ih => cases i <;> simp [modifyNth, ih]

@[simp] theorem length_setNth {α : Type} (l : List α) (i : Nat) (a : α) : (setNth l i a).length = l.length :=
  length_modifyNth ..

/-- An element of a list after element `i` was replaced by `f` of it. -/
theorem nth_modifyNth {α : Type} (l : List α) (i j : Nat) (f : α → α) (d : α) :
    nth (modifyNth l i f) j d = if j = i ∧ j < l.length then f (nth l j d) else nth l j d := by
  induction l generalizing i j with
  | nil => simp [modifyNth, nth]
  | cons a l ih =>
    cases i <;> cases j <;> simp [modifyNth, nth]
    have := ih
    simp only [nth, List.getD_eq_getElem?_getD] at this
    exact this _ _

theorem nth_setNth {α : Type} (l : List α) (i j : Nat) (a d : α) :
    nth (setNth l i a) j d = if j = i ∧ j < l.length then a else nth l j d := nth_modifyNth ..

@[simp] theorem length_leBytes (n v : Nat) : (leBytes n v).length = n := by
  induction n generalizing v with
  | zero => rfl
  | succ n ih => simp [leBytes, ih]

end Sys2Proof.Machine
end

