-- ==== Sys2Proof/Laws/State.lean ====
section
/-!
SUPPORT. One lemma per field per update of the state, each true by unfolding and a simp lemma, so that no proof unfolds a
record update.
-/
namespace Sys2Proof.Machine

variable (s : State)

section onImage
variable (f : Image → Image)

@[simp] theorem State.onImage_pending : (s.onImage f).pending = s.pending := rfl
@[simp] theorem State.onImage_now : (s.onImage f).now = s.now := rfl
@[simp] theorem State.onImage_free : (s.onImage f).free = s.free := rfl
@[simp] theorem State.onImage_answer : (s.onImage f).answer = s.answer := rfl
@[simp] theorem State.onImage_dict : (s.onImage f).dict = s.dict := rfl
@[simp] theorem State.onImage_image : (s.onImage f).image = f s.image := rfl
@[simp] theorem State.onImage_tdi : (s.onImage f).tdi = s.tdi := rfl
@[simp] theorem State.onImage_conv : (s.onImage f).conv = s.conv := rfl
@[simp] theorem State.onImage_corr : (s.onImage f).corr = s.corr := rfl
@[simp] theorem State.onImage_lanes : (s.onImage f).lanes = s.lanes := rfl
@[simp] theorem State.onImage_stage : (s.onImage f).stage = s.stage := rfl
@[simp] theorem State.onImage_ring : (s.onImage f).ring = s.ring := rfl
@[simp] theorem State.onImage_log : (s.onImage f).log = s.log := rfl
@[simp] theorem State.onImage_twi : (s.onImage f).twi = s.twi := rfl
@[simp] theorem State.onImage_timing : (s.onImage f).timing = s.timing := rfl
@[simp] theorem State.onImage_dma : (s.onImage f).dma = s.dma := rfl
@[simp] theorem State.onImage_hk : (s.onImage f).hk = s.hk := rfl
@[simp] theorem State.onImage_therm : (s.onImage f).therm = s.therm := rfl
@[simp] theorem State.onImage_pace : (s.onImage f).pace = s.pace := rfl
@[simp] theorem State.onImage_mram : (s.onImage f).mram = s.mram := rfl
@[simp] theorem State.onImage_power : (s.onImage f).power = s.power := rfl
@[simp] theorem State.onImage_jtag : (s.onImage f).jtag = s.jtag := rfl
@[simp] theorem State.onImage_rd (k : Nat) : (s.onImage f).rd k = s.rd k := rfl

end onImage

section onTdi
variable (f : Tdi → Tdi)

@[simp] theorem State.onTdi_pending : (s.onTdi f).pending = s.pending := rfl
@[simp] theorem State.onTdi_now : (s.onTdi f).now = s.now := rfl
@[simp] theorem State.onTdi_free : (s.onTdi f).free = s.free := rfl
@[simp] theorem State.onTdi_answer : (s.onTdi f).answer = s.answer := rfl
@[simp] theorem State.onTdi_dict : (s.onTdi f).dict = s.dict := rfl
@[simp] theorem State.onTdi_image : (s.onTdi f).image = s.image := rfl
@[simp] theorem State.onTdi_tdi : (s.onTdi f).tdi = f s.tdi := rfl
@[simp] theorem State.onTdi_conv : (s.onTdi f).conv = s.conv := rfl
@[simp] theorem State.onTdi_corr : (s.onTdi f).corr = s.corr := rfl
@[simp] theorem State.onTdi_lanes : (s.onTdi f).lanes = s.lanes := rfl
@[simp] theorem State.onTdi_stage : (s.onTdi f).stage = s.stage := rfl
@[simp] theorem State.onTdi_ring : (s.onTdi f).ring = s.ring := rfl
@[simp] theorem State.onTdi_log : (s.onTdi f).log = s.log := rfl
@[simp] theorem State.onTdi_twi : (s.onTdi f).twi = s.twi := rfl
@[simp] theorem State.onTdi_timing : (s.onTdi f).timing = s.timing := rfl
@[simp] theorem State.onTdi_dma : (s.onTdi f).dma = s.dma := rfl
@[simp] theorem State.onTdi_hk : (s.onTdi f).hk = s.hk := rfl
@[simp] theorem State.onTdi_therm : (s.onTdi f).therm = s.therm := rfl
@[simp] theorem State.onTdi_pace : (s.onTdi f).pace = s.pace := rfl
@[simp] theorem State.onTdi_mram : (s.onTdi f).mram = s.mram := rfl
@[simp] theorem State.onTdi_power : (s.onTdi f).power = s.power := rfl
@[simp] theorem State.onTdi_jtag : (s.onTdi f).jtag = s.jtag := rfl
@[simp] theorem State.onTdi_rd (k : Nat) : (s.onTdi f).rd k = s.rd k := rfl

end onTdi

section onConv
variable (f : Conv → Conv)

@[simp] theorem State.onConv_pending : (s.onConv f).pending = s.pending := rfl
@[simp] theorem State.onConv_now : (s.onConv f).now = s.now := rfl
@[simp] theorem State.onConv_free : (s.onConv f).free = s.free := rfl
@[simp] theorem State.onConv_answer : (s.onConv f).answer = s.answer := rfl
@[simp] theorem State.onConv_dict : (s.onConv f).dict = s.dict := rfl
@[simp] theorem State.onConv_image : (s.onConv f).image = s.image := rfl
@[simp] theorem State.onConv_tdi : (s.onConv f).tdi = s.tdi := rfl
@[simp] theorem State.onConv_conv : (s.onConv f).conv = f s.conv := rfl
@[simp] theorem State.onConv_corr : (s.onConv f).corr = s.corr := rfl
@[simp] theorem State.onConv_lanes : (s.onConv f).lanes = s.lanes := rfl
@[simp] theorem State.onConv_stage : (s.onConv f).stage = s.stage := rfl
@[simp] theorem State.onConv_ring : (s.onConv f).ring = s.ring := rfl
@[simp] theorem State.onConv_log : (s.onConv f).log = s.log := rfl
@[simp] theorem State.onConv_twi : (s.onConv f).twi = s.twi := rfl
@[simp] theorem State.onConv_timing : (s.onConv f).timing = s.timing := rfl
@[simp] theorem State.onConv_dma : (s.onConv f).dma = s.dma := rfl
@[simp] theorem State.onConv_hk : (s.onConv f).hk = s.hk := rfl
@[simp] theorem State.onConv_therm : (s.onConv f).therm = s.therm := rfl
@[simp] theorem State.onConv_pace : (s.onConv f).pace = s.pace := rfl
@[simp] theorem State.onConv_mram : (s.onConv f).mram = s.mram := rfl
@[simp] theorem State.onConv_power : (s.onConv f).power = s.power := rfl
@[simp] theorem State.onConv_jtag : (s.onConv f).jtag = s.jtag := rfl
@[simp] theorem State.onConv_rd (k : Nat) : (s.onConv f).rd k = s.rd k := rfl

end onConv

section onCorr
variable (f : Corr → Corr)

@[simp] theorem State.onCorr_pending : (s.onCorr f).pending = s.pending := rfl
@[simp] theorem State.onCorr_now : (s.onCorr f).now = s.now := rfl
@[simp] theorem State.onCorr_free : (s.onCorr f).free = s.free := rfl
@[simp] theorem State.onCorr_answer : (s.onCorr f).answer = s.answer := rfl
@[simp] theorem State.onCorr_dict : (s.onCorr f).dict = s.dict := rfl
@[simp] theorem State.onCorr_image : (s.onCorr f).image = s.image := rfl
@[simp] theorem State.onCorr_tdi : (s.onCorr f).tdi = s.tdi := rfl
@[simp] theorem State.onCorr_conv : (s.onCorr f).conv = s.conv := rfl
@[simp] theorem State.onCorr_corr : (s.onCorr f).corr = f s.corr := rfl
@[simp] theorem State.onCorr_lanes : (s.onCorr f).lanes = s.lanes := rfl
@[simp] theorem State.onCorr_stage : (s.onCorr f).stage = s.stage := rfl
@[simp] theorem State.onCorr_ring : (s.onCorr f).ring = s.ring := rfl
@[simp] theorem State.onCorr_log : (s.onCorr f).log = s.log := rfl
@[simp] theorem State.onCorr_twi : (s.onCorr f).twi = s.twi := rfl
@[simp] theorem State.onCorr_timing : (s.onCorr f).timing = s.timing := rfl
@[simp] theorem State.onCorr_dma : (s.onCorr f).dma = s.dma := rfl
@[simp] theorem State.onCorr_hk : (s.onCorr f).hk = s.hk := rfl
@[simp] theorem State.onCorr_therm : (s.onCorr f).therm = s.therm := rfl
@[simp] theorem State.onCorr_pace : (s.onCorr f).pace = s.pace := rfl
@[simp] theorem State.onCorr_mram : (s.onCorr f).mram = s.mram := rfl
@[simp] theorem State.onCorr_power : (s.onCorr f).power = s.power := rfl
@[simp] theorem State.onCorr_jtag : (s.onCorr f).jtag = s.jtag := rfl
@[simp] theorem State.onCorr_rd (k : Nat) : (s.onCorr f).rd k = s.rd k := rfl

end onCorr

section onLanes
variable (f : Lanes → Lanes)

@[simp] theorem State.onLanes_pending : (s.onLanes f).pending = s.pending := rfl
@[simp] theorem State.onLanes_now : (s.onLanes f).now = s.now := rfl
@[simp] theorem State.onLanes_free : (s.onLanes f).free = s.free := rfl
@[simp] theorem State.onLanes_answer : (s.onLanes f).answer = s.answer := rfl
@[simp] theorem State.onLanes_dict : (s.onLanes f).dict = s.dict := rfl
@[simp] theorem State.onLanes_image : (s.onLanes f).image = s.image := rfl
@[simp] theorem State.onLanes_tdi : (s.onLanes f).tdi = s.tdi := rfl
@[simp] theorem State.onLanes_conv : (s.onLanes f).conv = s.conv := rfl
@[simp] theorem State.onLanes_corr : (s.onLanes f).corr = s.corr := rfl
@[simp] theorem State.onLanes_lanes : (s.onLanes f).lanes = f s.lanes := rfl
@[simp] theorem State.onLanes_stage : (s.onLanes f).stage = s.stage := rfl
@[simp] theorem State.onLanes_ring : (s.onLanes f).ring = s.ring := rfl
@[simp] theorem State.onLanes_log : (s.onLanes f).log = s.log := rfl
@[simp] theorem State.onLanes_twi : (s.onLanes f).twi = s.twi := rfl
@[simp] theorem State.onLanes_timing : (s.onLanes f).timing = s.timing := rfl
@[simp] theorem State.onLanes_dma : (s.onLanes f).dma = s.dma := rfl
@[simp] theorem State.onLanes_hk : (s.onLanes f).hk = s.hk := rfl
@[simp] theorem State.onLanes_therm : (s.onLanes f).therm = s.therm := rfl
@[simp] theorem State.onLanes_pace : (s.onLanes f).pace = s.pace := rfl
@[simp] theorem State.onLanes_mram : (s.onLanes f).mram = s.mram := rfl
@[simp] theorem State.onLanes_power : (s.onLanes f).power = s.power := rfl
@[simp] theorem State.onLanes_jtag : (s.onLanes f).jtag = s.jtag := rfl
@[simp] theorem State.onLanes_rd (k : Nat) : (s.onLanes f).rd k = s.rd k := rfl

end onLanes

section onStage
variable (f : Stage → Stage)

@[simp] theorem State.onStage_pending : (s.onStage f).pending = s.pending := rfl
@[simp] theorem State.onStage_now : (s.onStage f).now = s.now := rfl
@[simp] theorem State.onStage_free : (s.onStage f).free = s.free := rfl
@[simp] theorem State.onStage_answer : (s.onStage f).answer = s.answer := rfl
@[simp] theorem State.onStage_dict : (s.onStage f).dict = s.dict := rfl
@[simp] theorem State.onStage_image : (s.onStage f).image = s.image := rfl
@[simp] theorem State.onStage_tdi : (s.onStage f).tdi = s.tdi := rfl
@[simp] theorem State.onStage_conv : (s.onStage f).conv = s.conv := rfl
@[simp] theorem State.onStage_corr : (s.onStage f).corr = s.corr := rfl
@[simp] theorem State.onStage_lanes : (s.onStage f).lanes = s.lanes := rfl
@[simp] theorem State.onStage_stage : (s.onStage f).stage = f s.stage := rfl
@[simp] theorem State.onStage_ring : (s.onStage f).ring = s.ring := rfl
@[simp] theorem State.onStage_log : (s.onStage f).log = s.log := rfl
@[simp] theorem State.onStage_twi : (s.onStage f).twi = s.twi := rfl
@[simp] theorem State.onStage_timing : (s.onStage f).timing = s.timing := rfl
@[simp] theorem State.onStage_dma : (s.onStage f).dma = s.dma := rfl
@[simp] theorem State.onStage_hk : (s.onStage f).hk = s.hk := rfl
@[simp] theorem State.onStage_therm : (s.onStage f).therm = s.therm := rfl
@[simp] theorem State.onStage_pace : (s.onStage f).pace = s.pace := rfl
@[simp] theorem State.onStage_mram : (s.onStage f).mram = s.mram := rfl
@[simp] theorem State.onStage_power : (s.onStage f).power = s.power := rfl
@[simp] theorem State.onStage_jtag : (s.onStage f).jtag = s.jtag := rfl
@[simp] theorem State.onStage_rd (k : Nat) : (s.onStage f).rd k = s.rd k := rfl

end onStage

section onRing
variable (f : Ring → Ring)

@[simp] theorem State.onRing_pending : (s.onRing f).pending = s.pending := rfl
@[simp] theorem State.onRing_now : (s.onRing f).now = s.now := rfl
@[simp] theorem State.onRing_free : (s.onRing f).free = s.free := rfl
@[simp] theorem State.onRing_answer : (s.onRing f).answer = s.answer := rfl
@[simp] theorem State.onRing_dict : (s.onRing f).dict = s.dict := rfl
@[simp] theorem State.onRing_image : (s.onRing f).image = s.image := rfl
@[simp] theorem State.onRing_tdi : (s.onRing f).tdi = s.tdi := rfl
@[simp] theorem State.onRing_conv : (s.onRing f).conv = s.conv := rfl
@[simp] theorem State.onRing_corr : (s.onRing f).corr = s.corr := rfl
@[simp] theorem State.onRing_lanes : (s.onRing f).lanes = s.lanes := rfl
@[simp] theorem State.onRing_stage : (s.onRing f).stage = s.stage := rfl
@[simp] theorem State.onRing_ring : (s.onRing f).ring = f s.ring := rfl
@[simp] theorem State.onRing_log : (s.onRing f).log = s.log := rfl
@[simp] theorem State.onRing_twi : (s.onRing f).twi = s.twi := rfl
@[simp] theorem State.onRing_timing : (s.onRing f).timing = s.timing := rfl
@[simp] theorem State.onRing_dma : (s.onRing f).dma = s.dma := rfl
@[simp] theorem State.onRing_hk : (s.onRing f).hk = s.hk := rfl
@[simp] theorem State.onRing_therm : (s.onRing f).therm = s.therm := rfl
@[simp] theorem State.onRing_pace : (s.onRing f).pace = s.pace := rfl
@[simp] theorem State.onRing_mram : (s.onRing f).mram = s.mram := rfl
@[simp] theorem State.onRing_power : (s.onRing f).power = s.power := rfl
@[simp] theorem State.onRing_jtag : (s.onRing f).jtag = s.jtag := rfl
@[simp] theorem State.onRing_rd (k : Nat) : (s.onRing f).rd k = s.rd k := rfl

end onRing

section onLog
variable (f : Log → Log)

@[simp] theorem State.onLog_pending : (s.onLog f).pending = s.pending := rfl
@[simp] theorem State.onLog_now : (s.onLog f).now = s.now := rfl
@[simp] theorem State.onLog_free : (s.onLog f).free = s.free := rfl
@[simp] theorem State.onLog_answer : (s.onLog f).answer = s.answer := rfl
@[simp] theorem State.onLog_dict : (s.onLog f).dict = s.dict := rfl
@[simp] theorem State.onLog_image : (s.onLog f).image = s.image := rfl
@[simp] theorem State.onLog_tdi : (s.onLog f).tdi = s.tdi := rfl
@[simp] theorem State.onLog_conv : (s.onLog f).conv = s.conv := rfl
@[simp] theorem State.onLog_corr : (s.onLog f).corr = s.corr := rfl
@[simp] theorem State.onLog_lanes : (s.onLog f).lanes = s.lanes := rfl
@[simp] theorem State.onLog_stage : (s.onLog f).stage = s.stage := rfl
@[simp] theorem State.onLog_ring : (s.onLog f).ring = s.ring := rfl
@[simp] theorem State.onLog_log : (s.onLog f).log = f s.log := rfl
@[simp] theorem State.onLog_twi : (s.onLog f).twi = s.twi := rfl
@[simp] theorem State.onLog_timing : (s.onLog f).timing = s.timing := rfl
@[simp] theorem State.onLog_dma : (s.onLog f).dma = s.dma := rfl
@[simp] theorem State.onLog_hk : (s.onLog f).hk = s.hk := rfl
@[simp] theorem State.onLog_therm : (s.onLog f).therm = s.therm := rfl
@[simp] theorem State.onLog_pace : (s.onLog f).pace = s.pace := rfl
@[simp] theorem State.onLog_mram : (s.onLog f).mram = s.mram := rfl
@[simp] theorem State.onLog_power : (s.onLog f).power = s.power := rfl
@[simp] theorem State.onLog_jtag : (s.onLog f).jtag = s.jtag := rfl
@[simp] theorem State.onLog_rd (k : Nat) : (s.onLog f).rd k = s.rd k := rfl

end onLog

section onTwi
variable (f : Twi → Twi)

@[simp] theorem State.onTwi_pending : (s.onTwi f).pending = s.pending := rfl
@[simp] theorem State.onTwi_now : (s.onTwi f).now = s.now := rfl
@[simp] theorem State.onTwi_free : (s.onTwi f).free = s.free := rfl
@[simp] theorem State.onTwi_answer : (s.onTwi f).answer = s.answer := rfl
@[simp] theorem State.onTwi_dict : (s.onTwi f).dict = s.dict := rfl
@[simp] theorem State.onTwi_image : (s.onTwi f).image = s.image := rfl
@[simp] theorem State.onTwi_tdi : (s.onTwi f).tdi = s.tdi := rfl
@[simp] theorem State.onTwi_conv : (s.onTwi f).conv = s.conv := rfl
@[simp] theorem State.onTwi_corr : (s.onTwi f).corr = s.corr := rfl
@[simp] theorem State.onTwi_lanes : (s.onTwi f).lanes = s.lanes := rfl
@[simp] theorem State.onTwi_stage : (s.onTwi f).stage = s.stage := rfl
@[simp] theorem State.onTwi_ring : (s.onTwi f).ring = s.ring := rfl
@[simp] theorem State.onTwi_log : (s.onTwi f).log = s.log := rfl
@[simp] theorem State.onTwi_twi : (s.onTwi f).twi = f s.twi := rfl
@[simp] theorem State.onTwi_timing : (s.onTwi f).timing = s.timing := rfl
@[simp] theorem State.onTwi_dma : (s.onTwi f).dma = s.dma := rfl
@[simp] theorem State.onTwi_hk : (s.onTwi f).hk = s.hk := rfl
@[simp] theorem State.onTwi_therm : (s.onTwi f).therm = s.therm := rfl
@[simp] theorem State.onTwi_pace : (s.onTwi f).pace = s.pace := rfl
@[simp] theorem State.onTwi_mram : (s.onTwi f).mram = s.mram := rfl
@[simp] theorem State.onTwi_power : (s.onTwi f).power = s.power := rfl
@[simp] theorem State.onTwi_jtag : (s.onTwi f).jtag = s.jtag := rfl
@[simp] theorem State.onTwi_rd (k : Nat) : (s.onTwi f).rd k = s.rd k := rfl

end onTwi

section onTiming
variable (f : Timing → Timing)

@[simp] theorem State.onTiming_pending : (s.onTiming f).pending = s.pending := rfl
@[simp] theorem State.onTiming_now : (s.onTiming f).now = s.now := rfl
@[simp] theorem State.onTiming_free : (s.onTiming f).free = s.free := rfl
@[simp] theorem State.onTiming_answer : (s.onTiming f).answer = s.answer := rfl
@[simp] theorem State.onTiming_dict : (s.onTiming f).dict = s.dict := rfl
@[simp] theorem State.onTiming_image : (s.onTiming f).image = s.image := rfl
@[simp] theorem State.onTiming_tdi : (s.onTiming f).tdi = s.tdi := rfl
@[simp] theorem State.onTiming_conv : (s.onTiming f).conv = s.conv := rfl
@[simp] theorem State.onTiming_corr : (s.onTiming f).corr = s.corr := rfl
@[simp] theorem State.onTiming_lanes : (s.onTiming f).lanes = s.lanes := rfl
@[simp] theorem State.onTiming_stage : (s.onTiming f).stage = s.stage := rfl
@[simp] theorem State.onTiming_ring : (s.onTiming f).ring = s.ring := rfl
@[simp] theorem State.onTiming_log : (s.onTiming f).log = s.log := rfl
@[simp] theorem State.onTiming_twi : (s.onTiming f).twi = s.twi := rfl
@[simp] theorem State.onTiming_timing : (s.onTiming f).timing = f s.timing := rfl
@[simp] theorem State.onTiming_dma : (s.onTiming f).dma = s.dma := rfl
@[simp] theorem State.onTiming_hk : (s.onTiming f).hk = s.hk := rfl
@[simp] theorem State.onTiming_therm : (s.onTiming f).therm = s.therm := rfl
@[simp] theorem State.onTiming_pace : (s.onTiming f).pace = s.pace := rfl
@[simp] theorem State.onTiming_mram : (s.onTiming f).mram = s.mram := rfl
@[simp] theorem State.onTiming_power : (s.onTiming f).power = s.power := rfl
@[simp] theorem State.onTiming_jtag : (s.onTiming f).jtag = s.jtag := rfl
@[simp] theorem State.onTiming_rd (k : Nat) : (s.onTiming f).rd k = s.rd k := rfl

end onTiming

section onDma
variable (f : Dma → Dma)

@[simp] theorem State.onDma_pending : (s.onDma f).pending = s.pending := rfl
@[simp] theorem State.onDma_now : (s.onDma f).now = s.now := rfl
@[simp] theorem State.onDma_free : (s.onDma f).free = s.free := rfl
@[simp] theorem State.onDma_answer : (s.onDma f).answer = s.answer := rfl
@[simp] theorem State.onDma_dict : (s.onDma f).dict = s.dict := rfl
@[simp] theorem State.onDma_image : (s.onDma f).image = s.image := rfl
@[simp] theorem State.onDma_tdi : (s.onDma f).tdi = s.tdi := rfl
@[simp] theorem State.onDma_conv : (s.onDma f).conv = s.conv := rfl
@[simp] theorem State.onDma_corr : (s.onDma f).corr = s.corr := rfl
@[simp] theorem State.onDma_lanes : (s.onDma f).lanes = s.lanes := rfl
@[simp] theorem State.onDma_stage : (s.onDma f).stage = s.stage := rfl
@[simp] theorem State.onDma_ring : (s.onDma f).ring = s.ring := rfl
@[simp] theorem State.onDma_log : (s.onDma f).log = s.log := rfl
@[simp] theorem State.onDma_twi : (s.onDma f).twi = s.twi := rfl
@[simp] theorem State.onDma_timing : (s.onDma f).timing = s.timing := rfl
@[simp] theorem State.onDma_dma : (s.onDma f).dma = f s.dma := rfl
@[simp] theorem State.onDma_hk : (s.onDma f).hk = s.hk := rfl
@[simp] theorem State.onDma_therm : (s.onDma f).therm = s.therm := rfl
@[simp] theorem State.onDma_pace : (s.onDma f).pace = s.pace := rfl
@[simp] theorem State.onDma_mram : (s.onDma f).mram = s.mram := rfl
@[simp] theorem State.onDma_power : (s.onDma f).power = s.power := rfl
@[simp] theorem State.onDma_jtag : (s.onDma f).jtag = s.jtag := rfl
@[simp] theorem State.onDma_rd (k : Nat) : (s.onDma f).rd k = s.rd k := rfl

end onDma

section onHk
variable (f : Hk → Hk)

@[simp] theorem State.onHk_pending : (s.onHk f).pending = s.pending := rfl
@[simp] theorem State.onHk_now : (s.onHk f).now = s.now := rfl
@[simp] theorem State.onHk_free : (s.onHk f).free = s.free := rfl
@[simp] theorem State.onHk_answer : (s.onHk f).answer = s.answer := rfl
@[simp] theorem State.onHk_dict : (s.onHk f).dict = s.dict := rfl
@[simp] theorem State.onHk_image : (s.onHk f).image = s.image := rfl
@[simp] theorem State.onHk_tdi : (s.onHk f).tdi = s.tdi := rfl
@[simp] theorem State.onHk_conv : (s.onHk f).conv = s.conv := rfl
@[simp] theorem State.onHk_corr : (s.onHk f).corr = s.corr := rfl
@[simp] theorem State.onHk_lanes : (s.onHk f).lanes = s.lanes := rfl
@[simp] theorem State.onHk_stage : (s.onHk f).stage = s.stage := rfl
@[simp] theorem State.onHk_ring : (s.onHk f).ring = s.ring := rfl
@[simp] theorem State.onHk_log : (s.onHk f).log = s.log := rfl
@[simp] theorem State.onHk_twi : (s.onHk f).twi = s.twi := rfl
@[simp] theorem State.onHk_timing : (s.onHk f).timing = s.timing := rfl
@[simp] theorem State.onHk_dma : (s.onHk f).dma = s.dma := rfl
@[simp] theorem State.onHk_hk : (s.onHk f).hk = f s.hk := rfl
@[simp] theorem State.onHk_therm : (s.onHk f).therm = s.therm := rfl
@[simp] theorem State.onHk_pace : (s.onHk f).pace = s.pace := rfl
@[simp] theorem State.onHk_mram : (s.onHk f).mram = s.mram := rfl
@[simp] theorem State.onHk_power : (s.onHk f).power = s.power := rfl
@[simp] theorem State.onHk_jtag : (s.onHk f).jtag = s.jtag := rfl
@[simp] theorem State.onHk_rd (k : Nat) : (s.onHk f).rd k = s.rd k := rfl

end onHk

section onTherm
variable (f : Therm → Therm)

@[simp] theorem State.onTherm_pending : (s.onTherm f).pending = s.pending := rfl
@[simp] theorem State.onTherm_now : (s.onTherm f).now = s.now := rfl
@[simp] theorem State.onTherm_free : (s.onTherm f).free = s.free := rfl
@[simp] theorem State.onTherm_answer : (s.onTherm f).answer = s.answer := rfl
@[simp] theorem State.onTherm_dict : (s.onTherm f).dict = s.dict := rfl
@[simp] theorem State.onTherm_image : (s.onTherm f).image = s.image := rfl
@[simp] theorem State.onTherm_tdi : (s.onTherm f).tdi = s.tdi := rfl
@[simp] theorem State.onTherm_conv : (s.onTherm f).conv = s.conv := rfl
@[simp] theorem State.onTherm_corr : (s.onTherm f).corr = s.corr := rfl
@[simp] theorem State.onTherm_lanes : (s.onTherm f).lanes = s.lanes := rfl
@[simp] theorem State.onTherm_stage : (s.onTherm f).stage = s.stage := rfl
@[simp] theorem State.onTherm_ring : (s.onTherm f).ring = s.ring := rfl
@[simp] theorem State.onTherm_log : (s.onTherm f).log = s.log := rfl
@[simp] theorem State.onTherm_twi : (s.onTherm f).twi = s.twi := rfl
@[simp] theorem State.onTherm_timing : (s.onTherm f).timing = s.timing := rfl
@[simp] theorem State.onTherm_dma : (s.onTherm f).dma = s.dma := rfl
@[simp] theorem State.onTherm_hk : (s.onTherm f).hk = s.hk := rfl
@[simp] theorem State.onTherm_therm : (s.onTherm f).therm = f s.therm := rfl
@[simp] theorem State.onTherm_pace : (s.onTherm f).pace = s.pace := rfl
@[simp] theorem State.onTherm_mram : (s.onTherm f).mram = s.mram := rfl
@[simp] theorem State.onTherm_power : (s.onTherm f).power = s.power := rfl
@[simp] theorem State.onTherm_jtag : (s.onTherm f).jtag = s.jtag := rfl
@[simp] theorem State.onTherm_rd (k : Nat) : (s.onTherm f).rd k = s.rd k := rfl

end onTherm

section onPace
variable (f : Pace → Pace)

@[simp] theorem State.onPace_pending : (s.onPace f).pending = s.pending := rfl
@[simp] theorem State.onPace_now : (s.onPace f).now = s.now := rfl
@[simp] theorem State.onPace_free : (s.onPace f).free = s.free := rfl
@[simp] theorem State.onPace_answer : (s.onPace f).answer = s.answer := rfl
@[simp] theorem State.onPace_dict : (s.onPace f).dict = s.dict := rfl
@[simp] theorem State.onPace_image : (s.onPace f).image = s.image := rfl
@[simp] theorem State.onPace_tdi : (s.onPace f).tdi = s.tdi := rfl
@[simp] theorem State.onPace_conv : (s.onPace f).conv = s.conv := rfl
@[simp] theorem State.onPace_corr : (s.onPace f).corr = s.corr := rfl
@[simp] theorem State.onPace_lanes : (s.onPace f).lanes = s.lanes := rfl
@[simp] theorem State.onPace_stage : (s.onPace f).stage = s.stage := rfl
@[simp] theorem State.onPace_ring : (s.onPace f).ring = s.ring := rfl
@[simp] theorem State.onPace_log : (s.onPace f).log = s.log := rfl
@[simp] theorem State.onPace_twi : (s.onPace f).twi = s.twi := rfl
@[simp] theorem State.onPace_timing : (s.onPace f).timing = s.timing := rfl
@[simp] theorem State.onPace_dma : (s.onPace f).dma = s.dma := rfl
@[simp] theorem State.onPace_hk : (s.onPace f).hk = s.hk := rfl
@[simp] theorem State.onPace_therm : (s.onPace f).therm = s.therm := rfl
@[simp] theorem State.onPace_pace : (s.onPace f).pace = f s.pace := rfl
@[simp] theorem State.onPace_mram : (s.onPace f).mram = s.mram := rfl
@[simp] theorem State.onPace_power : (s.onPace f).power = s.power := rfl
@[simp] theorem State.onPace_jtag : (s.onPace f).jtag = s.jtag := rfl
@[simp] theorem State.onPace_rd (k : Nat) : (s.onPace f).rd k = s.rd k := rfl

end onPace

section onMram
variable (f : Mram → Mram)

@[simp] theorem State.onMram_pending : (s.onMram f).pending = s.pending := rfl
@[simp] theorem State.onMram_now : (s.onMram f).now = s.now := rfl
@[simp] theorem State.onMram_free : (s.onMram f).free = s.free := rfl
@[simp] theorem State.onMram_answer : (s.onMram f).answer = s.answer := rfl
@[simp] theorem State.onMram_dict : (s.onMram f).dict = s.dict := rfl
@[simp] theorem State.onMram_image : (s.onMram f).image = s.image := rfl
@[simp] theorem State.onMram_tdi : (s.onMram f).tdi = s.tdi := rfl
@[simp] theorem State.onMram_conv : (s.onMram f).conv = s.conv := rfl
@[simp] theorem State.onMram_corr : (s.onMram f).corr = s.corr := rfl
@[simp] theorem State.onMram_lanes : (s.onMram f).lanes = s.lanes := rfl
@[simp] theorem State.onMram_stage : (s.onMram f).stage = s.stage := rfl
@[simp] theorem State.onMram_ring : (s.onMram f).ring = s.ring := rfl
@[simp] theorem State.onMram_log : (s.onMram f).log = s.log := rfl
@[simp] theorem State.onMram_twi : (s.onMram f).twi = s.twi := rfl
@[simp] theorem State.onMram_timing : (s.onMram f).timing = s.timing := rfl
@[simp] theorem State.onMram_dma : (s.onMram f).dma = s.dma := rfl
@[simp] theorem State.onMram_hk : (s.onMram f).hk = s.hk := rfl
@[simp] theorem State.onMram_therm : (s.onMram f).therm = s.therm := rfl
@[simp] theorem State.onMram_pace : (s.onMram f).pace = s.pace := rfl
@[simp] theorem State.onMram_mram : (s.onMram f).mram = f s.mram := rfl
@[simp] theorem State.onMram_power : (s.onMram f).power = s.power := rfl
@[simp] theorem State.onMram_jtag : (s.onMram f).jtag = s.jtag := rfl
@[simp] theorem State.onMram_rd (k : Nat) : (s.onMram f).rd k = s.rd k := rfl

end onMram

section onPower
variable (f : Power → Power)

@[simp] theorem State.onPower_pending : (s.onPower f).pending = s.pending := rfl
@[simp] theorem State.onPower_now : (s.onPower f).now = s.now := rfl
@[simp] theorem State.onPower_free : (s.onPower f).free = s.free := rfl
@[simp] theorem State.onPower_answer : (s.onPower f).answer = s.answer := rfl
@[simp] theorem State.onPower_dict : (s.onPower f).dict = s.dict := rfl
@[simp] theorem State.onPower_image : (s.onPower f).image = s.image := rfl
@[simp] theorem State.onPower_tdi : (s.onPower f).tdi = s.tdi := rfl
@[simp] theorem State.onPower_conv : (s.onPower f).conv = s.conv := rfl
@[simp] theorem State.onPower_corr : (s.onPower f).corr = s.corr := rfl
@[simp] theorem State.onPower_lanes : (s.onPower f).lanes = s.lanes := rfl
@[simp] theorem State.onPower_stage : (s.onPower f).stage = s.stage := rfl
@[simp] theorem State.onPower_ring : (s.onPower f).ring = s.ring := rfl
@[simp] theorem State.onPower_log : (s.onPower f).log = s.log := rfl
@[simp] theorem State.onPower_twi : (s.onPower f).twi = s.twi := rfl
@[simp] theorem State.onPower_timing : (s.onPower f).timing = s.timing := rfl
@[simp] theorem State.onPower_dma : (s.onPower f).dma = s.dma := rfl
@[simp] theorem State.onPower_hk : (s.onPower f).hk = s.hk := rfl
@[simp] theorem State.onPower_therm : (s.onPower f).therm = s.therm := rfl
@[simp] theorem State.onPower_pace : (s.onPower f).pace = s.pace := rfl
@[simp] theorem State.onPower_mram : (s.onPower f).mram = s.mram := rfl
@[simp] theorem State.onPower_power : (s.onPower f).power = f s.power := rfl
@[simp] theorem State.onPower_jtag : (s.onPower f).jtag = s.jtag := rfl
@[simp] theorem State.onPower_rd (k : Nat) : (s.onPower f).rd k = s.rd k := rfl

end onPower

section onJtag
variable (f : Jtag → Jtag)

@[simp] theorem State.onJtag_pending : (s.onJtag f).pending = s.pending := rfl
@[simp] theorem State.onJtag_now : (s.onJtag f).now = s.now := rfl
@[simp] theorem State.onJtag_free : (s.onJtag f).free = s.free := rfl
@[simp] theorem State.onJtag_answer : (s.onJtag f).answer = s.answer := rfl
@[simp] theorem State.onJtag_dict : (s.onJtag f).dict = s.dict := rfl
@[simp] theorem State.onJtag_image : (s.onJtag f).image = s.image := rfl
@[simp] theorem State.onJtag_tdi : (s.onJtag f).tdi = s.tdi := rfl
@[simp] theorem State.onJtag_conv : (s.onJtag f).conv = s.conv := rfl
@[simp] theorem State.onJtag_corr : (s.onJtag f).corr = s.corr := rfl
@[simp] theorem State.onJtag_lanes : (s.onJtag f).lanes = s.lanes := rfl
@[simp] theorem State.onJtag_stage : (s.onJtag f).stage = s.stage := rfl
@[simp] theorem State.onJtag_ring : (s.onJtag f).ring = s.ring := rfl
@[simp] theorem State.onJtag_log : (s.onJtag f).log = s.log := rfl
@[simp] theorem State.onJtag_twi : (s.onJtag f).twi = s.twi := rfl
@[simp] theorem State.onJtag_timing : (s.onJtag f).timing = s.timing := rfl
@[simp] theorem State.onJtag_dma : (s.onJtag f).dma = s.dma := rfl
@[simp] theorem State.onJtag_hk : (s.onJtag f).hk = s.hk := rfl
@[simp] theorem State.onJtag_therm : (s.onJtag f).therm = s.therm := rfl
@[simp] theorem State.onJtag_pace : (s.onJtag f).pace = s.pace := rfl
@[simp] theorem State.onJtag_mram : (s.onJtag f).mram = s.mram := rfl
@[simp] theorem State.onJtag_power : (s.onJtag f).power = s.power := rfl
@[simp] theorem State.onJtag_jtag : (s.onJtag f).jtag = f s.jtag := rfl
@[simp] theorem State.onJtag_rd (k : Nat) : (s.onJtag f).rd k = s.rd k := rfl

end onJtag

section wr
variable (k v : Nat)

@[simp] theorem State.wr_pending : (s.wr k v).pending = s.pending := rfl
@[simp] theorem State.wr_now : (s.wr k v).now = s.now := rfl
@[simp] theorem State.wr_free : (s.wr k v).free = s.free := rfl
@[simp] theorem State.wr_answer : (s.wr k v).answer = s.answer := rfl
@[simp] theorem State.wr_dict : (s.wr k v).dict = Dict.set s.dict k v := rfl
@[simp] theorem State.wr_image : (s.wr k v).image = s.image := rfl
@[simp] theorem State.wr_tdi : (s.wr k v).tdi = s.tdi := rfl
@[simp] theorem State.wr_conv : (s.wr k v).conv = s.conv := rfl
@[simp] theorem State.wr_corr : (s.wr k v).corr = s.corr := rfl
@[simp] theorem State.wr_lanes : (s.wr k v).lanes = s.lanes := rfl
@[simp] theorem State.wr_stage : (s.wr k v).stage = s.stage := rfl
@[simp] theorem State.wr_ring : (s.wr k v).ring = s.ring := rfl
@[simp] theorem State.wr_log : (s.wr k v).log = s.log := rfl
@[simp] theorem State.wr_twi : (s.wr k v).twi = s.twi := rfl
@[simp] theorem State.wr_timing : (s.wr k v).timing = s.timing := rfl
@[simp] theorem State.wr_dma : (s.wr k v).dma = s.dma := rfl
@[simp] theorem State.wr_hk : (s.wr k v).hk = s.hk := rfl
@[simp] theorem State.wr_therm : (s.wr k v).therm = s.therm := rfl
@[simp] theorem State.wr_pace : (s.wr k v).pace = s.pace := rfl
@[simp] theorem State.wr_mram : (s.wr k v).mram = s.mram := rfl
@[simp] theorem State.wr_power : (s.wr k v).power = s.power := rfl
@[simp] theorem State.wr_jtag : (s.wr k v).jtag = s.jtag := rfl

end wr

section add
variable (k n : Nat)

@[simp] theorem State.add_pending : (s.add k n).pending = s.pending := rfl
@[simp] theorem State.add_now : (s.add k n).now = s.now := rfl
@[simp] theorem State.add_free : (s.add k n).free = s.free := rfl
@[simp] theorem State.add_answer : (s.add k n).answer = s.answer := rfl
@[simp] theorem State.add_dict : (s.add k n).dict = Dict.set s.dict k (min 0xFFFFFFFF (s.rd k + n)) := rfl
@[simp] theorem State.add_image : (s.add k n).image = s.image := rfl
@[simp] theorem State.add_tdi : (s.add k n).tdi = s.tdi := rfl
@[simp] theorem State.add_conv : (s.add k n).conv = s.conv := rfl
@[simp] theorem State.add_corr : (s.add k n).corr = s.corr := rfl
@[simp] theorem State.add_lanes : (s.add k n).lanes = s.lanes := rfl
@[simp] theorem State.add_stage : (s.add k n).stage = s.stage := rfl
@[simp] theorem State.add_ring : (s.add k n).ring = s.ring := rfl
@[simp] theorem State.add_log : (s.add k n).log = s.log := rfl
@[simp] theorem State.add_twi : (s.add k n).twi = s.twi := rfl
@[simp] theorem State.add_timing : (s.add k n).timing = s.timing := rfl
@[simp] theorem State.add_dma : (s.add k n).dma = s.dma := rfl
@[simp] theorem State.add_hk : (s.add k n).hk = s.hk := rfl
@[simp] theorem State.add_therm : (s.add k n).therm = s.therm := rfl
@[simp] theorem State.add_pace : (s.add k n).pace = s.pace := rfl
@[simp] theorem State.add_mram : (s.add k n).mram = s.mram := rfl
@[simp] theorem State.add_power : (s.add k n).power = s.power := rfl
@[simp] theorem State.add_jtag : (s.add k n).jtag = s.jtag := rfl

end add

section inc
variable (k : Nat)

@[simp] theorem State.inc_pending : (s.inc k).pending = s.pending := rfl
@[simp] theorem State.inc_now : (s.inc k).now = s.now := rfl
@[simp] theorem State.inc_free : (s.inc k).free = s.free := rfl
@[simp] theorem State.inc_answer : (s.inc k).answer = s.answer := rfl
@[simp] theorem State.inc_dict : (s.inc k).dict = Dict.set s.dict k (min 0xFFFFFFFF (s.rd k + 1)) := rfl
@[simp] theorem State.inc_image : (s.inc k).image = s.image := rfl
@[simp] theorem State.inc_tdi : (s.inc k).tdi = s.tdi := rfl
@[simp] theorem State.inc_conv : (s.inc k).conv = s.conv := rfl
@[simp] theorem State.inc_corr : (s.inc k).corr = s.corr := rfl
@[simp] theorem State.inc_lanes : (s.inc k).lanes = s.lanes := rfl
@[simp] theorem State.inc_stage : (s.inc k).stage = s.stage := rfl
@[simp] theorem State.inc_ring : (s.inc k).ring = s.ring := rfl
@[simp] theorem State.inc_log : (s.inc k).log = s.log := rfl
@[simp] theorem State.inc_twi : (s.inc k).twi = s.twi := rfl
@[simp] theorem State.inc_timing : (s.inc k).timing = s.timing := rfl
@[simp] theorem State.inc_dma : (s.inc k).dma = s.dma := rfl
@[simp] theorem State.inc_hk : (s.inc k).hk = s.hk := rfl
@[simp] theorem State.inc_therm : (s.inc k).therm = s.therm := rfl
@[simp] theorem State.inc_pace : (s.inc k).pace = s.pace := rfl
@[simp] theorem State.inc_mram : (s.inc k).mram = s.mram := rfl
@[simp] theorem State.inc_power : (s.inc k).power = s.power := rfl
@[simp] theorem State.inc_jtag : (s.inc k).jtag = s.jtag := rfl

end inc

section accept
@[simp] theorem State.accept_pending : (s.accept).pending = s.pending := rfl
@[simp] theorem State.accept_now : (s.accept).now = s.now := rfl
@[simp] theorem State.accept_free : (s.accept).free = s.free := rfl
@[simp] theorem State.accept_answer : (s.accept).answer = ⟨0, 0, [], false⟩ := rfl
@[simp] theorem State.accept_dict : (s.accept).dict = s.dict := rfl
@[simp] theorem State.accept_image : (s.accept).image = s.image := rfl
@[simp] theorem State.accept_tdi : (s.accept).tdi = s.tdi := rfl
@[simp] theorem State.accept_conv : (s.accept).conv = s.conv := rfl
@[simp] theorem State.accept_corr : (s.accept).corr = s.corr := rfl
@[simp] theorem State.accept_lanes : (s.accept).lanes = s.lanes := rfl
@[simp] theorem State.accept_stage : (s.accept).stage = s.stage := rfl
@[simp] theorem State.accept_ring : (s.accept).ring = s.ring := rfl
@[simp] theorem State.accept_log : (s.accept).log = s.log := rfl
@[simp] theorem State.accept_twi : (s.accept).twi = s.twi := rfl
@[simp] theorem State.accept_timing : (s.accept).timing = s.timing := rfl
@[simp] theorem State.accept_dma : (s.accept).dma = s.dma := rfl
@[simp] theorem State.accept_hk : (s.accept).hk = s.hk := rfl
@[simp] theorem State.accept_therm : (s.accept).therm = s.therm := rfl
@[simp] theorem State.accept_pace : (s.accept).pace = s.pace := rfl
@[simp] theorem State.accept_mram : (s.accept).mram = s.mram := rfl
@[simp] theorem State.accept_power : (s.accept).power = s.power := rfl
@[simp] theorem State.accept_jtag : (s.accept).jtag = s.jtag := rfl
@[simp] theorem State.accept_rd (k : Nat) : (s.accept).rd k = s.rd k := rfl

end accept

section acceptVersion
variable (v : Nat)

@[simp] theorem State.acceptVersion_pending : (s.acceptVersion v).pending = s.pending := rfl
@[simp] theorem State.acceptVersion_now : (s.acceptVersion v).now = s.now := rfl
@[simp] theorem State.acceptVersion_free : (s.acceptVersion v).free = s.free := rfl
@[simp] theorem State.acceptVersion_answer : (s.acceptVersion v).answer = ⟨0, v, [], false⟩ := rfl
@[simp] theorem State.acceptVersion_dict : (s.acceptVersion v).dict = s.dict := rfl
@[simp] theorem State.acceptVersion_image : (s.acceptVersion v).image = s.image := rfl
@[simp] theorem State.acceptVersion_tdi : (s.acceptVersion v).tdi = s.tdi := rfl
@[simp] theorem State.acceptVersion_conv : (s.acceptVersion v).conv = s.conv := rfl
@[simp] theorem State.acceptVersion_corr : (s.acceptVersion v).corr = s.corr := rfl
@[simp] theorem State.acceptVersion_lanes : (s.acceptVersion v).lanes = s.lanes := rfl
@[simp] theorem State.acceptVersion_stage : (s.acceptVersion v).stage = s.stage := rfl
@[simp] theorem State.acceptVersion_ring : (s.acceptVersion v).ring = s.ring := rfl
@[simp] theorem State.acceptVersion_log : (s.acceptVersion v).log = s.log := rfl
@[simp] theorem State.acceptVersion_twi : (s.acceptVersion v).twi = s.twi := rfl
@[simp] theorem State.acceptVersion_timing : (s.acceptVersion v).timing = s.timing := rfl
@[simp] theorem State.acceptVersion_dma : (s.acceptVersion v).dma = s.dma := rfl
@[simp] theorem State.acceptVersion_hk : (s.acceptVersion v).hk = s.hk := rfl
@[simp] theorem State.acceptVersion_therm : (s.acceptVersion v).therm = s.therm := rfl
@[simp] theorem State.acceptVersion_pace : (s.acceptVersion v).pace = s.pace := rfl
@[simp] theorem State.acceptVersion_mram : (s.acceptVersion v).mram = s.mram := rfl
@[simp] theorem State.acceptVersion_power : (s.acceptVersion v).power = s.power := rfl
@[simp] theorem State.acceptVersion_jtag : (s.acceptVersion v).jtag = s.jtag := rfl
@[simp] theorem State.acceptVersion_rd (k : Nat) : (s.acceptVersion v).rd k = s.rd k := rfl

end acceptVersion

section acceptData
variable (b : List Byte)

@[simp] theorem State.acceptData_pending : (s.acceptData b).pending = s.pending := rfl
@[simp] theorem State.acceptData_now : (s.acceptData b).now = s.now := rfl
@[simp] theorem State.acceptData_free : (s.acceptData b).free = s.free := rfl
@[simp] theorem State.acceptData_answer : (s.acceptData b).answer = ⟨0, s.rd 0x110001, b, false⟩ := rfl
@[simp] theorem State.acceptData_dict : (s.acceptData b).dict = s.dict := rfl
@[simp] theorem State.acceptData_image : (s.acceptData b).image = s.image := rfl
@[simp] theorem State.acceptData_tdi : (s.acceptData b).tdi = s.tdi := rfl
@[simp] theorem State.acceptData_conv : (s.acceptData b).conv = s.conv := rfl
@[simp] theorem State.acceptData_corr : (s.acceptData b).corr = s.corr := rfl
@[simp] theorem State.acceptData_lanes : (s.acceptData b).lanes = s.lanes := rfl
@[simp] theorem State.acceptData_stage : (s.acceptData b).stage = s.stage := rfl
@[simp] theorem State.acceptData_ring : (s.acceptData b).ring = s.ring := rfl
@[simp] theorem State.acceptData_log : (s.acceptData b).log = s.log := rfl
@[simp] theorem State.acceptData_twi : (s.acceptData b).twi = s.twi := rfl
@[simp] theorem State.acceptData_timing : (s.acceptData b).timing = s.timing := rfl
@[simp] theorem State.acceptData_dma : (s.acceptData b).dma = s.dma := rfl
@[simp] theorem State.acceptData_hk : (s.acceptData b).hk = s.hk := rfl
@[simp] theorem State.acceptData_therm : (s.acceptData b).therm = s.therm := rfl
@[simp] theorem State.acceptData_pace : (s.acceptData b).pace = s.pace := rfl
@[simp] theorem State.acceptData_mram : (s.acceptData b).mram = s.mram := rfl
@[simp] theorem State.acceptData_power : (s.acceptData b).power = s.power := rfl
@[simp] theorem State.acceptData_jtag : (s.acceptData b).jtag = s.jtag := rfl
@[simp] theorem State.acceptData_rd (k : Nat) : (s.acceptData b).rd k = s.rd k := rfl

end acceptData

section defer
@[simp] theorem State.defer_pending : (s.defer).pending = s.pending := rfl
@[simp] theorem State.defer_now : (s.defer).now = s.now := rfl
@[simp] theorem State.defer_free : (s.defer).free = s.free := rfl
@[simp] theorem State.defer_answer : (s.defer).answer = ⟨0, 0, [], true⟩ := rfl
@[simp] theorem State.defer_dict : (s.defer).dict = s.dict := rfl
@[simp] theorem State.defer_image : (s.defer).image = s.image := rfl
@[simp] theorem State.defer_tdi : (s.defer).tdi = s.tdi := rfl
@[simp] theorem State.defer_conv : (s.defer).conv = s.conv := rfl
@[simp] theorem State.defer_corr : (s.defer).corr = s.corr := rfl
@[simp] theorem State.defer_lanes : (s.defer).lanes = s.lanes := rfl
@[simp] theorem State.defer_stage : (s.defer).stage = s.stage := rfl
@[simp] theorem State.defer_ring : (s.defer).ring = s.ring := rfl
@[simp] theorem State.defer_log : (s.defer).log = s.log := rfl
@[simp] theorem State.defer_twi : (s.defer).twi = s.twi := rfl
@[simp] theorem State.defer_timing : (s.defer).timing = s.timing := rfl
@[simp] theorem State.defer_dma : (s.defer).dma = s.dma := rfl
@[simp] theorem State.defer_hk : (s.defer).hk = s.hk := rfl
@[simp] theorem State.defer_therm : (s.defer).therm = s.therm := rfl
@[simp] theorem State.defer_pace : (s.defer).pace = s.pace := rfl
@[simp] theorem State.defer_mram : (s.defer).mram = s.mram := rfl
@[simp] theorem State.defer_power : (s.defer).power = s.power := rfl
@[simp] theorem State.defer_jtag : (s.defer).jtag = s.jtag := rfl
@[simp] theorem State.defer_rd (k : Nat) : (s.defer).rd k = s.rd k := rfl

end defer

section refuse
variable (c : Nat)

@[simp] theorem State.refuse_pending : (s.refuse c).pending = s.pending := rfl
@[simp] theorem State.refuse_now : (s.refuse c).now = s.now := rfl
@[simp] theorem State.refuse_free : (s.refuse c).free = s.free := rfl
@[simp] theorem State.refuse_answer : (s.refuse c).answer = ⟨c, 0, [], false⟩ := rfl
@[simp] theorem State.refuse_dict : (s.refuse c).dict = s.dict := rfl
@[simp] theorem State.refuse_image : (s.refuse c).image = s.image := rfl
@[simp] theorem State.refuse_tdi : (s.refuse c).tdi = s.tdi := rfl
@[simp] theorem State.refuse_conv : (s.refuse c).conv = s.conv := rfl
@[simp] theorem State.refuse_corr : (s.refuse c).corr = s.corr := rfl
@[simp] theorem State.refuse_lanes : (s.refuse c).lanes = s.lanes := rfl
@[simp] theorem State.refuse_stage : (s.refuse c).stage = s.stage := rfl
@[simp] theorem State.refuse_ring : (s.refuse c).ring = s.ring := rfl
@[simp] theorem State.refuse_log : (s.refuse c).log = s.log := rfl
@[simp] theorem State.refuse_twi : (s.refuse c).twi = s.twi := rfl
@[simp] theorem State.refuse_timing : (s.refuse c).timing = s.timing := rfl
@[simp] theorem State.refuse_dma : (s.refuse c).dma = s.dma := rfl
@[simp] theorem State.refuse_hk : (s.refuse c).hk = s.hk := rfl
@[simp] theorem State.refuse_therm : (s.refuse c).therm = s.therm := rfl
@[simp] theorem State.refuse_pace : (s.refuse c).pace = s.pace := rfl
@[simp] theorem State.refuse_mram : (s.refuse c).mram = s.mram := rfl
@[simp] theorem State.refuse_power : (s.refuse c).power = s.power := rfl
@[simp] theorem State.refuse_jtag : (s.refuse c).jtag = s.jtag := rfl
@[simp] theorem State.refuse_rd (k : Nat) : (s.refuse c).rd k = s.rd k := rfl

end refuse

section onFlask
variable (n : Nat) (g : Flask → Flask)

@[simp] theorem State.onFlask_pending : (s.onFlask n g).pending = s.pending := rfl
@[simp] theorem State.onFlask_now : (s.onFlask n g).now = s.now := rfl
@[simp] theorem State.onFlask_free : (s.onFlask n g).free = s.free := rfl
@[simp] theorem State.onFlask_answer : (s.onFlask n g).answer = s.answer := rfl
@[simp] theorem State.onFlask_dict : (s.onFlask n g).dict = s.dict := rfl
@[simp] theorem State.onFlask_image : (s.onFlask n g).image = { s.image with flasks := modifyNth s.image.flasks n g } := rfl
@[simp] theorem State.onFlask_tdi : (s.onFlask n g).tdi = s.tdi := rfl
@[simp] theorem State.onFlask_conv : (s.onFlask n g).conv = s.conv := rfl
@[simp] theorem State.onFlask_corr : (s.onFlask n g).corr = s.corr := rfl
@[simp] theorem State.onFlask_lanes : (s.onFlask n g).lanes = s.lanes := rfl
@[simp] theorem State.onFlask_stage : (s.onFlask n g).stage = s.stage := rfl
@[simp] theorem State.onFlask_ring : (s.onFlask n g).ring = s.ring := rfl
@[simp] theorem State.onFlask_log : (s.onFlask n g).log = s.log := rfl
@[simp] theorem State.onFlask_twi : (s.onFlask n g).twi = s.twi := rfl
@[simp] theorem State.onFlask_timing : (s.onFlask n g).timing = s.timing := rfl
@[simp] theorem State.onFlask_dma : (s.onFlask n g).dma = s.dma := rfl
@[simp] theorem State.onFlask_hk : (s.onFlask n g).hk = s.hk := rfl
@[simp] theorem State.onFlask_therm : (s.onFlask n g).therm = s.therm := rfl
@[simp] theorem State.onFlask_pace : (s.onFlask n g).pace = s.pace := rfl
@[simp] theorem State.onFlask_mram : (s.onFlask n g).mram = s.mram := rfl
@[simp] theorem State.onFlask_power : (s.onFlask n g).power = s.power := rfl
@[simp] theorem State.onFlask_jtag : (s.onFlask n g).jtag = s.jtag := rfl
@[simp] theorem State.onFlask_rd (k : Nat) : (s.onFlask n g).rd k = s.rd k := rfl

end onFlask

section onFlasks
variable (g : Flask → Flask)

@[simp] theorem State.onFlasks_pending : (s.onFlasks g).pending = s.pending := rfl
@[simp] theorem State.onFlasks_now : (s.onFlasks g).now = s.now := rfl
@[simp] theorem State.onFlasks_free : (s.onFlasks g).free = s.free := rfl
@[simp] theorem State.onFlasks_answer : (s.onFlasks g).answer = s.answer := rfl
@[simp] theorem State.onFlasks_dict : (s.onFlasks g).dict = s.dict := rfl
@[simp] theorem State.onFlasks_image : (s.onFlasks g).image = { s.image with flasks := s.image.flasks.map g } := rfl
@[simp] theorem State.onFlasks_tdi : (s.onFlasks g).tdi = s.tdi := rfl
@[simp] theorem State.onFlasks_conv : (s.onFlasks g).conv = s.conv := rfl
@[simp] theorem State.onFlasks_corr : (s.onFlasks g).corr = s.corr := rfl
@[simp] theorem State.onFlasks_lanes : (s.onFlasks g).lanes = s.lanes := rfl
@[simp] theorem State.onFlasks_stage : (s.onFlasks g).stage = s.stage := rfl
@[simp] theorem State.onFlasks_ring : (s.onFlasks g).ring = s.ring := rfl
@[simp] theorem State.onFlasks_log : (s.onFlasks g).log = s.log := rfl
@[simp] theorem State.onFlasks_twi : (s.onFlasks g).twi = s.twi := rfl
@[simp] theorem State.onFlasks_timing : (s.onFlasks g).timing = s.timing := rfl
@[simp] theorem State.onFlasks_dma : (s.onFlasks g).dma = s.dma := rfl
@[simp] theorem State.onFlasks_hk : (s.onFlasks g).hk = s.hk := rfl
@[simp] theorem State.onFlasks_therm : (s.onFlasks g).therm = s.therm := rfl
@[simp] theorem State.onFlasks_pace : (s.onFlasks g).pace = s.pace := rfl
@[simp] theorem State.onFlasks_mram : (s.onFlasks g).mram = s.mram := rfl
@[simp] theorem State.onFlasks_power : (s.onFlasks g).power = s.power := rfl
@[simp] theorem State.onFlasks_jtag : (s.onFlasks g).jtag = s.jtag := rfl
@[simp] theorem State.onFlasks_rd (k : Nat) : (s.onFlasks g).rd k = s.rd k := rfl

end onFlasks

section onBank
variable (n : Nat) (f : Bank → Bank)

@[simp] theorem State.onBank_pending : (s.onBank n f).pending = s.pending := by unfold State.onBank; split <;> rfl
@[simp] theorem State.onBank_now : (s.onBank n f).now = s.now := by unfold State.onBank; split <;> rfl
@[simp] theorem State.onBank_free : (s.onBank n f).free = s.free := by unfold State.onBank; split <;> rfl
@[simp] theorem State.onBank_answer : (s.onBank n f).answer = s.answer := by unfold State.onBank; split <;> rfl
@[simp] theorem State.onBank_dict : (s.onBank n f).dict = s.dict := by unfold State.onBank; split <;> rfl
@[simp] theorem State.onBank_image : (s.onBank n f).image = s.image := by unfold State.onBank; split <;> rfl
@[simp] theorem State.onBank_tdi : (s.onBank n f).tdi = s.tdi := by unfold State.onBank; split <;> rfl
@[simp] theorem State.onBank_conv : (s.onBank n f).conv = s.conv := by unfold State.onBank; split <;> rfl
@[simp] theorem State.onBank_corr : (s.onBank n f).corr = s.corr := by unfold State.onBank; split <;> rfl
@[simp] theorem State.onBank_lanes : (s.onBank n f).lanes = s.lanes := by unfold State.onBank; split <;> rfl
@[simp] theorem State.onBank_stage : (s.onBank n f).stage = s.stage := by unfold State.onBank; split <;> rfl
@[simp] theorem State.onBank_ring : (s.onBank n f).ring = s.ring := by unfold State.onBank; split <;> rfl
@[simp] theorem State.onBank_log : (s.onBank n f).log = s.log := by unfold State.onBank; split <;> rfl
@[simp] theorem State.onBank_twi : (s.onBank n f).twi = s.twi := by unfold State.onBank; split <;> rfl
@[simp] theorem State.onBank_timing : (s.onBank n f).timing = s.timing := by unfold State.onBank; split <;> rfl
@[simp] theorem State.onBank_dma : (s.onBank n f).dma = s.dma := by unfold State.onBank; split <;> rfl
@[simp] theorem State.onBank_hk : (s.onBank n f).hk = s.hk := by unfold State.onBank; split <;> rfl
@[simp] theorem State.onBank_therm : (s.onBank n f).therm = s.therm := by unfold State.onBank; split <;> rfl
@[simp] theorem State.onBank_pace : (s.onBank n f).pace = s.pace := by unfold State.onBank; split <;> rfl
@[simp] theorem State.onBank_power : (s.onBank n f).power = s.power := by unfold State.onBank; split <;> rfl
@[simp] theorem State.onBank_jtag : (s.onBank n f).jtag = s.jtag := by unfold State.onBank; split <;> rfl
@[simp] theorem State.onBank_rd (k : Nat) : (s.onBank n f).rd k = s.rd k := by unfold State.onBank; split <;> rfl

end onBank

end Sys2Proof.Machine
end

