-- ==== Sys2Proof/Laws/Store.lean ====
section
/-!
SUPPORT. The laws of the object store and of the addressed buffers: read after write, and that every operation keeps the
canonical form.
-/
namespace Sys2Proof.Machine

/-! ### The object store -/

theorem Dict.find_insert (d : Dict) (k v j : Nat) :
    Dict.find (Dict.insert d k v) j = if j = k then some v else Dict.find d j := by
  induction d with
  | nil => grind [Dict.insert, Dict.find]
  | cons p d ih => grind [Dict.insert, Dict.find]

theorem Dict.find_erase (d : Dict) (k j : Nat) :
    Dict.find (Dict.erase d k) j = if j = k then none else Dict.find d j := by
  induction d with
  | nil => grind [Dict.erase, Dict.find]
  | cons p d ih => grind [Dict.erase, Dict.find]

/-- A read after a write: the value written at its key, every other key as before. -/
theorem Dict.get_set (d : Dict) (k v j : Nat) :
    Dict.get (Dict.set d k v) j = if j = k then v else Dict.get d j := by
  by_cases h : v = objDefault k
  · simp only [Dict.set, Dict.get, if_pos h, Dict.find_erase]; grind
  · simp only [Dict.set, Dict.get, if_neg h, Dict.find_insert]; grind

@[simp] theorem Dict.get_set_self (d : Dict) (k v : Nat) : Dict.get (Dict.set d k v) k = v := by
  simp [Dict.get_set]

/-- The first key of a rising store is below every other. -/
theorem Dict.rising_cons (j w : Nat) (d : Dict) :
    Dict.rising ((j, w) :: d) = true ↔ (∀ p ∈ d, j < p.1) ∧ Dict.rising d = true := by
  induction d generalizing j w with
  | nil => simp [Dict.rising]
  | cons p d ih =>
    obtain ⟨i, x⟩ := p
    simp only [Dict.rising, Bool.and_eq_true, decide_eq_true_eq, List.forall_mem_cons]
    constructor
    · rintro ⟨h, hr⟩
      exact ⟨⟨h, fun q hq => Nat.lt_trans h (((ih i x).mp hr).1 q hq)⟩, hr⟩
    · rintro ⟨⟨h, _⟩, hr⟩
      exact ⟨h, hr⟩

theorem Dict.mem_erase {d : Dict} {k : Nat} {p : Nat × Nat} (h : p ∈ Dict.erase d k) : p ∈ d := by
  induction d with
  | nil => exact h
  | cons q d ih =>
    obtain ⟨i, w⟩ := q
    simp only [Dict.erase] at h
    split at h
    · exact List.mem_cons_of_mem _ (ih h)
    · rcases List.mem_cons.mp h with rfl | h'
      · exact List.mem_cons_self
      · exact List.mem_cons_of_mem _ (ih h')

theorem Dict.mem_insert {d : Dict} {k v : Nat} {p : Nat × Nat} (h : p ∈ Dict.insert d k v) : p = (k, v) ∨ p ∈ d := by
  induction d with
  | nil => simpa [Dict.insert] using h
  | cons q d ih =>
    obtain ⟨i, w⟩ := q
    simp only [Dict.insert] at h
    split at h
    · rcases List.mem_cons.mp h with rfl | h'
      · exact .inl rfl
      · exact .inr (List.mem_cons_of_mem _ h')
    · split at h
      · rcases List.mem_cons.mp h with rfl | h'
        · exact .inl rfl
        · exact .inr h'
      · rcases List.mem_cons.mp h with rfl | h'
        · exact .inr List.mem_cons_self
        · exact (ih h').imp id (List.mem_cons_of_mem _)

theorem Dict.rising_erase {d : Dict} (k : Nat) (h : Dict.rising d = true) : Dict.rising (Dict.erase d k) = true := by
  induction d with
  | nil => rfl
  | cons q d ih =>
    obtain ⟨i, w⟩ := q
    rw [Dict.rising_cons] at h
    simp only [Dict.erase]
    split
    · exact ih h.2
    · exact (Dict.rising_cons ..).mpr ⟨fun p hp => h.1 p (Dict.mem_erase hp), ih h.2⟩

theorem Dict.rising_insert {d : Dict} (k v : Nat) (h : Dict.rising d = true) : Dict.rising (Dict.insert d k v) = true := by
  induction d with
  | nil => rfl
  | cons q d ih =>
    obtain ⟨i, w⟩ := q
    have h0 := (Dict.rising_cons ..).mp h
    simp only [Dict.insert]
    split
    · subst_vars; exact (Dict.rising_cons ..).mpr h0
    · split
      · refine (Dict.rising_cons ..).mpr ⟨?_, h⟩
        intro p hp
        rcases List.mem_cons.mp hp with rfl | hp'
        · assumption
        · have := h0.1 p hp'; omega
      · refine (Dict.rising_cons ..).mpr ⟨?_, ih h0.2⟩
        intro p hp
        rcases Dict.mem_insert hp with rfl | hp'
        · simp only; omega
        · exact h0.1 p hp'

/-- A write keeps the canonical form of the store. -/
theorem Dict.wf_set {d : Dict} (k v : Nat) (h : Dict.wf d = true) : Dict.wf (Dict.set d k v) = true := by
  simp only [Dict.wf, Bool.and_eq_true, List.all_eq_true] at h ⊢
  unfold Dict.set
  split
  · exact ⟨Dict.rising_erase k h.1, fun p hp => h.2 p (Dict.mem_erase hp)⟩
  · refine ⟨Dict.rising_insert k v h.1, fun p hp => ?_⟩
    rcases Dict.mem_insert hp with rfl | hp'
    · simpa using ‹¬ _›
    · exact h.2 p hp'

/-- Writing every value of a list keeps the canonical form. -/
theorem Dict.wf_setAll (ws : Dict) {d : Dict} (h : Dict.wf d = true) : Dict.wf (Dict.setAll d ws) = true := by
  unfold Dict.setAll
  induction ws generalizing d with
  | nil => exact h
  | cons w ws ih => exact ih (Dict.wf_set _ _ h)

theorem Dict.rising_filter (q : Nat × Nat → Bool) {d : Dict} (h : Dict.rising d = true) :
    Dict.rising (d.filter q) = true := by
  induction d with
  | nil => rfl
  | cons p d ih =>
    obtain ⟨i, w⟩ := p
    rw [Dict.rising_cons] at h
    rw [List.filter_cons]
    split
    · exact (Dict.rising_cons ..).mpr ⟨fun p hp => h.1 p (List.mem_filter.mp hp).1, ih h.2⟩
    · exact ih h.2

/-- Dropping keys keeps the canonical form. -/
theorem Dict.wf_filter (q : Nat × Nat → Bool) {d : Dict} (h : Dict.wf d = true) : Dict.wf (d.filter q) = true := by
  simp only [Dict.wf, Bool.and_eq_true, List.all_eq_true] at h ⊢
  exact ⟨Dict.rising_filter q h.1, fun p hp => h.2 p (List.mem_filter.mp hp).1⟩

/-! ### Addressed buffers -/

theorem Mem.read_insert (m : Mem) (a : Nat) (b : Byte) (x : Nat) :
    Mem.read (Mem.insert m a b) x = if x = a then b else Mem.read m x := by
  induction m with
  | nil => grind [Mem.insert, Mem.read]
  | cons p m ih => grind [Mem.insert, Mem.read]

theorem Mem.read_erase (m : Mem) (a x : Nat) : Mem.read (Mem.erase m a) x = if x = a then 0 else Mem.read m x := by
  induction m with
  | nil => grind [Mem.erase, Mem.read]
  | cons p m ih => grind [Mem.erase, Mem.read]

/-- A read after a write: the byte written at its address, every other byte as before. -/
theorem Mem.read_write (m : Mem) (a : Nat) (b : Byte) (x : Nat) :
    Mem.read (Mem.write m a b) x = if x = a then b else Mem.read m x := by
  unfold Mem.write
  split
  · rw [Mem.read_erase]; split <;> simp_all
  · rw [Mem.read_insert]

/-- A read after a write of several bytes: theirs within, every other byte as before. -/
theorem Mem.read_writeAll (bs : List Byte) (m : Mem) (a x : Nat) :
    Mem.read (Mem.writeAll m a bs) x =
      if a ≤ x ∧ x < a + bs.length then bs.getD (x - a) 0 else Mem.read m x := by
  induction bs generalizing m a with
  | nil => simp [Mem.writeAll]
  | cons b bs ih =>
    simp only [Mem.writeAll, ih, Mem.read_write, List.length_cons]
    by_cases hx : x = a
    · subst hx; simp
    · by_cases hr : a + 1 ≤ x ∧ x < a + 1 + bs.length
      · have h2 : a ≤ x ∧ x < a + (bs.length + 1) := by omega
        obtain ⟨n, hn⟩ : ∃ n, x - a = n + 1 := ⟨x - a - 1, by omega⟩
        have h3 : x - (a + 1) = n := by omega
        simp [hr, h2, hn, h3]
      · have h2 : ¬ (a ≤ x ∧ x < a + (bs.length + 1)) := by omega
        rw [if_neg hr, if_neg hx, if_neg h2]

theorem Mem.rising_cons (j : Nat) (w : Byte) (m : Mem) :
    Mem.rising ((j, w) :: m) = true ↔ (∀ p ∈ m, j < p.1) ∧ Mem.rising m = true := by
  induction m generalizing j w with
  | nil => simp [Mem.rising]
  | cons p m ih =>
    obtain ⟨i, x⟩ := p
    simp only [Mem.rising, Bool.and_eq_true, decide_eq_true_eq, List.forall_mem_cons]
    constructor
    · rintro ⟨h, hr⟩
      exact ⟨⟨h, fun q hq => Nat.lt_trans h (((ih i x).mp hr).1 q hq)⟩, hr⟩
    · rintro ⟨⟨h, _⟩, hr⟩
      exact ⟨h, hr⟩

theorem Mem.mem_erase {m : Mem} {a : Nat} {p : Host.Cell} (h : p ∈ Mem.erase m a) : p ∈ m := by
  induction m with
  | nil => exact h
  | cons q m ih =>
    obtain ⟨i, w⟩ := q
    simp only [Mem.erase] at h
    split at h
    · exact List.mem_cons_of_mem _ (ih h)
    · rcases List.mem_cons.mp h with rfl | h'
      · exact List.mem_cons_self
      · exact List.mem_cons_of_mem _ (ih h')

theorem Mem.mem_insert {m : Mem} {a : Nat} {b : Byte} {p : Host.Cell} (h : p ∈ Mem.insert m a b) :
    p = (a, b) ∨ p ∈ m := by
  induction m with
  | nil => simpa [Mem.insert] using h
  | cons q m ih =>
    obtain ⟨i, w⟩ := q
    simp only [Mem.insert] at h
    split at h
    · rcases List.mem_cons.mp h with rfl | h'
      · exact .inl rfl
      · exact .inr (List.mem_cons_of_mem _ h')
    · split at h
      · rcases List.mem_cons.mp h with rfl | h'
        · exact .inl rfl
        · exact .inr h'
      · rcases List.mem_cons.mp h with rfl | h'
        · exact .inr List.mem_cons_self
        · exact (ih h').imp id (List.mem_cons_of_mem _)

/-- A write of one byte keeps the canonical form of a buffer. -/
theorem Mem.wf_write {m : Mem} (a : Nat) (b : Byte) (h : Mem.wf m = true) : Mem.wf (Mem.write m a b) = true := by
  have rise_erase : ∀ m : Mem, Mem.rising m = true → Mem.rising (Mem.erase m a) = true := by
    intro m
    induction m with
    | nil => exact id
    | cons q m ih =>
      obtain ⟨i, w⟩ := q
      intro h
      rw [Mem.rising_cons] at h
      simp only [Mem.erase]
      split
      · exact ih h.2
      · exact (Mem.rising_cons ..).mpr ⟨fun p hp => h.1 p (Mem.mem_erase hp), ih h.2⟩
  have rise_insert : ∀ m : Mem, Mem.rising m = true → Mem.rising (Mem.insert m a b) = true := by
    intro m
    induction m with
    | nil => intro _; rfl
    | cons q m ih =>
      obtain ⟨i, w⟩ := q
      intro h
      have h0 := (Mem.rising_cons ..).mp h
      simp only [Mem.insert]
      split
      · subst_vars; exact (Mem.rising_cons ..).mpr h0
      · split
        · refine (Mem.rising_cons ..).mpr ⟨?_, h⟩
          intro p hp
          rcases List.mem_cons.mp hp with rfl | hp'
          · assumption
          · have := h0.1 p hp'; omega
        · refine (Mem.rising_cons ..).mpr ⟨?_, ih h0.2⟩
          intro p hp
          rcases Mem.mem_insert hp with rfl | hp'
          · simp only; omega
          · exact h0.1 p hp'
  simp only [Mem.wf, Bool.and_eq_true, List.all_eq_true] at h ⊢
  unfold Mem.write
  split
  · exact ⟨rise_erase m h.1, fun p hp => h.2 p (Mem.mem_erase hp)⟩
  · refine ⟨rise_insert m h.1, fun p hp => ?_⟩
    rcases Mem.mem_insert hp with rfl | hp'
    · simpa using ‹¬ _›
    · exact h.2 p hp'

/-- A write of several bytes keeps the canonical form of a buffer. -/
theorem Mem.wf_writeAll (bs : List Byte) {m : Mem} (a : Nat) (h : Mem.wf m = true) : Mem.wf (Mem.writeAll m a bs) = true := by
  induction bs generalizing m a with
  | nil => exact h
  | cons b bs ih => exact ih _ (Mem.wf_write a b h)

end Sys2Proof.Machine
end

