-- ==== Sys2Proof/Laws/Ops.lean ====
section
/-!
SUPPORT. What the shared operations do: reads after writes of the object store, counters, the checks of a host access and the
way it is served, each said once.
-/
namespace Sys2Proof.Machine

variable (s : State)

/-! ### The live store -/

@[simp] theorem State.rd_wr (k v j : Nat) : (s.wr k v).rd j = if j = k then v else s.rd j := Dict.get_set ..

@[simp] theorem State.rd_add (k n j : Nat) :
    (s.add k n).rd j = if j = k then min 0xFFFFFFFF (s.rd k + n) else s.rd j := Dict.get_set ..

@[simp] theorem State.rd_inc (k j : Nat) :
    (s.inc k).rd j = if j = k then min 0xFFFFFFFF (s.rd k + 1) else s.rd j := Dict.get_set ..

@[simp] theorem State.zero_nil : s.zero [] = s := rfl

@[simp] theorem State.toDefault_nil : s.toDefault [] = s := rfl

theorem State.zero_cons (k : Nat) (ks : List Nat) : s.zero (k :: ks) = (s.wr k 0).zero ks := rfl

theorem State.toDefault_cons (k : Nat) (ks : List Nat) :
    s.toDefault (k :: ks) = (s.wr k (objDefault k)).toDefault ks := rfl

/-- `zero` writes 0 to the listed objects and to nothing else. -/
theorem State.rd_zero (ks : List Nat) (j : Nat) : (s.zero ks).rd j = if j ∈ ks then 0 else s.rd j := by
  induction ks generalizing s with
  | nil => simp
  | cons k ks ih => rw [State.zero_cons, ih, State.rd_wr]; grind

/-- `toDefault` writes the Default to the listed objects and nothing else. -/
theorem State.rd_toDefault (ks : List Nat) (j : Nat) :
    (s.toDefault ks).rd j = if j ∈ ks then objDefault j else s.rd j := by
  induction ks generalizing s with
  | nil => simp
  | cons k ks ih => rw [State.toDefault_cons, ih, State.rd_wr]; grind

/-- `zero` touches nothing but the object store. -/
theorem State.zero_frame (ks : List Nat) : s.zero ks = { s with dict := (s.zero ks).dict } := by
  induction ks generalizing s with
  | nil => rfl
  | cons k ks ih => rw [State.zero_cons, ih]; rfl

/-- `toDefault` touches nothing but the object store. -/
theorem State.toDefault_frame (ks : List Nat) : s.toDefault ks = { s with dict := (s.toDefault ks).dict } := by
  induction ks generalizing s with
  | nil => rfl
  | cons k ks ih => rw [State.toDefault_cons, ih]; rfl

@[simp] theorem State.zero_pending (ks : List Nat) : (s.zero ks).pending = s.pending := by rw [State.zero_frame]
@[simp] theorem State.zero_now (ks : List Nat) : (s.zero ks).now = s.now := by rw [State.zero_frame]
@[simp] theorem State.zero_free (ks : List Nat) : (s.zero ks).free = s.free := by rw [State.zero_frame]
@[simp] theorem State.zero_answer (ks : List Nat) : (s.zero ks).answer = s.answer := by rw [State.zero_frame]
@[simp] theorem State.zero_image (ks : List Nat) : (s.zero ks).image = s.image := by rw [State.zero_frame]
@[simp] theorem State.zero_tdi (ks : List Nat) : (s.zero ks).tdi = s.tdi := by rw [State.zero_frame]
@[simp] theorem State.zero_conv (ks : List Nat) : (s.zero ks).conv = s.conv := by rw [State.zero_frame]
@[simp] theorem State.zero_corr (ks : List Nat) : (s.zero ks).corr = s.corr := by rw [State.zero_frame]
@[simp] theorem State.zero_lanes (ks : List Nat) : (s.zero ks).lanes = s.lanes := by rw [State.zero_frame]
@[simp] theorem State.zero_stage (ks : List Nat) : (s.zero ks).stage = s.stage := by rw [State.zero_frame]
@[simp] theorem State.zero_ring (ks : List Nat) : (s.zero ks).ring = s.ring := by rw [State.zero_frame]
@[simp] theorem State.zero_log (ks : List Nat) : (s.zero ks).log = s.log := by rw [State.zero_frame]
@[simp] theorem State.zero_twi (ks : List Nat) : (s.zero ks).twi = s.twi := by rw [State.zero_frame]
@[simp] theorem State.zero_timing (ks : List Nat) : (s.zero ks).timing = s.timing := by rw [State.zero_frame]
@[simp] theorem State.zero_dma (ks : List Nat) : (s.zero ks).dma = s.dma := by rw [State.zero_frame]
@[simp] theorem State.zero_hk (ks : List Nat) : (s.zero ks).hk = s.hk := by rw [State.zero_frame]
@[simp] theorem State.zero_therm (ks : List Nat) : (s.zero ks).therm = s.therm := by rw [State.zero_frame]
@[simp] theorem State.zero_pace (ks : List Nat) : (s.zero ks).pace = s.pace := by rw [State.zero_frame]
@[simp] theorem State.zero_mram (ks : List Nat) : (s.zero ks).mram = s.mram := by rw [State.zero_frame]
@[simp] theorem State.zero_power (ks : List Nat) : (s.zero ks).power = s.power := by rw [State.zero_frame]
@[simp] theorem State.zero_jtag (ks : List Nat) : (s.zero ks).jtag = s.jtag := by rw [State.zero_frame]
@[simp] theorem State.toDefault_pending (ks : List Nat) : (s.toDefault ks).pending = s.pending := by rw [State.toDefault_frame]
@[simp] theorem State.toDefault_now (ks : List Nat) : (s.toDefault ks).now = s.now := by rw [State.toDefault_frame]
@[simp] theorem State.toDefault_free (ks : List Nat) : (s.toDefault ks).free = s.free := by rw [State.toDefault_frame]
@[simp] theorem State.toDefault_answer (ks : List Nat) : (s.toDefault ks).answer = s.answer := by rw [State.toDefault_frame]
@[simp] theorem State.toDefault_image (ks : List Nat) : (s.toDefault ks).image = s.image := by rw [State.toDefault_frame]
@[simp] theorem State.toDefault_tdi (ks : List Nat) : (s.toDefault ks).tdi = s.tdi := by rw [State.toDefault_frame]
@[simp] theorem State.toDefault_conv (ks : List Nat) : (s.toDefault ks).conv = s.conv := by rw [State.toDefault_frame]
@[simp] theorem State.toDefault_corr (ks : List Nat) : (s.toDefault ks).corr = s.corr := by rw [State.toDefault_frame]
@[simp] theorem State.toDefault_lanes (ks : List Nat) : (s.toDefault ks).lanes = s.lanes := by rw [State.toDefault_frame]
@[simp] theorem State.toDefault_stage (ks : List Nat) : (s.toDefault ks).stage = s.stage := by rw [State.toDefault_frame]
@[simp] theorem State.toDefault_ring (ks : List Nat) : (s.toDefault ks).ring = s.ring := by rw [State.toDefault_frame]
@[simp] theorem State.toDefault_log (ks : List Nat) : (s.toDefault ks).log = s.log := by rw [State.toDefault_frame]
@[simp] theorem State.toDefault_twi (ks : List Nat) : (s.toDefault ks).twi = s.twi := by rw [State.toDefault_frame]
@[simp] theorem State.toDefault_timing (ks : List Nat) : (s.toDefault ks).timing = s.timing := by rw [State.toDefault_frame]
@[simp] theorem State.toDefault_dma (ks : List Nat) : (s.toDefault ks).dma = s.dma := by rw [State.toDefault_frame]
@[simp] theorem State.toDefault_hk (ks : List Nat) : (s.toDefault ks).hk = s.hk := by rw [State.toDefault_frame]
@[simp] theorem State.toDefault_therm (ks : List Nat) : (s.toDefault ks).therm = s.therm := by rw [State.toDefault_frame]
@[simp] theorem State.toDefault_pace (ks : List Nat) : (s.toDefault ks).pace = s.pace := by rw [State.toDefault_frame]
@[simp] theorem State.toDefault_mram (ks : List Nat) : (s.toDefault ks).mram = s.mram := by rw [State.toDefault_frame]
@[simp] theorem State.toDefault_power (ks : List Nat) : (s.toDefault ks).power = s.power := by rw [State.toDefault_frame]
@[simp] theorem State.toDefault_jtag (ks : List Nat) : (s.toDefault ks).jtag = s.jtag := by rw [State.toDefault_frame]

/-! ### Counting an access (R259) -/

/-- The access counters: the access, and an abort with its code and object. -/
theorem State.rd_counted (tr : Transport) (key j : Nat) :
    (s.counted tr key).rd j =
      if j = (transportKeys tr).1 then min 0xFFFFFFFF (s.rd j + 1)
      else if s.answer.abort = 0 then s.rd j
      else if j = (transportKeys tr).2.1 then min 0xFFFFFFFF (s.rd j + 1)
      else if j = (transportKeys tr).2.2.1 then s.answer.abort
      else if j = (transportKeys tr).2.2.2 then key
      else s.rd j := by
  by_cases h : s.answer.abort = 0 <;> cases tr <;> simp [State.counted, transportKeys, h] <;> grind

/-- Counting touches nothing but the object store. -/
theorem State.counted_frame (tr : Transport) (key : Nat) :
    s.counted tr key = { s with dict := (s.counted tr key).dict } := by
  simp only [State.counted]; split <;> rfl

theorem State.counted_same (tr : Transport) (key : Nat) : sameObjects (accessCounters tr) s (s.counted tr key) := by
  intro k hk
  simp only [accessCounters] at hk
  rw [State.rd_counted]
  grind

theorem State.counted1_frame (tr : Transport) (key : Nat) :
    s.counted1 tr key = { s with dict := (s.counted1 tr key).dict } := by
  simp only [State.counted1]; split
  · rfl
  · exact s.counted_frame tr key

theorem State.clearedTransport_frame (t : Txn) : s.clearedTransport t = { s with dict := (s.clearedTransport t).dict } := by
  simp only [State.clearedTransport]; split
  · exact s.zero_frame _
  · rfl

@[simp] theorem State.counted_pending (tr : Transport) (key : Nat) : (s.counted tr key).pending = s.pending := by rw [State.counted_frame]
@[simp] theorem State.counted_now (tr : Transport) (key : Nat) : (s.counted tr key).now = s.now := by rw [State.counted_frame]
@[simp] theorem State.counted_free (tr : Transport) (key : Nat) : (s.counted tr key).free = s.free := by rw [State.counted_frame]
@[simp] theorem State.counted_answer (tr : Transport) (key : Nat) : (s.counted tr key).answer = s.answer := by rw [State.counted_frame]
@[simp] theorem State.counted_image (tr : Transport) (key : Nat) : (s.counted tr key).image = s.image := by rw [State.counted_frame]
@[simp] theorem State.counted_tdi (tr : Transport) (key : Nat) : (s.counted tr key).tdi = s.tdi := by rw [State.counted_frame]
@[simp] theorem State.counted_conv (tr : Transport) (key : Nat) : (s.counted tr key).conv = s.conv := by rw [State.counted_frame]
@[simp] theorem State.counted_corr (tr : Transport) (key : Nat) : (s.counted tr key).corr = s.corr := by rw [State.counted_frame]
@[simp] theorem State.counted_lanes (tr : Transport) (key : Nat) : (s.counted tr key).lanes = s.lanes := by rw [State.counted_frame]
@[simp] theorem State.counted_stage (tr : Transport) (key : Nat) : (s.counted tr key).stage = s.stage := by rw [State.counted_frame]
@[simp] theorem State.counted_ring (tr : Transport) (key : Nat) : (s.counted tr key).ring = s.ring := by rw [State.counted_frame]
@[simp] theorem State.counted_log (tr : Transport) (key : Nat) : (s.counted tr key).log = s.log := by rw [State.counted_frame]
@[simp] theorem State.counted_twi (tr : Transport) (key : Nat) : (s.counted tr key).twi = s.twi := by rw [State.counted_frame]
@[simp] theorem State.counted_timing (tr : Transport) (key : Nat) : (s.counted tr key).timing = s.timing := by rw [State.counted_frame]
@[simp] theorem State.counted_dma (tr : Transport) (key : Nat) : (s.counted tr key).dma = s.dma := by rw [State.counted_frame]
@[simp] theorem State.counted_hk (tr : Transport) (key : Nat) : (s.counted tr key).hk = s.hk := by rw [State.counted_frame]
@[simp] theorem State.counted_therm (tr : Transport) (key : Nat) : (s.counted tr key).therm = s.therm := by rw [State.counted_frame]
@[simp] theorem State.counted_pace (tr : Transport) (key : Nat) : (s.counted tr key).pace = s.pace := by rw [State.counted_frame]
@[simp] theorem State.counted_mram (tr : Transport) (key : Nat) : (s.counted tr key).mram = s.mram := by rw [State.counted_frame]
@[simp] theorem State.counted_power (tr : Transport) (key : Nat) : (s.counted tr key).power = s.power := by rw [State.counted_frame]
@[simp] theorem State.counted_jtag (tr : Transport) (key : Nat) : (s.counted tr key).jtag = s.jtag := by rw [State.counted_frame]
@[simp] theorem State.counted1_pending (tr : Transport) (key : Nat) : (s.counted1 tr key).pending = s.pending := by rw [State.counted1_frame]
@[simp] theorem State.counted1_now (tr : Transport) (key : Nat) : (s.counted1 tr key).now = s.now := by rw [State.counted1_frame]
@[simp] theorem State.counted1_free (tr : Transport) (key : Nat) : (s.counted1 tr key).free = s.free := by rw [State.counted1_frame]
@[simp] theorem State.counted1_answer (tr : Transport) (key : Nat) : (s.counted1 tr key).answer = s.answer := by rw [State.counted1_frame]
@[simp] theorem State.counted1_image (tr : Transport) (key : Nat) : (s.counted1 tr key).image = s.image := by rw [State.counted1_frame]
@[simp] theorem State.counted1_tdi (tr : Transport) (key : Nat) : (s.counted1 tr key).tdi = s.tdi := by rw [State.counted1_frame]
@[simp] theorem State.counted1_conv (tr : Transport) (key : Nat) : (s.counted1 tr key).conv = s.conv := by rw [State.counted1_frame]
@[simp] theorem State.counted1_corr (tr : Transport) (key : Nat) : (s.counted1 tr key).corr = s.corr := by rw [State.counted1_frame]
@[simp] theorem State.counted1_lanes (tr : Transport) (key : Nat) : (s.counted1 tr key).lanes = s.lanes := by rw [State.counted1_frame]
@[simp] theorem State.counted1_stage (tr : Transport) (key : Nat) : (s.counted1 tr key).stage = s.stage := by rw [State.counted1_frame]
@[simp] theorem State.counted1_ring (tr : Transport) (key : Nat) : (s.counted1 tr key).ring = s.ring := by rw [State.counted1_frame]
@[simp] theorem State.counted1_log (tr : Transport) (key : Nat) : (s.counted1 tr key).log = s.log := by rw [State.counted1_frame]
@[simp] theorem State.counted1_twi (tr : Transport) (key : Nat) : (s.counted1 tr key).twi = s.twi := by rw [State.counted1_frame]
@[simp] theorem State.counted1_timing (tr : Transport) (key : Nat) : (s.counted1 tr key).timing = s.timing := by rw [State.counted1_frame]
@[simp] theorem State.counted1_dma (tr : Transport) (key : Nat) : (s.counted1 tr key).dma = s.dma := by rw [State.counted1_frame]
@[simp] theorem State.counted1_hk (tr : Transport) (key : Nat) : (s.counted1 tr key).hk = s.hk := by rw [State.counted1_frame]
@[simp] theorem State.counted1_therm (tr : Transport) (key : Nat) : (s.counted1 tr key).therm = s.therm := by rw [State.counted1_frame]
@[simp] theorem State.counted1_pace (tr : Transport) (key : Nat) : (s.counted1 tr key).pace = s.pace := by rw [State.counted1_frame]
@[simp] theorem State.counted1_mram (tr : Transport) (key : Nat) : (s.counted1 tr key).mram = s.mram := by rw [State.counted1_frame]
@[simp] theorem State.counted1_power (tr : Transport) (key : Nat) : (s.counted1 tr key).power = s.power := by rw [State.counted1_frame]
@[simp] theorem State.counted1_jtag (tr : Transport) (key : Nat) : (s.counted1 tr key).jtag = s.jtag := by rw [State.counted1_frame]
@[simp] theorem State.clearedTransport_pending (t : Txn) : (s.clearedTransport t).pending = s.pending := by rw [State.clearedTransport_frame]
@[simp] theorem State.clearedTransport_now (t : Txn) : (s.clearedTransport t).now = s.now := by rw [State.clearedTransport_frame]
@[simp] theorem State.clearedTransport_free (t : Txn) : (s.clearedTransport t).free = s.free := by rw [State.clearedTransport_frame]
@[simp] theorem State.clearedTransport_answer (t : Txn) : (s.clearedTransport t).answer = s.answer := by rw [State.clearedTransport_frame]
@[simp] theorem State.clearedTransport_image (t : Txn) : (s.clearedTransport t).image = s.image := by rw [State.clearedTransport_frame]
@[simp] theorem State.clearedTransport_tdi (t : Txn) : (s.clearedTransport t).tdi = s.tdi := by rw [State.clearedTransport_frame]
@[simp] theorem State.clearedTransport_conv (t : Txn) : (s.clearedTransport t).conv = s.conv := by rw [State.clearedTransport_frame]
@[simp] theorem State.clearedTransport_corr (t : Txn) : (s.clearedTransport t).corr = s.corr := by rw [State.clearedTransport_frame]
@[simp] theorem State.clearedTransport_lanes (t : Txn) : (s.clearedTransport t).lanes = s.lanes := by rw [State.clearedTransport_frame]
@[simp] theorem State.clearedTransport_stage (t : Txn) : (s.clearedTransport t).stage = s.stage := by rw [State.clearedTransport_frame]
@[simp] theorem State.clearedTransport_ring (t : Txn) : (s.clearedTransport t).ring = s.ring := by rw [State.clearedTransport_frame]
@[simp] theorem State.clearedTransport_log (t : Txn) : (s.clearedTransport t).log = s.log := by rw [State.clearedTransport_frame]
@[simp] theorem State.clearedTransport_twi (t : Txn) : (s.clearedTransport t).twi = s.twi := by rw [State.clearedTransport_frame]
@[simp] theorem State.clearedTransport_timing (t : Txn) : (s.clearedTransport t).timing = s.timing := by rw [State.clearedTransport_frame]
@[simp] theorem State.clearedTransport_dma (t : Txn) : (s.clearedTransport t).dma = s.dma := by rw [State.clearedTransport_frame]
@[simp] theorem State.clearedTransport_hk (t : Txn) : (s.clearedTransport t).hk = s.hk := by rw [State.clearedTransport_frame]
@[simp] theorem State.clearedTransport_therm (t : Txn) : (s.clearedTransport t).therm = s.therm := by rw [State.clearedTransport_frame]
@[simp] theorem State.clearedTransport_pace (t : Txn) : (s.clearedTransport t).pace = s.pace := by rw [State.clearedTransport_frame]
@[simp] theorem State.clearedTransport_mram (t : Txn) : (s.clearedTransport t).mram = s.mram := by rw [State.clearedTransport_frame]
@[simp] theorem State.clearedTransport_power (t : Txn) : (s.clearedTransport t).power = s.power := by rw [State.clearedTransport_frame]
@[simp] theorem State.clearedTransport_jtag (t : Txn) : (s.clearedTransport t).jtag = s.jtag := by rw [State.clearedTransport_frame]

theorem State.counted1_same (tr : Transport) (key : Nat) : sameObjects (accessCounters tr) s (s.counted1 tr key) := by
  unfold State.counted1
  split
  · exact fun _ _ => rfl
  · exact s.counted_same tr key

/-- A write of an object other than 0x1020:09 clears no access counter. -/
theorem State.clearedTransport_id (t : Txn) (h : t.key ≠ 0x102009) : s.clearedTransport t = s := by
  simp [State.clearedTransport, h]

/-! ### Serving an access (R254) -/

/-- The count of a committed two-wire transaction changes one object (R272). -/
theorem State.rd_committed (tr : Transport) (k : Nat) :
    (s.committed tr).rd k = if tr = .twi ∧ k = 0xA00401 then min 0xFFFFFFFF (s.rd k + 1) else s.rd k := by
  unfold State.committed
  split <;> rename_i h <;> by_cases hk : k = 0xA00401 <;> simp [h, hk]

theorem State.committed_frame (tr : Transport) : s.committed tr = { s with dict := (s.committed tr).dict } := by
  unfold State.committed
  split <;> rfl

theorem State.committed_same (tr : Transport) : sameObjects (accessCounters tr) s (s.committed tr) := by
  intro k hk
  rw [State.rd_committed, if_neg]
  rintro ⟨rfl, rfl⟩
  exact hk (by simp [accessCounters])

@[simp] theorem State.committed_busy (tr : Transport) : (s.committed tr).busy = s.busy := by
  rw [State.committed_frame]; rfl

@[simp] theorem State.committed_now (tr : Transport) : (s.committed tr).now = s.now := by rw [State.committed_frame]

@[simp] theorem State.committed_permitAbort (tr x : Transport) (key : Nat) :
    (s.committed tr).permitAbort x key = s.permitAbort x key := by rw [State.committed_frame]; rfl

@[simp] theorem State.committed_stateAbort (tr : Transport) (key : Nat) :
    (s.committed tr).stateAbort key = s.stateAbort key := by
  have h : (s.committed tr).life = s.life := by rw [State.committed_frame]; rfl
  simp [State.stateAbort, h, State.rd_committed]

@[simp] theorem State.committed_writeAbort (tr : Transport) (t : Txn) : (s.committed tr).writeAbort t = s.writeAbort t := by
  simp [State.writeAbort]

/-- A write that the part admits: its effect, then the count. -/
theorem State.hostWrite_admitted {s : State} {t : Txn} (h : s.admits t) (eff : State → State) :
    s.hostWrite t eff = ((eff (s.committed t.tr).accept).counted1 t.tr t.key).clearedTransport t := by
  obtain ⟨h1, h2, h3⟩ := h
  simp [State.hostWrite, State.writeNow, h1, h2, h3]

/-- A command written 0 is admitted like any write and does nothing else (R249). -/
theorem State.hostCommand_admitted {s : State} {tr : Transport} {key v : Nat} (h : s.admits ⟨tr, key, 1, v⟩) (hv : v ≠ 0)
    (eff : State → State) :
    s.hostCommand tr key v eff =
      ((eff (s.committed tr).accept).counted1 tr key).clearedTransport ⟨tr, key, 1, v⟩ := by
  unfold State.hostCommand
  rw [State.hostWrite_admitted h]
  simp [hv]

/-- A write that a check refuses changes nothing but the access counters. -/
theorem State.hostWrite_refused {s : State} {t : Txn} {code : Nat} (h1 : s.hears t.tr = true) (h2 : s.busy = false)
    (h3 : s.writeAbort t = some code) (eff : State → State) :
    s.hostWrite t eff = ((s.committed t.tr).refuse code).counted t.tr t.key := by
  simp [State.hostWrite, State.writeNow, h1, h2, h3]

/-- A part that does not take accesses of a transport does nothing with a write (R274, R277, R368). -/
theorem State.hostWrite_idle {s : State} {t : Txn} (h : s.hears t.tr = false) (eff : State → State) :
    s.hostWrite t eff = s := by
  simp [State.hostWrite, h]

/-- A write that finds the sequencer busy waits (R35, R196). -/
theorem State.hostWrite_waits {s : State} {t : Txn} (h1 : s.hears t.tr = true) (h2 : s.busy = true) (eff : State → State) :
    s.hostWrite t eff = (s.committed t.tr).wait (.write t s.now) := by
  simp [State.hostWrite, h1, h2]

/-- A read that the part admits: its answer, then the count. -/
theorem State.hostRead_admitted {s : State} {tr : Transport} {key : Nat} (h : s.admitsRead tr key) (eff : State → State) :
    s.hostRead tr key eff = (eff (s.committed tr)).counted tr key := by
  obtain ⟨h1, h2, h3⟩ := h
  simp [State.hostRead, State.readNow, h1, h2, h3]

/-! ### The event log (R257, R261) -/

/-- A logged event changes the object store, the log queue, the ring's frames to send and nothing else. -/
theorem State.logEntry_frame (code : Nat) (data : List Byte) (bit : Option Nat) :
    s.logEntry code data bit =
      { s with dict := (s.logEntry code data bit).dict, log := (s.logEntry code data bit).log,
               ring := (s.logEntry code data bit).ring } := by
  simp only [State.logEntry, State.sendFrame]
  split <;> rfl

theorem State.logEvent_frame (code : Nat) (data : List Byte) :
    s.logEvent code data =
      { s with dict := (s.logEvent code data).dict, log := (s.logEvent code data).log,
               ring := (s.logEvent code data).ring } := by
  rcases hb : alertBit code data with _ | b <;> simp only [State.logEvent, hb] <;> split
  · rfl
  · rw [State.logEntry_frame]
  · rfl
  · rw [State.logEntry_frame]; rfl

@[simp] theorem State.logEvent_pending (code : Nat) (data : List Byte) : (s.logEvent code data).pending = s.pending := by rw [State.logEvent_frame]
@[simp] theorem State.logEvent_now (code : Nat) (data : List Byte) : (s.logEvent code data).now = s.now := by rw [State.logEvent_frame]
@[simp] theorem State.logEvent_free (code : Nat) (data : List Byte) : (s.logEvent code data).free = s.free := by rw [State.logEvent_frame]
@[simp] theorem State.logEvent_answer (code : Nat) (data : List Byte) : (s.logEvent code data).answer = s.answer := by rw [State.logEvent_frame]
@[simp] theorem State.logEvent_image (code : Nat) (data : List Byte) : (s.logEvent code data).image = s.image := by rw [State.logEvent_frame]
@[simp] theorem State.logEvent_tdi (code : Nat) (data : List Byte) : (s.logEvent code data).tdi = s.tdi := by rw [State.logEvent_frame]
@[simp] theorem State.logEvent_conv (code : Nat) (data : List Byte) : (s.logEvent code data).conv = s.conv := by rw [State.logEvent_frame]
@[simp] theorem State.logEvent_corr (code : Nat) (data : List Byte) : (s.logEvent code data).corr = s.corr := by rw [State.logEvent_frame]
@[simp] theorem State.logEvent_lanes (code : Nat) (data : List Byte) : (s.logEvent code data).lanes = s.lanes := by rw [State.logEvent_frame]
@[simp] theorem State.logEvent_stage (code : Nat) (data : List Byte) : (s.logEvent code data).stage = s.stage := by rw [State.logEvent_frame]
@[simp] theorem State.logEvent_twi (code : Nat) (data : List Byte) : (s.logEvent code data).twi = s.twi := by rw [State.logEvent_frame]
@[simp] theorem State.logEvent_timing (code : Nat) (data : List Byte) : (s.logEvent code data).timing = s.timing := by rw [State.logEvent_frame]
@[simp] theorem State.logEvent_dma (code : Nat) (data : List Byte) : (s.logEvent code data).dma = s.dma := by rw [State.logEvent_frame]
@[simp] theorem State.logEvent_hk (code : Nat) (data : List Byte) : (s.logEvent code data).hk = s.hk := by rw [State.logEvent_frame]
@[simp] theorem State.logEvent_therm (code : Nat) (data : List Byte) : (s.logEvent code data).therm = s.therm := by rw [State.logEvent_frame]
@[simp] theorem State.logEvent_pace (code : Nat) (data : List Byte) : (s.logEvent code data).pace = s.pace := by rw [State.logEvent_frame]
@[simp] theorem State.logEvent_mram (code : Nat) (data : List Byte) : (s.logEvent code data).mram = s.mram := by rw [State.logEvent_frame]
@[simp] theorem State.logEvent_power (code : Nat) (data : List Byte) : (s.logEvent code data).power = s.power := by rw [State.logEvent_frame]
@[simp] theorem State.logEvent_jtag (code : Nat) (data : List Byte) : (s.logEvent code data).jtag = s.jtag := by rw [State.logEvent_frame]

/-- The objects a logged event may change: the alert bits, the events lost and the most entries queued. -/
theorem State.logEvent_same (code : Nat) (data : List Byte) :
    sameObjects [0x100101, 0xC00007, 0xC00008] s (s.logEvent code data) := by
  intro k hk
  simp only [List.mem_cons, List.not_mem_nil, or_false, not_or] at hk
  obtain ⟨h1, h2, h3⟩ := hk
  have hl : ∀ (u : State) (bit : Option Nat), (u.logEntry code data bit).rd k = u.rd k := by
    intro u bit
    simp only [State.logEntry, State.sendFrame]
    split <;> simp [h3]
  rcases hb : alertBit code data with _ | b <;> simp only [State.logEvent, hb] <;> split <;> simp [hl, State.raise, h1, h2]

/-! ### The canonical form -/

theorem State.canonical_of_dict {s t : State} (hs : s.canonical = true) (hd : t.dma = s.dma)
    (hw : Dict.wf s.dict = true → Dict.wf t.dict = true) : t.canonical = true := by
  simp only [State.canonical, Bool.and_eq_true] at hs ⊢
  rw [hd]
  exact ⟨⟨hw hs.1.1, hs.1.2⟩, hs.2⟩

theorem State.canonical_wr {s : State} (k v : Nat) (h : s.canonical = true) : (s.wr k v).canonical = true :=
  State.canonical_of_dict h rfl (Dict.wf_set k v)

theorem State.canonical_add {s : State} (k n : Nat) (h : s.canonical = true) : (s.add k n).canonical = true :=
  State.canonical_wr _ _ h

theorem State.canonical_inc {s : State} (k : Nat) (h : s.canonical = true) : (s.inc k).canonical = true :=
  State.canonical_wr _ _ h

theorem State.canonical_zero {s : State} (ks : List Nat) (h : s.canonical = true) : (s.zero ks).canonical = true := by
  induction ks generalizing s with
  | nil => exact h
  | cons k ks ih => exact ih (State.canonical_wr _ _ h)

theorem State.canonical_toDefault {s : State} (ks : List Nat) (h : s.canonical = true) :
    (s.toDefault ks).canonical = true := by
  induction ks generalizing s with
  | nil => exact h
  | cons k ks ih => exact ih (State.canonical_wr _ _ h)

theorem State.canonical_counted {s : State} (tr : Transport) (key : Nat) (h : s.canonical = true) :
    (s.counted tr key).canonical = true := by
  by_cases ha : s.answer.abort = 0 <;> simp only [State.counted, State.inc_answer, ha, if_true, if_false]
  · exact State.canonical_inc _ h
  · exact State.canonical_wr _ _ (State.canonical_wr _ _ (State.canonical_inc _ (State.canonical_inc _ h)))

theorem State.canonical_counted1 {s : State} (tr : Transport) (key : Nat) (h : s.canonical = true) :
    (s.counted1 tr key).canonical = true := by
  unfold State.counted1
  split
  · exact h
  · exact State.canonical_counted _ _ h

theorem State.canonical_logEvent {s : State} (code : Nat) (data : List Byte) (h : s.canonical = true) :
    (s.logEvent code data).canonical = true := by
  refine State.canonical_of_dict h (by simp) fun hd => ?_
  have hl : ∀ (u : State) (bit : Option Nat), Dict.wf u.dict = true → Dict.wf (u.logEntry code data bit).dict = true := by
    intro u bit hu
    simp only [State.logEntry, State.sendFrame]
    split <;> simpa using Dict.wf_set _ _ hu
  rcases hb : alertBit code data with _ | b <;> simp only [State.logEvent, hb] <;> split
  · exact Dict.wf_set _ _ hd
  · exact hl _ _ hd
  · exact Dict.wf_set _ _ (Dict.wf_set _ _ hd)
  · exact hl _ _ (Dict.wf_set _ _ hd)

theorem State.canonical_wait {s : State} (j : Job) (h : s.canonical = true) : (s.wait j).canonical = true := by
  unfold State.wait State.heldInWindow
  repeat' split
  all_goals first | exact h | exact State.canonical_inc 0x800106 h

theorem State.canonical_committed {s : State} (tr : Transport) (h : s.canonical = true) :
    (s.committed tr).canonical = true := by
  unfold State.committed
  split
  · exact State.canonical_inc 0xA00401 h
  · exact h

/-- A write of the host keeps the canonical form if its effect does. -/
theorem State.canonical_hostWrite {s : State} (t : Txn) (eff : State → State)
    (heff : ∀ s : State, s.canonical = true → (eff s).canonical = true) (h : s.canonical = true) :
    (s.hostWrite t eff).canonical = true := by
  have hc := State.canonical_committed t.tr h
  simp only [State.hostWrite]
  split
  · exact h
  · split
    · exact State.canonical_wait _ hc
    · unfold State.writeNow
      split
      · exact State.canonical_counted _ _ hc
      · have h1 := State.canonical_counted1 t.tr t.key (heff (s.committed t.tr).accept hc)
        unfold State.clearedTransport
        split
        · exact State.canonical_zero _ h1
        · exact h1

/-- A read of the host keeps the canonical form if its effect does. -/
theorem State.canonical_hostRead {s : State} (tr : Transport) (key : Nat) (eff : State → State)
    (heff : ∀ s : State, s.canonical = true → (eff s).canonical = true) (h : s.canonical = true) :
    (s.hostRead tr key eff).canonical = true := by
  have hc := State.canonical_committed tr h
  simp only [State.hostRead]
  split
  · exact h
  · split
    · exact State.canonical_wait _ hc
    · unfold State.readNow
      split
      · exact State.canonical_counted _ _ hc
      · exact State.canonical_counted _ _ (heff _ hc)

end Sys2Proof.Machine
end

