-- ==== Sys2Proof/Tests/Slice0.lean ====
section
/-!
SUPPORT. Tests: what the well-formedness checks refuse, single steps and operations on small states with results taken from the
spec's text and worked examples, and for every statement of Certificates/Slice0/Obligations.lean that has hypotheses one
witness, a state and operands that meet all the hypotheses of each of its clauses together.
-/
namespace Sys2Proof.Tests
open Sys2Proof.Machine
set_option Elab.async false

/-! ### States to start from -/

/-- Values written into the live store of a state. -/
def put (ws : List (Nat × Nat)) (s : State) : State := ws.foldl (fun s w => s.wr w.1 w.2) s

/-- A part in service with its clock running, 100 ms after its release. -/
def svc : State :=
  { State.reset with
    now := ms 100
    power := { State.reset.power with phase := .service, fusesRead := 2 ^ 33, scanned := true }
    timing := { State.reset.timing with clk100 := true }
    therm := { State.reset.therm with assessed := true } }

/-- A part in service whose pours the host starts. -/
def area : State := put [(0x210002, 5)] svc

/-- An active ring part at position 5. -/
def onRing : State := put [(0x120001, 5), (0x120002, 3)] svc

/-- A row read of pour 1. -/
def ref1 : RowRef := ⟨1, 0, 0, 0, 0, 0⟩

/-- A planned exposure. -/
def expo1 : Exposure := ⟨0, 0xFF, ms 1, ms 2, .planned, [ref1]⟩

/-- A pour with nothing left to expose. -/
def pour1 : Pour :=
  { idx := 1, area := true, cfg := [], at_ := 0, sver := 0, mould := 0, rtime := 0, enc := 0, ewrap := 0, therm := 0,
    tstep := 0, bank := 0xFF, set := SetSlot.unused, tempI := 0, alpha := 0, gtrims := [], otrims := [], exps := [],
    left := [(0, 1)], phase := 0, admitted := true, cut := false, acq := false, bad := [] }

/-- The pours in progress set. -/
def pouring (l : List Pour) (s : State) : State := { s with image := { s.image with pours := l } }

/-- A row of pour 1 in a ladle. -/
def row1 : LadleRow :=
  { ref := ref1, slag := false, unread := false, samples := [], dl := none, dr := none, masks := 0 }

/-- A packet of pour 1. -/
def packet1 : Packet :=
  { typ := 1, flask := 0, plane := 0, therm := 0, tstep := 0, fmt := 0, sver := 0, pour := 1, rtime := 0, enc := 0,
    ewrap := 0, mould := 0, ovrc := 0, last := false, osflag := false, mixed := false, rev := false, rstrt := false,
    row := 0, arow := 0, neff := [], bands := 0, masks := [], pixels := [] }

/-- Pour 1 in the tundish. -/
def tpour1 : TPour :=
  { idx := 1, sprues := [0, 0, 0, 0], sizes := [0, 0, 0, 0], at_ := 0, dispatched := false, stamps := packet1, planes := 1,
    rows := 1, cells := [], left := 1, made := [] }

/-- Lanes 0 and 1 with credit, and a packet queued for them. -/
def loaded : State :=
  { put [(0x900101, 0xFFFFFFFF), (0x901001, 100), (0x901002, 200)] svc with
    lanes := { svc.lanes with released := true, queues := [[packet1], [], [], []] } }

/-- Timer channel 7 replaced. -/
def timed (t : Timer) : State := { svc with timing := { svc.timing with timers := setNth svc.timing.timers 7 t } }

/-- A part that may start every calibration run on logical set 1. -/
def calm : State :=
  { put [(0x420002, 1)] svc with mram := { svc.mram with sets := [SetSlot.shipped, { SetSlot.unused with set := 1 }, SetSlot.unused, SetSlot.unused] } }

/-- A full-map run after `n` acquisition pours. -/
def run4 (n : Nat) : Cal :=
  { run := 4, target := 0, at_ := 0, started := true, pours := n, temp0 := 0, tempEnd := 0, point := none, sums := [],
    means := [], dark := 0, darkN := 0, dl := 0, dr := 0, rows := 0, ovrs := 0, total := 0, slag := false, newMap := [],
    retried := false, bank := 1 }

/-- A calibration run in progress with a status. -/
def running (status : Nat) (c : Cal) : State :=
  { put [(0x420008, status)] svc with now := ms 10000, corr := { svc.corr with cal := some c } }

/-- A map commit writing bank 1, under the write inhibit or not. -/
def writing (inhibited : Bool) (c : Cal) : State :=
  { put [(0x6A0003, if inhibited then 1 else 0)] svc with corr := { svc.corr with cal := some c, mapWrite := some 1 } }

/-- An open upload of user set 1. -/
def upload2 : Upload :=
  { what := 2, bank := 0, lastAt := 0, segData := none, writing := none, retried := false, begun := false, finish := false }

/-- The points of an uploaded set: 20, 25, 30, 35 and 40 °C. -/
def points5 : List (Nat × Nat) := (List.range 5).map fun i => (pointBase i / 2, 320 + 80 * i)

/-- Staging fills with a segment, and uplink 1 is locked. -/
def staged (target segment : Nat) : State :=
  { put [(0x900302, 2)] svc with dma := { svc.dma with stage := .filling target segment } }

/-- A good frame. -/
def frame (dst typ hops : Nat) (p : List Byte) : Frame := withCrc ⟨dst, 0, typ, 7, hops, 0, p.length, p, 0, .eof, 0⟩

/-- The payload of a request without an offset (R231). -/
def request (key flags : Nat) (data : List Byte) : List Byte :=
  leBytes 2 (key / 256) ++ leBytes 1 (key % 256) ++ leBytes 1 flags ++ [0, 0] ++ leBytes 2 data.length ++ data

/-- The ring host's open commit group. -/
def grouped (vals : Dict) : State := { svc with stage := { svc.stage with group := some ⟨.ring, vals, none, 0⟩ } }

/-- A pending entry. -/
def entry1 : Entry := ⟨[(0x210003, 3)], 1, .next, .host, none, none, 0, false, false⟩

/-- The header of a mould image without records, for slot `n`. -/
def emptyMould (n : Nat) : List Byte := imageHeader n 5 0 (crc32 []) []

/-- The write that asks for the pour of a mould. -/
def readTxn (n : Nat) : Txn := ⟨.ring, 0x801001, 1, n⟩

/-- A mould read of slot `n` under way; slot 1 holds an image. -/
def reading (load : Bool) (n : Nat) : State :=
  { grouped [] with
    stage := { (grouped []).stage with reads := [⟨n, load, some (readTxn n), 0⟩], serving := some (.write (readTxn n) 0) }
    mram := { svc.mram with moulds := [(1, emptyMould 1)] } }

/-- A log entry. -/
def logged (seq : Nat) : LogEntry := 
  let e : LogEntry := ⟨seq, 0x0201, 0, false, false, false, 0, List.replicate 12 0, 0⟩
  { e with ecrc := e.crc }

/-- A part that answers two-wire address 0x30. -/
def answering : State := { svc with twi := { svc.twi with addrs := [0, 0x130, 0, 0, 0, 0x30, 0x7F, 0] } }

/-- A controller transfer waiting for the bus. -/
def transfer1 : Transfer :=
  { boot := false, entry := 0, attempts := 0, askedAt := 0, waitFree := true, list := 0, out := [], reads := 0 }

/-- A part with a controller transfer. -/
def sending (x : Transfer) : State := { svc with twi := { svc.twi with transfer := some x } }

/-- A boot fetch asked for at instant 0, at the first instant at which it can end. -/
def fetchOver : State := { sending { transfer1 with boot := true } with now := us 368730 }

/-- A descriptor that moves two elements of 4 bytes from the index tables to staging. -/
def desc1 : Desc :=
  { src := 0x04000000, dst := 0x05000000, itab := 0x04000000, count := 2, elen := 4, sw := 0, dw := 0, mode := 2,
    sinc := true, dinc := true, bar := false, link := false, next := 0, tag := 0 }

/-- A channel at the first element of a descriptor. -/
def moving (d : Desc) : DmaChan := ⟨none, some d, 0, false, false, 0⟩

/-- Channel 7 running. -/
def channel (c : DmaChan) : State :=
  { put [(0x702008, 1)] svc with dma := { svc.dma with chans := setNth svc.dma.chans 7 c } }

/-- A segment submitted by channel 7 is being written. -/
def submitted : State :=
  { channel (moving desc1) with dma := { (channel (moving desc1)).dma with submitter := some 7, stage := .writing 1 0 } }

/-- The housekeeping converter busy for a client; the sequence measures channel 17. -/
def measuring (c : HkClient) : State :=
  { svc with hk := { svc.hk with client := c, inSeq := true, table := List.replicate 32 17, len := 1 } }

/-- A source with its three raw samples. -/
def filled (x : Source) : Source := { x with raws := [some 0, some 0, some 0] }

/-- Source `i` of the monitor with samples of 0 and 3,000 and these limits. -/
def heated (i : Nat) (l : List Limit) : State :=
  { put [(0x600102, 2)] svc with
    therm := { svc.therm with sources := setNth svc.therm.sources i ⟨[some 0, some 3000], none, l, 0, 0⟩ } }

/-- A part in a phase of start-up or Sleep, with the origin of R368. -/
def phased (p : Phase) (origin : Instant) : State :=
  { svc with power := { svc.power with phase := p, origin := origin } }

/-- A part whose start mould has been read. -/
def fetched (img : Option (List Byte)) : State :=
  { svc with power := { svc.power with phase := .scanned, mouldReady := some img } }

/-- A part with its keys in force. -/
def keyed : State :=
  { svc with power := { svc.power with
      fuses := 2 ^ 33, fuseKey := some 0, lifeKey := some (.ring, ms 100), testen := true, testenHeld := true } }

/-- A part that carries out a fuse or life-cycle command. -/
def fusing (op : LifeOp) : State := { svc with power := { svc.power with op := some op } }

/-- A part that has processed `n` pixels in every flask, whose margins have all been reported. -/
def paced (n : Nat) : State := { svc with pace := { svc.pace with runs := List.replicate 16 ⟨n, 0, true⟩ } }

/-- An uplink packet with both of its checksums right. -/
def uplink (utype useq : Nat) (body : List Byte) : List Byte :=
  let h := leBytes 2 utype ++ leBytes 2 body.length ++ leBytes 4 useq ++ leBytes 4 0
  h ++ leBytes 4 (crc32 h) ++ body ++ leBytes 4 (crc32 body)

/-- The monitor's scan has taken one sample. -/
def sampled (ch : Nat) (r : Option Int) (s : State) : State :=
  { s with therm := { s.therm with scan := true, got := [(ch, r)] } }

/-! ### What the well-formedness checks refuse -/

/-- No command of a list is well formed. -/
def noneWf (l : List Instr) : Bool := l.all fun i => !i.wf

theorem test_wf_refuses_numbers_that_name_nothing : noneWf [
    .coreRow 16, .mapWindowFetch 16 [] [], .paceMeasurement 16 1, .replicaMeasurement 16 0, .captureInputEdge 4 true,
    .trigPinEdge 4 true, .uplinkBlockLock 2, .uplinkLossOfLock 2 true 0, .uplinkHighBer 2 true, .quiesce 2 0, .resume 2 0,
    .retrain 2 0, .uplinkPacketDiscard 2 (List.replicate 20 0), .uplinkPacketDiscard 0 [], .retrainEnd 32, .packetSent 32, .laneMarker 32, .packetDispatch 4, .creditStall 4,
    .timerValley 8, .timerCompareMatch 8, .strobePulseStart 8, .strobePulseEnd 8, .captureEntryRead .ring 4,
    .compatibleCaptureRead .ring 4, .descriptorFetch 8, .dmaElementComplete 8, .dmaNoResponse 8] = true := by decide

theorem test_wf_refuses_numbers_beyond_their_field : noneWf [
    .stagedWrite .ring 65536 0 [], .stagedWrite .ring 0 256 [], .registerWrite .twi 65536 0 [], .registerWrite .twi 0 256 [],
    .pourMould .ring 256, .loadMould .ring 256, .storeMould .ring 256, .eraseMould .ring 256, .eventLogged 65536 [],
    .twiWriteTransaction 128 [], .twiReadHeader 128 [] true, .twiReadPhase 128 1 true, .twiWriteDiscarded 128 [],
    .twiWake 128, .twiBusError 256, .bootMouldFetch 256 [], .controllerTransferEnd 256, .housekeepingSampleEnd 16384 0 false,
    .resetRelease true 4, .samplePreload (2 ^ 47) 0, .samplePreload 0 (2 ^ 47), .replicaMeasurement 0 65536,
    .paceMeasurement 0 0, .vcoreLoopConfigWrite .ring 3 0] = true := by decide

theorem test_wf_refuses_values_beyond_their_object : noneWf ([
    .vcoreLoopConfigWrite .ring 1 256, .positionPreset .ring (2 ^ 32), .downlinkEnableWrite .ring (2 ^ 32),
    .alertStatusWrite .ring 65536, .heldPourWrite .ring (2 ^ 64), .injectedRequest .ring 65536, .resetCommand .ring (2 ^ 32),
    .fuseKeyWrite .ring (2 ^ 32), .lifeCycleKeyWrite .ring (2 ^ 32), .blowRingWriteDisable .ring 65536,
    .blowTwoWireWriteDisable .ring 65536, .holdExit .ring 256 true] ++
    [Instr.clearLowestMargin, .clearHighWaterMarks, .clearLadleSlagCounts, .startOnePour, .makeOneLine, .restartTdi,
     .foregroundSelfCalibration, .clearConverterCounts, .mapSwitchModeWrite, .startMapUpload, .startSetUpload, .finishUpload,
     .abortUpload, .clearCorrectionCounts, .testPatternWrite, .clearLaneCounts, .openCommitGroup, .closeCommitGroup,
     .abandonCommitGroup, .bypassHoldWrite, .clearRingCounts, .clearTransportCounts, .clearMramDiagnostics, .sendListNow,
     .clearTwiCounts, .restartChannels, .resetPrescalers, .clearCaptureCounts, .clearQuadratureCounts, .startChannels,
     .stopChannels, .releaseHold, .clearDmaCounts, .sequenceStart, .sequenceStop, .clearHousekeepingCounts,
     .housekeepingSelfCalibration, .acknowledgeQuench, .clearThermalCounts, .holdRequest, .sleepRequest,
     .blowFactoryCalibrationLock, .toReturn, .toScrap].map fun c => c .ring 256) = true := by decide

theorem test_wf_refuses_lists_of_the_wrong_shape : noneWf [
    .rowSlot [(16384, 0)] [] [], .rowSlot [] [(64, 0)] [], .rowSlot [] [] [(260, 0, 0)], .mapWindowFetch 0 [1179648] [],
    .mapWindowFetch 0 [] [1179648], .selfCalibrationResult [⟨260, [0, 0, 0, 0], 0, 0, 0⟩],
    .selfCalibrationResult [⟨0, [0, 0, 0], 0, 0, 0⟩], .setCacheLoadComplete [1179648] [], .setCacheLoadComplete [] [1179648],
    .mouldReadComplete [1179648] [], .mouldReadComplete [] [1179648], .mramScan [1179648] [], .mramScan [] [1179648],
    .mouldOperationComplete (.unreadable 1179648),
    .creditGrant 0 0 [], .creditGrant 0 (2 ^ 32) (List.replicate 32 0), .creditGrant 2 0 (List.replicate 32 0),
    .creditGrant 0 0 (List.replicate 32 (2 ^ 32)), .eventLogged 0 (List.replicate 17 0)] = true := by decide

theorem test_wf_refuses_chunks_and_segments_out_of_range : noneWf [
    .bulkChunk 2 0 0 0 0 [], .bulkChunk 0 256 0 0 0 [], .bulkChunk 0 0 256 0 0 [], .bulkChunk 0 0 0 65536 0 [],
    .bulkChunk 0 0 0 0 (2 ^ 32) [], .segmentEnd 2 0 0 0 0 0, .segmentEnd 0 256 0 0 0 0, .segmentEnd 0 0 256 0 0 0,
    .segmentEnd 0 0 0 65536 0 0, .segmentEnd 0 0 0 0 (2 ^ 32) 0, .segmentEnd 0 0 0 0 0 (2 ^ 32)] = true := by decide

theorem test_wf_refuses_a_chunk_above_4096_bytes (d : List Byte) (h : d.length = 4097) :
    (Instr.bulkChunk 0 0 0 0 0 d).wf = false := by
  change (true && decide (d.length ≤ 4096)) = false
  rw [h]
  rfl

/-- Frames with one field beyond its width. -/
def wideFrames : List Frame := [
  ⟨256, 0, 0, 0, 0, 0, 0, [], 0, .eof, 0⟩, ⟨0, 256, 0, 0, 0, 0, 0, [], 0, .eof, 0⟩, ⟨0, 0, 256, 0, 0, 0, 0, [], 0, .eof, 0⟩,
  ⟨0, 0, 0, 256, 0, 0, 0, [], 0, .eof, 0⟩, ⟨0, 0, 0, 0, 256, 0, 0, [], 0, .eof, 0⟩, ⟨0, 0, 0, 0, 0, 256, 0, [], 0, .eof, 0⟩,
  ⟨0, 0, 0, 0, 0, 0, 65536, [], 0, .eof, 0⟩, ⟨0, 0, 0, 0, 0, 0, 0, [], 65536, .eof, 0⟩]

theorem test_wf_refuses_frame_fields_beyond_their_width : noneWf (wideFrames.flatMap fun f => [
    .readRequest f, .writeRequest f, .enumerate f, .sync f 0, .tap f, .rollCall f, .unknownFrameType f,
    .frameForward f]) = true := by decide

theorem test_wf_takes_the_largest_operands : ([
    .coreRow 15, .captureInputEdge 3 true, .packetSent 31, .timerValley 7, .pourMould .ring 255, .twiWake 127,
    .samplePreload (2 ^ 47 - 1) (2 ^ 47 - 1), .positionPreset .twi (2 ^ 32 - 1), .startOnePour .ring 255,
    .readRequest ⟨255, 255, 255, 255, 255, 255, 65535, [], 65535, .eofe, 0⟩] : List Instr).all Instr.wf = true := by decide

/-! ### Checksums and arithmetic -/

/-- The nine bytes over which catalogues of CRCs give their check values. -/
def digits : List Byte := [0x31, 0x32, 0x33, 0x34, 0x35, 0x36, 0x37, 0x38, 0x39]

/-- R228: CRC-16-CCITT from 0xFFFF without a final XOR has the check value 0x29B1. -/
theorem test_crc16_check_value : crc16 digits = 0x29B1 := by decide +kernel

/-- R127: the CRC-32 of IEEE 802.3 has the check value 0xCBF43926. -/
theorem test_crc32_check_value : crc32 digits = 0xCBF43926 := by decide +kernel

/-- The step of R78 that the chapter's example expands back from code 30,000. -/
theorem test_compand_reaches_code_30000 : compand 86784 = 30000 ∧ compand 86783 = 29999 ∧ compand 1048575 = 53247 := by decide

/-- R151: the knots of the flat run of the Nordfold carton job. -/
theorem test_flat_run_knots : roundDiv (16384 * 2400) 2260 = 17399 ∧ roundDiv (16384 * 2400) 2750 = 14299 := by decide

/-- R347: the median of the raw samples of the hovering pixel die at 1.0 ms, in 1/16 °C. -/
theorem test_median_of_the_hovering_die : median3 [some 1282, some 1283, some 1274] = some 1282 := by decide

/-! ### The live state's geometry: the worked examples of area and TDI readout -/

/-- The verification pour of the Harbour Tea 80 mm label job. -/
def labelPour : Dict := (put [(0x212001, 2), (0x212101, 256), (0x212102, 768), (0x212201, 256), (0x212202, 256), (0x212002, 1),
  (0x212301, 21), (0x212401, 233), (0x211001, 2), (0x211101, 800), (0x211102, 800)] svc).dict

theorem test_label_pour_takes_1024_slots : rowReads labelPour = 512 ∧ spanGroups labelPour = 213 ∧
    tMinSlots labelPour 0 = 1024 := by decide +kernel

/-- The packet lengths, lane bytes and window size of the DMA chapter's example. -/
theorem test_label_pour_window_has_22085632_bytes : pourSize labelPour = 22085632 ∧ laneBytes 1128 = 1136 ∧
    laneBytes 1608 = 1616 ∧ laneBytes 1032 = 1040 := by decide +kernel

/-- The TDI inspection of the same job: 4 bands of 12 stages from band row 122. -/
def labelLine : Dict := (put ((0x340001, 15) :: (rangeFrom 0x342001 4).map (·, 12) ++ (rangeFrom 0x342101 4).map (·, 122))
  svc).dict

theorem test_label_line_offsets : stageRows labelLine = 48 ∧ (List.range 4).map (offsetLines labelLine) = [0, 256, 512, 768] ∧
    lineReady labelLine = 779 := by decide +kernel

/-! ### Correction: one pixel of the Harbour Tea job, and a glint -/

/-- The pour of column 9,000's GRN stage row, at 47 °C between the points of 40 °C and 55 °C. -/
def greenPour : Pour :=
  let set (i off v : Nat) : Nat × Nat := ((pointBase i + off) / 2, v)
  { pour1 with
    cfg := (put [(0x410001, 17200 * 65536 ^ 562 + 17240 * 65536 ^ 563)] svc).dict
    tempI := 1
    alpha := 119
    set := { SetSlot.unused with set := 1, words := [
      set 1 (1064 + 2 * 9000) 1040, set 2 (1064 + 2 * 9000) 1072, set 1 6 0, set 2 6 40, set 1 (26 + 4 * 140) 65530,
      set 2 (26 + 4 * 140) 65530, set 1 (66600 + 2 * 9000) 33100, set 2 (66600 + 2 * 9000) 33132, set 1 (24 + 4 * 140) 98,
      set 2 (24 + 4 * 140) 98, set 1 10 1056, set 2 10 1056, set 1 12 1058, set 2 12 1058] } }

/-- The map entry of that pixel: offset +3, slope class 2, trim −12. -/
def greenEntry : Nat := 2 * 2 ^ 13 + 3 * 2 ^ 7 + (128 - 12)

theorem test_harbour_tea_pixel_dark_level : greenPour.dark16 (some 1060) (some 1064) greenEntry 9000 = 1119 := by
  decide +kernel

theorem test_harbour_tea_pixel_reads_2039 :
    (greenPour.correct (some 1060) (some 1064) greenEntry false 9000 2010 false false).val = 2039 := by decide +kernel

/-- R121: the stage rows on both sides of the glint of the Harbour Tea job. -/
theorem test_glint_replacements :
    (let row (l : List Sample) : Option LadleRow := some { row1 with samples := l }
     let a : Sample := ⟨9001, 3000, false, true⟩
     recoverSample 0 (row [⟨9001, 1512, false, false⟩]) (row [⟨9001, 4095, true, false⟩]) a = (1512, true, false) ∧
     recoverSample 0 (row [⟨9001, 1512, false, false⟩]) (row [⟨9001, 1530, false, false⟩]) a = (1521, true, false)) := by
  decide

/-! ### Timers: the worked example of a period cut -/

/-- Mode 1 with PER 500 and CMP 100 at count 320 up; PER 300 and CMP 60 in the shadow registers. -/
def cutTimer : Timer := { Timer.reset with mode := 1, pos := 320, shPer := 300, shCmp := 60, per := 500, cmp := 100, upd := true }

theorem test_period_cut_counts_down_from_300 :
    (let c := cutTimer.tick
     c.2 = true ∧ c.1.value = 300 ∧ cycleDown c.1.per c.1.pos = true ∧ c.1.tick.1.value = 299) := by decide

/-! ### Single steps -/

/-- The state after one step with a command at the front of the queue. -/
def after (c : Instr) (s : State) : State := match step { s with pending := [c] } with | .next t => t | _ => s

theorem test_an_empty_queue_ticks : (match step svc with | .next t => t.now | _ => 0) = ms 100 + tickUnits := by
  decide +kernel

/-- R375, R399: the identification register. -/
theorem test_idcode : (after .idcode svc).jtag.captured = 0x16416C3B := by decide +kernel

/-- R375: outside Hold EXTEST acts as BYPASS. -/
theorem test_extest_outside_hold : (after .extest svc).tapActs = .bypass := by decide +kernel

/-- R304: the position counter wraps below 0 and EWRAP goes with it. -/
theorem test_quadrature_wraps_below_zero :
    (let t := after (.quadratureEdge false true) (put [(0x520007, 1)] svc)
     t.rd 0x520001 = 0xFFFFFFFF ∧ t.rd 0x520004 = 0xFFFF) := by decide +kernel

/-- R303: A leading B counts up. -/
theorem test_quadrature_counts_up : (after (.quadratureEdge true false) (put [(0x520007, 1)] svc)).rd 0x520001 = 1 := by
  decide +kernel

/-- R301: an entry holds ring time, position, EWRAP and the edge, and a read removes it. -/
theorem test_capture_entry :
    (let t := after (.captureInputEdge 2 true) { put [(0x510103, 1), (0x510303, 1), (0x520001, 0x1234)] svc with
       ring := { svc.ring with nanos := 5000000003 } }
     (t.capture 2).queue = [[0x03, 0xF2, 0x05, 0x2A, 0x01, 0, 0, 0, 0x34, 0x12, 0, 0, 0, 0, 0, 0]] ∧
     ((after (.captureEntryRead .ring 2) t).capture 2).queue = []) := by decide +kernel

/-- R239, R240: part 1 of the Nordfold ring takes a sync 38 ns ahead of the ring head. -/
theorem test_sync_of_part_1 :
    (let s := put [(0x120202, 3), (0x120203, 1)] onRing
     let t := after (.sync (frame 0xFF 0x11 30 (leBytes 8 5000000000 ++ List.replicate 8 0)) 1162)
       { s with now := ms 100, ring := { s.ring with nanos := 5000000041, lastSync := some (ms 99) } }
     t.rd 0x120204 = 2 ^ 32 - 38 ∧ t.rd 0x120205 = 2 ^ 32 - 38000 ∧ t.ring.freq = -4750000) := by decide +kernel

/-- R271, R192: the exposure change of the Harbour Tea bar goes into the loose set as version 313. -/
theorem test_two_wire_exposure_change :
    (let t := after (.twiWriteTransaction 0x30 [0x02, 0x10, 0x34, 0x01, 0, 0, 0, 0x04, 0, 0x58, 0x02, 0, 0])
       (put [(0x110002, 312)] answering)
     t.stage.loose = [(0x341001, 600)] ∧ t.rd 0x110005 = 313) := by decide +kernel

/-- R271: the first half of that version, read by the combined form. -/
theorem test_two_wire_version_read :
    (after (.twiReadPhase 0x30 4 true)
      (after (.twiReadHeader 0x30 [0x01, 0x00, 0x11, 0x05, 0x08, 0, 0, 0x04, 0] false)
        (put [(0x110005, 313)] answering))).answer.data = [0x39, 0x01, 0, 0] := by decide +kernel

/-- R255: an index that is not in the dictionary, an object that may only be read, and a wrong length. -/
theorem test_abort_codes_of_writes :
    (after (.registerWrite .ring 0x0FFF 1 [0]) svc).answer.abort = 0x01010000 ∧
    (after (.registerWrite .ring 0x1000 5 [0, 0, 0, 0]) svc).answer.abort = 0x02010000 ∧
    (after (.registerWrite .ring 0x2100 3 [0, 0]) svc).answer.abort = 0x03010000 := by decide +kernel

/-- R203: one commit group at a time; the access is counted as aborted (R259). -/
theorem test_second_group_is_refused :
    (let t := after (.openCommitGroup .twi 1) (grouped [])
     t.answer.abort = 0x05010000 ∧ t.rd 0x102004 = 1) := by decide +kernel

/-- R62: source 5 is the write of the start command. -/
theorem test_start_one_pour_makes_pour_1 :
    (let t := after (.startOnePour .ring 1) area
     t.image.pours.length = 1 ∧ t.answer.abort = 0) := by decide +kernel

/-- R176: lanes 0 and 1 hold 100 and 200 blocks of credit. -/
theorem test_dispatch_takes_the_lane_with_most_credit :
    ((after (.packetDispatch 0) loaded).lanes.lanes.map fun l => l.sending.isSome).take 3 = [false, true, false] := by
  decide +kernel

/-- R366: a brown-out puts the part in reset, with its objects at their defaults. -/
theorem test_brown_out_resets :
    (let t := after .brownOut (put [(0x520001, 9)] svc)
     t.rd 0x520001 = 0 ∧ t.power.phase = .inReset) := by decide +kernel

/-! ### How the hypotheses of the statements are checked -/

theorem witness_none {α : Type} {p : α → Prop} : ∀ x, (none : Option α) = some x → p x := nofun

theorem witness_rws {k : Nat} (h : ((objRow k).any fun r => r.acc == .rws) = true) :
    ∃ r, objRow k = some r ∧ r.acc = .rws := by
  cases hr : objRow k with
  | none => simp [hr] at h
  | some r => exact ⟨r, rfl, by simpa [hr] using h⟩

/-- The row of an object that has one. -/
def witness_row (k : Nat) (h : (objRow k).isSome = true) : ObjRow := (objRow k).get h

/-- Without a live bank and without new entries no pixel is flagged. -/
theorem witness_no_defects (s : State) (h : s.liveBank = 0xFF) : s.defectsOk [] = true := by
  have e : ∀ i, entryDef (s.newMapEntry [] i) = false := by
    intro i
    simp [State.newMapEntry, assocD, h, entryDef, bitAt]
  simp [State.defectsOk, e]

/-! ### Witnesses: what each clause of a statement assumes holds together -/

theorem witness_StepRunsTheFrontCommand :
    ∃ (c : Instr) (rest : List Instr) (s : State), s.pending = c :: rest :=
  ⟨.idcode, [.bypass], { svc with pending := [.idcode, .bypass] }, rfl⟩

theorem witness_EmptyQueueStepIsOneTick :
    ∃ (s : State), s.pending = [] ∧ s.power.resetAt = none ∧ s.power.sleepAt = none ∧ s.ring.ins = [] ∧ s.corr.spoil = [] ∧
      s.corr.upload = none ∧ (s.monitorOn = true → s.now + 570 < s.therm.scanAt ∧ s.now + 570 < s.therm.fillAt) :=
  ⟨{ svc with therm := { svc.therm with scanAt := ms 200, fillAt := ms 200 } }, by decide +kernel⟩

theorem witness_ResetLeavesEveryObjectAtItsDefault :
    (∃ (f : Nat), f < 16) ∧
    (∃ (q : List Packet), q ∈ State.reset.lanes.queues) :=
  ⟨⟨15, by decide +kernel⟩,
    ⟨[], by decide +kernel⟩⟩

theorem witness_EveryStepKeepsTheCanonicalForm :
    ∃ (s : State) (t : State), s.canonical = true ∧ step s = Host.Outcome.next t :=
  ⟨{ svc with pending := [.idcode] }, _, by refine ⟨?_, rfl⟩; decide +kernel⟩

theorem witness_HostWritesAreTurnedAwayAsTheChecksSay :
    (∃ (c : Instr) (w : Txn) (s : State), Instr.txn c = some w ∧ s.hears w.tr = false) ∧
    (∃ (c : Instr) (w : Txn) (s : State), Instr.txn c = some w ∧ s.hears w.tr = true ∧ s.busy = true) ∧
    (∃ (c : Instr) (w : Txn) (s : State) (code : Nat), Instr.txn c = some w ∧ s.hears w.tr = true ∧ s.busy = false ∧
      s.writeAbort w = some code) :=
  ⟨⟨.startOnePour .ring 1, ⟨.ring, 0x210007, 1, 1⟩, State.reset, by decide +kernel⟩,
    ⟨.startOnePour .twi 1, ⟨.twi, 0x210007, 1, 1⟩, { svc with stage := { svc.stage with window := some 0 } },
      by decide +kernel⟩,
    ⟨.startOnePour .twi 2, ⟨.twi, 0x210007, 1, 2⟩, svc, 0x04010000, by decide +kernel⟩⟩

theorem witness_CommandsAreTheWritesOfTheirObjects :
    ∃ (c : Instr) (w : Txn), c.wf = true ∧ Instr.txn c = some w :=
  ⟨.positionPreset .twi 0xFFFFFFFF, ⟨.twi, 0x520001, 4, 0xFFFFFFFF⟩, by decide +kernel⟩

theorem witness_ClearCommandsClearTheirCounts :
    (∃ (tr : Transport) (s : State), s.admits { tr := tr, key := 0x680103, len := 1, val := 1 }) ∧
    (∃ (tr : Transport) (s : State), s.admits { tr := tr, key := 0x320111, len := 1, val := 1 }) ∧
    (∃ (tr : Transport) (s : State), s.admits { tr := tr, key := 0x320211, len := 1, val := 1 }) ∧
    (∃ (tr : Transport) (s : State), s.admits { tr := tr, key := 0x310601, len := 1, val := 1 }) ∧
    (∃ (tr : Transport) (s : State), s.admits { tr := tr, key := 0x402301, len := 1, val := 1 }) ∧
    (∃ (tr : Transport) (s : State), s.admits { tr := tr, key := 0x902205, len := 1, val := 1 }) ∧
    (∃ (tr : Transport) (s : State), s.admits { tr := tr, key := 0x120108, len := 1, val := 1 }) ∧
    (∃ (tr : Transport) (s : State), s.admits { tr := tr, key := 0x102009, len := 1, val := 1 }) ∧
    (∃ (tr : Transport) (s : State), s.admits { tr := tr, key := 0xC10006, len := 1, val := 1 }) ∧
    (∃ (tr : Transport) (s : State), s.admits { tr := tr, key := 0xA00406, len := 1, val := 1 }) ∧
    (∃ (tr : Transport) (s : State), s.admits { tr := tr, key := 0x510B01, len := 1, val := 1 }) ∧
    (∃ (tr : Transport) (s : State), s.admits { tr := tr, key := 0x52000C, len := 1, val := 1 }) ∧
    (∃ (tr : Transport) (s : State), s.admits { tr := tr, key := 0x702601, len := 1, val := 1 }) ∧
    (∃ (tr : Transport) (s : State), s.admits { tr := tr, key := 0x600407, len := 1, val := 1 }) ∧
    (∃ (tr : Transport) (s : State), s.admits { tr := tr, key := 0x6A1109, len := 1, val := 1 }) :=
  ⟨⟨.twi, svc, by delta State.admits; decide +kernel⟩,
    ⟨.twi, svc, by delta State.admits; decide +kernel⟩,
    ⟨.twi, svc, by delta State.admits; decide +kernel⟩,
    ⟨.twi, svc, by delta State.admits; decide +kernel⟩,
    ⟨.twi, svc, by delta State.admits; decide +kernel⟩,
    ⟨.twi, svc, by delta State.admits; decide +kernel⟩,
    ⟨.twi, svc, by delta State.admits; decide +kernel⟩,
    ⟨.twi, svc, by delta State.admits; decide +kernel⟩,
    ⟨.twi, svc, by delta State.admits; decide +kernel⟩,
    ⟨.twi, svc, by delta State.admits; decide +kernel⟩,
    ⟨.twi, svc, by delta State.admits; decide +kernel⟩,
    ⟨.twi, svc, by delta State.admits; decide +kernel⟩,
    ⟨.twi, svc, by delta State.admits; decide +kernel⟩,
    ⟨.twi, svc, by delta State.admits; decide +kernel⟩,
    ⟨.twi, svc, by delta State.admits; decide +kernel⟩⟩

theorem witness_PaceMeasurementsReportTheMargin :
    (∃ (f : Nat) (busy : Nat) (s : State), f < 16 ∧ s.pace.runs.length = 16 ∧ s.converterClock = true ∧ 0 < busy ∧ 65536 ≤
      (s.paceRun f).pixels) ∧
    (∃ (f : Nat) (s : State), f < 16 ∧ s.pace.runs.length = 16 ∧ s.converterClock = true ∧ (s.paceRun f).pixels < 65536 ∧
      (s.paceRun f).since + ms 1 ≤ s.now) ∧
    (∃ (f : Nat) (s : State), f < 16 ∧ s.pace.runs.length = 16 ∧ s.converterClock = true ∧ (s.paceRun f).pixels < 65536) ∧
    (∃ (f : Nat) (s : State), f < 16 ∧ s.pace.runs.length = 16 ∧ s.converterClock = true ∧ (65536 ≤ (s.paceRun f).pixels ∨
      s.now < (s.paceRun f).since + ms 1)) :=
  ⟨⟨15, 1, paced 65536, by decide +kernel⟩,
    ⟨15, paced 65535, by decide +kernel⟩,
    ⟨15, paced 65535, by decide +kernel⟩,
    ⟨15, paced 65536, by decide +kernel⟩⟩

theorem witness_PaceEvaluationMovesTheVidCode :
    ∃ (s : State), s.pace.running = true ∧ s.timing.clk100 = true ∧ s.pace.evalAt ≤ s.now ∧ s.rd 0x680201 = 0 ∧
      s.allMeasured = true :=
  ⟨{ put [(0x680101, 1)] (paced 0) with pace := { (paced 0).pace with running := true } }, by decide +kernel⟩

theorem witness_VcoreLoopWritesKeepFloorPinnedCeilingOrdered :
    (∃ (tr : Transport) (sub : Nat) (v : Nat) (s : State), sub ∈ [1, 2, 4, 5] ∧ s.admits
      { tr := tr, key := 0x680200 + sub, len := 1, val := v } ∧ (sub = 2 ∧ (v < s.rd 0x680204 ∨ s.rd 0x680205 < v) ∨ sub = 4
      ∧ (s.rd 0x680205 < v ∨ s.rd 0x680202 < v) ∨ sub = 5 ∧ (v < s.rd 0x680204 ∨ v < s.rd 0x680202))) ∧
    (∃ (tr : Transport) (sub : Nat) (v : Nat) (s : State), sub ∈ [1, 2, 4, 5] ∧ s.admits
      { tr := tr, key := 0x680200 + sub, len := 1, val := v } ∧ (¬(sub = 2 ∧ (v < s.rd 0x680204 ∨ s.rd 0x680205 < v) ∨ sub =
      4 ∧ (s.rd 0x680205 < v ∨ s.rd 0x680202 < v) ∨ sub = 5 ∧ (v < s.rd 0x680204 ∨ v < s.rd 0x680202)))) :=
  ⟨⟨.ring, 4, 15, put [(0x680202, 14), (0x680205, 14)] svc, by delta State.admits; decide +kernel⟩,
    ⟨.ring, 4, 14, put [(0x680202, 14), (0x680205, 14)] svc, by delta State.admits; decide +kernel⟩⟩

theorem witness_RowSlotCapturesAndConverts :
    (∃ (s : State), s.converterClock = true ∧ s.image.nextSlot ≤ s.now ∧ s.image.flasks.length = 16 ∧ (∀ f < 16, (s.flask
      f).rows = []) ∧ s.image.pours = []) ∧
    (∃ (s : State) (p : Pour) (e : Exposure) (r0 : RowRef) (r : RowRef) (rest : List RowRef), s.converterClock = true ∧
      s.image.nextSlot ≤ s.now ∧ s.image.flasks.length = 16 ∧ (∀ f < 16, (s.flask f).rows = []) ∧ s.image.pours = [p] ∧
      p.area = true ∧ p.acq = false ∧ p.exps = [e] ∧ e.toRead = r :: rest ∧ (∃ l ∈ p.left, l.2 ≠ 0) ∧ s.image.sampled = some
      r0 ∧ r0.pour = p.idx ∧ s.therm.quench = false ∧ (s.image.slotNo + 1) % 16 ≠ 0 ∧ slotIdle (s.image.slotNo + 1)
      s.image.stepNow = false ∧ max e.tx (s.image.releaseAt + ns 170) + ns 60 ≤ s.image.nextSlot + 68 * periodUnits) :=
  ⟨⟨svc, by decide +kernel⟩,
    ⟨{ pouring [{ pour1 with exps := [expo1] }] svc with image := { (pouring [{ pour1 with exps := [expo1] }] svc).image with nextSlot := ms 3, slotNo := 5, sampled := some ref1 } },
      { pour1 with exps := [expo1] }, expo1, ref1, ref1, [], by decide +kernel⟩⟩

theorem witness_CoreRowSendsTheRowOfItsLadle :
    ∃ (f : Nat) (s : State) (p : Pour) (r : LadleRow), f < 16 ∧ s.image.flasks.length = 16 ∧ s.lanes.queues.length = 4 ∧
      s.pace.runs.length = 16 ∧ s.image.pours = [p] ∧ p.area = true ∧ p.acq = false ∧ p.idx = r.ref.pour ∧ (s.flask f).rows
      = [r] ∧ r.slag = false ∧ s.nextToCome p r.ref = false ∧ (p.bank = 255 ∨ (s.flask f).window.contains r.ref = true) ∧
      digFactor p.cfg = 1 ∧ fusedOut p.cfg = false ∧ (∃ u ∈ s.lanes.tundish, u.idx = p.idx) :=
  ⟨15,
    { (pouring [pour1] svc).onFlask 15 (fun x => { x with rows := [row1] }) with lanes := { svc.lanes with tundish := [tpour1] } },
    pour1, row1, by decide +kernel⟩

theorem witness_MapWindowTakesTheNextRowsEntries :
    (∃ (f : Nat) (s : State) (r : LadleRow) (p : Pour), f < 16 ∧ s.image.flasks.length = 16 ∧ s.nextWindowRow f = some r ∧
      s.pourOf r.ref.pour = some p ∧ p.bank ≤ 1 ∧ r.ref.row < 1024) ∧
    (∃ (f : Nat) (s : State) (r : LadleRow) (p : Pour) (w : Nat), f < 16 ∧ s.image.flasks.length = 16 ∧ s.nextWindowRow f =
      some r ∧ s.pourOf r.ref.pour = some p ∧ p.bank ≤ 1 ∧ r.ref.row < 1024 ∧ inWords (rowWords p.bank r.ref.row f) w =
      true) :=
  ⟨⟨15, (pouring [{ pour1 with bank := 1 }] svc).onFlask 15 (fun x => { x with rows := [row1] }), row1,
      { pour1 with bank := 1 }, by decide +kernel⟩,
    ⟨15, (pouring [{ pour1 with bank := 1 }] svc).onFlask 15 (fun x => { x with rows := [row1] }), row1,
      { pour1 with bank := 1 }, entryWord 1 (pixelIndex 0 15360), by decide +kernel⟩⟩

theorem witness_StartEventsMakePours :
    (∃ (tr : Transport) (s : State), s.admits { tr := tr, key := 0x210007, len := 1, val := 1 } ∧ s.rd 0x210001 = 0 ∧ s.rd
      0x210002 = 5 ∧ s.takesPour s.now) ∧
    (∃ (s : State) (h : Held), s.image.held = some h ∧ s.stage.queue = [] ∧ s.startAt s.dict h.at_ ≤ s.now) ∧
    (∃ (s : State) (x : Instant), s.freeRunAt = some x ∧ x ≤ s.now ∧ s.takesEvents) ∧
    (∃ (pin : Nat) (level : Bool) (s : State), pin < s.timing.trig.length ∧ s.timing.clk100 = true ∧ nth s.timing.trig pin
      level ≠ level ∧ s.rd 0x210001 = 0 ∧ s.rd 0x210002 = 3 ∧ s.rd 0x210003 = pin ∧ (s.rd 0x210004 = if level = true then 0
      else 1) ∧ s.takesPour (s.now - 570)) :=
  ⟨⟨.twi, area, by delta State.admits State.takesPour State.takesEvents; decide +kernel⟩,
    ⟨{ area with image := { area.image with held := some ⟨0⟩ } }, ⟨0⟩, by decide +kernel⟩,
    ⟨{ put [(0x210002, 1)] area with image := { area.image with freeAt := some (ms 50) } }, ms 50,
      by delta State.takesEvents; decide +kernel⟩,
    ⟨3, true, put [(0x210002, 3), (0x210003, 3)] area, by delta State.takesPour State.takesEvents; decide +kernel⟩⟩

theorem witness_StartEventsThatCannotStartAreHeldOrCounted :
    (∃ (tr : Transport) (s : State), s.admits { tr := tr, key := 0x210007, len := 1, val := 1 } ∧ s.rd 0x210002 ≠ 5) ∧
    (∃ (tr : Transport) (s : State), s.admits { tr := tr, key := 0x210007, len := 1, val := 1 } ∧ s.rd 0x210002 = 5 ∧ s.rd
      0x210001 = 0 ∧ s.eventsOff = false ∧ s.stage.queue = [] ∧ s.image.held = none ∧ s.scheduleOk s.dict s.now = false) ∧
    (∃ (tr : Transport) (s : State), s.admits { tr := tr, key := 0x210007, len := 1, val := 1 } ∧ s.rd 0x210002 = 5 ∧ s.rd
      0x210001 = 0 ∧ s.eventsOff = false ∧ s.stage.queue = [] ∧ s.image.held.isSome = true) ∧
    (∃ (tr : Transport) (s : State), s.admits { tr := tr, key := 0x210007, len := 1, val := 1 } ∧ s.rd 0x210002 = 5 ∧ s.rd
      0x210001 = 0 ∧ s.quiet = true ∧ s.rd 0xB02002 = 0) :=
  ⟨⟨.ring, svc, by delta State.admits; decide +kernel⟩,
    ⟨.ring, { area with image := { area.image with releaseAt := ms 1000 } }, by delta State.admits; decide +kernel⟩,
    ⟨.twi, { area with image := { area.image with held := some ⟨0⟩ } }, by delta State.admits; decide +kernel⟩,
    ⟨.twi, { area with therm := { area.therm with quench := true } }, by delta State.admits; decide +kernel⟩⟩

theorem witness_ExposuresOpenAndStore :
    (∃ (s : State) (p : Pour) (e : Exposure) (l : List Exposure), s.image.pours = [p] ∧ p.exps = e :: l ∧
      s.timing.timers.length = 8 ∧ e.stage = ExpStage.planned ∧ e.grst ≤ s.now) ∧
    (∃ (s : State) (p : Pour) (e : Exposure) (l : List Exposure) (x : Instant), s.image.pours = [p] ∧ p.exps = e :: l ∧
      s.timing.timers.length = 8 ∧ x = max e.tx (s.image.releaseAt + ns 170) ∧ e.stage = ExpStage.opened ∧ x ≤ s.now ∧
      e.toRead ≠ [] ∧ (∀ y ∈ l, y.stage ≠ ExpStage.stored)) :=
  ⟨⟨pouring [{ pour1 with exps := [expo1] }] svc, { pour1 with exps := [expo1] }, expo1, [], by decide +kernel⟩,
    ⟨pouring [{ pour1 with exps := [{ expo1 with stage := .opened }] }] svc,
      { pour1 with exps := [{ expo1 with stage := .opened }] }, { expo1 with stage := .opened }, [], ms 2,
      by decide +kernel⟩⟩

theorem witness_LineTriggersMakeLines :
    (∃ (tr : Transport) (s : State), s.admits { tr := tr, key := 0x340106, len := 1, val := 1 } ∧ s.rd 0x210001 = 1 ∧ s.rd
      0x340101 = 5 ∧ s.takesEvents) ∧
    (∃ (s : State) (x : Instant), s.freeLineAt = some x ∧ x ≤ s.now ∧ s.takesEvents) ∧
    (∃ (tr : Transport) (s : State), s.admits { tr := tr, key := 0x340106, len := 1, val := 1 } ∧ s.rd 0x340101 ≠ 5) :=
  ⟨⟨.twi, { put [(0x340101, 5), (0x210001, 1)] svc with tdi := { svc.tdi with origin := some 0 } },
      by delta State.admits State.takesEvents; decide +kernel⟩,
    ⟨{ put [(0x340101, 1), (0x210001, 1)] svc with tdi := { svc.tdi with origin := some 0, freeAt := some (ms 50) } }, ms
      50, by delta State.takesEvents; decide +kernel⟩,
    ⟨.ring, svc, by delta State.admits; decide +kernel⟩⟩

theorem witness_TdiRestartClosesTheWebLines :
    (∃ (tr : Transport) (s : State), s.admits { tr := tr, key := 0x344003, len := 1, val := 1 } ∧ s.rd 0x210001 = 1 ∧ s.rd
      0x340101 = 0) ∧
    (∃ (tr : Transport) (s : State), s.admits { tr := tr, key := 0x344003, len := 1, val := 1 } ∧ s.rd 0x210001 = 1 ∧ s.rd
      0x340101 ≠ 0) ∧
    (∃ (tr : Transport) (s : State), s.admits { tr := tr, key := 0x344003, len := 1, val := 1 } ∧ s.rd 0x210001 = 0) :=
  ⟨⟨.ring, put [(0x210001, 1), (0x340101, 0)] svc, by delta State.admits; decide +kernel⟩,
    ⟨.twi, put [(0x210001, 1), (0x340101, 5)] svc, by delta State.admits; decide +kernel⟩,
    ⟨.twi, svc, by delta State.admits; decide +kernel⟩⟩

theorem witness_CaptureEdgesAreQueuedAndReadsTakeTheOldestEntry :
    (∃ (ch : Nat) (level : Bool) (s : State), ch < s.timing.captures.length ∧ s.timing.clk100 = true ∧ (s.capture ch).level
      ≠ level ∧ s.rd (0x510101 + ch) = 1 ∧ (s.rd (0x510201 + ch) = 2 ∨ s.rd (0x510201 + ch) = if level = true then 0 else 1)
      ∧ s.rd 0x210001 = 0 ∧ s.rd 0x210002 ≠ 2 ∧ s.rd (0x510701 + ch) < 4294967295 ∧ (s.capture ch).pre + 1 < s.rd (0x510401
      + ch)) ∧
    (∃ (ch : Nat) (level : Bool) (s : State), ch < s.timing.captures.length ∧ s.timing.clk100 = true ∧ (s.capture ch).level
      ≠ level ∧ s.rd (0x510101 + ch) = 1 ∧ (s.rd (0x510201 + ch) = 2 ∨ s.rd (0x510201 + ch) = if level = true then 0 else 1)
      ∧ s.rd 0x210001 = 0 ∧ s.rd 0x210002 ≠ 2 ∧ s.rd (0x510701 + ch) < 4294967295 ∧ s.rd (0x510401 + ch) ≤ (s.capture
      ch).pre + 1) ∧
    (∃ (s : State), s.timing.clk100 = false) ∧
    (∃ (tr : Transport) (ch : Nat) (s : State), ch < 4 ∧ s.timing.captures.length = 4 ∧ s.admitsRead tr (0x510501 + ch)) ∧
    (∃ (tr : Transport) (ch : Nat) (s : State), ch < 4 ∧ s.timing.captures.length = 4 ∧ s.admitsRead tr (0x510901 + ch)) :=
  ⟨⟨3, true, put [(0x510104, 1), (0x510204, 2), (0x510404, 2)] svc, by decide +kernel⟩,
    ⟨3, true, put [(0x510104, 1), (0x510204, 2), (0x510404, 1)] svc, by decide +kernel⟩,
    ⟨{ svc with timing := { svc.timing with clk100 := false } }, by decide +kernel⟩,
    ⟨.ring, 3, svc, by delta State.admitsRead; decide +kernel⟩,
    ⟨.ring, 3, svc, by delta State.admitsRead; decide +kernel⟩⟩

theorem witness_QuadratureEdgesCount :
    (∃ (s : State), (s.rd 0x210001 ≠ 1 ∨ s.rd 0x340101 ≠ 6) ∧ s.timing.clk100 = false) ∧
    (∃ (s : State), (s.rd 0x210001 ≠ 1 ∨ s.rd 0x340101 ≠ 6) ∧ s.timing.clk100 = true) :=
  ⟨⟨{ svc with timing := { svc.timing with clk100 := false } }, by decide +kernel⟩,
    ⟨svc, by decide +kernel⟩⟩

theorem witness_EncoderZAndPositionChange :
    (∃ (s : State), s.timing.clk100 = false) ∧
    (∃ (s : State), s.timing.clk100 = true) ∧
    (∃ (s : State), s.timing.clk100 = true ∧ s.timing.sampleAt ≤ s.now) :=
  ⟨⟨{ svc with timing := { svc.timing with clk100 := false } }, by decide +kernel⟩,
    ⟨svc, by decide +kernel⟩,
    ⟨svc, by decide +kernel⟩⟩

theorem witness_APresetOfThePositionIsRefusedWhileItIsInUse :
    (∃ (tr : Transport) (v : Nat) (s : State), s.admits { tr := tr, key := 0x520001, len := 4, val := v } ∧ (s.rd 0x210001 =
      1 ∧ s.rd 0x340101 = 6 ∨ ∃ e ∈ s.stage.queue, ∃ x, e.bound = Boundary.encoder x)) ∧
    (∃ (tr : Transport) (v : Nat) (s : State), s.admits { tr := tr, key := 0x520001, len := 4, val := v } ∧ (¬(s.rd 0x210001
      = 1 ∧ s.rd 0x340101 = 6 ∨ ∃ e ∈ s.stage.queue, ∃ x, e.bound = Boundary.encoder x))) :=
  ⟨⟨.twi, 0xFFFFFFFF, put [(0x210001, 1), (0x340101, 6)] svc,
      by delta State.admits; refine ⟨?_, (.inl ?_)⟩ <;> decide +kernel⟩,
    ⟨.ring, 0, svc,
      by delta State.admits; refine ⟨?_, (fun h => h.elim ?_ fun ⟨_, h, _⟩ => nomatch (show _ ∈ ([] : List Entry) from h))⟩ <;> decide +kernel⟩⟩

theorem witness_ALowWordReadLatchesTheHighWordOfItsTransport :
    ∃ (tr : Transport) (s : State), s.admitsRead tr 0x520002 :=
  ⟨.ring, svc, by delta State.admitsRead; decide +kernel⟩

theorem witness_TimerCommandsActOnTheirChannelAlone :
    (∃ (ch : Nat) (s : State), ch < s.timing.timers.length ∧ s.timerBit ch 2 = false ∧ ((s.timer ch).mode = 1 ∨ (s.timer
      ch).mode = 2) ∧ (s.timer ch).per ≠ 0 ∧ (s.timer ch).pos = 0 ∧ s.timing.clk100 = true) ∧
    (∃ (ch : Nat) (s : State), ch < s.timing.timers.length ∧ s.timerBit ch 2 = true ∧ ((s.timer ch).mode = 1 ∨ (s.timer
      ch).mode = 2) ∧ (s.timer ch).lfPos = 0) ∧
    (∃ (ch : Nat) (s : State), ch < s.timing.timers.length) ∧
    (∃ (ch : Nat) (s : State), ch < s.timing.timers.length ∧ (s.timer ch).mode = 3 ∧ (s.timer ch).running = true ∧ (s.timer
      ch).window = true ∧ (s.timer ch).delay ≤ (s.timer ch).count ∧ (s.timer ch).pulse = false ∧ s.now + 1140 ≤ (s.timer
      ch).txAt) ∧
    (∃ (ch : Nat) (s : State), ch < s.timing.timers.length ∧ (s.timer ch).mode = 3 ∧ (s.timer ch).pulse = true ∧ ((s.timer
      ch).delay + (s.timer ch).width ≤ (s.timer ch).count ∨ (s.timer ch).txAt < s.now + 570)) :=
  ⟨⟨7, timed { Timer.reset with mode := 1, per := 5 }, by decide +kernel⟩,
    ⟨7, put [(0x500808, 4)] (timed { Timer.reset with mode := 2, per := 5, pos := 3 }), by decide +kernel⟩,
    ⟨7, svc, by decide +kernel⟩,
    ⟨7, timed { Timer.reset with mode := 3, running := true, window := true, txAt := ms 100 + 1140 }, by decide +kernel⟩,
    ⟨7, timed { Timer.reset with mode := 3, pulse := true }, by decide +kernel⟩⟩

theorem witness_RestartAndPrescalerResetActOnTheirMask :
    (∃ (tr : Transport) (v : Nat) (s : State), s.timing.timers.length = 8 ∧ s.admits
      { tr := tr, key := 0x500901, len := 1, val := v }) ∧
    (∃ (tr : Transport) (v : Nat) (s : State), s.admits { tr := tr, key := 0x510C01, len := 1, val := v }) :=
  ⟨⟨.twi, 255, svc, by delta State.admits; decide +kernel⟩,
    ⟨.ring, 15, svc, by delta State.admits; decide +kernel⟩⟩

theorem witness_TimersMoveToTheLfClock :
    (∃ (s : State), s.timing.clk100 = false ∧ s.timing.driven = true ∧ (s.now - s.timing.lfAt) * 32768 < 57000000000) ∧
    (∃ (s : State), s.timing.clk100 = false ∧ s.timing.driven = true ∧ 57000000000 ≤ (s.now - s.timing.lfAt) * 32768 ∧
      s.timing.lfOn = false) :=
  ⟨⟨{ svc with timing := { svc.timing with clk100 := false, driven := true, lfAt := ms 100 } }, by decide +kernel⟩,
    ⟨{ svc with timing := { svc.timing with clk100 := false, driven := true } }, by decide +kernel⟩⟩

theorem witness_SelfCalibrationRunsAndPosts :
    (∃ (tr : Transport) (s : State), s.admits { tr := tr, key := 0x300101, len := 1, val := 1 } ∧ s.rd 0x210002 = 0 ∧ s.rd
      0x340101 = 0 ∧ s.rowsToConvert = false ∧ s.conv.calAt = none ∧ s.corr.cal = none ∧ s.corr.mapWrite = none ∧
      s.therm.quench = false) ∧
    (∃ (tr : Transport) (s : State), s.admits { tr := tr, key := 0x300101, len := 1, val := 1 } ∧ (¬(s.rd 0x210002 = 0 ∧
      s.rd 0x340101 = 0 ∧ s.rowsToConvert = false ∧ s.conv.calAt = none ∧ s.corr.cal = none ∧ s.corr.mapWrite = none ∧
      s.therm.quench = false))) ∧
    (∃ (x : Instant) (s : State), s.conv.calAt = some x ∧ s.now < x + ms 38) ∧
    (∃ (l : List ConvMeasure) (x : Instant) (s : State), s.conv.calAt = some x ∧ x + ms 38 ≤ s.now ∧ failedConverters l = []
      ∧ s.conv.gains.length = 260 ∧ s.conv.offsets.length = 260 ∧ s.conv.gtrims.length = 260 ∧ s.conv.otrims.length = 260 ∧
      s.conv.weights.length = 260) :=
  ⟨⟨.twi, svc, by delta State.admits; decide +kernel⟩,
    ⟨.twi, area, by delta State.admits; decide +kernel⟩,
    ⟨ms 100, { svc with conv := { svc.conv with calAt := some (ms 100) } }, by decide +kernel⟩,
    ⟨[], ms 62, { svc with conv := { svc.conv with calAt := some (ms 62) } }, by decide +kernel⟩⟩

theorem witness_TrimsStayWithinTheirLimits :
    ∃ (s : State), s.rd 0x300201 ≠ 0 ∧ 2 ^ s.rd 0x300202 ≤ s.conv.slots ∧ s.conv.pendG.length = 260 ∧ s.conv.pendO.length =
      260 ∧ s.conv.sums.length = 260 :=
  ⟨{ put [(0x300201, 1), (0x300202, 0)] svc with conv := { svc.conv with slots := 1 } }, by decide +kernel⟩

theorem witness_CalibrationRunsStartOrAreRefused :
    (∃ (tr : Transport) (s : State), s.admits { tr := tr, key := 0x420001, len := 1, val := 1 } ∧ (s.calFree && s.calAllowed
      1) = false) ∧
    (∃ (tr : Transport) (s : State), s.admits { tr := tr, key := 0x420001, len := 1, val := 1 } ∧ (s.calFree && s.calAllowed
      1) = true ∧ (1 = 5 → s.readable (s.copyWords (s.rd 0x420006)) = true)) ∧
    (∃ (tr : Transport) (s : State), s.admits { tr := tr, key := 0x420001, len := 1, val := 2 } ∧ (s.calFree && s.calAllowed
      2) = false) ∧
    (∃ (tr : Transport) (s : State), s.admits { tr := tr, key := 0x420001, len := 1, val := 2 } ∧ (s.calFree && s.calAllowed
      2) = true ∧ (2 = 5 → s.readable (s.copyWords (s.rd 0x420006)) = true)) ∧
    (∃ (tr : Transport) (s : State), s.admits { tr := tr, key := 0x420001, len := 1, val := 3 } ∧ (s.calFree && s.calAllowed
      3) = false) ∧
    (∃ (tr : Transport) (s : State), s.admits { tr := tr, key := 0x420001, len := 1, val := 3 } ∧ (s.calFree && s.calAllowed
      3) = true ∧ (3 = 5 → s.readable (s.copyWords (s.rd 0x420006)) = true)) ∧
    (∃ (tr : Transport) (s : State), s.admits { tr := tr, key := 0x420001, len := 1, val := 4 } ∧ (s.calFree && s.calAllowed
      4) = false) ∧
    (∃ (tr : Transport) (s : State), s.admits { tr := tr, key := 0x420001, len := 1, val := 4 } ∧ (s.calFree && s.calAllowed
      4) = true ∧ (4 = 5 → s.readable (s.copyWords (s.rd 0x420006)) = true)) ∧
    (∃ (tr : Transport) (s : State), s.admits { tr := tr, key := 0x420001, len := 1, val := 5 } ∧ (s.calFree && s.calAllowed
      5) = false) ∧
    (∃ (tr : Transport) (s : State), s.admits { tr := tr, key := 0x420001, len := 1, val := 5 } ∧ (s.calFree && s.calAllowed
      5) = true ∧ (5 = 5 → s.readable (s.copyWords (s.rd 0x420006)) = true)) ∧
    (∃ (tr : Transport) (s : State), s.admits { tr := tr, key := 0x420001, len := 1, val := 5 } ∧ (s.calFree && s.calAllowed
      5) = true ∧ 5 = 5 ∧ s.readable (s.copyWords (s.rd 0x420006)) = false) :=
  ⟨⟨.ring, put [(0x210002, 5)] calm, by delta State.admits; decide +kernel⟩,
    ⟨.ring, calm, by delta State.admits; decide +kernel⟩,
    ⟨.twi, put [(0x210002, 5)] calm, by delta State.admits; decide +kernel⟩,
    ⟨.twi, calm, by delta State.admits; decide +kernel⟩,
    ⟨.ring, put [(0x210002, 5)] calm, by delta State.admits; decide +kernel⟩,
    ⟨.ring, calm, by delta State.admits; decide +kernel⟩,
    ⟨.twi, put [(0x210002, 5)] calm, by delta State.admits; decide +kernel⟩,
    ⟨.twi, calm, by delta State.admits; decide +kernel⟩,
    ⟨.ring, put [(0x210002, 5)] calm, by delta State.admits; decide +kernel⟩,
    ⟨.ring, calm, by delta State.admits; decide +kernel⟩,
    ⟨.twi, { calm with mram := { calm.mram with errs := [(1114113, true)] } }, by delta State.admits; decide +kernel⟩⟩

theorem witness_AcquisitionPoursAddUpAndAreChecked :
    (∃ (c : Cal) (s : State), s.corr.cal = some c ∧ c.started = true ∧ c.pours < acqPours c.run ∧ s.rd 0x420008 = 1 ∧
      s.converterClock = true ∧ s.stage.queue = [] ∧ s.startAt (s.calValues c.run) (c.at_ + c.pours * s.calPeriod c.run) ≤
      s.now) ∧
    (∃ (c : Cal) (s : State) (n : Nat), s.corr.cal = some c ∧ c.started = true ∧ acqPours c.run ≤ c.pours ∧ s.rd 0x420008 =
      1 ∧ s.image.pours.any Pour.acq = false ∧ s.calCheck c = some n) ∧
    (∃ (c : Cal) (s : State), s.corr.cal = some c ∧ c.started = true ∧ acqPours c.run ≤ c.pours ∧ s.rd 0x420008 = 1 ∧
      s.image.pours.any Pour.acq = false ∧ s.calCheck c = none ∧ c.run = 4) ∧
    (∃ (c : Cal) (s : State) (k : SetSlot) (w : List (Nat × Nat)), s.corr.cal = some c ∧ c.started = true ∧ acqPours c.run ≤
      c.pours ∧ s.rd 0x420008 = 1 ∧ s.image.pours.any Pour.acq = false ∧ s.calCheck c = none ∧ s.setCopy c.target = some k ∧
      s.readable (s.copyWords c.target) = true ∧ (c.run = 1 ∧ s.darkResult c k = some w ∨ c.run = 2 ∧ columnResult s.dict c
      k = some w)) ∧
    (∃ (c : Cal) (s : State) (v : Nat), s.corr.cal = some c ∧ c.started = true ∧ acqPours c.run ≤ c.pours ∧ s.rd 0x420008 =
      1 ∧ s.image.pours.any Pour.acq = false ∧ s.calCheck c = none ∧ c.run = 3 ∧ s.flatResult c = some v) ∧
    (∃ (c : Cal) (s : State), s.corr.cal = some c ∧ c.started = false ∧ s.booked ≤ 8388608) ∧
    (∃ (c : Cal) (s : State), s.corr.cal = some c ∧ c.started = false ∧ 8388608 < s.booked ∧ c.at_ + ms 10000 ≤ s.now) :=
  ⟨⟨run4 255, running 1 (run4 255), by decide +kernel⟩,
    ⟨{ run4 256 with slag := true }, running 1 { run4 256 with slag := true }, 9, by decide +kernel⟩,
    ⟨run4 256, running 1 (run4 256), by decide +kernel⟩,
    ⟨{ run4 256 with run := 1, target := 1, point := some 0 },
      { calm with dict := (running 1 (run4 0)).dict, corr := { svc.corr with cal := some { run4 256 with run := 1, target := 1, point := some 0 } } },
      { SetSlot.unused with set := 1 }, [(2053, 0), (2054, 0)], by decide +kernel⟩,
    ⟨{ run4 256 with run := 3 }, running 1 { run4 256 with run := 3 }, profileDefault, by decide +kernel⟩,
    ⟨{ run4 0 with started := false }, running 1 { run4 0 with started := false }, by decide +kernel⟩,
    ⟨{ run4 0 with started := false },
      { running 1 { run4 0 with started := false } with lanes := { svc.lanes with tundish := [{ tpour1 with sprues := [8388609, 0, 0, 0] }] } },
      by decide +kernel⟩⟩

theorem witness_NewMapsAreWrittenSegmentBySegment :
    (∃ (c : Cal) (s : State), s.corr.cal = some c ∧ s.rd 0x420008 = 2 ∧ c.at_ + us 75600 ≤ s.now ∧ s.inhibited = false ∧
      s.bankInUse s.idleBank = false ∧ s.defectsOk (List.map (fun q => (pixelIndex q.row q.col, newEntry c s.liveEntry q.row
      q.col)) c.sums) = true) ∧
    (∃ (b : Nat) (c : Cal) (s : State), s.corr.mapWrite = some b ∧ s.corr.cal = some c ∧ s.inhibited = true) ∧
    (∃ (b : Nat) (c : Cal) (s : State), s.corr.mapWrite = some b ∧ s.corr.cal = some c ∧ s.inhibited = false ∧ c.at_ + ms 55
      ≤ s.now ∧ s.corr.mapDone < 31) ∧
    (∃ (b : Nat) (c : Cal) (s : State), s.corr.mapWrite = some b ∧ s.corr.cal = some c ∧ s.inhibited = false ∧ c.at_ + ms 55
      ≤ s.now ∧ s.corr.mapDone = 31 ∧ s.rd 0x401006 = 1) ∧
    (∃ (b : Nat) (c : Cal) (s : State), s.corr.mapWrite = some b ∧ s.corr.cal = some c ∧ s.inhibited = false ∧ c.at_ + ms 55
      ≤ s.now ∧ c.retried = true) ∧
    (∃ (k : SetCommit) (s : State), s.corr.commit = some k ∧ s.inhibited = false ∧ k.cal = true ∧ k.set ≤ 2 ∧ s.rd 0x400101
      ≠ k.set ∧ (∃ x ∈ s.mram.sets, x.current = false)) ∧
    (∃ (s : State), s.corr.loading.isSome = true) :=
  ⟨⟨run4 256, put [(0x401001, 0xFF)] (running 2 (run4 256)),
      by refine ⟨?_, ?_, ?_, ?_, ?_, (witness_no_defects _ ?_)⟩ <;> decide +kernel⟩,
    ⟨1, run4 256, writing true (run4 256), by decide +kernel⟩,
    ⟨1, run4 256, writing false (run4 256), by decide +kernel⟩,
    ⟨1, run4 256,
      { put [(0x401006, 1)] (writing false (run4 256)) with corr := { (writing false (run4 256)).corr with mapDone := 31 } },
      by decide +kernel⟩,
    ⟨1, { run4 256 with retried := true }, writing false { run4 256 with retried := true }, by decide +kernel⟩,
    ⟨⟨1, [], true⟩, { svc with corr := { svc.corr with commit := some ⟨1, [], true⟩ } }, by decide +kernel⟩,
    ⟨{ svc with corr := { svc.corr with loading := some 0 } }, by decide +kernel⟩⟩

theorem witness_MapAndSetUploadsRunToTheirEnd :
    (∃ (tr : Transport) (s : State), s.admits { tr := tr, key := 0x421001, len := 1, val := 1 } ∧ s.uploadFree = true ∧
      (s.calLocked && s.idleBank == s.factoryBank) = false) ∧
    (∃ (tr : Transport) (s : State), s.admits { tr := tr, key := 0x421001, len := 1, val := 1 } ∧ (s.uploadFree = false ∨
      s.calLocked = true ∧ s.idleBank = s.factoryBank)) ∧
    (∃ (tr : Transport) (v : Nat) (s : State), (v = 2 ∨ v = 3) ∧ s.admits { tr := tr, key := 0x421001, len := 1, val := v }
      ∧ s.uploadFree = true) ∧
    (∃ (tr : Transport) (u : Upload) (w : List (Nat × Nat)) (s : State), s.admits
      { tr := tr, key := 0x421002, len := 1, val := 1 } ∧ s.corr.upload = some u ∧ u.what ≠ 1 ∧ u.segData = some w ∧
      s.corr.commit = none ∧ u.finish = false ∧ userPointsOk (uploadedPoints w) = true) ∧
    (∃ (tr : Transport) (u : Upload) (s : State), s.admits { tr := tr, key := 0x421002, len := 1, val := 1 } ∧ s.corr.upload
      = some u ∧ u.what = 1 ∧ u.begun = true ∧ u.finish = false ∧ u.writing = none ∧ s.corr.commit = none ∧ s.rd 0x421004 =
      2 ^ 32 - 1 ∧ s.inhibited = false ∧ s.rd 0x401006 = 1) ∧
    (∃ (tr : Transport) (u : Upload) (s : State), s.admits { tr := tr, key := 0x421003, len := 1, val := 1 } ∧ s.corr.upload
      = some u) ∧
    (∃ (u : Upload) (s : State), s.corr.upload = some u ∧ s.corr.commit = none ∧ s.uploadPaused u = false ∧ u.lastAt + ms
      10000 ≤ s.now) ∧
    (∃ (tr : Transport) (v : Nat) (s : State), s.admits { tr := tr, key := 0x401006, len := 1, val := v } ∧ s.corr.waiting =
      none) :=
  ⟨⟨.ring, svc, by delta State.admits; decide +kernel⟩,
    ⟨.ring, { svc with corr := { svc.corr with upload := some upload2 } }, by delta State.admits; decide +kernel⟩,
    ⟨.ring, 3, svc, by delta State.admits; decide +kernel⟩,
    ⟨.ring, { upload2 with segData := some points5 }, points5,
      { svc with corr := { svc.corr with upload := some { upload2 with segData := some points5 } } },
      by delta State.admits; decide +kernel⟩,
    ⟨.ring, { upload2 with what := 1, begun := true },
      { put [(0x421004, 0xFFFFFFFF), (0x401006, 1)] svc with corr := { svc.corr with upload := some { upload2 with what := 1, begun := true } } },
      by delta State.admits; decide +kernel⟩,
    ⟨.ring, upload2, { svc with corr := { svc.corr with upload := some upload2 } }, by delta State.admits; decide +kernel⟩,
    ⟨upload2, { svc with now := ms 10000, corr := { svc.corr with upload := some upload2 } }, by decide +kernel⟩,
    ⟨.ring, 1, svc, by delta State.admits; decide +kernel⟩⟩

theorem witness_UplinkStatesFollowTheReceiver :
    (∃ (ul : Nat) (s : State), ul < 2 ∧ s.rd (0x900301 + ul) < 2 ∧ s.lanes.released = true) ∧
    (∃ (ul : Nat) (s : State), ul < 2 ∧ s.lanes.released = true) ∧
    (∃ (ul : Nat) (s : State), ul < 2 ∧ 2 ≤ s.rd (0x900301 + ul)) ∧
    (∃ (ul : Nat) (s : State) (packet : List Byte), ul < 2 ∧ (s.rd (0x900301 + ul) = 2 ∧ uplinkDecode packet = none ∨ s.rd
      (0x900301 + ul) = 3)) ∧
    (∃ (ul : Nat) (s : State), ul < 2 ∧ s.rd (0x900301 + ul) < 2) ∧
    (∃ (ul : Nat) (packet : List Byte) (useq : Nat) (mask : Nat) (limits : List Nat), ul < 2 ∧ uplinkDecode packet = some
      (useq, UplinkBody.grant mask limits)) ∧
    (∃ (ul : Nat) (packet : List Byte) (useq : Nat) (target : Nat) (segment : Nat) (offset : Nat) (data : List Byte), ul < 2
      ∧ uplinkDecode packet = some (useq, UplinkBody.chunk target segment offset data)) ∧
    (∃ (ul : Nat) (packet : List Byte) (useq : Nat) (target : Nat) (segment : Nat) (length : Nat) (crc : Nat), ul < 2 ∧
      uplinkDecode packet = some (useq, UplinkBody.segEnd target segment length crc)) ∧
    (∃ (ul : Nat) (packet : List Byte) (useq : Nat) (lane : Nat), ul < 2 ∧ uplinkDecode packet = some (useq, UplinkBody.lane
      1 lane)) ∧
    (∃ (ul : Nat) (packet : List Byte) (useq : Nat) (lane : Nat), ul < 2 ∧ uplinkDecode packet = some (useq, UplinkBody.lane
      2 lane)) ∧
    (∃ (ul : Nat) (packet : List Byte) (useq : Nat) (lane : Nat), ul < 2 ∧ uplinkDecode packet = some (useq, UplinkBody.lane
      3 lane)) :=
  ⟨⟨1, { svc with lanes := { svc.lanes with released := true } }, by decide +kernel⟩,
    ⟨1, { svc with lanes := { svc.lanes with released := true } }, by decide +kernel⟩,
    ⟨1, put [(0x900302, 2)] svc, by decide +kernel⟩,
    ⟨1, put [(0x900302, 2)] svc, [], by decide +kernel⟩,
    ⟨1, put [(0x900302, 1)] svc, by decide +kernel⟩,
    ⟨1, uplink 0x41 7 (List.replicate 132 1), 7, 0x01010101, List.replicate 32 0x01010101, by decide +kernel⟩,
    ⟨1, uplink 0x42 7 (List.replicate 72 1), 7, 1, 257, 0x01010101, List.replicate 64 1, by decide +kernel⟩,
    ⟨1, uplink 0x43 7 (List.replicate 12 1), 7, 1, 257, 0x01010101, 0x01010101, by decide +kernel⟩,
    ⟨1, uplink 0x44 7 [1, 3, 0, 0], 7, 3, by decide +kernel⟩,
    ⟨1, uplink 0x44 7 [2, 3, 0, 0], 7, 3, by decide +kernel⟩,
    ⟨1, uplink 0x44 7 [3, 0xFF, 0, 0], 7, 255, by decide +kernel⟩⟩

theorem witness_GrantsAndLaneCommandsActOnTheNamedLanes :
    (∃ (ul : Nat) (s : State), ul < 2 ∧ s.rd (0x900301 + ul) = 2) ∧
    (∃ (ul : Nat) (s : State), ul < 2 ∧ s.rd (0x900301 + ul) = 3) ∧
    (∃ (ul : Nat) (s : State) (lane : Nat), ul < 2 ∧ lane < 32 ∧ s.rd (0x900301 + ul) = 2) ∧
    (∃ (ul : Nat) (s : State) (lane : Nat), ul < 2 ∧ lane < 32 ∧ s.lanes.lanes.length = 32 ∧ s.rd (0x900301 + ul) = 2) ∧
    (∃ (ul : Nat) (s : State) (lane : Nat) (x : Instant), ul < 2 ∧ lane < 32 ∧ s.lanes.lanes.length = 32 ∧ (nth
      s.lanes.lanes lane Lane.reset).retrainUntil = some x ∧ x ≤ s.now) ∧
    (∃ (ul : Nat) (s : State) (lane : Nat), ul < 2 ∧ 32 ≤ lane ∧ lane ≠ 255 ∧ s.rd (0x900301 + ul) = 2) ∧
    (∃ (ul : Nat) (s : State) (tr : Transport) (v : Nat), ul < 2 ∧ s.admits
      { tr := tr, key := 0x900101, len := 4, val := v }) ∧
    (∃ (ul : Nat) (s : State) (tr : Transport) (v : Nat), ul < 2 ∧ s.admits
      { tr := tr, key := 0x900106, len := 1, val := v }) :=
  ⟨⟨1, put [(0x900302, 2)] svc, by decide +kernel⟩,
    ⟨1, put [(0x900302, 3)] svc, by decide +kernel⟩,
    ⟨1, put [(0x900302, 2)] svc, 31, by decide +kernel⟩,
    ⟨1, put [(0x900302, 2)] svc, 31, by decide +kernel⟩,
    ⟨1,
      { svc with lanes := { svc.lanes with lanes := setNth svc.lanes.lanes 31 { Lane.reset with retrainUntil := some (ms 100) } } },
      31, ms 100, by decide +kernel⟩,
    ⟨1, put [(0x900302, 2)] svc, 32, by decide +kernel⟩,
    ⟨1, svc, .twi, 0xFFFFFFFF, by delta State.admits; decide +kernel⟩,
    ⟨1, svc, .ring, 1, by delta State.admits; decide +kernel⟩⟩

theorem witness_BulkChunksFillStagingAndSegmentsAreChecked :
    (∃ (ul : Nat) (target : Nat) (segment : Nat) (offset : Nat) (data : List Byte) (s : State), ul < 2 ∧ s.rd (0x900301 +
      ul) = 2 ∧ 64 ≤ data.length ∧ data.length ≤ 4096 ∧ data.length % 64 = 0 ∧ s.chunkFault target segment offset
      data.length = none) ∧
    (∃ (ul : Nat) (target : Nat) (segment : Nat) (offset : Nat) (data : List Byte) (s : State) (cause : Nat), ul < 2 ∧ s.rd
      (0x900301 + ul) = 2 ∧ 64 ≤ data.length ∧ data.length ≤ 4096 ∧ data.length % 64 = 0 ∧ s.chunkFault target segment
      offset data.length = some cause) ∧
    (∃ (ul : Nat) (target : Nat) (segment : Nat) (length : Nat) (s : State) (l : Nat × Nat × Nat), ul < 2 ∧ s.rd (0x900301 +
      ul) = 2 ∧ s.targetOpen target = true ∧ s.dma.stage = Staging.filling target segment ∧ targetLimits target = some l ∧
      segment ≤ l.1 ∧ l.2.1 ≤ length ∧ length ≤ l.2.2) ∧
    (∃ (ul : Nat) (target : Nat) (segment : Nat) (length : Nat) (s : State), ul < 2 ∧ s.rd (0x900301 + ul) = 2 ∧
      s.targetOpen target = true ∧ s.dma.stage = Staging.filling target segment ∧ target = 4 ∧ segment = 0 ∧ 64 ≤ length ∧
      length ≤ 1048576) ∧
    (∃ (ul : Nat) (target : Nat) (segment : Nat) (s : State), ul < 2 ∧ s.rd (0x900301 + ul) = 2 ∧ s.dma.stage =
      Staging.filling target segment ∧ s.dma.stageAt + ms 10000 ≤ s.now) :=
  ⟨⟨1, 4, 0, 1048512, List.replicate 64 0, put [(0x900302, 2)] svc, by decide +kernel⟩,
    ⟨1, 5, 0, 0, List.replicate 4096 0, put [(0x900302, 2)] svc, 5, by decide +kernel⟩,
    ⟨1, 3, 255, 16384, staged 3 255, (255, 16384, 16384), by decide +kernel⟩,
    ⟨1, 4, 0, 1048576, staged 4 0, by decide +kernel⟩,
    ⟨1, 4, 0, { staged 4 0 with now := ms 10000 }, by decide +kernel⟩⟩

theorem witness_PacketsLeaveOnTheLaneWithTheMostCredit :
    (∃ (sp : Nat) (s : State) (p : Packet) (n : Nat), sp < 4 ∧ s.lanes.lanes.length = 32 ∧ s.lanes.stalled.length = 4 ∧
      s.image.flasks.length = 16 ∧ s.headOf sp = some p ∧ p.flask < 16 ∧ s.pickLane sp p.blocks = some n) ∧
    (∃ (sp : Nat) (s : State) (p : Packet) (n : Nat) (m : Nat), sp < 4 ∧ s.lanes.lanes.length = 32 ∧ s.lanes.stalled.length
      = 4 ∧ s.image.flasks.length = 16 ∧ s.headOf sp = some p ∧ p.flask < 16 ∧ s.pickLane sp p.blocks = some n ∧ m / 8 = sp
      ∧ s.laneFree p.blocks m = true) ∧
    (∃ (sp : Nat) (s : State) (p : Packet) (n : Nat) (m : Nat), sp < 4 ∧ s.lanes.lanes.length = 32 ∧ s.lanes.stalled.length
      = 4 ∧ s.image.flasks.length = 16 ∧ s.headOf sp = some p ∧ p.flask < 16 ∧ s.pickLane sp p.blocks = some n ∧ m / 8 = sp
      ∧ s.laneFree p.blocks m = true ∧ m < n) ∧
    (∃ (sp : Nat) (s : State) (n : Nat) (q : Sending), sp < 4 ∧ s.lanes.lanes.length = 32 ∧ s.lanes.stalled.length = 4 ∧
      s.image.flasks.length = 16 ∧ n < 32 ∧ (nth s.lanes.lanes n Lane.reset).sending = some q ∧ q.endsAt ≤ s.now) ∧
    (∃ (sp : Nat) (s : State) (n : Nat), sp < 4 ∧ s.lanes.lanes.length = 32 ∧ s.lanes.stalled.length = 4 ∧
      s.image.flasks.length = 16 ∧ n < 32 ∧ s.markerDue n = true ∧ (nth s.lanes.lanes n Lane.reset).sending = none) ∧
    (∃ (sp : Nat) (s : State) (x : Instant), sp < 4 ∧ s.lanes.lanes.length = 32 ∧ s.lanes.stalled.length = 4 ∧
      s.image.flasks.length = 16 ∧ nth s.lanes.headSince sp none = some x ∧ nth s.lanes.stalled sp false = false ∧ x + us
      (s.rd 0x901401) < s.now) :=
  ⟨⟨0, loaded, packet1, 1, by decide +kernel⟩,
    ⟨0, loaded, packet1, 1, 1, by decide +kernel⟩,
    ⟨0, loaded, packet1, 1, 0, by decide +kernel⟩,
    ⟨3,
      { svc with lanes := { svc.lanes with lanes := setNth svc.lanes.lanes 31 { Lane.reset with sending := some ⟨packet1, 0, 0, 0, false, 0⟩ } } },
      31, ⟨packet1, 0, 0, 0, false, 0⟩, by decide +kernel⟩,
    ⟨3, loaded, 31, by decide +kernel⟩,
    ⟨3, { svc with now := ms 100000, lanes := { svc.lanes with headSince := [none, none, none, some 0] } }, 0,
      by decide +kernel⟩⟩

theorem witness_AgedPoursAreDroppedWhole :
    (∃ (s : State), s.rd 0x902002 = 0) ∧
    (∃ (s : State) (u : TPour), s.droppable = some u ∧ s.rd 0x902002 ≠ 0 ∧ u.at_ + us (s.rd 0x902002) ≤ s.now) :=
  ⟨⟨put [(0x902002, 0)] svc, by decide +kernel⟩,
    ⟨{ put [(0x902002, 1000)] svc with lanes := { svc.lanes with tundish := [tpour1] } }, tpour1, by decide +kernel⟩⟩

theorem witness_RingLinkJoinsAndLeaves :
    (∃ (s : State), s.ringUp = true ∧ s.rd 0x120002 < 2) ∧
    (∃ (x : Instant) (s : State), s.ring.trainedAt = some x ∧ s.rd 0x120002 = 2 ∧ s.rd 0x120005 = 0 ∧ x + us 100 ≤ s.now) ∧
    (∃ (s : State), s.ringUp = true) ∧
    (∃ (tr : Transport) (v : Nat) (s : State), s.admits { tr := tr, key := 0x120005, len := 1, val := v }) :=
  ⟨⟨put [(0x120002, 1)] svc, by decide +kernel⟩,
    ⟨0, { put [(0x120002, 2)] svc with ring := { svc.ring with trainedAt := some 0 } }, by decide +kernel⟩,
    ⟨svc, by decide +kernel⟩,
    ⟨.twi, 1, svc, by delta State.admits; decide +kernel⟩⟩

theorem witness_FramesAreForwardedCountedOrDiscarded :
    (∃ (f : Frame) (s : State) (c : Instr), c ∈ [Instr.readRequest f, Instr.writeRequest f, Instr.enumerate f, Instr.sync f
      0, Instr.tap f, Instr.rollCall f, Instr.unknownFrameType f, Instr.frameForward f] ∧ s.ringActive = false) ∧
    (∃ (f : Frame) (s : State) (c : Instr), c ∈ [Instr.readRequest f, Instr.writeRequest f, Instr.enumerate f, Instr.sync f
      0, Instr.tap f, Instr.rollCall f, Instr.unknownFrameType f, Instr.frameForward f] ∧ s.ringActive = true ∧ 31 ≤ f.hops
      ∧ goodFrame f = true) ∧
    (∃ (f : Frame) (s : State) (c : Instr), c ∈ [Instr.readRequest f, Instr.writeRequest f, Instr.enumerate f, Instr.sync f
      0, Instr.tap f, Instr.rollCall f, Instr.unknownFrameType f, Instr.frameForward f] ∧ s.ringActive = true ∧ f.hops < 31
      ∧ goodFrame f = false) ∧
    (∃ (f : Frame) (s : State), s.ringActive = true ∧ f.hops < 31 ∧ goodFrame f = true ∧ s.ownFrame f = false) ∧
    (∃ (f : Frame) (s : State), s.ringActive = true ∧ f.hops < 31 ∧ goodFrame f = true ∧ s.ownFrame f = true ∧ s.serves =
      true) ∧
    (∃ (f : Frame) (l : List Frame) (s : State), s.ringActive = true ∧ s.ring.tx = f :: l ∧ s.ring.ins = [] ∧ s.ring.txFree
      ≤ s.now) :=
  ⟨⟨frame 5 0x10 0 [], svc, .enumerate (frame 5 0x10 0 []), by decide +kernel⟩,
    ⟨frame 5 0x01 31 [], onRing, .readRequest (frame 5 0x01 31 []), by decide +kernel⟩,
    ⟨{ frame 5 0x01 30 [] with crc := 0 }, onRing, .tap { frame 5 0x01 30 [] with crc := 0 }, by decide +kernel⟩,
    ⟨frame 6 0x01 30 [], onRing, by decide +kernel⟩,
    ⟨frame 5 0x33 30 [], onRing, by decide +kernel⟩,
    ⟨frame 0 0x81 0 [], [], { onRing with ring := { onRing.ring with tx := [frame 0 0x81 0 []] } }, by decide +kernel⟩⟩

theorem witness_ReadRequestsAreAnswered :
    ∃ (f : Frame) (s : State), s.ringActive = true ∧ f.hops < 31 ∧ goodFrame f = true ∧ s.ownFrame f = true ∧ f.typ = 1 ∧
      s.serves = true ∧ s.busy = false ∧ malformed f = false ∧ payloadField f.payload 3 1 = 0 ∧ (∀ k ∈ s.ring.kept, k.seq ≠
      f.seq) ∧ s.requestsHeld < 8 ∧ readAbort (reqKey f.payload) = none ∧ (s.present Transport.ring (reqKey
      f.payload)).length ≤ 240 ∧ (reqLen f.payload = 0 ∨ reqLen f.payload = (s.present Transport.ring (reqKey
      f.payload)).length) ∧ (∀ x ∈ s.wordsOf (reqKey f.payload), s.readable x = true) ∧ reqKey f.payload ≠ 0x120103 ∧ reqKey
      f.payload / 256 ∉ [20741, 20745] ∧ reqKey f.payload ∉ [0x520002, 0x600405, 0xC00005] :=
  ⟨frame 5 0x01 30 (request 0x100005 0 []), onRing, by decide +kernel⟩

theorem witness_WriteRequestsStageAndAnswer :
    ∃ (f : Frame) (s : State), s.ringActive = true ∧ f.hops < 31 ∧ goodFrame f = true ∧ s.ownFrame f = true ∧ f.typ = 2 ∧
      s.serves = true ∧ s.busy = false ∧ malformed f = false ∧ reqFlag f.payload 1 = false ∧ (∀ k ∈ s.ring.kept, k.seq ≠
      f.seq) ∧ s.requestsHeld < 8 ∧ s.stage.group = none ∧ s.writeAbort
      { tr := Transport.ring, key := reqKey f.payload, len := reqLen f.payload, val := leNat (List.drop 8 f.payload) } =
      none ∧ (∃ r, objRow (reqKey f.payload) = some r ∧ r.acc = Access.rws) ∧ objSize (reqKey f.payload) ≤ 240 ∧
      (s.stage.loose.insert (reqKey f.payload) (leNat (List.drop 8 f.payload))).bytes ≤ 65536 :=
  ⟨frame 5 0x02 30 (request 0x210003 1 [3]), onRing,
    by refine ⟨?_, ?_, ?_, ?_, ?_, ?_, ?_, ?_, ?_, ?_, ?_, ?_, ?_, (witness_rws ?_), ?_, ?_⟩ <;> decide +kernel⟩

set_option maxRecDepth 2000 in
theorem witness_BroadcastFramesActAndGoOn :
    (∃ (f : Frame) (s : State), s.ringActive = true ∧ f.hops < 31 ∧ goodFrame f = true ∧ f.dst = 254 ∧ f.typ = 16 ∧
      f.payload.length = 250 ∧ 1 ≤ payloadField f.payload 0 1 ∧ payloadField f.payload 0 1 ≤ 31) ∧
    (∃ (f : Frame) (s : State), s.ringActive = true ∧ f.hops < 31 ∧ goodFrame f = true ∧ f.dst = 255 ∧ f.typ = 19 ∧
      f.payload.length = 32 ∧ s.rd 0x120001 < 32) ∧
    (∃ (f : Frame) (s : State), s.ringActive = true ∧ f.hops < 31 ∧ goodFrame f = true ∧ f.dst = 255 ∧ f.typ = 17 ∧
      f.payload.length = 16) ∧
    (∃ (x : Instant) (s : State), s.ring.lastSync = some x ∧ s.rd 0x120203 = 1 ∧ x + ms (s.rd 0x120206) ≤ s.now) ∧
    (∃ (s : State), s.ring.nanos = 2 ^ 64 - 1 ∧ s.ring.satLogged = false) ∧
    (∃ (s : State), s.ring.nanos = 2 ^ 64 - 1 ∧ s.ring.satLogged = true) :=
  ⟨⟨frame 0xFE 0x10 30 (31 :: List.replicate 249 0), onRing, by decide +kernel⟩,
    ⟨frame 0xFF 0x13 30 (List.replicate 32 0), put [(0x120001, 31)] onRing, by decide +kernel⟩,
    ⟨frame 0xFF 0x11 30 (List.replicate 16 0), onRing, by decide +kernel⟩,
    ⟨0, { put [(0x120203, 1)] svc with now := ms 100000, ring := { svc.ring with lastSync := some 0 } }, by decide +kernel⟩,
    ⟨{ svc with ring := { svc.ring with nanos := 2 ^ 64 - 1 } }, by decide +kernel⟩,
    ⟨{ svc with ring := { svc.ring with nanos := 2 ^ 64 - 1, satLogged := true } }, by decide +kernel⟩⟩

theorem witness_TapsAreScheduledAndFire :
    (∃ (f : Frame) (s : State), s.ringActive = true ∧ f.hops < 31 ∧ goodFrame f = true ∧ f.dst = 255 ∧ f.typ = 18 ∧
      f.payload.length = 16 ∧ s.tapDiscarded (payloadField f.payload 8 8) = true) ∧
    (∃ (f : Frame) (s : State), s.ringActive = true ∧ f.hops < 31 ∧ goodFrame f = true ∧ f.dst = 255 ∧ f.typ = 18 ∧
      f.payload.length = 16 ∧ s.tapDiscarded (payloadField f.payload 8 8) = false ∧ (∀ i < 16, byteOf (s.rd (0x802001 + i))
      0 ≠ payloadField f.payload 0 1)) ∧
    (∃ (x : PendingTap) (l : List PendingTap) (s : State), s.ring.taps = x :: l ∧ x.at_ ≤ s.ringTime ∧ x.pour = true ∧
      x.line = false ∧ s.rd 0x210001 = 0 ∧ s.rd 0x210002 = 4 ∧ s.rd 0x210008 = x.act ∧ s.takesPour s.now) ∧
    (∃ (x : PendingTap) (l : List PendingTap) (s : State), s.ring.taps = x :: l ∧ x.at_ ≤ s.ringTime ∧ x.pour = false ∧
      x.line = true ∧ s.tdiMode = true ∧ s.rd 0x340101 = 4 ∧ s.rd 0x340104 = x.act ∧ s.takesEvents) ∧
    (∃ (x : PendingTap) (l : List PendingTap) (s : State), s.ring.taps = x :: l ∧ x.at_ ≤ s.ringTime ∧ x.pour = false ∧
      x.line = false) :=
  ⟨⟨frame 0xFF 0x12 30 (List.replicate 16 255), onRing, by decide +kernel⟩,
    ⟨frame 0xFF 0x12 30 (9 :: List.replicate 15 0), onRing, by decide +kernel⟩,
    ⟨⟨0, true, false, 9⟩, [],
      { put [(0x210002, 4), (0x210008, 9)] area with ring := { area.ring with taps := [⟨0, true, false, 9⟩] } },
      by delta State.takesPour State.takesEvents; decide +kernel⟩,
    ⟨⟨0, false, true, 9⟩, [],
      { put [(0x210001, 1), (0x340101, 4), (0x340104, 9)] svc with ring := { svc.ring with taps := [⟨0, false, true, 9⟩] } },
      by delta State.takesEvents; decide +kernel⟩,
    ⟨⟨0, false, false, 9⟩, [], { area with ring := { area.ring with taps := [⟨0, false, false, 9⟩] } }, by decide +kernel⟩⟩

theorem witness_StagedAndRegisterWritesLandWhereTheirObjectBelongs :
    (∃ (tr : Transport) (index : Nat) (sub : Nat) (data : List Byte) (s : State) (r : ObjRow) (g : Machine.Group), s.admits
      (txnOf tr index sub data) ∧ objRow (txnOf tr index sub data).key = some r ∧ r.acc = Access.rws ∧ s.stage.group = some
      g ∧ g.owner = tr ∧ List.length (g.values.insert (txnOf tr index sub data).key (txnOf tr index sub data).val) ≤ 4096 ∧
      (g.values.insert (txnOf tr index sub data).key (txnOf tr index sub data).val).bytes ≤ 65536) ∧
    (∃ (tr : Transport) (index : Nat) (sub : Nat) (data : List Byte) (s : State) (r : ObjRow) (g : Machine.Group), s.admits
      (txnOf tr index sub data) ∧ objRow (txnOf tr index sub data).key = some r ∧ r.acc = Access.rws ∧ s.stage.group = some
      g ∧ g.owner = tr ∧ (¬(List.length (g.values.insert (txnOf tr index sub data).key (txnOf tr index sub data).val) ≤ 4096
      ∧ (g.values.insert (txnOf tr index sub data).key (txnOf tr index sub data).val).bytes ≤ 65536))) ∧
    (∃ (tr : Transport) (index : Nat) (sub : Nat) (data : List Byte) (s : State) (r : ObjRow), s.admits (txnOf tr index sub
      data) ∧ objRow (txnOf tr index sub data).key = some r ∧ r.acc = Access.rws ∧ (s.stage.group = none ∨ ∃ g,
      s.stage.group = some g ∧ g.owner ≠ tr) ∧ (s.stage.loose.insert (txnOf tr index sub data).key (txnOf tr index sub
      data).val).bytes ≤ 65536) ∧
    (∃ (tr : Transport) (index : Nat) (sub : Nat) (data : List Byte) (s : State) (r : ObjRow), s.admits (txnOf tr index sub
      data) ∧ objRow (txnOf tr index sub data).key = some r ∧ r.acc = Access.rws ∧ (s.stage.group = none ∨ ∃ g,
      s.stage.group = some g ∧ g.owner ≠ tr) ∧ 65536 < (s.stage.loose.insert (txnOf tr index sub data).key (txnOf tr index
      sub data).val).bytes) ∧
    (∃ (tr : Transport) (index : Nat) (sub : Nat) (data : List Byte) (s : State) (r : ObjRow), s.admits (txnOf tr index sub
      data) ∧ objRow (txnOf tr index sub data).key = some r ∧ r.acc = Access.rw ∧ r.mram = true) ∧
    (∃ (tr : Transport) (index : Nat) (sub : Nat) (data : List Byte) (s : State) (r : ObjRow), s.admits (txnOf tr index sub
      data) ∧ objRow (txnOf tr index sub data).key = some r ∧ (txnOf tr index sub data).key ∈ [0x100102, 0xC00006,
      0x120401]) ∧
    (∃ (tr : Transport) (index : Nat) (sub : Nat) (data : List Byte) (s : State), s.admits (txnOf tr index sub data) ∧
      (txnOf tr index sub data).key ∈ [0x100102, 0xC00006, 0x120401]) ∧
    (∃ (tr : Transport) (index : Nat) (sub : Nat) (data : List Byte) (s : State) (r : ObjRow), s.admits (txnOf tr index sub
      data) ∧ objRow (txnOf tr index sub data).key = some r ∧ r.acc = Access.rws ∧ s.stage.group = none ∧
      (s.stage.loose.insert (txnOf tr index sub data).key (txnOf tr index sub data).val).bytes ≤ 65536) ∧
    (∃ (w : Txn) (x : Instant) (s : State), s.stage.mramWrite = some w ∧ s.stage.serving = some (Job.write w x) ∧
      s.stage.waiting = [] ∧ w.key / 256 ≠ 27139 ∧ w.key ∉ accessCounters w.tr) :=
  ⟨⟨.ring, 0x2100, 3, [3], grouped [], witness_row 0x210003 (by decide +kernel), ⟨.ring, [], none, 0⟩,
      by delta State.admits; decide +kernel⟩,
    ⟨.ring, 0x2100, 3, [3], grouped (List.replicate 32 (0x410001, 0)), witness_row 0x210003 (by decide +kernel), ⟨.ring,
      List.replicate 32 (0x410001, 0), none, 0⟩, by delta State.admits; decide +kernel⟩,
    ⟨.twi, 0x2100, 3, [3], svc, witness_row 0x210003 (by decide +kernel),
      by delta State.admits; refine ⟨?_, ?_, ?_, (.inl rfl), ?_⟩ <;> decide +kernel⟩,
    ⟨.twi, 0x2100, 3, [3], { svc with stage := { svc.stage with loose := List.replicate 32 (0x410001, 0) } }, witness_row
      0x210003 (by decide +kernel), by delta State.admits; refine ⟨?_, ?_, ?_, (.inl rfl), ?_⟩ <;> decide +kernel⟩,
    ⟨.ring, 0x8012, 1, [255, 255], svc, witness_row 0x801201 (by decide +kernel), by delta State.admits; decide +kernel⟩,
    ⟨.ring, 0x1001, 2, [255, 255], svc, witness_row 0x100102 (by decide +kernel), by delta State.admits; decide +kernel⟩,
    ⟨.ring, 0x1001, 2, [255, 255], svc, by delta State.admits; decide +kernel⟩,
    ⟨.twi, 0x2100, 3, [3], svc, witness_row 0x210003 (by decide +kernel), by delta State.admits; decide +kernel⟩,
    ⟨⟨.ring, 0x801201, 2, 0⟩, 0,
      { svc with stage := { svc.stage with mramWrite := some ⟨.ring, 0x801201, 2, 0⟩, serving := some (.write ⟨.ring, 0x801201, 2, 0⟩ 0) } },
      by decide +kernel⟩⟩

theorem witness_CommitGroupsOpenCloseAndAreAbandoned :
    (∃ (tr : Transport) (s : State), s.stage.group.isSome = true ∧ s.admits
      { tr := tr, key := 0x800001, len := 1, val := 1 }) ∧
    (∃ (tr : Transport) (s : State), (∀ (g : Machine.Group), s.stage.group = some g → g.owner ≠ tr) ∧ s.admits
      { tr := tr, key := 0x800005, len := 1, val := 1 }) ∧
    (∃ (tr : Transport) (s : State), (∀ (g : Machine.Group), s.stage.group = some g → g.owner ≠ tr) ∧ s.admits
      { tr := tr, key := 0x800006, len := 1, val := 1 }) ∧
    (∃ (tr : Transport) (s : State) (g : Machine.Group), s.stage.group = some g ∧ g.owner ≠ tr ∧ s.admits
      { tr := tr, key := 0x800005, len := 1, val := 0 }) ∧
    (∃ (tr : Transport) (s : State) (g : Machine.Group), s.stage.group = some g ∧ g.owner ≠ tr ∧ s.admits
      { tr := tr, key := 0x800006, len := 1, val := 0 }) ∧
    (∃ (tr : Transport) (s : State), s.stage.group = none ∧ s.admits { tr := tr, key := 0x800001, len := 1, val := 1 }) ∧
    (∃ (tr : Transport) (s : State) (g : Machine.Group), s.stage.group = some g ∧ g.owner = tr ∧ s.admits
      { tr := tr, key := 0x800006, len := 1, val := 1 }) ∧
    (∃ (tr : Transport) (s : State) (g : Machine.Group), s.stage.group = some g ∧ g.owner = tr ∧ s.admits
      { tr := tr, key := 0x800005, len := 1, val := 1 } ∧ s.entryFault false (s.stage.loose.putAll g.values) = none) ∧
    (∃ (tr : Transport) (s : State) (g : Machine.Group) (cause : Nat) (obj : Nat), s.stage.group = some g ∧ g.owner = tr ∧
      s.admits { tr := tr, key := 0x800005, len := 1, val := 1 } ∧ s.entryFault false (s.stage.loose.putAll g.values) = some
      (cause, obj)) ∧
    (∃ (g : Machine.Group) (s : State), s.stage.group = some g ∧ (s.rd 0x80000A = 0 ∨ s.now < g.lastAt + ms (s.rd
      0x80000A))) ∧
    (∃ (g : Machine.Group) (s : State), s.stage.group = some g ∧ s.rd 0x80000A ≠ 0 ∧ g.lastAt + ms (s.rd 0x80000A) ≤ s.now) :=
  ⟨⟨.twi, grouped [], by delta State.admits; decide +kernel⟩,
    ⟨.twi, svc, by delta State.admits; refine ⟨witness_none, ?_⟩; decide +kernel⟩,
    ⟨.ring, svc, by delta State.admits; refine ⟨witness_none, ?_⟩; decide +kernel⟩,
    ⟨.twi, grouped [], ⟨.ring, [], none, 0⟩, by delta State.admits; decide +kernel⟩,
    ⟨.twi, grouped [], ⟨.ring, [], none, 0⟩, by delta State.admits; decide +kernel⟩,
    ⟨.twi, svc, by delta State.admits; decide +kernel⟩,
    ⟨.ring, grouped [], ⟨.ring, [], none, 0⟩, by delta State.admits; decide +kernel⟩,
    ⟨.ring, grouped [], ⟨.ring, [], none, 0⟩, by delta State.admits; decide +kernel⟩,
    ⟨.ring, grouped [(0x400101, 2)], ⟨.ring, [(0x400101, 2)], none, 0⟩, 4, 0x400101, by delta State.admits; decide +kernel⟩,
    ⟨⟨.ring, [], none, 0⟩, put [(0x80000A, 0)] (grouped []), by decide +kernel⟩,
    ⟨⟨.ring, [], none, 0⟩, put [(0x80000A, 100)] (grouped []), by decide +kernel⟩⟩

theorem witness_HandOversTakePlaceWholeAndTheGrantEndsTheWindow :
    (∃ (e : Entry) (l : List Entry) (s : State), s.idle = true ∧ s.imaging = true ∧ s.stage.window = none ∧ s.stage.queue =
      e :: l ∧ (e.due = true ∨ s.metAtIdle e.bound = true) ∧ e.reading = none ∧ s.corr.loading = none ∧ s.selectsBank
      e.values = none ∧ s.recheck e = none ∧ e.values.rising = true ∧ (∀ w ∈ e.values, Option.map ObjRow.acc (objRow w.1) =
      some Access.rws)) ∧
    (∃ (s : State), (s.idle = false ∨ s.stage.queue = [])) ∧
    (∃ (x : Instant) (s : State), s.stage.window = some x ∧ s.now < x + ns 40) ∧
    (∃ (x : Instant) (s : State), s.stage.window = some x ∧ x + ns 40 ≤ s.now ∧ s.stage.waiting = []) ∧
    (∃ (x : Instant) (s : State) (w : Txn) (y : Instant), s.stage.window = some x ∧ x + ns 40 ≤ s.now ∧ s.stage.serving =
      none ∧ s.twi.bus = [] ∧ s.stage.waiting = [Job.write w y] ∧ (∀ (z : Instant), s.twi.lastStop = some z → z ≤ y)) :=
  ⟨⟨entry1, [], { svc with stage := { svc.stage with queue := [entry1] } }, by decide +kernel⟩,
    ⟨svc, by decide +kernel⟩,
    ⟨ms 100, { svc with stage := { svc.stage with window := some (ms 100) } }, by decide +kernel⟩,
    ⟨0, { svc with stage := { svc.stage with window := some 0 } }, by decide +kernel⟩,
    ⟨0, { svc with stage := { svc.stage with window := some 0, waiting := [.write ⟨.twi, 0x100102, 2, 0⟩ 0] } }, ⟨.twi,
      0x100102, 2, 0⟩, 0, by refine ⟨?_, ?_, ?_, ?_, ?_, witness_none⟩ <;> decide +kernel⟩⟩

theorem witness_MouldPoursAndLoadsReadTheWholeImage :
    (∃ (tr : Transport) (n : Nat) (s : State), s.admits { tr := tr, key := 0x801001, len := 1, val := n }) ∧
    (∃ (tr : Transport) (n : Nat) (s : State), s.admits { tr := tr, key := 0x801002, len := 1, val := n } ∧ s.ownsGroup tr =
      true) ∧
    (∃ (tr : Transport) (n : Nat) (s : State), s.admits { tr := tr, key := 0x801002, len := 1, val := n } ∧ s.ownsGroup tr =
      false) ∧
    (∃ (r : MouldRead) (w : Txn) (y : Instant) (s : State) (d : Dict) (k : Nat), s.stage.reads = [r] ∧ r.txn = some w ∧
      r.slot = w.val ∧ s.stage.serving = some (Job.write w y) ∧ s.stage.waiting = [] ∧ readImage w.val (s.slotImage w.val) =
      Sum.inl d ∧ k ∈ mouldKeys) ∧
    (∃ (r : MouldRead) (w : Txn) (y : Instant) (s : State) (d : Dict), s.stage.reads = [r] ∧ r.txn = some w ∧ r.slot = w.val
      ∧ s.stage.serving = some (Job.write w y) ∧ s.stage.waiting = [] ∧ readImage w.val (s.slotImage w.val) = Sum.inl d ∧
      r.load = false ∧ s.entryFault false (s.stage.loose.putAll (mouldValues d)) = none) ∧
    (∃ (r : MouldRead) (w : Txn) (y : Instant) (s : State) (d : Dict) (g : Machine.Group), s.stage.reads = [r] ∧ r.txn =
      some w ∧ r.slot = w.val ∧ s.stage.serving = some (Job.write w y) ∧ s.stage.waiting = [] ∧ readImage w.val (s.slotImage
      w.val) = Sum.inl d ∧ r.load = true ∧ s.stage.group = some g) ∧
    (∃ (r : MouldRead) (w : Txn) (y : Instant) (s : State) (cause : Nat), s.stage.reads = [r] ∧ r.txn = some w ∧ r.slot =
      w.val ∧ s.stage.serving = some (Job.write w y) ∧ s.stage.waiting = [] ∧ readImage w.val (s.slotImage w.val) = Sum.inr
      cause ∧ (r.load = true → s.stage.group.isSome = true)) ∧
    (∃ (r : MouldRead) (w : Txn) (y : Instant) (s : State) (x : Nat), s.stage.reads = [r] ∧ r.txn = some w ∧ r.slot = w.val
      ∧ s.stage.serving = some (Job.write w y) ∧ s.stage.waiting = [] ∧ inWords (s.imageWords w.val) x = true ∧ (r.load =
      true → s.stage.group.isSome = true) ∧ (r.load = false → s.rd 0x110002 ≠ 2 ^ 64 - 1 ∧ s.stage.queue.length < 4)) :=
  ⟨⟨.twi, 255, svc, by delta State.admits; decide +kernel⟩,
    ⟨.ring, 255, grouped [], by delta State.admits; decide +kernel⟩,
    ⟨.twi, 255, grouped [], by delta State.admits; decide +kernel⟩,
    ⟨⟨1, false, some (readTxn 1), 0⟩, readTxn 1, 0, reading false 1, [], 0x210003, by decide +kernel⟩,
    ⟨⟨1, false, some (readTxn 1), 0⟩, readTxn 1, 0, reading false 1, [], by decide +kernel⟩,
    ⟨⟨1, true, some (readTxn 1), 0⟩, readTxn 1, 0, reading true 1, [], ⟨.ring, [], none, 0⟩, by decide +kernel⟩,
    ⟨⟨2, false, some (readTxn 2), 0⟩, readTxn 2, 0, reading false 2, 1, by decide +kernel⟩,
    ⟨⟨1, true, some (readTxn 1), 0⟩, readTxn 1, 0, reading true 1, 1048832, by decide +kernel⟩⟩

theorem witness_MouldSlotsChangeOnlyWhenAnOperationPasses :
    (∃ (tr : Transport) (n : Nat) (s : State), s.admits { tr := tr, key := 0x801003, len := 1, val := n } ∧
      s.stage.op.isSome = true) ∧
    (∃ (tr : Transport) (n : Nat) (s : State), s.admits { tr := tr, key := 0x801003, len := 1, val := n } ∧ s.stage.op =
      none ∧ (s.rd 0x801101).testBit n = true) ∧
    (∃ (tr : Transport) (n : Nat) (s : State), s.admits { tr := tr, key := 0x801005, len := 1, val := n } ∧
      s.stage.op.isSome = true) ∧
    (∃ (tr : Transport) (n : Nat) (s : State), s.admits { tr := tr, key := 0x801005, len := 1, val := n } ∧ s.stage.op =
      none ∧ (s.rd 0x801101).testBit n = true) ∧
    (∃ (tr : Transport) (n : Nat) (s : State), s.admits { tr := tr, key := 0x801003, len := 1, val := n } ∧ s.stage.op =
      none ∧ (s.rd 0x801101).testBit n = false) ∧
    (∃ (tr : Transport) (n : Nat) (s : State), s.admits { tr := tr, key := 0x801005, len := 1, val := n } ∧ s.stage.op =
      none ∧ (s.rd 0x801101).testBit n = false) ∧
    (∃ (o : MouldOp) (s : State), s.stage.op = some o ∧ s.inhibited = true) ∧
    (∃ (o : MouldOp) (s : State), s.stage.op = some o ∧ s.inhibited = false) ∧
    (∃ (o : MouldOp) (s : State), s.stage.op = some o ∧ s.inhibited = false ∧ o.op ≠ 3) :=
  ⟨⟨.twi, 5, { svc with stage := { svc.stage with op := some ⟨1, 5, [], 1⟩ } }, by delta State.admits; decide +kernel⟩,
    ⟨.twi, 5, put [(0x801101, 32)] svc, by delta State.admits; decide +kernel⟩,
    ⟨.ring, 255, { svc with stage := { svc.stage with op := some ⟨1, 5, [], 1⟩ } }, by delta State.admits; decide +kernel⟩,
    ⟨.ring, 5, put [(0x801101, 32)] svc, by delta State.admits; decide +kernel⟩,
    ⟨.twi, 255, svc, by delta State.admits; decide +kernel⟩,
    ⟨.ring, 255, svc, by delta State.admits; decide +kernel⟩,
    ⟨⟨3, 5, [], 1⟩, { put [(0x6A0003, 1)] svc with stage := { svc.stage with op := some ⟨3, 5, [], 1⟩ } },
      by decide +kernel⟩,
    ⟨⟨3, 5, [], 1⟩, { svc with stage := { svc.stage with op := some ⟨3, 5, [], 1⟩ } }, by decide +kernel⟩,
    ⟨⟨1, 5, [], 1⟩, { svc with stage := { svc.stage with op := some ⟨1, 5, [], 1⟩ } }, by decide +kernel⟩⟩

theorem witness_AlertsAndEventsReachTheLogAndAreRead :
    (∃ (tr : Transport) (v : Nat) (s : State), s.admits { tr := tr, key := 0x100101, len := 2, val := v }) ∧
    (∃ (code : Nat) (s : State), (s.power.phase = Phase.inReset ∨ code ∉ eventCodes)) ∧
    (∃ (code : Nat) (s : State), s.power.phase ≠ Phase.inReset ∧ code ∈ eventCodes) ∧
    (∃ (s : State), (s.log.queue = [] ∨ s.mramWritable = false)) ∧
    (∃ (e : LogEntry) (l : List LogEntry) (s : State), s.log.queue = e :: l ∧ s.mramWritable = true) ∧
    (∃ (tr : Transport) (s : State) (e : LogEntry), s.admitsRead tr 0xC00005 ∧ List.find? (fun e => e.seq == s.selection tr)
      s.mram.log = some e ∧ e.ecrc = e.crc ∧ s.readable (logWords e.seq) = true) ∧
    (∃ (tr : Transport) (s : State) (e : LogEntry), s.admitsRead tr 0xC00005 ∧ List.find? (fun e => e.seq == s.selection tr)
      s.mram.log = some e ∧ (e.ecrc ≠ e.crc ∨ s.readable (logWords e.seq) = false)) ∧
    (∃ (tr : Transport) (s : State), s.admitsRead tr 0xC00005 ∧ List.find? (fun e => e.seq == s.selection tr) s.mram.log =
      none) :=
  ⟨⟨.twi, 0xBFFF, svc, by delta State.admits; decide +kernel⟩,
    ⟨0x0999, svc, by decide +kernel⟩,
    ⟨0x0A07, svc, by decide +kernel⟩,
    ⟨svc, by decide +kernel⟩,
    ⟨logged 7, [], { svc with log := { svc.log with queue := [logged 7] } }, by decide +kernel⟩,
    ⟨.twi, { svc with mram := { svc.mram with log := [logged 0] } }, logged 0, by delta State.admitsRead; decide +kernel⟩,
    ⟨.twi, { svc with mram := { svc.mram with log := [logged 0], errs := [(1146880, true)] } }, logged 0,
      by delta State.admitsRead; decide +kernel⟩,
    ⟨.twi, { svc with mram := { svc.mram with log := [logged 7] } }, by delta State.admitsRead; decide +kernel⟩⟩

theorem witness_TwoWireTransactionsCommitReadBackAndAreDiscarded :
    (∃ (addr : Nat) (n : Nat) (bytes : List Byte) (stop : Bool) (s : State) (c : Instr), (s.power.phase = Phase.inReset ∨
      s.power.phase = Phase.asleep ∨ s.twi.rstLow = true) ∧ c ∈ [Instr.twiWriteTransaction addr bytes, Instr.twiReadHeader
      addr bytes stop, Instr.twiReadPhase addr n stop, Instr.twiWriteDiscarded addr bytes]) ∧
    (∃ (addr : Nat) (group : Bool) (bytes : List Byte) (s : State), s.serves = true ∧ s.twi.rstLow = false ∧ s.busy = false
      ∧ s.stage.waiting = [] ∧ s.twiMatch addr = some group ∧ twiCmd bytes = 2 ∧ 9 ≤ bytes.length ∧ bytes.length ≤ 265 ∧
      twiFlags bytes = 0 ∧ isU64 (twiKey bytes) = false ∧ (∃ r, objRow (twiKey bytes) = some r ∧ r.acc = Access.rws) ∧
      s.stage.group = none ∧ (twiData bytes).length = twiLen bytes ∧ ((s.stopSeen.inc 0xA00401).present Transport.twi
      (twiKey bytes)).length ≤ 256 ∧ twiOffset bytes = 0 ∧ s.writeAbort
      { tr := Transport.twi, key := twiKey bytes, len := (twiData bytes).length, val := leNat (twiData bytes) } = none ∧
      (s.stage.loose.insert (twiKey bytes) (leNat (twiData bytes))).bytes ≤ 65536) ∧
    (∃ (addr : Nat) (group : Bool) (bytes : List Byte) (s : State) (stop : Bool), s.serves = true ∧ s.twi.rstLow = false ∧
      s.busy = false ∧ s.stage.waiting = [] ∧ s.twiMatch addr = some group ∧ twiCmd bytes = 1 ∧ bytes.length = 9 ∧ twiFlags
      bytes = 0 ∧ twiOffset bytes = 0 ∧ (∀ x ∈ s.wordsOf (twiKey bytes), s.readable x = true) ∧ isU64 (twiKey bytes) = false
      ∧ readAbort (twiKey bytes) = none ∧ twiKey bytes / 256 ∉ [20741, 20745] ∧ twiKey bytes ∉ [0x520002, 0x600405,
      0xC00005] ∧ ((((if stop = true then s.stopSeen else s).inc 0xA00401).present Transport.twi (twiKey bytes)).length ≤
      256) ∧ (twiLen bytes = 0 ∨ twiLen bytes = (((if stop = true then s.stopSeen else s).inc 0xA00401).present
      Transport.twi (twiKey bytes)).length)) ∧
    (∃ (addr : Nat) (group : Bool) (bytes : List Byte) (s : State), s.serves = true ∧ s.twi.rstLow = false ∧ s.busy = false
      ∧ s.stage.waiting = [] ∧ s.twiMatch addr = some group ∧ twiCmd bytes = 2) ∧
    (∃ (addr : Nat) (group : Bool) (s : State), s.serves = true ∧ s.twi.rstLow = false ∧ s.busy = false ∧ s.stage.waiting =
      [] ∧ s.twiMatch addr = some group) ∧
    (∃ (s : State), s.twi.transfer = none) ∧
    (∃ (s : State), s.twi.rstLow = true ∧ s.twi.sends = []) ∧
    (∃ (addr : Nat) (s : State), s.power.phase = Phase.asleep ∧ s.twi.rstLow = false ∧ (s.twiMatch addr).isSome = true) :=
  ⟨⟨0x30, 1, [], true, State.reset, .twiReadPhase 0x30 1 true, by decide +kernel⟩,
    ⟨0x30, false, 2 :: request 0x210003 0 [3], answering,
      by refine ⟨?_, ?_, ?_, ?_, ?_, ?_, ?_, ?_, ?_, ?_, (witness_rws ?_), ?_, ?_, ?_, ?_, ?_, ?_⟩ <;> decide +kernel⟩,
    ⟨0x30, false, 1 :: request 0x100005 0 [], answering, true, by decide +kernel⟩,
    ⟨0x30, false, [2], answering, by decide +kernel⟩,
    ⟨0x30, false, answering, by decide +kernel⟩,
    ⟨svc, by decide +kernel⟩,
    ⟨{ svc with twi := { svc.twi with rstLow := true } }, by decide +kernel⟩,
    ⟨0x30, { answering with power := { svc.power with phase := .asleep } }, by decide +kernel⟩⟩

theorem witness_ControllerTransfersRetryEndAndReport :
    (∃ (cause : Nat) (s : State), s.power.phase ≠ Phase.inReset ∧ 1 ≤ cause ∧ cause ≤ 5 ∧ (cause = 4 → s.rd 0xA00301 ≠ 0) ∧
      s.twi.rstLow = false) ∧
    (∃ (tr : Transport) (s : State) (e : Nat), s.admits { tr := tr, key := 0xA01102, len := 1, val := 1 } ∧ s.twi.transfer =
      none ∧ s.twi.sends = [] ∧ s.twi.rstLow = false ∧ nextDriver (s.rd 0xA01101) 0 = some e) ∧
    (∃ (tr : Transport) (s : State), s.admits { tr := tr, key := 0xA01102, len := 1, val := 1 } ∧ s.twi.transfer = none ∧
      s.twi.sends = [] ∧ s.twi.rstLow = false ∧ nextDriver (s.rd 0xA01101) 0 = none) ∧
    (∃ (tr : Transport) (s : State) (x : Transfer), s.admits { tr := tr, key := 0xA01102, len := 1, val := 1 } ∧
      s.twi.transfer = some x ∧ x.boot = false) ∧
    (∃ (x : Transfer) (s : State) (status : Nat), s.twi.transfer = some x ∧ s.twi.sends = [] ∧ s.twi.rstLow = false ∧
      (status = 1 ∨ status = 3) ∧ x.attempts < 2) ∧
    (∃ (x : Transfer) (s : State) (status : Nat), s.twi.transfer = some x ∧ s.twi.sends = [] ∧ s.twi.rstLow = false ∧
      (status = 1 ∨ status = 3) ∧ 2 ≤ x.attempts) ∧
    (∃ (x : Transfer) (s : State) (status : Nat), s.twi.transfer = some x ∧ s.twi.sends = [] ∧ s.twi.rstLow = false ∧ status
      ∈ [2, 4, 5, 6, 8, 9]) ∧
    (∃ (x : Transfer) (s : State) (e : Nat), s.twi.transfer = some x ∧ s.twi.sends = [] ∧ s.twi.rstLow = false ∧ x.boot =
      false ∧ nextDriver x.list (x.entry + 1) = some e) ∧
    (∃ (x : Transfer) (s : State), s.twi.transfer = some x ∧ s.twi.sends = [] ∧ s.twi.rstLow = false ∧ x.boot = false ∧
      nextDriver x.list (x.entry + 1) = none) ∧
    (∃ (x : Transfer) (s : State), s.twi.transfer = some x ∧ s.twi.sends = [] ∧ s.twi.rstLow = false ∧ x.boot = true ∧
      s.now < x.askedAt + us 368730) ∧
    (∃ (x : Transfer) (s : State) (img : List Byte) (d : Dict), s.twi.transfer = some x ∧ s.twi.sends = [] ∧ s.twi.rstLow =
      false ∧ x.boot = true ∧ x.askedAt + us 368730 ≤ s.now ∧
      readImage (imageField (pad 16384 img) 4 1) (pad 16384 img) = Sum.inl d) ∧
    (∃ (x : Transfer) (s : State) (img : List Byte) (cause : Nat), s.twi.transfer = some x ∧ s.twi.sends = [] ∧ s.twi.rstLow
      = false ∧ x.boot = true ∧ x.askedAt + us 368730 ≤ s.now ∧ readImage (imageField (pad 16384 img) 4 1) (pad 16384 img) = Sum.inr cause) ∧
    (∃ (x : Transfer) (s : State), s.twi.transfer = some x ∧ s.twi.sends = [] ∧ s.twi.rstLow = false ∧ x.attempts ≠ 0 ∧
      x.waitFree = true) ∧
    (∃ (x : Transfer) (s : State), s.twi.transfer = some x ∧ s.twi.sends = [] ∧ s.twi.rstLow = false ∧ x.waitFree = true ∧
      x.askedAt + ms 10 ≤ s.now) ∧
    (∃ (x : Transfer) (s : State), s.twi.transfer = some x ∧ s.twi.sends = [] ∧ s.twi.rstLow = false ∧ s.now < x.askedAt +
      ms 10) :=
  ⟨⟨5, svc, by decide +kernel⟩,
    ⟨.twi, put [(0xA01101, 0xB1)] svc, 0, by delta State.admits; decide +kernel⟩,
    ⟨.twi, put [(0xA01101, 0)] svc, by delta State.admits; decide +kernel⟩,
    ⟨.twi, sending { transfer1 with attempts := 1 }, { transfer1 with attempts := 1 },
      by delta State.admits; decide +kernel⟩,
    ⟨{ transfer1 with attempts := 1 }, sending { transfer1 with attempts := 1 }, 3, by decide +kernel⟩,
    ⟨{ transfer1 with attempts := 2 }, sending { transfer1 with attempts := 2 }, 1, by decide +kernel⟩,
    ⟨transfer1, sending transfer1, 9, by decide +kernel⟩,
    ⟨{ transfer1 with list := 0x80 * 256 ^ 8 }, sending { transfer1 with list := 0x80 * 256 ^ 8 }, 1, by decide +kernel⟩,
    ⟨transfer1, sending transfer1, by decide +kernel⟩,
    ⟨{ transfer1 with boot := true }, sending { transfer1 with boot := true }, by decide +kernel⟩,
    ⟨{ transfer1 with boot := true }, fetchOver, emptyMould 1, [], by decide +kernel⟩,
    ⟨{ transfer1 with boot := true }, fetchOver, [], 1, by decide +kernel⟩,
    ⟨{ transfer1 with attempts := 1 }, sending { transfer1 with attempts := 1 }, by decide +kernel⟩,
    ⟨transfer1, sending transfer1, by decide +kernel⟩,
    ⟨{ transfer1 with askedAt := ms 100 }, sending { transfer1 with askedAt := ms 100 }, by decide +kernel⟩⟩

theorem witness_DmaChannelsFetchMoveAndStop :
    (∃ (tr : Transport) (v : Nat) (s : State), s.dma.chans.length = 8 ∧ s.admits
      { tr := tr, key := 0x701201, len := 1, val := v } ∧ (∃ ch < 8, v.testBit ch = true ∧ s.rd (0x702001 + ch) = 1)) ∧
    (∃ (tr : Transport) (v : Nat) (s : State), s.dma.chans.length = 8 ∧ s.admits
      { tr := tr, key := 0x701201, len := 1, val := v } ∧ (∀ ch < 8, v.testBit ch = true → s.rd (0x702001 + ch) ≠ 1)) ∧
    (∃ (tr : Transport) (v : Nat) (s : State), s.dma.chans.length = 8 ∧ s.admits
      { tr := tr, key := 0x701202, len := 1, val := v }) ∧
    (∃ (ch : Nat) (s : State) (a : Nat), ch < 8 ∧ s.dma.chans.length = 8 ∧ s.dmaRuns = true ∧ s.rd (0x702001 + ch) = 1 ∧
      (s.chan ch).submit = false ∧ (s.chan ch).fetch = some a ∧ (s.chan ch).desc = none) ∧
    (∃ (ch : Nat) (s : State) (d : Desc), ch < 8 ∧ s.dma.chans.length = 8 ∧ s.dmaRuns = true ∧ s.rd (0x702001 + ch) = 1 ∧
      (s.chan ch).submit = false ∧ (s.chan ch).desc = some d ∧ s.elementAddresses d (s.chan ch).k = none) ∧
    (∃ (ch : Nat) (s : State) (d : Desc) (src : Nat) (dst : Nat), ch < 8 ∧ s.dma.chans.length = 8 ∧ s.dmaRuns = true ∧ s.rd
      (0x702001 + ch) = 1 ∧ (s.chan ch).submit = false ∧ (s.chan ch).desc = some d ∧ s.elementAddresses d (s.chan ch).k =
      some (src, dst) ∧ s.elementSource d src = none) ∧
    (∃ (ch : Nat) (s : State) (d : Desc) (src : Nat) (dst : Nat) (x : DmaRegion × Nat) (code : Nat), ch < 8 ∧
      s.dma.chans.length = 8 ∧ s.dmaRuns = true ∧ s.rd (0x702001 + ch) = 1 ∧ (s.chan ch).submit = false ∧ (s.chan ch).desc =
      some d ∧ s.elementAddresses d (s.chan ch).k = some (src, dst) ∧ s.elementSource d src = some x ∧ s.elementTarget d dst
      = Sum.inr code) ∧
    (∃ (ch : Nat) (s : State) (d : Desc) (src : Nat) (dst : Nat) (x : DmaRegion × Nat) (r : DmaRegion) (off : Nat), ch < 8 ∧
      s.dma.chans.length = 8 ∧ s.dmaRuns = true ∧ s.rd (0x702001 + ch) = 1 ∧ (s.chan ch).submit = false ∧ (s.chan ch).desc =
      some d ∧ s.elementAddresses d (s.chan ch).k = some (src, dst) ∧ s.elementSource d src = some x ∧ s.elementTarget d dst
      = Sum.inl (r, off) ∧ d.sw ≤ 4 ∧ d.dw ≤ 4 ∧ 1 ≤ d.elen ∧ d.elen % max (widthBytes d.sw) (widthBytes d.dw) = 0) ∧
    (∃ (ch : Nat) (s : State), ch < 8 ∧ s.dma.chans.length = 8 ∧ s.dmaRuns = true ∧ s.rd (0x702001 + ch) = 1 ∧ (s.chan
      ch).submit = false ∧ ((s.chan ch).desc = none ∨ s.now < (s.chan ch).waitAt + us 20)) ∧
    (∃ (ch : Nat) (s : State) (d : Desc), ch < 8 ∧ s.dma.chans.length = 8 ∧ s.dmaRuns = true ∧ s.rd (0x702001 + ch) = 1 ∧
      (s.chan ch).submit = false ∧ (s.chan ch).desc = some d ∧ s.elementStalls d (s.chan ch).k = false) ∧
    (∃ (ch : Nat) (s : State) (d : Desc), ch < 8 ∧ s.dma.chans.length = 8 ∧ s.dmaRuns = true ∧ s.rd (0x702001 + ch) = 1 ∧
      (s.chan ch).submit = false ∧ (s.chan ch).desc = some d ∧ s.elementStalls d (s.chan ch).k = true ∧ (s.chan ch).waitAt +
      us 20 ≤ s.now) ∧
    (∃ (ch : Nat) (target : Nat) (segment : Nat) (d : Desc) (s : State), ch < 8 ∧ s.dma.chans.length = 8 ∧ s.dma.submitter =
      some ch ∧ s.dma.stage = Staging.writing target segment ∧ (s.chan ch).desc = some d ∧ s.ownerDone target = false) ∧
    (∃ (ch : Nat) (target : Nat) (segment : Nat) (d : Desc) (s : State), ch < 8 ∧ s.dma.chans.length = 8 ∧ s.dma.submitter =
      some ch ∧ s.dma.stage = Staging.writing target segment ∧ (s.chan ch).desc = some d ∧ s.ownerDone target = true ∧
      s.dmaRuns = false) ∧
    (∃ (ch : Nat) (target : Nat) (segment : Nat) (d : Desc) (s : State), ch < 8 ∧ s.dma.chans.length = 8 ∧ s.dma.submitter =
      some ch ∧ s.dma.stage = Staging.writing target segment ∧ (s.chan ch).desc = some d ∧ s.ownerDone target = true ∧
      s.dmaRuns = true) :=
  ⟨⟨.twi, 128, put [(0x702008, 1)] svc, by delta State.admits; decide +kernel⟩,
    ⟨.twi, 255, svc, by delta State.admits; decide +kernel⟩,
    ⟨.twi, 255, svc, by delta State.admits; decide +kernel⟩,
    ⟨7, channel { fetch := some 0x04000000, desc := none, k := 0, submit := false, stopReq := false, waitAt := 0 },
      0x04000000, by decide +kernel⟩,
    ⟨7, channel (moving { desc1 with mode := 0, itab := 0x08000000 }), { desc1 with mode := 0, itab := 0x08000000 },
      by decide +kernel⟩,
    ⟨7, channel (moving { desc1 with src := 0x07000000 }), { desc1 with src := 0x07000000 }, 0x07000000, 0x05000000,
      by decide +kernel⟩,
    ⟨7, channel (moving { desc1 with dst := 0x08000000 }), { desc1 with dst := 0x08000000 }, 0x04000000, 0x08000000,
      (.index, 0), 6, by decide +kernel⟩,
    ⟨7, channel (moving desc1), desc1, 0x04000000, 0x05000000, (.index, 0), .staging, 0, by decide +kernel⟩,
    ⟨7, channel { moving desc1 with waitAt := ms 100 }, by decide +kernel⟩,
    ⟨7, channel (moving desc1), desc1, by decide +kernel⟩,
    ⟨7, channel (moving { desc1 with src := 0x08000000 }), { desc1 with src := 0x08000000 }, by decide +kernel⟩,
    ⟨7, 1, 0, desc1,
      { submitted with corr := { svc.corr with upload := some { upload2 with what := 1, writing := some 0 } } },
      by decide +kernel⟩,
    ⟨7, 1, 0, desc1, put [(0xB02002, 2)] submitted, by decide +kernel⟩,
    ⟨7, 1, 0, desc1, submitted, by decide +kernel⟩⟩

theorem witness_HeldPourIsNamedFoundOrGone :
    (∃ (tr : Transport) (v : Nat) (s : State), s.admits { tr := tr, key := 0x704001, len := 8, val := v } ∧ s.dma.heldIdx ≠
      some v) ∧
    (∃ (tr : Transport) (s : State), s.admits { tr := tr, key := 0x704004, len := 1, val := 1 }) :=
  ⟨⟨.twi, 1, svc, by delta State.admits; decide +kernel⟩,
    ⟨.twi, svc, by delta State.admits; decide +kernel⟩⟩

theorem witness_HousekeepingConvertsForTheSequenceAndForRequests :
    (∃ (s : State), s.hk.client = HkClient.idle) ∧
    (∃ (code : Nat) (dv : Int) (s : State) (r : Int), s.hk.client = HkClient.sequence ∧ s.hk.inSeq = true ∧ s.hk.seq =
      HkSum.zero ∧ avgOf (nth s.hk.table s.hk.entry 0) = 1 ∧ chanOf (nth s.hk.table s.hk.entry 0) < 26 ∧ s.sampleResult
      (chanOf (nth s.hk.table s.hk.entry 0)) code dv = some r) ∧
    (∃ (s : State), s.hk.client = HkClient.sequence ∧ s.hk.inSeq = true ∧ s.hk.seq = HkSum.zero ∧ avgOf (nth s.hk.table
      s.hk.entry 0) = 1 ∧ chanOf (nth s.hk.table s.hk.entry 0) < 26) ∧
    (∃ (code : Nat) (req : Nat) (dv : Int) (s : State) (r : Int), s.hk.client = HkClient.injected req ∧ s.hk.req =
      HkSum.zero ∧ avgOf req = 1 ∧ chanOf req < 26 ∧ s.sampleResult (chanOf req) code dv = some r) ∧
    (∃ (req : Nat) (s : State), s.hk.client = HkClient.injected req ∧ s.hk.req = HkSum.zero ∧ avgOf req = 1 ∧ chanOf req <
      26) ∧
    (∃ (ch : Nat) (code : Nat) (dv : Int) (s : State) (r : Int), s.hk.client = HkClient.monitor ch ∧ ch < 26 ∧
      s.sampleResult ch code dv = some r) ∧
    (∃ (ch : Nat) (s : State), s.hk.client = HkClient.monitor ch ∧ ch < 26) ∧
    (∃ (tr : Transport) (s : State), s.admits { tr := tr, key := 0x600201, len := 1, val := 0 }) ∧
    (∃ (tr : Transport) (s : State), s.admits { tr := tr, key := 0x600201, len := 1, val := 1 }) ∧
    (∃ (tr : Transport) (s : State) (v : Nat), s.admits { tr := tr, key := 0x600401, len := 2, val := v } ∧ 4 ≤
      s.hk.inj.length) ∧
    (∃ (tr : Transport) (s : State) (v : Nat), s.admits { tr := tr, key := 0x600401, len := 2, val := v } ∧ s.hk.inj.length
      < 4 ∧ s.hk.client ≠ HkClient.idle) ∧
    (∃ (tr : Transport) (s : State) (v : Nat), s.admits { tr := tr, key := 0x600401, len := 2, val := v } ∧ s.hk.inj = [] ∧
      s.hk.client = HkClient.idle ∧ s.hk.calAt = none ∧ s.hk.calAsked = none ∧ s.hk.due = [] ∧ s.hk.serving = none ∧
      s.timing.clk100 = true) ∧
    (∃ (tr : Transport) (s : State), s.admitsRead tr 0x600405) ∧
    (∃ (tr : Transport) (s : State), s.admits { tr := tr, key := 0x600101, len := 1, val := 1 } ∧ (s.hk.calAsked.isSome =
      true ∨ s.hk.calAt.isSome = true)) ∧
    (∃ (tr : Transport) (s : State), s.admits { tr := tr, key := 0x600101, len := 1, val := 1 } ∧ s.hk.calAsked = none ∧
      s.hk.calAt = none ∧ s.hk.client = HkClient.idle ∧ s.hk.inj = [] ∧ s.hk.serving = none ∧ s.timing.clk100 = true) ∧
    (∃ (x : Instant) (s : State), s.hk.delayUntil = some x ∧ s.hk.inSeq = true ∧ s.timing.clk100 = true ∧ s.now < x) ∧
    (∃ (x : Instant) (s : State), s.hk.delayUntil = some x ∧ s.hk.inSeq = true ∧ s.timing.clk100 = true ∧ x ≤ s.now ∧
      s.hk.entry + 1 < s.hk.len) ∧
    (∃ (x : Instant) (s : State), s.hk.delayUntil = some x ∧ s.hk.inSeq = true ∧ s.timing.clk100 = true ∧ x ≤ s.now ∧
      s.hk.len ≤ s.hk.entry + 1) ∧
    (∃ (x : Instant) (s : State), s.hk.calAt = some x ∧ s.hk.calAsked = none ∧ s.timing.clk100 = true ∧ s.now < x + ns
      4200000) ∧
    (∃ (x : Instant) (s : State), s.hk.calAt = some x ∧ s.hk.calAsked = none ∧ s.timing.clk100 = true ∧ x + ns 4200000 ≤
      s.now) :=
  ⟨⟨svc, by decide +kernel⟩,
    ⟨16383, 0, measuring .sequence, 4799708, by decide +kernel⟩,
    ⟨measuring .sequence, by decide +kernel⟩,
    ⟨16383, 17, 0, measuring (.injected 17), 4799708, by decide +kernel⟩,
    ⟨17, measuring (.injected 17), by decide +kernel⟩,
    ⟨17, 16383, 0, measuring (.monitor 17), 4799708, by decide +kernel⟩,
    ⟨17, measuring (.monitor 17), by decide +kernel⟩,
    ⟨.twi, svc, by delta State.admits; decide +kernel⟩,
    ⟨.twi, svc, by delta State.admits; decide +kernel⟩,
    ⟨.twi, { svc with hk := { svc.hk with inj := [3, 3, 3, 3] } }, 17, by delta State.admits; decide +kernel⟩,
    ⟨.twi, measuring .sequence, 17, by delta State.admits; decide +kernel⟩,
    ⟨.twi, svc, 17, by delta State.admits; decide +kernel⟩,
    ⟨.ring, svc, by delta State.admitsRead; decide +kernel⟩,
    ⟨.twi, { svc with hk := { svc.hk with calAt := some 0 } }, by delta State.admits; decide +kernel⟩,
    ⟨.twi, svc, by delta State.admits; decide +kernel⟩,
    ⟨ms 100 + 1, { svc with hk := { svc.hk with delayUntil := some (ms 100 + 1), inSeq := true } }, by decide +kernel⟩,
    ⟨ms 100, { svc with hk := { svc.hk with delayUntil := some (ms 100), inSeq := true, len := 2 } }, by decide +kernel⟩,
    ⟨ms 100, { svc with hk := { svc.hk with delayUntil := some (ms 100), inSeq := true, len := 1 } }, by decide +kernel⟩,
    ⟨ms 100, { svc with hk := { svc.hk with calAt := some (ms 100) } }, by decide +kernel⟩,
    ⟨0, { svc with hk := { svc.hk with calAt := some 0 } }, by decide +kernel⟩⟩

theorem witness_ThermalLimitsQuenchThrottleAndInhibit :
    (∃ (s : State), s.pending = [] ∧ s.power.resetAt = none ∧ s.power.sleepAt = none ∧ s.ring.ins = [] ∧ s.corr.spoil = [] ∧
      s.corr.upload = none ∧ s.monitorOn = true ∧ s.therm.scanAt ≤ s.now ∧ s.therm.scan = false) ∧
    (∃ (s : State), (s.timing.clk100 = false ∨ s.therm.got = [] ∨ s.hk.due ≠ [])) ∧
    (∃ (ch : Nat) (r : Option Int) (s : State), s.timing.clk100 = true ∧ s.hk.due = [] ∧ s.therm.got = [(ch, r)] ∧
      s.therm.scan = true ∧ (ch < 17 ∨ 23 ≤ ch) ∧ (∀ i < 19, sourceChan i = ch → s.armed i = false) ∧ s.rd 0x6A0005 = maxNat
      (List.map Source.step s.therm.sources)) ∧
    (∃ (i : Nat) (v : Int) (a : Int) (b : Int) (l : List (Option Int)) (l0 : Limit) (l1 : Limit) (l2 : Limit) (s : State), i
      < 2 ∧ s.timing.clk100 = true ∧ s.hk.due = [] ∧ s.therm.got = [(sourceChan i, some v)] ∧ s.therm.sources.length = 19 ∧
      l.length ≤ 1 ∧ (s.src i).raws = l ++ [some a, some b] ∧ (s.src i).limits = [l0, l1, l2] ∧ l2.c = 2 ∧ l2.set = false ∧
      toSigned 16 (s.rd (0x6A0203 + 3 * i)) ≤ max (min a b) (min (max a b) v)) ∧
    (∃ (v : Int) (a : Int) (b : Int) (l : List (Option Int)) (l0 : Limit) (ls : List Limit) (s : State), s.timing.clk100 =
      true ∧ s.hk.due = [] ∧ s.therm.got = [(25, some v)] ∧ s.therm.sources.length = 19 ∧ l.length ≤ 1 ∧ (s.src 2).raws = l
      ++ [some a, some b] ∧ (s.src 2).limits = l0 :: ls ∧ l0.c = 2 ∧ s.inhibited = false ∧ toSigned 16 (s.rd 0x6A0207) ≤ max
      (min a b) (min (max a b) v)) ∧
    (∃ (s : State), s.timing.clk100 = true) ∧
    (∃ (s : State), s.timing.clk100 = false ∧ s.power.phase = Phase.asleep) ∧
    (∃ (s : State), s.timing.clk100 = false ∧ s.power.phase = Phase.waking) ∧
    (∃ (s : State), s.timing.clk100 = false ∧ s.serves = true ∧ s.rd 0xB02002 = 2 ∧ (s.rd 0x6A1002).testBit 1 = false) ∧
    (∃ (tr : Transport) (i : Nat) (s : State), i < 2 ∧ s.admits { tr := tr, key := 0x6A1001, len := 1, val := 2 ^ i } ∧
      s.therm.sources.length = 19 ∧ (s.rd 0x6A1002).testBit i = false ∧ s.rd 0x6A0005 = maxNat (List.map Source.step
      s.therm.sources)) ∧
    (∃ (tr : Transport) (i : Nat) (s : State), i < 2 ∧ s.admits { tr := tr, key := 0x6A1001, len := 1, val := 2 ^ i } ∧
      s.therm.sources.length = 19 ∧ (s.rd 0x6A1002).testBit i = true ∧ ((s.src i).limit 2).e ≠ 3) ∧
    (∃ (tr : Transport) (i : Nat) (s : State), i < 2 ∧ s.admits { tr := tr, key := 0x6A1001, len := 1, val := 2 ^ i } ∧
      s.therm.sources.length = 19 ∧ (s.rd 0x6A1002).testBit i = true ∧ (s.rd 0x6A1002).testBit (1 - i) = false ∧ ((s.src
      i).limit 2).e = 3) ∧
    (∃ (x : Instant) (s : State), s.therm.rearmEnd = some x ∧ s.now < x) ∧
    (∃ (x : Instant) (s : State), s.therm.rearmEnd = some x ∧ x ≤ s.now ∧ s.conv.calAt = none) :=
  ⟨⟨svc, by decide +kernel⟩,
    ⟨svc, by decide +kernel⟩,
    ⟨0, none, sampled 0 none svc, by decide +kernel⟩,
    ⟨1, 3000, 0, 3000, [], ⟨0, 0, false⟩, ⟨0, 0, false⟩, ⟨2, 0, false⟩, sampled 23 (some 3000) (heated 1 [⟨0, 0, false⟩, ⟨0,
      0, false⟩, ⟨2, 0, false⟩]), by decide +kernel⟩,
    ⟨3000, 0, 3000, [], ⟨2, 0, false⟩, [], sampled 25 (some 3000) (heated 2 [⟨2, 0, false⟩]), by decide +kernel⟩,
    ⟨svc, by decide +kernel⟩,
    ⟨{ svc with timing := { svc.timing with clk100 := false }, power := { svc.power with phase := .asleep } },
      by decide +kernel⟩,
    ⟨{ svc with timing := { svc.timing with clk100 := false }, power := { svc.power with phase := .waking } },
      by decide +kernel⟩,
    ⟨{ put [(0xB02002, 2)] svc with timing := { svc.timing with clk100 := false } }, by decide +kernel⟩,
    ⟨.twi, 1, svc, by delta State.admits; decide +kernel⟩,
    ⟨.twi, 1, put [(0x6A1002, 2)] svc, by delta State.admits; decide +kernel⟩,
    ⟨.twi, 1, put [(0x6A1002, 2)] (heated 1 [⟨0, 0, true⟩, ⟨0, 0, true⟩, ⟨0, 3, true⟩]),
      by delta State.admits; decide +kernel⟩,
    ⟨ms 100 + 1, { svc with therm := { svc.therm with rearmEnd := some (ms 100 + 1) } }, by decide +kernel⟩,
    ⟨ms 100, { svc with therm := { svc.therm with rearmEnd := some (ms 100) } }, by decide +kernel⟩⟩

set_option maxRecDepth 100000 in
theorem witness_ResetsKeepMramAndStartUpRunsInOrder :
    (∃ (width : Nat), 1000 ≤ width) ∧
    (∃ (width : Nat), width ≤ 100) ∧
    (∃ (width : Nat), 100 < width ∧ width < 1000) ∧
    (∃ (s : State), s.power.makerTest = true) ∧
    (∃ (s : State), s.power.makerTest = false) ∧
    (∃ (tr : Transport) (v : Nat) (s : State), s.admits { tr := tr, key := 0xB02201, len := 4, val := v } ∧ s.power.resetAt
      = none ∧ v = s.rd 0x100005) ∧
    (∃ (tr : Transport) (v : Nat) (s : State), s.admits { tr := tr, key := 0xB02201, len := 4, val := v } ∧ s.power.resetAt
      = none ∧ v ≠ s.rd 0x100005) ∧
    (∃ (s : State) (x : Instant), s.power.phase = Phase.inReset ∧ s.power.brownAt = some x ∧ s.now < x + ms 1) ∧
    (∃ (s : State), s.power.phase = Phase.inReset ∧ (∀ (x : Instant), s.power.brownAt = some x → x + ms 1 ≤ s.now)) ∧
    (∃ (s : State), s.power.phase = Phase.released ∧ s.now < s.power.origin + us 50) ∧
    (∃ (s : State), s.power.phase = Phase.released ∧ s.power.origin + us 50 ≤ s.now) ∧
    (∃ (s : State), s.power.phase = Phase.fusesRead ∧ s.now < s.power.origin + us 200) ∧
    (∃ (s : State), s.power.phase = Phase.fusesRead ∧ s.power.origin + us 200 ≤ s.now) ∧
    (∃ (hz : Nat) (s : State), s.power.phase = Phase.pllLocked ∧ s.power.origin + us 450 ≤ s.now ∧ hz = 0) ∧
    (∃ (hz : Nat) (s : State), s.power.phase = Phase.pllLocked ∧ s.power.origin + us 450 ≤ s.now ∧ s.power.origin + us 467 ≤
      s.now ∧ 30000 ≤ hz) ∧
    (∃ (s : State), s.power.phase = Phase.pllLocked ∧ s.now < s.power.origin + ns 6200000) ∧
    (∃ (s : State), s.power.phase = Phase.pllLocked ∧ s.power.origin + ns 6200000 ≤ s.now) ∧
    (∃ (s : State), s.power.phase = Phase.shaken ∧ (s.now < s.power.origin + ms 9 ∨ s.therm.assessed = false)) ∧
    (∃ (s : State), s.power.phase = Phase.shaken ∧ s.power.origin + ms 9 ≤ s.now ∧ s.therm.assessed = true ∧
      s.mram.lcJournal = none ∧ s.therm.quench = false) ∧
    (∃ (img : Option (List Byte)) (s : State), s.power.phase = Phase.scanned ∧ s.power.mouldReady = some img ∧
      s.conv.calAt.isSome = true) ∧
    (∃ (img : Option (List Byte)) (s : State), s.power.phase = Phase.scanned ∧ s.power.mouldReady = some img ∧ s.conv.calAt
      = none ∧ img = none) ∧
    (∃ (img : Option (List Byte)) (s : State), s.power.phase = Phase.scanned ∧ s.power.mouldReady = some img ∧ s.conv.calAt
      = none ∧ img = some [] ∧ s.rd 0x110002 < 2 ^ 64 - 1 ∧ s.stage.queue = []) ∧
    (∃ (img : Option (List Byte)) (s : State) (b : List Byte) (d : Dict), s.power.phase = Phase.scanned ∧ s.power.mouldReady
      = some img ∧ s.conv.calAt = none ∧ img = some b ∧ (readImage (if s.rd 0x801201 = 256 then imageField b 4 1 else s.rd
      0x801201) b = Sum.inl d) ∧ (State.toPhase Phase.poured s).entryFault false (s.stage.loose.putAll (mouldValues d)) =
      none) ∧
    (∃ (s : State), s.power.phase = Phase.poured ∧ (s.stage.queue ≠ [] ∨ s.corr.loading.isSome = true)) ∧
    (∃ (s : State), s.power.phase = Phase.poured ∧ s.stage.queue = [] ∧ s.corr.loading = none ∧ s.stage.window = none) :=
  ⟨⟨1000, by decide +kernel⟩,
    ⟨100, by decide +kernel⟩,
    ⟨101, by decide +kernel⟩,
    ⟨{ svc with power := { svc.power with makerTest := true } }, by decide +kernel⟩,
    ⟨svc, by decide +kernel⟩,
    ⟨.twi, svc.rd 0x100005, svc, by delta State.admits; refine ⟨?_, rfl, rfl⟩; decide +kernel⟩,
    ⟨.twi, svc.rd 0x100005 + 1, svc, by delta State.admits; refine ⟨?_, rfl, (Nat.succ_ne_self _)⟩; decide +kernel⟩,
    ⟨{ phased .inReset 0 with power := { (phased .inReset 0).power with brownAt := some (ms 100) } }, ms 100,
      by decide +kernel⟩,
    ⟨phased .inReset 0, by refine ⟨?_, witness_none⟩; decide +kernel⟩,
    ⟨phased .released (ms 100), by decide +kernel⟩,
    ⟨phased .released 0, by decide +kernel⟩,
    ⟨phased .fusesRead (ms 100), by decide +kernel⟩,
    ⟨phased .fusesRead 0, by decide +kernel⟩,
    ⟨0, phased .pllLocked 0, by decide +kernel⟩,
    ⟨30000, phased .pllLocked 0, by decide +kernel⟩,
    ⟨phased .pllLocked (ms 100), by decide +kernel⟩,
    ⟨phased .pllLocked 0, by decide +kernel⟩,
    ⟨phased .shaken (ms 100), by decide +kernel⟩,
    ⟨phased .shaken (ms 91), by decide +kernel⟩,
    ⟨none, { fetched none with conv := { svc.conv with calAt := some 0 } }, by decide +kernel⟩,
    ⟨none, fetched none, by decide +kernel⟩,
    ⟨some [], fetched (some []), by decide +kernel⟩,
    ⟨some (emptyMould 1), put [(0x801201, 1)] (fetched (some (emptyMould 1))), emptyMould 1, [], by decide +kernel⟩,
    ⟨{ phased .poured 0 with corr := { svc.corr with loading := some 0 } }, by decide +kernel⟩,
    ⟨phased .poured 0, by decide +kernel⟩⟩

theorem witness_HoldAndSleepStopAndReturnTheClocks :
    (∃ (tr : Transport) (s : State), s.admits { tr := tr, key := 0xB02001, len := 1, val := 1 } ∧ s.power.testen = false) ∧
    (∃ (tr : Transport) (s : State), s.admits { tr := tr, key := 0xB02001, len := 1, val := 1 } ∧ s.power.testen = true ∧
      s.rd 0xB02002 = 0) ∧
    (∃ (tr : Transport) (s : State) (c : Instr), s.admits { tr := tr, key := 0xB02001, len := 1, val := 0 } ∧ c ∈
      [Instr.holdRequest tr 0, Instr.holdExit tr 0 s.power.testen]) ∧
    (∃ (s : State), s.power.testen = true) ∧
    (∃ (tr : Transport) (s : State), s.admits { tr := tr, key := 0xB02101, len := 1, val := 1 } ∧ s.power.sleepAt = none ∧
      s.settled = true ∧ s.quiet = false ∧ s.rd 0xB02002 = 0) ∧
    (∃ (tr : Transport) (s : State), s.admits { tr := tr, key := 0xB02101, len := 1, val := 1 } ∧ s.power.sleepAt = none ∧
      (¬(s.settled = true ∧ s.quiet = false ∧ s.rd 0xB02002 = 0))) ∧
    (∃ (s : State), s.serves = true ∧ s.rd 0xB02002 = 1 ∧ s.idle = true) ∧
    (∃ (s : State), (s.rd 0xB02002 ≠ 1 ∨ s.idle = false)) ∧
    (∃ (width : Nat) (s : State), s.power.phase = Phase.asleep ∧ s.rd 0xB02102 = 1 ∧ 1000 ≤ width) ∧
    (∃ (width : Nat) (s : State), (s.power.phase ≠ Phase.asleep ∨ s.rd 0xB02102 ≠ 1 ∨ width < 1000)) ∧
    (∃ (x : Instant) (s : State), s.power.phase = Phase.waking ∧ s.power.wakeAt = some x ∧ s.now < x + us 200) ∧
    (∃ (x : Instant) (s : State), s.power.phase = Phase.waking ∧ s.power.wakeAt = some x ∧ x + us 200 ≤ s.now) :=
  ⟨⟨.twi, svc, by delta State.admits; decide +kernel⟩,
    ⟨.twi, { svc with power := { svc.power with testen := true } }, by delta State.admits; decide +kernel⟩,
    ⟨.twi, svc, .holdRequest .twi 0, by delta State.admits; decide +kernel⟩,
    ⟨{ svc with power := { svc.power with testen := true } }, by decide +kernel⟩,
    ⟨.twi, svc, by delta State.admits; decide +kernel⟩,
    ⟨.twi, area, by delta State.admits; decide +kernel⟩,
    ⟨put [(0xB02002, 1)] svc, by decide +kernel⟩,
    ⟨svc, by decide +kernel⟩,
    ⟨1000, put [(0xB02102, 1)] (phased .asleep 0), by decide +kernel⟩,
    ⟨999, phased .asleep 0, (.inr (.inr (by decide +kernel)))⟩,
    ⟨ms 100, { svc with power := { svc.power with phase := .waking, wakeAt := some (ms 100) } }, by decide +kernel⟩,
    ⟨0, { svc with power := { svc.power with phase := .waking, wakeAt := some 0 } }, by decide +kernel⟩⟩

theorem witness_FusesAndLifeCycleNeedTheirKeysAndMoveForward :
    (∃ (tr : Transport) (v : Nat) (s : State), s.admits { tr := tr, key := 0xB01001, len := 4, val := v }) ∧
    (∃ (tr : Transport) (v : Nat) (s : State), s.admits { tr := tr, key := 0xB00102, len := 4, val := v }) ∧
    (∃ (tr : Transport) (v : Nat) (s : State), s.admits { tr := tr, key := 0xB01002, len := 2, val := v } ∧ (∃ x,
      s.power.fuseKey = some x ∧ s.now ≤ x + ms 1000) ∧ s.power.op = none ∧ s.therm.quench = false) ∧
    (∃ (tr : Transport) (v : Nat) (s : State), s.admits { tr := tr, key := 0xB01002, len := 2, val := v } ∧ ((¬∃ x,
      s.power.fuseKey = some x ∧ s.now ≤ x + ms 1000) ∨ s.power.op ≠ none ∨ s.therm.quench = true)) ∧
    (∃ (tr : Transport) (v : Nat) (s : State), s.admits { tr := tr, key := 0xB01003, len := 2, val := v } ∧ (∃ x,
      s.power.fuseKey = some x ∧ s.now ≤ x + ms 1000) ∧ s.power.op = none ∧ s.therm.quench = false) ∧
    (∃ (tr : Transport) (v : Nat) (s : State), s.admits { tr := tr, key := 0xB01003, len := 2, val := v } ∧ ((¬∃ x,
      s.power.fuseKey = some x ∧ s.now ≤ x + ms 1000) ∨ s.power.op ≠ none ∨ s.therm.quench = true)) ∧
    (∃ (tr : Transport) (s : State), s.admits { tr := tr, key := 0xB01004, len := 1, val := 1 } ∧ (∃ x, s.power.fuseKey =
      some x ∧ s.now ≤ x + ms 1000) ∧ s.power.op = none ∧ s.therm.quench = false) ∧
    (∃ (tr : Transport) (s : State), s.admits { tr := tr, key := 0xB01004, len := 1, val := 1 } ∧ ((¬∃ x, s.power.fuseKey =
      some x ∧ s.now ≤ x + ms 1000) ∨ s.power.op ≠ none ∨ s.therm.quench = true)) ∧
    (∃ (cmd : Nat) (bits : Nat) (s : State), s.power.op = some (LifeOp.fuses cmd bits)) ∧
    (∃ (tr : Transport) (v : Nat) (s : State) (cause : Nat), s.admits { tr := tr, key := 0xB00101, len := 1, val := v } ∧
      State.lifeFault tr v s = some cause) ∧
    (∃ (tr : Transport) (v : Nat) (s : State), s.admits { tr := tr, key := 0xB00101, len := 1, val := v } ∧ State.lifeFault
      tr v s = none) ∧
    (∃ (target : Nat) (s : State), s.power.op = some (LifeOp.life target false) ∧ s.inhibited = true) ∧
    (∃ (target : Nat) (s : State), s.power.op = some (LifeOp.life target false) ∧ s.inhibited = false) ∧
    (∃ (target : Nat) (s : State), s.power.op = some (LifeOp.life target true) ∧ s.inhibited = true) ∧
    (∃ (target : Nat) (s : State), s.power.op = some (LifeOp.life target true) ∧ s.inhibited = false ∧ s.power.phase ≠
      Phase.inReset ∧ s.power.unwritten = none ∧ s.stage.mramWrite = none) ∧
    (∃ (s : State), s.serves = true ∧ s.life = 2 ∧ s.power.makerTest = false) ∧
    (∃ (s : State), (s.serves = false ∨ s.life ≠ 2 ∨ s.power.makerTest = true)) :=
  ⟨⟨.ring, 0xFFFFFFFF, svc, by delta State.admits; decide +kernel⟩,
    ⟨.ring, 0xFFFFFFFF, svc, by delta State.admits; decide +kernel⟩,
    ⟨.ring, 0x1FFF, keyed, by delta State.admits; refine ⟨?_, ⟨0, ?_⟩, ?_, ?_⟩ <;> decide +kernel⟩,
    ⟨.ring, 0x1FFF, fusing (.fuses 0x10 5), by delta State.admits; refine ⟨?_, (.inr ?_)⟩ <;> decide +kernel⟩,
    ⟨.ring, 1, keyed, by delta State.admits; refine ⟨?_, ⟨0, ?_⟩, ?_, ?_⟩ <;> decide +kernel⟩,
    ⟨.ring, 1, fusing (.fuses 0x10 5), by delta State.admits; refine ⟨?_, (.inr ?_)⟩ <;> decide +kernel⟩,
    ⟨.ring, keyed, by delta State.admits; refine ⟨?_, ⟨0, ?_⟩, ?_, ?_⟩ <;> decide +kernel⟩,
    ⟨.ring, fusing (.fuses 0x10 5), by delta State.admits; refine ⟨?_, (.inr ?_)⟩ <;> decide +kernel⟩,
    ⟨0x10, 5, fusing (.fuses 0x10 5), by decide +kernel⟩,
    ⟨.twi, 3, svc, 1, by delta State.admits; decide +kernel⟩,
    ⟨.ring, 2, keyed, by delta State.admits; decide +kernel⟩,
    ⟨2, put [(0x6A0003, 1)] (fusing (.life 2 false)), by decide +kernel⟩,
    ⟨2, fusing (.life 2 false), by decide +kernel⟩,
    ⟨3, put [(0x6A0003, 1)] (fusing (.life 3 true)), by decide +kernel⟩,
    ⟨3, fusing (.life 3 true), by decide +kernel⟩,
    ⟨{ svc with power := { svc.power with fusesRead := 2 ^ 33 + 2 ^ 34 } }, by decide +kernel⟩,
    ⟨svc, by decide +kernel⟩⟩

theorem witness_TestPortActsInEveryStateAndTakesPinsOnlyInHold :
    ∃ (pins cells stb vid : Nat), pins < 2 ^ 47 ∧ cells < 2 ^ 47 ∧ stb < 8 ∧ vid < 4 :=
  ⟨2 ^ 47 - 1, 2 ^ 47 - 1, 7, 3, by decide +kernel⟩

end Sys2Proof.Tests
end

section
/-!
PROOFS. Frames of the object store, and what an admitted write of the host leaves behind, said once for every effect (R254).
-/
namespace Sys2Proof.Machine

/-! ### Frames of the object store -/

theorem sameObjects.refl (ks : List Nat) (s : State) : sameObjects ks s s := fun _ _ => rfl

/-- Two steps that keep all objects but `ks` and but `ls` together keep all but those of a list that holds both. -/
theorem sameObjects.trans {ks ls ms : List Nat} {s t u : State} (h1 : sameObjects ks s t) (h2 : sameObjects ls t u)
    (hk : ks ⊆ ms) (hl : ls ⊆ ms) : sameObjects ms s u := fun k hm =>
  (h2 k fun h => hm (hl h)).trans (h1 k fun h => hm (hk h))

theorem sameObjects_wr (s : State) (k v : Nat) : sameObjects [k] s (s.wr k v) := fun j hj => by
  rw [State.rd_wr, if_neg (by simpa using hj)]

theorem sameObjects.of_dict {ks : List Nat} {s t u : State} (h : sameObjects ks s t) (hd : u.dict = t.dict) :
    sameObjects ks s u := fun k hk => (congrArg (Dict.get · k) hd).trans (h k hk)

/-- The access counters lie in index 0x1020, but for the count of committed two-wire transactions. -/
theorem notMem_accessCounters {j : Nat} (h1 : j / 256 ≠ 0x1020) (h2 : j ≠ 0xA00401) (tr : Transport) :
    j ∉ accessCounters tr := by
  cases tr <;> simp [accessCounters, transportKeys] <;> omega

/-! ### An admitted write (R254) -/

/-- The state in which the effect of an admitted write takes place: counted as committed, with a success answer. -/
def State.onServe (tr : Transport) (s : State) : State := (s.committed tr).accept

section onServe
variable (s : State) (tr : Transport)

theorem State.onServe_frame :
    s.onServe tr = { s with dict := (s.onServe tr).dict, answer := ⟨0, 0, [], false⟩ } := by
  unfold State.onServe
  rw [State.committed_frame]
  rfl

@[simp] theorem State.onServe_now : (s.onServe tr).now = s.now := by rw [State.onServe_frame]
@[simp] theorem State.onServe_power : (s.onServe tr).power = s.power := by rw [State.onServe_frame]
@[simp] theorem State.onServe_mram : (s.onServe tr).mram = s.mram := by rw [State.onServe_frame]
@[simp] theorem State.onServe_therm : (s.onServe tr).therm = s.therm := by rw [State.onServe_frame]

theorem State.onServe_same : sameObjects (accessCounters tr) s (s.onServe tr) := s.committed_same tr

theorem State.onServe_rd {j : Nat} (h1 : j / 256 ≠ 0x1020) (h2 : j ≠ 0xA00401) : (s.onServe tr).rd j = s.rd j :=
  s.onServe_same tr j (notMem_accessCounters h1 h2 tr)

end onServe

section admitted
variable {s : State} {w : Txn} (h : s.admits w) (hk : w.key ≠ 0x102009) (eff : State → State)
include h hk

theorem State.hostWrite_eq_counted1 : s.hostWrite w eff = (eff (s.onServe w.tr)).counted1 w.tr w.key := by
  rw [State.hostWrite_admitted h, State.clearedTransport_id _ _ hk]
  rfl

/-- Beside the access counters, an admitted write changes the objects that its effect changes. -/
theorem State.hostWrite_same {ks : List Nat} (he : sameObjects ks (s.onServe w.tr) (eff (s.onServe w.tr))) :
    sameObjects (ks ++ accessCounters w.tr) s (s.hostWrite w eff) := by
  rw [State.hostWrite_eq_counted1 h hk]
  have h1 := (s.onServe_same w.tr).trans he (List.subset_append_right ks _) (List.subset_append_left ..)
  exact h1.trans (State.counted1_same _ w.tr w.key) (List.Subset.refl _) (List.subset_append_right ..)

/-- An object outside the access counters reads as the effect left it. -/
theorem State.rd_hostWrite {j : Nat} (h1 : j / 256 ≠ 0x1020) (h2 : j ≠ 0xA00401) :
    (s.hostWrite w eff).rd j = (eff (s.onServe w.tr)).rd j := by
  rw [State.hostWrite_eq_counted1 h hk]
  exact State.counted1_same _ w.tr w.key j (notMem_accessCounters h1 h2 w.tr)

theorem State.hostWrite_answer : (s.hostWrite w eff).answer = (eff (s.onServe w.tr)).answer := by
  rw [State.hostWrite_eq_counted1 h hk, State.counted1_answer]

theorem State.hostWrite_power : (s.hostWrite w eff).power = (eff (s.onServe w.tr)).power := by
  rw [State.hostWrite_eq_counted1 h hk, State.counted1_power]

theorem State.hostWrite_mram : (s.hostWrite w eff).mram = (eff (s.onServe w.tr)).mram := by
  rw [State.hostWrite_eq_counted1 h hk, State.counted1_mram]

end admitted

/-- A command written 1 is the write of its object. -/
theorem State.hostCommand_one (s : State) (tr : Transport) (key : Nat) (eff : State → State) :
    s.hostCommand tr key 1 eff = s.hostWrite ⟨tr, key, 1, 1⟩ eff := by
  simp [State.hostCommand]

end Sys2Proof.Machine
end

section
/-!
PROOFS. One row slot (R58, R28, R106, R351): what the conversion of the row before changes, what the ladles hold after it, how the
slot grid moves on, and which row is captured.
-/
namespace Sys2Proof.Machine

/-! ### What a conversion leaves unchanged -/

/-- `t` is `s` but for objects, converters and what the flasks hold. -/
def State.convertsTo (s t : State) : Prop :=
  t = { s with dict := t.dict, conv := t.conv, image := { s.image with flasks := t.image.flasks } }

namespace State.convertsTo

variable {s t u : State}

theorem refl (s : State) : s.convertsTo s := rfl

theorem of_frame {d : Dict} {c : Conv} (h : t = { s with dict := d, conv := c }) : s.convertsTo t := by rw [h]; rfl

theorem trans (h1 : s.convertsTo t) (h2 : t.convertsTo u) : s.convertsTo u := by
  unfold State.convertsTo at *
  rw [h2, h1]

theorem image (h : s.convertsTo t) : t.image = { s.image with flasks := t.image.flasks } := by
  unfold State.convertsTo at h; rw [h]

theorem therm (h : s.convertsTo t) : t.therm = s.therm := by unfold State.convertsTo at h; rw [h]

end State.convertsTo

theorem State.trimSlot_frame (s : State) (refs : List (Nat × Int × Int)) (out : List Nat) :
    s.trimSlot refs out = { s with dict := (s.trimSlot refs out).dict, conv := (s.trimSlot refs out).conv } := by
  unfold State.trimSlot
  split
  · rfl
  · split <;> rfl

/-- Trimming writes one object, the count of left-out converters. -/
theorem State.trimSlot_rd (s : State) (refs : List (Nat × Int × Int)) (out : List Nat) {k : Nat} (hk : k ≠ 0x310501) :
    (s.trimSlot refs out).rd k = s.rd k := by
  unfold State.trimSlot
  split
  · rfl
  · split
    · rfl
    · simp [hk]

theorem State.darkUpdate_frame (s : State) (key k : Nat) (fresh : Bool) (m : Option Nat) :
    s.darkUpdate key k fresh m = { s with dict := (s.darkUpdate key k fresh m).dict } := by
  cases m <;> rfl

theorem State.darkTracking_frame (s : State) (p : Pour) (dark : List (Nat × Int)) :
    s.darkTracking p dark = { s with dict := (s.darkTracking p dark).dict, conv := (s.darkTracking p dark).conv } := by
  simp only [State.darkTracking]
  rw [State.darkUpdate_frame, State.darkUpdate_frame]
  rfl

/-! ### The ladles (R28) -/

theorem State.flask_onFlask (s : State) (f g : Nat) (y : Flask → Flask) (hg : g < s.image.flasks.length) :
    (s.onFlask f y).flask g = if g = f then y (s.flask g) else s.flask g := by
  simp [State.flask, State.onFlask, nth_modifyNth, hg]

/-- Row `r` stands alone in a ladle, converted. -/
def Flask.holdsOnly (y : Flask) (r : RowRef) : Prop := ∃ q : LadleRow, y.rows = [q] ∧ q.ref = r ∧ q.slag = false

/-- The row that a ladle with room takes: its samples, and the dark estimates of the slot. -/
def State.ladled (p : Pour) (x : Nat → Int) (r : RowRef) (s : State) (f : Nat) : LadleRow :=
  let l := (writtenColumns p.cfg f).map (sampleOf x (colFactor p.cfg == 2))
  ⟨r, false, false, l, if s.conv.freshL then none else some (s.rd 0x311002),
    if s.conv.freshR then none else some (s.rd 0x311003), overMask l⟩

/-- A ladle with room takes the row; beside it only objects change. -/
theorem State.ladleRow_of_room (s : State) (p : Pour) (x : Nat → Int) (r : RowRef) (f : Nat)
    (h : (s.flask f).held < 128) :
    ∃ (l : List Sample) (k v : Nat), State.ladleRow p x r s f =
      ((s.countSamples f x l).onFlask f fun y => y.push (s.ladled p x r f)).wr k v := by
  rw [State.ladleRow, if_neg (Nat.not_le.mpr h)]
  exact ⟨_, _, _, rfl⟩

theorem State.ladleRow_of_empty (s : State) (p : Pour) (x : Nat → Int) (r : RowRef) (f : Nat)
    (h : (s.flask f).rows = []) :
    ∃ d : Dict, State.ladleRow p x r s f = { s.onFlask f fun y => y.push (s.ladled p x r f) with dict := d } := by
  obtain ⟨l, k, v, he⟩ := s.ladleRow_of_room p x r f (by simp [Flask.held, h])
  exact ⟨_, he⟩

theorem Flask.push_of_empty {y : Flask} (h : y.rows = []) (q : LadleRow) : (y.push q).rows = [q] := by
  simp [Flask.push, h]

/-- A row goes to each ladle of a list of empty ones, and to no other. -/
theorem State.foldl_ladleRow (p : Pour) (x : Nat → Int) (r : RowRef) (fs : List Nat) (s : State) (hn : fs.Nodup)
    (hlt : ∀ f ∈ fs, f < s.image.flasks.length) (he : ∀ f ∈ fs, (s.flask f).rows = []) :
    let t := fs.foldl (State.ladleRow p x r) s
    s.convertsTo t ∧ ∀ g < s.image.flasks.length,
      (g ∈ fs → (t.flask g).holdsOnly r) ∧ (g ∉ fs → t.flask g = s.flask g) := by
  induction fs generalizing s with
  | nil => exact ⟨State.convertsTo.refl s, fun g _ => ⟨by simp, fun _ => rfl⟩⟩
  | cons f fs ih =>
    obtain ⟨d, hu⟩ := s.ladleRow_of_empty p x r f (he f List.mem_cons_self)
    obtain ⟨hf, hn⟩ := List.nodup_cons.mp hn
    have hlen : (State.ladleRow p x r s f).image.flasks.length = s.image.flasks.length := by
      rw [hu]; exact length_modifyNth ..
    have hfl : ∀ g < s.image.flasks.length, (State.ladleRow p x r s f).flask g =
        if g = f then (s.flask g).push (s.ladled p x r f) else s.flask g := fun g hg => by
      rw [hu]; exact s.flask_onFlask f g _ hg
    have hne : ∀ g ∈ fs, g ≠ f := fun g hg hgf => hf (hgf ▸ hg)
    have hconv : s.convertsTo (State.ladleRow p x r s f) := by rw [hu]; rfl
    obtain ⟨hc, hrest⟩ := ih (State.ladleRow p x r s f) hn
      (fun g hg => hlen ▸ hlt g (List.mem_cons_of_mem _ hg))
      (fun g hg => by
        rw [hfl g (hlt g (List.mem_cons_of_mem _ hg)), if_neg (hne g hg)]
        exact he g (List.mem_cons_of_mem _ hg))
    refine ⟨hconv.trans hc, fun g hg => ?_⟩
    obtain ⟨hin, hout⟩ := hrest g (hlen ▸ hg)
    by_cases hgf : g = f
    · subst hgf
      refine ⟨fun _ => ⟨s.ladled p x r g, ?_, rfl, rfl⟩, fun h => absurd List.mem_cons_self h⟩
      rw [List.foldl_cons, hout hf, hfl g hg, if_pos rfl, Flask.push_of_empty (he g List.mem_cons_self)]
    · refine ⟨fun h => hin ((List.mem_cons.mp h).resolve_left hgf), fun h => ?_⟩
      rw [List.foldl_cons, hout fun h' => h (List.mem_cons_of_mem _ h'), hfl g hg, if_neg hgf]

/-- The conversion of a row of an output pour writes the ladles of the live flasks; beside them it changes objects and converters
only. -/
theorem State.convertRow_eq {s : State} {p : Pour} (levels dark : List (Nat × Int)) (refs : List (Nat × Int × Int))
    (r : RowRef) (hp : p.acq = false) :
    ∃ d c, s.convertRow p levels dark refs r =
      (liveFlasks p.cfg).foldl (State.ladleRow p (s.columnX p levels refs) r) { s with dict := d, conv := c } := by
  simp only [State.convertRow, hp, if_neg Bool.false_ne_true]
  rw [State.trimSlot_frame, State.darkTracking_frame]
  exact ⟨_, _, rfl⟩

/-- Converted into empty ladles, a row stands in the ladles of exactly the live flasks (R28, R58, R106). -/
theorem State.convertRow_fills {s : State} {p : Pour} (levels dark : List (Nat × Int)) (refs : List (Nat × Int × Int))
    (r : RowRef) (hp : p.acq = false) (hlen : s.image.flasks.length = 16) (he : ∀ f < 16, (s.flask f).rows = []) :
    let t := s.convertRow p levels dark refs r
    s.convertsTo t ∧ ∀ f < 16,
      (f ∈ liveFlasks p.cfg → (t.flask f).holdsOnly r) ∧ (f ∉ liveFlasks p.cfg → (t.flask f).rows = []) := by
  obtain ⟨d, c, ht⟩ := State.convertRow_eq (s := s) levels dark refs r hp
  have hlt : ∀ f ∈ liveFlasks p.cfg, f < 16 := fun f hf => List.mem_range.mp (List.mem_of_mem_filter hf)
  obtain ⟨hc, hf⟩ := State.foldl_ladleRow p (s.columnX p levels refs) r (liveFlasks p.cfg) { s with dict := d, conv := c }
    (List.nodup_range.filter _) (fun f h => hlen.symm ▸ hlt f h) (fun f h => he f (hlt f h))
  intro t
  have ht : t = _ := ht
  rw [ht]
  refine ⟨(State.convertsTo.of_frame rfl).trans hc, fun f hlt => ?_⟩
  obtain ⟨hin, hout⟩ := hf f (hlen.symm ▸ hlt)
  exact ⟨hin, fun h => by rw [hout h]; exact he f hlt⟩

/-! ### The slot grid (R351) -/

/-- With no pour in progress there is nothing to plan anew. -/
theorem State.replan_of_no_pours {s : State} (h : s.image.pours = []) : s.replan = s := by
  have hp : s.image = { s.image with pours := [] } := by rw [← h]
  simp only [State.replan, h, List.foldl_nil, State.onImage]
  rw [← hp]

/-- The next slot: its number, the throttle step of its group of 16, and its boundary one slot on. Where nothing is planned
anew, no other part of the image path changes. -/
theorem State.nextSlot_image {s : State} (h : s.image.pours = [] ∨ (s.image.slotNo + 1) % 16 ≠ 0) :
    s.nextSlot.image = { s.image with
      slotNo := s.image.slotNo + 1, nextSlot := s.image.nextSlot + slotUnits
      stepNow := if (s.image.slotNo + 1) % 16 = 0 then s.rd 0x6A0005 else s.image.stepNow } := by
  have hidle : ∀ (u : State) (b : Bool) k, (if b = true then u.inc64 k else u).image = u.image := fun u b k => by
    cases b <;> rfl
  simp only [State.nextSlot]
  rcases h with h | h
  · rw [State.replan_of_no_pours (by rw [hidle]; exact h), ite_self, hidle]
    rfl
  · simp only [if_neg h, if_true]
    rw [hidle]
    rfl

theorem State.nextSlot_therm (s : State) : s.nextSlot.therm = s.therm := by
  have hidle : ∀ (u : State) (b : Bool) k, (if b = true then u.inc64 k else u).therm = u.therm := fun u b k => by
    cases b <;> rfl
  have hplan : ∀ (u : State) (c : Prop) [Decidable c], (if c then u else u.replan).therm = u.therm := fun u c _ => by
    split <;> rfl
  simp only [State.nextSlot, hplan, hidle]
  rfl

/-! ### The row captured (R46, R58) -/

theorem State.sampleRow_of_no_pours {s : State} (h : s.image.pours = []) (t : Instant) (n : Nat) :
    s.sampleRow t n = s.onImage fun i => { i with sampled := none } := by
  have he : s.pourExposures = [] := by simp [State.pourExposures, h]
  cases n <;> simp [State.sampleRow, he]

/-- Slot `j`, which starts at `t`, is to capture row `r`, the next one of the only exposure `e` of the only pour `p`, an area pour:
there is no quench, the slot is active, and its capture window comes after TX. -/
structure State.Captures (s : State) (j : Nat) (t : Instant) (p : Pour) (e : Exposure) (r : RowRef) (rest : List RowRef) :
    Prop where
  pours : s.image.pours = [p]
  area : p.area = true
  exps : p.exps = [e]
  toRead : e.toRead = r :: rest
  quench : s.therm.quench = false
  active : slotIdle j s.image.stepNow = false
  window : max e.tx (s.image.releaseAt + ns 170) + ns 60 ≤ t + 68 * periodUnits

theorem State.sampleRow_captures {s : State} {t : Instant} {p : Pour} {e : Exposure} {r : RowRef} {rest : List RowRef}
    (h : s.Captures s.image.slotNo t p e r rest) (n : Nat) :
    (s.sampleRow t (n + 1)).image = { s.image with
      pours := [{ p with exps := [{ e with toRead := rest }] }], sampled := some r
      releaseAt := if e.toRead.length = 1 then t + slotUnits else s.image.releaseAt } := by
  obtain ⟨hp, harea, hexps, hread, hq, hidle, hwin⟩ := h
  have hf : s.pourExposures.find? (fun x => !x.2.toRead.isEmpty) = some (p, e) := by
    simp [State.pourExposures, hp, hexps, hread]
  simp only [State.sampleRow, hf]
  rw [if_neg (by simp [hq]), if_neg (by simp [harea]), if_neg (by simp [hidle]), if_neg (Nat.not_lt.mpr hwin)]
  simp [State.onExposure, hp, hexps, hread, updateFirst]

/-! ### What settles after the slot (R29, R195) -/

theorem State.flushSlag_of_no_slag {s : State} {f : Nat} (h : ∀ q ∈ (s.flask f).rows, q.slag = false) (n : Nat) :
    s.flushSlag f n = s := by
  cases n with
  | zero => rfl
  | succ n =>
    rw [State.flushSlag]
    cases hr : (s.flask f).rows with
    | nil => rfl
    | cons q l => simp [h q (by rw [hr]; exact List.mem_cons_self)]

theorem State.settleFlasks_of_no_slag {s : State} (h : ∀ f < 16, ∀ q ∈ (s.flask f).rows, q.slag = false) :
    s.settleFlasks = s.settlePours := by
  have hfold : ∀ fs : List Nat, (∀ f ∈ fs, f < 16) →
      fs.foldl (fun s f => s.flushSlag f (s.flask f).rows.length) s = s := by
    intro fs hfs
    induction fs with
    | nil => rfl
    | cons f fs ih =>
      rw [List.foldl_cons, State.flushSlag_of_no_slag (h f (hfs f List.mem_cons_self))]
      exact ih fun g hg => hfs g (List.mem_cons_of_mem _ hg)
  rw [State.settleFlasks, hfold _ fun f hf => List.mem_range.mp hf]

theorem State.settlePours_of_no_pours {s : State} (h : s.image.pours = []) : s.settlePours = s := by
  simp [State.settlePours, h, State.finishPours]

/-- A pour with rows still to be processed stays in progress. -/
theorem State.settlePours_of_not_done {s : State} {p : Pour} (h : s.image.pours = [p]) (hd : p.done = false) :
    s.settlePours = s := by
  simp [State.settlePours, h, State.finishPours, hd]

theorem Pour.not_done_of_left {p : Pour} (h : ∃ l ∈ p.left, l.2 ≠ 0) : p.done = false := by
  obtain ⟨l, hl, hne⟩ := h
  have : (p.left.all fun l => l.2 == 0) = false := List.all_eq_false.mpr ⟨l, hl, by simpa using hne⟩
  simp [Pour.done, this]

/-! ### The row slot -/

/-- The part of a row slot before the next one begins: the row sampled in the slot before is converted, or the slot counts for
trimming only. -/
def State.endSlot (levels dark : List (Nat × Int)) (refs : List (Nat × Int × Int)) (s : State) : State :=
  match s.image.sampled with
  | none => if s.therm.quench then s else s.trimSlot refs []
  | some r =>
    match s.pourOf r.pour with
    | some p => s.convertRow p levels dark refs r
    | none => s

/-- The row-slot boundary is reached with the converter clock running, and every ladle is empty. -/
structure State.SlotDue (s : State) : Prop where
  clock : s.converterClock = true
  due : s.image.nextSlot ≤ s.now
  flasks : s.image.flasks.length = 16
  empty : ∀ f < 16, (s.flask f).rows = []

/-- At its boundary a slot ends, the next one begins as `u`, and the row for it is captured. -/
theorem State.rowSlot_eq {s u : State} (h : s.SlotDue)
    {levels dark : List (Nat × Int)} {refs : List (Nat × Int × Int)} (hu : (s.endSlot levels dark refs).nextSlot = u) :
    exec (.rowSlot levels dark refs) s =
      .next (u.sampleRow s.image.nextSlot (u.pourExposures.length + 1)).settleFlasks := by
  have hc : ¬(s.now < s.image.nextSlot ∨ (!s.converterClock) = true) := by simp [h.clock, Nat.not_lt.mpr h.due]
  simp only [exec, execRowSlot, if_neg hc, ← hu]
  rfl

/-- With no pour in progress the end of a slot changes the trim averages at most. -/
theorem State.endSlot_of_no_pours {s : State} (h : s.image.pours = []) (levels dark : List (Nat × Int))
    (refs : List (Nat × Int × Int)) :
    (s.endSlot levels dark refs).image = s.image ∧ (s.endSlot levels dark refs).rd 0x6A0005 = s.rd 0x6A0005 := by
  have hn : ∀ i, s.pourOf i = none := fun i => by simp [State.pourOf, h]
  unfold State.endSlot
  split
  · split
    · exact ⟨rfl, rfl⟩
    · exact ⟨by rw [State.trimSlot_frame], State.trimSlot_rd _ _ _ (by decide)⟩
  · rw [hn]
    exact ⟨rfl, rfl⟩

theorem State.endSlot_converts {s : State} {p : Pour} {r : RowRef} (hp : s.image.pours = [p])
    (hs : s.image.sampled = some r) (hi : r.pour = p.idx) (levels dark : List (Nat × Int))
    (refs : List (Nat × Int × Int)) : s.endSlot levels dark refs = s.convertRow p levels dark refs r := by
  have hn : s.pourOf r.pour = some p := by simp [State.pourOf, hp, hi]
  simp [State.endSlot, hs, hn]

/-- A row slot with no pour in progress moves the grid on and captures nothing (R58, R351). -/
theorem State.rowSlot_of_no_pours {s : State} (hdue : s.SlotDue) (h : s.image.pours = [])
    (levels dark : List (Nat × Int)) (refs : List (Nat × Int × Int)) :
    ∃ t, exec (.rowSlot levels dark refs) s = .next t ∧ t.image = { s.image with
      slotNo := s.image.slotNo + 1, nextSlot := s.image.nextSlot + slotUnits, sampled := none
      stepNow := if (s.image.slotNo + 1) % 16 = 0 then s.rd 0x6A0005 else s.image.stepNow } := by
  obtain ⟨hi, hr⟩ := State.endSlot_of_no_pours h levels dark refs
  have hn := State.nextSlot_image (s := s.endSlot levels dark refs) (.inl (by rw [hi]; exact h))
  rw [hi, hr] at hn
  have hp : (s.endSlot levels dark refs).nextSlot.image.pours = [] := by rw [hn]; exact h
  refine ⟨_, State.rowSlot_eq hdue rfl, ?_⟩
  rw [State.sampleRow_of_no_pours hp, State.settleFlasks_of_no_slag, State.settlePours_of_no_pours,
    State.onImage_image, hn]
  · exact hp
  · intro f hf q hq
    have hq : q ∈ (s.flask f).rows := by simpa [State.flask, hn] using hq
    simp [hdue.empty f hf] at hq

/-- A conversion, and the beginning of a slot within a group of 16, leave what the slot is to capture. -/
theorem State.Captures.nextSlot {s u : State} {t : Instant} {p : Pour} {e : Exposure} {r : RowRef} {rest : List RowRef}
    (h : s.Captures (s.image.slotNo + 1) t p e r rest) (hc : s.convertsTo u) (h16 : (s.image.slotNo + 1) % 16 ≠ 0) :
    u.nextSlot.Captures u.nextSlot.image.slotNo t p e r rest := by
  have hn := State.nextSlot_image (s := u) (.inr (by rw [hc.image]; exact h16))
  rw [hc.image] at hn
  refine ⟨?_, h.area, h.exps, h.toRead, ?_, ?_, ?_⟩
  · rw [hn]; exact h.pours
  · rw [State.nextSlot_therm, hc.therm]; exact h.quench
  · rw [hn]; simpa [h16] using h.active
  · rw [hn]; exact h.window

/-- A row slot of one area pour captures its next row and converts the row before into the live ladles (R28, R46, R58). -/
theorem State.rowSlot_captures {s : State} (hdue : s.SlotDue) {p : Pour} {e : Exposure} {r0 r : RowRef} {rest : List RowRef}
    (h : s.Captures (s.image.slotNo + 1) s.image.nextSlot p e r rest) (h16 : (s.image.slotNo + 1) % 16 ≠ 0)
    (hacq : p.acq = false) (hleft : ∃ l ∈ p.left, l.2 ≠ 0) (hs : s.image.sampled = some r0) (hidx : r0.pour = p.idx)
    (levels dark : List (Nat × Int)) (refs : List (Nat × Int × Int)) :
    ∃ t, exec (.rowSlot levels dark refs) s = .next t ∧ t.image.slotNo = s.image.slotNo + 1 ∧
      t.image.nextSlot = s.image.nextSlot + 14000 ∧ t.image.sampled = some r ∧
      t.image.pours = [{ p with exps := [{ e with toRead := rest }] }] ∧
      ∀ f < 16, (f ∈ liveFlasks p.cfg → (t.flask f).holdsOnly r0) ∧ (f ∉ liveFlasks p.cfg → (t.flask f).rows = []) := by
  obtain ⟨hc, hfill⟩ := State.convertRow_fills levels dark refs r0 hacq hdue.flasks hdue.empty
  rw [← State.endSlot_converts h.pours hs hidx] at hc hfill
  generalize hu : s.endSlot levels dark refs = u at hc hfill
  have hn := State.nextSlot_image (s := u) (.inr (by rw [hc.image]; exact h16))
  have hcap := State.sampleRow_captures (h.nextSlot hc h16) u.nextSlot.pourExposures.length
  have hx := State.rowSlot_eq hdue (congrArg State.nextSlot hu)
  generalize u.nextSlot.sampleRow s.image.nextSlot (u.nextSlot.pourExposures.length + 1) = v at hcap hx
  have hflask : ∀ f, v.flask f = u.flask f := fun f => by simp [State.flask, hcap, hn]
  rw [hc.image] at hn
  refine ⟨_, hx, ?_⟩
  rw [State.settleFlasks_of_no_slag, State.settlePours_of_not_done (by rw [hcap]) (Pour.not_done_of_left (by exact hleft))]
  · refine ⟨by rw [hcap, hn], by rw [hcap, hn], by rw [hcap], by rw [hcap], fun f hf => ?_⟩
    rw [hflask]
    exact hfill f hf
  · intro f hf q hmem
    rw [hflask] at hmem
    by_cases hlive : f ∈ liveFlasks p.cfg
    · obtain ⟨q', hrows, -, hslag⟩ := (hfill f hf).1 hlive
      rw [hrows, List.mem_singleton] at hmem
      exact hmem ▸ hslag
    · rw [(hfill f hf).2 hlive] at hmem
      simp at hmem

/-- Settles O12, by the two kinds of slot. -/
theorem rowSlotCapturesAndConverts : Obligations.RowSlotCapturesAndConverts := by
  unfold Obligations.RowSlotCapturesAndConverts
  intro levels dark refs s hclk ht hlen he
  have hdue : s.SlotDue := ⟨hclk, ht, hlen, he⟩
  refine ⟨fun hp => ?_, fun p e r0 r rest hp harea hacq hexps hread hleft hs hidx hq h16 hidle hwin => ?_⟩
  · obtain ⟨t, hx, hi⟩ := State.rowSlot_of_no_pours hdue hp levels dark refs
    exact ⟨t, hx, by rw [hi], by rw [hi], by rw [hi], by rw [hi]⟩
  · obtain ⟨t, hx, hno, hnext, hsam, hpours, hfill⟩ := State.rowSlot_captures hdue
      ⟨hp, harea, hexps, hread, hq, hidle, hwin⟩ h16 hacq hleft hs hidx levels dark refs
    refine ⟨t, hx, hno, hnext, hsam, hpours, fun f hf => ?_⟩
    obtain ⟨hin, hout⟩ := hfill f hf
    split
    case isTrue hlive =>
      obtain ⟨q, hrows, href, -⟩ := hin hlive
      simp [hrows, href]
    case isFalse hlive => simp [hout hlive]

end Sys2Proof.Machine
end

section
/-!
PROOFS. Keys, fuse commands and life-cycle commands (R381, R383 to R387), the wipe and the reset after it, and the maker test mode
(R3).
-/
namespace Sys2Proof.Machine

/-! ### The keys (R381, R383) -/

/-- A key write answers success and changes nothing but the key, which its value arms or disarms. -/
theorem State.hostWrite_key {s : State} {w : Txn} (h : s.admits w) (hk : w.key ≠ 0x102009) {eff : State → State}
    {f : Power → Power} (he : eff (s.onServe w.tr) = (s.onServe w.tr).onPower f) :
    (s.hostWrite w eff).answer.abort = 0 ∧ (s.hostWrite w eff).power = f s.power ∧
      sameObjects (accessCounters w.tr) s (s.hostWrite w eff) ∧
      s.hostWrite w eff = { s with
        dict := (s.hostWrite w eff).dict, answer := (s.hostWrite w eff).answer, power := (s.hostWrite w eff).power } := by
  refine ⟨?_, ?_, ?_, ?_⟩
  · rw [State.hostWrite_answer h hk, he]; rfl
  · rw [State.hostWrite_power h hk, he]; simp
  · exact State.hostWrite_same h hk eff (ks := []) (by rw [he]; exact sameObjects.refl _ _)
  · rw [State.hostWrite_eq_counted1 h hk, he, State.counted1_frame]
    simp only [State.onPower]
    rw [State.onServe_frame]

theorem State.fuseKey_onServe (s : State) (tr : Transport) (v : Nat) :
    State.fuseKey v (s.onServe tr) = (s.onServe tr).onPower fun p =>
      { p with fuseKey := if v = s.rd 0x100005 then some s.now else none } := by
  simp only [State.fuseKey, State.onServe_now]
  rw [State.onServe_rd _ _ (by decide) (by decide)]

theorem State.lifeKey_onServe (s : State) (tr : Transport) (v : Nat) :
    State.lifeKey tr v (s.onServe tr) = (s.onServe tr).onPower fun p =>
      { p with lifeKey := if v = s.rd 0x100005 then some (tr, s.now) else none } := by
  simp only [State.lifeKey, State.onServe_now]
  rw [State.onServe_rd _ _ (by decide) (by decide)]

/-! ### A command that fails or is refused (R387) -/

section lifeFail
variable (s : State) (cmd c : Nat)

/-- Bit 13 of the alert status is the one that event 0x0106 sets (R262), and logging it leaves it set. -/
theorem State.logEvent_setsAlert {code b : Nat} {data : List Byte} (hb : alertBit code data = some b) :
    ((s.logEvent code data).rd 0x100101).testBit b = true := by
  have hl : ∀ u : State, (u.logEntry code data (some b)).rd 0x100101 = u.rd 0x100101 := by
    intro u
    simp only [State.logEntry, State.sendFrame]
    split <;> simp
  simp only [State.logEvent, hb]
  split <;> simp [hl, State.raise, testBit_setBit]

theorem State.lifeFail_same :
    sameObjects [0xB00103, 0xB00104, 0x100101, 0xC00007, 0xC00008] s (s.lifeFail cmd c) := by
  have h1 := (sameObjects_wr s 0xB00103 3).trans (sameObjects_wr _ 0xB00104 c) (ms := [0xB00103, 0xB00104]) (by simp) (by simp)
  exact h1.trans (State.logEvent_same _ _ _) (by simp) (by simp)

theorem State.lifeFail_status : (s.lifeFail cmd c).rd 0xB00103 = 3 := by
  unfold State.lifeFail
  rw [State.logEvent_same _ _ _ _ (by decide)]
  simp

theorem State.lifeFail_cause : (s.lifeFail cmd c).rd 0xB00104 = c := by
  unfold State.lifeFail
  rw [State.logEvent_same _ _ _ _ (by decide)]
  simp

theorem State.lifeFail_alert : ((s.lifeFail cmd c).rd 0x100101).testBit 13 = true :=
  State.logEvent_setsAlert _ rfl

@[simp] theorem State.lifeFail_power : (s.lifeFail cmd c).power = s.power := by simp [State.lifeFail]
@[simp] theorem State.lifeFail_mram : (s.lifeFail cmd c).mram = s.mram := by simp [State.lifeFail]

end lifeFail

/-- From `s` to `t` a fuse or life-cycle command is refused with cause `c` (R387): the abort, the status and its cause, the alert
bit, and `p` as what is left of the power state; no other object and no MRAM changes. -/
structure CommandRefused (tr : Transport) (p : Power) (c : Nat) (s t : State) : Prop where
  abort : t.answer.abort = 0x05010000
  power : t.power = p
  mram : t.mram = s.mram
  status : t.rd 0xB00103 = 3
  cause : t.rd 0xB00104 = c
  alert : (t.rd 0x100101).testBit 13 = true
  same : sameObjects ([0xB00103, 0xB00104, 0x100101, 0xC00007, 0xC00008] ++ accessCounters tr) s t

/-- A write whose effect uses up its key, fails with a cause and answers the abort for the present state is such a refusal. -/
theorem State.hostWrite_refusesCommand {s : State} {w : Txn} (h : s.admits w) (hk : w.key ≠ 0x102009) {eff : State → State}
    {f : Power → Power} {cmd c : Nat}
    (he : eff (s.onServe w.tr) = (((s.onServe w.tr).onPower f).lifeFail cmd c).refuse abortState) :
    CommandRefused w.tr (f s.power) c s (s.hostWrite w eff) := by
  have hfail := ((s.onServe w.tr).onPower f).lifeFail_same cmd c
  refine ⟨?_, ?_, ?_, ?_, ?_, ?_, ?_⟩
  · rw [State.hostWrite_answer h hk, he]; rfl
  · rw [State.hostWrite_power h hk, he]; simp
  · rw [State.hostWrite_mram h hk, he]; simp
  · rw [State.rd_hostWrite h hk _ (by decide) (by decide), he]; exact State.lifeFail_status ..
  · rw [State.rd_hostWrite h hk _ (by decide) (by decide), he]; exact State.lifeFail_cause ..
  · rw [State.rd_hostWrite h hk _ (by decide) (by decide), he]; exact State.lifeFail_alert ..
  · exact State.hostWrite_same h hk eff (by rw [he]; exact hfail)

/-! ### Blowing fuses (R381) -/

/-- The fuse key was written within the last second. -/
def State.fuseArmed (s : State) : Prop := ∃ x, s.power.fuseKey = some x ∧ s.now ≤ x + ms 1000

theorem State.blowFault_unarmed {s : State} (h : ¬s.fuseArmed) : s.blowFault = some 1 := by
  have hn : s.power.fuseKey.any (fun t => decide (s.now ≤ t + ms 1000)) = false := by
    simp only [State.fuseArmed, not_exists, not_and] at h
    cases hx : s.power.fuseKey with
    | none => rfl
    | some x => simpa using h x hx
  simp [State.blowFault, hn]

theorem State.blowFault_armed {s : State} (h : s.fuseArmed) :
    s.blowFault = if s.power.op.isSome then some 4 else if s.therm.quench then some 5 else none := by
  obtain ⟨x, hx, ht⟩ := h
  simp [State.blowFault, hx, ht]

theorem State.blowFault_onServe (s : State) (tr : Transport) : (s.onServe tr).blowFault = s.blowFault := by
  simp [State.blowFault]

theorem State.blow_of_fault {s : State} {c : Nat} (h : s.blowFault = some c) (cmd bits : Nat) :
    s.blow cmd bits = ((s.onPower fun p => { p with fuseKey := none }).lifeFail cmd c).refuse abortState := by
  simp [State.blow, h]

theorem State.blow_of_no_fault {s : State} (h : s.blowFault = none) (cmd bits : Nat) :
    s.blow cmd bits =
      (s.wr 0xB00103 1).onPower fun p => { p with fuseKey := none, op := some (.fuses cmd bits) } := by
  simp only [State.blow, h]
  rfl

/-- A blow command of a written key, with no command under way and no quench, begins: no fuse has changed yet. -/
theorem State.hostWrite_blow_begins {s : State} {w : Txn} (h : s.admits w) (hk : w.key ≠ 0x102009) (cmd bits : Nat)
    (ha : s.fuseArmed) (hop : s.power.op = none) (hq : s.therm.quench = false) :
    let t := s.hostWrite w (State.blow cmd bits)
    t.answer.abort = 0 ∧ t.power = { s.power with fuseKey := none, op := some (.fuses cmd bits) } ∧ t.rd 0xB00103 = 1 ∧
      sameObjects (0xB00103 :: accessCounters w.tr) s t ∧ t.mram = s.mram := by
  have hf : (s.onServe w.tr).blowFault = none := by
    rw [State.blowFault_onServe, State.blowFault_armed ha]; simp [hop, hq]
  have he := State.blow_of_no_fault hf cmd bits
  refine ⟨?_, ?_, ?_, ?_, ?_⟩
  · rw [State.hostWrite_answer h hk, he]; rfl
  · rw [State.hostWrite_power h hk, he]; simp
  · rw [State.rd_hostWrite h hk _ (by decide) (by decide), he]; simp
  · exact State.hostWrite_same h hk _ (ks := [0xB00103]) (by rw [he]; exact (sameObjects_wr _ 0xB00103 1).of_dict rfl)
  · rw [State.hostWrite_mram h hk, he]; simp

/-- The causes that refuse a blow command, in their order: no key, a command under way, quench. -/
theorem State.blowFault_of_refused {s : State} (h : ¬s.fuseArmed ∨ s.power.op ≠ none ∨ s.therm.quench = true) :
    ∃ c, s.blowFault = some c ∧ (¬s.fuseArmed → c = 1) ∧ (s.fuseArmed → c = if s.power.op = none then 5 else 4) := by
  by_cases ha : s.fuseArmed
  · have hq : s.power.op = none → s.therm.quench = true := fun hop =>
      (h.resolve_left (not_not_intro ha)).resolve_left (not_not_intro hop)
    refine ⟨if s.power.op = none then 5 else 4, ?_, fun hn => absurd ha hn, fun _ => rfl⟩
    rw [State.blowFault_armed ha]
    cases hop : s.power.op with
    | none => simp [hq hop]
    | some o => simp
  · exact ⟨1, State.blowFault_unarmed ha, fun _ => rfl, fun hn => absurd hn ha⟩

/-- A blow command that any condition refuses is refused with the cause of the first one. -/
theorem State.hostWrite_blow_refused {s : State} {w : Txn} (h : s.admits w) (hk : w.key ≠ 0x102009) (cmd bits : Nat)
    (hno : ¬s.fuseArmed ∨ s.power.op ≠ none ∨ s.therm.quench = true) :
    let t := s.hostWrite w (State.blow cmd bits)
    t.answer.abort = 0x05010000 ∧ t.power = { s.power with fuseKey := none } ∧ t.rd 0xB00103 = 3 ∧
      (¬s.fuseArmed → t.rd 0xB00104 = 1) ∧ (s.fuseArmed → t.rd 0xB00104 = if s.power.op = none then 5 else 4) ∧
      (t.rd 0x100101).testBit 13 = true ∧
      sameObjects ([0xB00103, 0xB00104, 0x100101, 0xC00007, 0xC00008] ++ accessCounters w.tr) s t ∧ t.mram = s.mram := by
  obtain ⟨c, hf, hun, har⟩ := State.blowFault_of_refused hno
  have hr := State.hostWrite_refusesCommand h hk (State.blow_of_fault ((s.blowFault_onServe w.tr).trans hf) cmd bits)
  exact ⟨hr.abort, hr.power, hr.status, fun ha => hr.cause.trans (hun ha), fun ha => hr.cause.trans (har ha), hr.alert,
    hr.same, hr.mram⟩

theorem State.blowFactoryCalibrationLock_one (s : State) (tr : Transport) :
    exec (.blowFactoryCalibrationLock tr 1) s = .next (s.hostWrite ⟨tr, 0xB01004, 1, 1⟩ (State.blow 0x12 (2 ^ 32))) :=
  congrArg Host.Outcome.next (s.hostCommand_one tr 0xB01004 _)

/-! ### The end of programming (R381, R383) -/

theorem State.fusesDone_blown (s : State) (cmd bits : Nat) :
    s.fusesDone cmd bits true =
      (s.wr 0xB00103 2).onPower fun p => { p with op := none, fuses := p.fuses ||| bits } := rfl

/-- On a failed read-back the fuses blown are some of those asked for, and the failure has cause 6. -/
theorem State.fusesDone_failed (s : State) (cmd bits : Nat) :
    let t := s.fusesDone cmd bits false
    t.power.op = none ∧ t.rd 0xB00103 = 3 ∧ t.rd 0xB00104 = 6 ∧
      (∀ i, s.power.fuses.testBit i = true → t.power.fuses.testBit i = true) ∧
      (∀ i, t.power.fuses.testBit i = true → s.power.fuses.testBit i = true ∨ bits.testBit i = true) ∧
      t.mram = s.mram := by
  have hp : (s.fusesDone cmd bits false).power = { s.power with
      op := none, fuses := s.power.fuses ||| (bits &&& Config.freeValue s.free) } := State.lifeFail_power ..
  refine ⟨by rw [hp], State.lifeFail_status .., State.lifeFail_cause .., fun i hi => ?_, fun i hi => ?_,
    State.lifeFail_mram ..⟩
  · simp [hp, hi]
  · simp only [hp, Nat.testBit_or, Nat.testBit_and, Bool.or_eq_true, Bool.and_eq_true] at hi
    exact hi.imp_right And.left

/-- A blown life-cycle fuse lets the wipe follow. -/
theorem State.lifeFuse_blown (s : State) (target : Nat) :
    s.lifeFuse target true = { s with power := { s.power with
      fuses := s.power.fuses ||| 2 ^ (32 + target), op := some (.life target true) } } := rfl

/-- A life-cycle fuse that does not read back clears the journal, with cause 6. -/
theorem State.lifeFuse_failed (s : State) (target : Nat) :
    let t := s.lifeFuse target false
    t.power = { s.power with op := none } ∧ t.mram = { s.mram with lcJournal := none } ∧ t.rd 0xB00103 = 3 ∧
      t.rd 0xB00104 = 6 :=
  ⟨State.lifeFail_power .., State.lifeFail_mram .., State.lifeFail_status .., State.lifeFail_cause ..⟩

theorem State.fuseBlowComplete_fuses {s : State} {cmd bits : Nat} (h : s.power.op = some (.fuses cmd bits)) (ok : Bool) :
    exec (.fuseBlowComplete ok) s = .next (s.fusesDone cmd bits ok) := by
  simp [exec, execFuseBlowComplete, h]

theorem State.fuseBlowComplete_life {s : State} {target : Nat} (h : s.power.op = some (.life target false)) (ok : Bool) :
    exec (.fuseBlowComplete ok) s = .next (if s.inhibited then s else s.lifeFuse target ok) := by
  simp [exec, execFuseBlowComplete, h]

/-! ### Life-cycle commands (R383, R385 to R387) -/

/-- Counting a committed two-wire transaction touches none of the conditions of R377. -/
theorem State.settled_onServe (s : State) (tr : Transport) : (s.onServe tr).settled = s.settled := by
  have hd : (s.onServe tr).dmaActive = s.dmaActive := by
    have hn : ∀ n < 8, (s.onServe tr).chanRuns n = s.chanRuns n := fun n hn => by
      simp only [State.chanRuns]
      rw [State.onServe_rd _ _ (by omega) (by omega)]
    rw [Bool.eq_iff_iff]
    simp only [State.dmaActive, List.any_eq_true, List.mem_range]
    exact exists_congr fun n => and_congr_right fun h => by rw [hn n h]
  simp only [State.settled, hd]
  rw [State.onServe_rd _ _ (by decide) (by decide), State.onServe_rd _ _ (by decide) (by decide), State.onServe_frame]
  rfl

theorem State.lifeFault_onServe (s : State) (tr : Transport) (target : Nat) :
    (s.onServe tr).lifeFault tr target = s.lifeFault tr target := by
  have hi : (s.onServe tr).inhibited = s.inhibited := by
    simp only [State.inhibited]
    rw [State.onServe_rd _ _ (by decide) (by decide)]
  simp only [State.lifeFault, State.settled_onServe, hi, State.life, State.onServe_power, State.onServe_now,
    State.onServe_therm]
  rfl

theorem State.eq_next_of_lifeFault_none {s : State} {tr : Transport} {target : Nat} (h : s.lifeFault tr target = none) :
    target = s.life + 1 := by
  unfold State.lifeFault at h
  split_ifs at h with _ _ hnext
  · exact not_not.mp hnext

theorem State.lifeCommand_of_fault {s : State} {tr : Transport} {target c : Nat} (h : s.lifeFault tr target = some c) :
    s.lifeCommand tr target =
      ((s.onPower fun p => { p with lifeKey := none }).lifeFail target c).refuse abortState := by
  simp [State.lifeCommand, h]

theorem State.lifeCommand_of_no_fault {s : State} {tr : Transport} {target : Nat} (h : s.lifeFault tr target = none) :
    s.lifeCommand tr target = (((s.wr 0xB00103 1).wr 0xB00105 0).onMram fun m => { m with lcJournal := some target }).onPower
      fun p => { p with lifeKey := none, op := some (.life target false) } := by
  simp only [State.lifeCommand, h]
  rfl

/-- A life-cycle command that any condition refuses is refused with the cause of the first one. -/
theorem State.hostWrite_life_refused {s : State} {w : Txn} (h : s.admits w) (hk : w.key ≠ 0x102009) {target c : Nat}
    (hf : s.lifeFault w.tr target = some c) :
    CommandRefused w.tr { s.power with lifeKey := none } c s (s.hostWrite w (State.lifeCommand w.tr target)) :=
  State.hostWrite_refusesCommand h hk (State.lifeCommand_of_fault (by rw [State.lifeFault_onServe, hf]))

/-- A life-cycle command that no condition refuses names its state in the journal and programs the fuse. -/
theorem State.hostWrite_life_begins {s : State} {w : Txn} (h : s.admits w) (hk : w.key ≠ 0x102009) {target : Nat}
    (hf : s.lifeFault w.tr target = none) :
    let t := s.hostWrite w (State.lifeCommand w.tr target)
    t.answer.abort = 0 ∧ target = s.life + 1 ∧
      t.power = { s.power with lifeKey := none, op := some (.life target false) } ∧
      t.mram = { s.mram with lcJournal := some target } ∧ t.rd 0xB00103 = 1 ∧ t.rd 0xB00105 = 0 ∧
      sameObjects ([0xB00103, 0xB00105] ++ accessCounters w.tr) s t := by
  have he := State.lifeCommand_of_no_fault ((s.lifeFault_onServe w.tr target).trans hf)
  have hs : sameObjects [0xB00103, 0xB00105] (s.onServe w.tr) (((s.onServe w.tr).wr 0xB00103 1).wr 0xB00105 0) :=
    (sameObjects_wr _ 0xB00103 1).trans (sameObjects_wr _ 0xB00105 0) (by simp) (by simp)
  refine ⟨?_, State.eq_next_of_lifeFault_none hf, ?_, ?_, ?_, ?_, ?_⟩
  · rw [State.hostWrite_answer h hk, he]; rfl
  · rw [State.hostWrite_power h hk, he]; simp
  · rw [State.hostWrite_mram h hk, he]; simp
  · rw [State.rd_hostWrite h hk _ (by decide) (by decide), he]; simp
  · rw [State.rd_hostWrite h hk _ (by decide) (by decide), he]; simp
  · exact State.hostWrite_same h hk _ (by rw [he]; exact hs.of_dict rfl)

/-! ### The wipe and the reset after it (R383, R385) -/

/-- Writing words anew changes nothing but the list of words in error. -/
theorem State.foldl_wroteWords_frame (ws : List WordRange) (s : State) :
    ∃ errs, ws.foldl (fun s r => s.wroteWords r) s = { s with mram := { s.mram with errs := errs } } := by
  induction ws generalizing s with
  | nil => exact ⟨s.mram.errs, rfl⟩
  | cons r ws ih =>
    obtain ⟨errs, h⟩ := ih (s.wroteWords r)
    exact ⟨errs, h⟩

/-- The wipe empties its regions of MRAM and returns the MRAM-backed objects to their shipped values, and changes nothing
else but which words hold errors. -/
theorem State.wipe_eq (s : State) (target : Nat) :
    ∃ errs, s.wipe target =
      { s with mram := { Mram.wipe target s.mram with errs := errs } }.toDefault wipedKeys := by
  obtain ⟨errs, h⟩ := State.foldl_wroteWords_frame (s.wipedWords target) (s.onMram (Mram.wipe target))
  exact ⟨errs, congrArg (State.toDefault · wipedKeys) h⟩

theorem State.rd_wipe (s : State) (target k : Nat) :
    (s.wipe target).rd k = if k ∈ wipedKeys then objDefault k else s.rd k := by
  obtain ⟨errs, h⟩ := s.wipe_eq target
  rw [h, State.rd_toDefault]
  rfl

theorem objGroup_subset_objTable (g : Nat) : objGroup g ⊆ objTable := by
  intro r hr
  unfold objGroup at hr
  split at hr <;> simp only [objTable, objGroup, List.mem_append, List.not_mem_nil] at hr ⊢ <;> tauto

theorem mem_mramKeys_of_isMramKey {k : Nat} (h : isMramKey k = true) : k ∈ mramKeys := by
  unfold isMramKey at h
  cases hr : objRow k with
  | none => simp [hr] at h
  | some r =>
    have hm : r.mram = true := by simpa [hr] using h
    have hmem := objGroup_subset_objTable _ (List.mem_of_find?_eq_some hr)
    have hin : r.first ≤ k ∧ k ≤ r.last := by simpa using List.find?_some hr
    refine List.mem_flatMap.mpr ⟨r, hmem, ?_⟩
    simp only [hm, if_true, mem_rangeFrom]
    omega

theorem Dict.find_filter (q : Nat → Bool) (d : Dict) (k : Nat) :
    Dict.find (d.filter fun w => q w.1) k = if q k then Dict.find d k else none := by
  induction d with
  | nil => simp [Dict.find]
  | cons p d ih => grind [Dict.find]

theorem Dict.get_kept (d : Dict) (k : Nat) :
    Dict.get (Dict.kept d) k = if isMramKey k then Dict.get d k else objDefault k := by
  by_cases hk : isMramKey k = true <;> simp [Dict.get, Dict.kept, Dict.find_filter, hk]

/-- With no MRAM write under way and none held back, a reset keeps the MRAM-backed objects and no other value. -/
theorem State.rd_assertReset {s : State} (hu : s.power.unwritten = none) (hw : s.stage.mramWrite = none) (code k : Nat) :
    (s.assertReset code).rd k = if isMramKey k then s.rd k else objDefault k := by
  have hd : (s.assertReset code).dict = Dict.kept s.dict := by
    simp [State.assertReset, State.storedDict, State.startedWrite, hu, hw, Dict.setAll]
  rw [State.rd, hd, Dict.get_kept]
  rfl

theorem State.assertReset_mram {s : State} (hu : s.power.unwritten = none) (code : Nat) :
    (s.assertReset code).mram = s.mram := by
  simp [State.assertReset, hu]

theorem State.assertReset_logNext {s : State} (h : s.mram.log = []) (code : Nat) : (s.assertReset code).log.next = 0 := by
  simp [State.assertReset, State.heldLog, h, nextAfterStart, newestEntry]

/-- The state in which the reset of R383 finds the part: wiped, with the journal word cleared. -/
def State.wiped (target : Nat) (s : State) : State := (s.wipe target).onMram fun m => { m with lcJournal := none }

theorem State.wipeComplete_life {s : State} {target : Nat} (h : s.power.op = some (.life target true)) :
    exec .wipeComplete s = .next (if s.inhibited then s else (s.wiped target).assertReset 5) := by
  simp only [exec, execWipeComplete, h]
  split <;> rfl

theorem State.wiped_eq (s : State) (target : Nat) :
    ∃ errs, s.wiped target = { s with
      dict := (s.wiped target).dict, mram := { Mram.wipe target s.mram with errs := errs, lcJournal := none } } := by
  obtain ⟨errs, h⟩ := s.wipe_eq target
  refine ⟨errs, ?_⟩
  rw [State.wiped, h, State.toDefault_frame]
  simp only [State.onMram]

/-- After wipe and reset every object but the start count stands at its shipped value. -/
theorem State.rd_reset_wiped {s : State} (hu : s.power.unwritten = none) (hw : s.stage.mramWrite = none)
    (target k : Nat) :
    ((s.wiped target).assertReset 5).rd k = if k = 0xB00004 then s.rd k else objDefault k := by
  obtain ⟨errs, h⟩ := s.wiped_eq target
  have hr : (s.wiped target).rd k = if k ∈ wipedKeys then objDefault k else s.rd k := by
    rw [State.wiped, State.onMram_rd, State.rd_wipe]
  rw [State.rd_assertReset (by rw [h]; exact hu) (by rw [h]; exact hw), hr]
  by_cases hk : k = 0xB00004
  · subst hk
    have hm : isMramKey 0xB00004 = true := by decide +kernel
    simp [hm, wipedKeys]
  · by_cases hm : isMramKey k = true
    · have : k ∈ wipedKeys := by simpa [wipedKeys, hk] using mem_mramKeys_of_isMramKey hm
      simp [hm, hk, this]
    · simp [hm, hk]

/-- What a wipe leaves of the temperature sets and the banks (R383, R385). -/
theorem Mram.wipe_return (m : Mram) :
    (Mram.wipe 2 m).sets = m.sets.map (fun x => if x.holds 0 = true then x else SetSlot.unused) ∧
      (m.bankA.origin = true → (Mram.wipe 2 m).bankA = m.bankA) ∧
      (m.bankB.origin = true → (Mram.wipe 2 m).bankB = m.bankB) := by
  simp +contextual [Mram.wipe]

theorem Mram.wipe_scrap (m : Mram) :
    (Mram.wipe 3 m).sets = m.sets.map (fun _ => SetSlot.unused) ∧ (Mram.wipe 3 m).bankA = Bank.wiped ∧
      (Mram.wipe 3 m).bankB = Bank.wiped := by
  simp [Mram.wipe]

/-- The MRAM that the wipe and the reset after it leave. -/
theorem State.reset_wiped_mram {s : State} (hu : s.power.unwritten = none) (target : Nat) :
    ∃ errs, ((s.wiped target).assertReset 5).mram =
      { Mram.wipe target s.mram with errs := errs, lcJournal := none } := by
  obtain ⟨errs, h⟩ := s.wiped_eq target
  exact ⟨errs, by rw [State.assertReset_mram (by rw [h]; exact hu), h]⟩

theorem State.reset_wiped_power {s : State} (hp : s.power.phase ≠ .inReset) (target : Nat) :
    ((s.wiped target).assertReset 5).power.phase = .inReset ∧ ((s.wiped target).assertReset 5).power.source = 5 ∧
      ((s.wiped target).assertReset 5).power.fuses = s.power.fuses := by
  obtain ⟨errs, h⟩ := s.wiped_eq target
  rw [h]
  exact ⟨rfl, if_neg hp, rfl⟩

theorem State.reset_wiped_logNext (s : State) (target : Nat) : ((s.wiped target).assertReset 5).log.next = 0 := by
  obtain ⟨errs, h⟩ := s.wiped_eq target
  exact State.assertReset_logNext (by rw [h]; rfl) 5


/-- What a wipe and the reset after it leave: the regions of MRAM, the event numbers, the objects and the fuses. -/
theorem State.reset_wiped {s : State} (hp : s.power.phase ≠ .inReset) (hu : s.power.unwritten = none)
    (hw : s.stage.mramWrite = none) (target : Nat) :
    let t := (s.wiped target).assertReset 5
    t.power.phase = .inReset ∧ t.power.source = 5 ∧ t.power.fuses = s.power.fuses ∧ t.mram.moulds = [] ∧
      t.mram.shadow = none ∧ t.mram.journal = none ∧ t.mram.lcJournal = none ∧ t.mram.log = [] ∧ t.log.next = 0 ∧
      (∀ k, k ≠ 0xB00004 → t.rd k = objDefault k) ∧ t.rd 0xB00004 = s.rd 0xB00004 ∧
      (target = 2 → t.mram.sets = s.mram.sets.map (fun x => if x.holds 0 = true then x else SetSlot.unused) ∧
        (s.mram.bankA.origin = true → t.mram.bankA = s.mram.bankA) ∧
        (s.mram.bankB.origin = true → t.mram.bankB = s.mram.bankB)) ∧
      (target = 3 → t.mram.sets = s.mram.sets.map (fun _ => SetSlot.unused) ∧ t.mram.bankA = Bank.wiped ∧
        t.mram.bankB = Bank.wiped) := by
  intro t
  obtain ⟨errs, hm⟩ : ∃ errs, t.mram = { Mram.wipe target s.mram with errs := errs, lcJournal := none } :=
    State.reset_wiped_mram hu target
  obtain ⟨hphase, hsource, hfuses⟩ := State.reset_wiped_power hp target
  have hrd : ∀ k, t.rd k = if k = 0xB00004 then s.rd k else objDefault k := State.rd_reset_wiped hu hw target
  rw [hm]
  refine ⟨hphase, hsource, hfuses, rfl, rfl, rfl, rfl, rfl, s.reset_wiped_logNext target, fun k hk => ?_, hrd _, ?_, ?_⟩
  · rw [hrd, if_neg hk]
  · rintro rfl; exact Mram.wipe_return _
  · rintro rfl; exact Mram.wipe_scrap _

/-! ### Maker test modes (R3) -/

theorem State.makerTestModeEntry_eq (s : State) :
    exec .makerTestModeEntry s = .next (if s.serves = true ∧ s.life = 2 ∧ s.power.makerTest = false then
      { s with
        mram := { s.mram with
          bankA := Bank.wiped, bankB := Bank.wiped, sets := s.mram.sets.map fun _ => SetSlot.unused, log := []
          errs := s.mram.errs.filter fun e => inWords (1048576, 65536) e.1 || 1163266 ≤ e.1 }
        power := { s.power with makerTest := true } }
      else s) := by
  simp only [exec, execMakerTestModeEntry, Bool.not_eq_true']
  split <;> rfl

/-- Settles O59: each command is brought to the case its key and the conditions put it in. -/
theorem fusesAndLifeCycleNeedTheirKeysAndMoveForward : Obligations.FusesAndLifeCycleNeedTheirKeysAndMoveForward := by
  unfold Obligations.FusesAndLifeCycleNeedTheirKeysAndMoveForward
  refine ⟨fun tr v s => ⟨fun h => ?fuseKey, fun h => ?lifeKey⟩, fun tr v s => ?blow,
    fun cmd bits s hop => ⟨?fusesBlown, ?fusesFailed⟩, fun tr v s h => ?move,
    fun target s => ⟨fun hop => ⟨fun ok hi => ?fusePaused, fun hi => ?fuseEnds⟩,
      fun hop => ⟨fun hi => ?wipePaused, fun hi hp hu hw => ?wipeEnds⟩⟩,
    fun s => ⟨fun h1 h2 h3 => ?makerEntered, fun hno => ?makerIgnored⟩⟩
  case fuseKey => exact ⟨_, rfl, State.hostWrite_key h (by simp) (s.fuseKey_onServe tr v)⟩
  case lifeKey => exact ⟨_, rfl, State.hostWrite_key h (by simp) (s.lifeKey_onServe tr v)⟩
  case blow =>
    intro armed refused blows
    rw [State.blowFactoryCalibrationLock_one]
    refine ⟨fun h => ?_, fun h => ?_, fun h => ?_⟩ <;>
      exact ⟨fun ha hop hq => ⟨_, rfl, State.hostWrite_blow_begins h (by simp) _ _ ha hop hq⟩,
        fun hno => ⟨_, rfl, State.hostWrite_blow_refused h (by simp) _ _ hno⟩⟩
  case fusesBlown =>
    rw [State.fuseBlowComplete_fuses hop, State.fusesDone_blown]
    exact ⟨_, rfl, rfl, by simp, (sameObjects_wr s 0xB00103 2).of_dict rfl, rfl⟩
  case fusesFailed =>
    rw [State.fuseBlowComplete_fuses hop]
    exact ⟨_, rfl, s.fusesDone_failed cmd bits⟩
  case move =>
    intro moves
    have hm : moves (.next (s.hostWrite ⟨tr, 0xB00101, 1, v⟩ (State.lifeCommand tr v))) := by
      refine ⟨fun c hf => ?_, fun hf => ⟨_, rfl, State.hostWrite_life_begins h (by simp) hf⟩⟩
      have hr := State.hostWrite_life_refused h (by simp) hf
      exact ⟨_, rfl, hr.abort, hr.power, hr.mram, hr.status, hr.cause, hr.alert, hr.same⟩
    exact ⟨hm, hm⟩
  case fusePaused => rw [State.fuseBlowComplete_life hop, if_pos hi]
  case fuseEnds =>
    have he : ∀ ok, exec (.fuseBlowComplete ok) s = .next (s.lifeFuse target ok) := fun ok => by
      rw [State.fuseBlowComplete_life hop, if_neg (by simp [hi])]
    rw [he, he]
    exact ⟨congrArg _ (s.lifeFuse_blown target), _, rfl, s.lifeFuse_failed target⟩
  case wipePaused => rw [State.wipeComplete_life hop, if_pos hi]
  case wipeEnds =>
    rw [State.wipeComplete_life hop, if_neg (by simp [hi])]
    exact ⟨_, rfl, State.reset_wiped hp hu hw target⟩
  case makerEntered =>
    rw [State.makerTestModeEntry_eq, if_pos ⟨h1, h2, h3⟩]
    exact ⟨_, rfl, rfl, rfl, rfl⟩
  case makerIgnored =>
    rw [State.makerTestModeEntry_eq, if_neg]
    rintro ⟨h1, h2, h3⟩
    simp [h1, h2, h3] at hno

end Sys2Proof.Machine
end

section
/-!
PROOFS. The state right after reset (R32, R365, R366).
-/
namespace Sys2Proof.Machine

/-- With no value listed every object reads its Default. -/
theorem State.rd_reset (k : Nat) : State.reset.rd k = objDefault k := rfl

theorem State.flask_reset {f : Nat} (h : f < 16) : State.reset.flask f = Flask.reset := by
  have hf : State.reset.image.flasks = List.replicate 16 Flask.reset := rfl
  rw [State.flask, hf, nth, List.getD_replicate _ h]

/-- Settles O3: the store of the reset state is empty, and its fields are as written down. -/
theorem resetLeavesEveryObjectAtItsDefault : Obligations.ResetLeavesEveryObjectAtItsDefault := by
  unfold Obligations.ResetLeavesEveryObjectAtItsDefault
  refine ⟨State.rd_reset, by decide, by decide, by decide, rfl, rfl, rfl, fun f => State.flask_reset, ?_, rfl, rfl, rfl, rfl,
    rfl⟩
  exact fun q hq => List.eq_of_mem_replicate hq

/-- Settles O4: an empty store and two empty buffers are in canonical form. -/
theorem resetStateIsCanonical : Obligations.ResetStateIsCanonical := by
  unfold Obligations.ResetStateIsCanonical
  rfl

end Sys2Proof.Machine
end

section
/-!
PROOFS. A write of the host that the part does not take, holds back or refuses (R35, R196, R236, R252, R254, R259).
-/
namespace Sys2Proof.Machine

/-- Every command that is one write of one object is carried out as a host write of that object. -/
theorem Instr.exec_of_txn {c : Instr} {w : Txn} (s : State) (h : Instr.txn c = some w) :
    ∃ eff, exec c s = .next (s.hostWrite w eff) := by
  cases c <;> simp only [Instr.txn, Option.some.injEq, reduceCtorEq] at h <;> subst h <;> exact ⟨_, rfl⟩

/-- A refused access: it and its abort are counted, and the code and the object reported (R259). -/
theorem State.rd_refuse_counted (s : State) (tr : Transport) (key code : Nat) :
    let t := ((s.committed tr).refuse code).counted tr key
    t.rd (transportKeys tr).1 = countUp (s.rd (transportKeys tr).1) ∧
      (code ≠ 0 → t.rd (transportKeys tr).2.1 = countUp (s.rd (transportKeys tr).2.1) ∧
        t.rd (transportKeys tr).2.2.1 = code ∧ t.rd (transportKeys tr).2.2.2 = key) := by
  have hc : ∀ k, ((s.committed tr).refuse code).rd k = (s.committed tr).rd k := fun _ => rfl
  have ha : ((s.committed tr).refuse code).answer.abort = code := rfl
  simp only [State.rd_counted, hc, ha, State.rd_committed, countUp]
  cases tr <;> simp +contextual [transportKeys]

theorem State.refuse_counted_same (s : State) (tr : Transport) (key code : Nat) :
    sameObjects (accessCounters tr) s (((s.committed tr).refuse code).counted tr key) :=
  (s.committed_same tr).trans (State.counted_same ((s.committed tr).refuse code) tr key) (List.Subset.refl _)
    (List.Subset.refl _)

theorem State.refuse_counted_frame (s : State) (tr : Transport) (key code : Nat) :
    ((s.committed tr).refuse code).counted tr key =
      { s with dict := (((s.committed tr).refuse code).counted tr key).dict, answer := ⟨code, 0, [], false⟩ } := by
  rw [State.counted_frame]
  simp only [State.refuse]
  rw [State.committed_frame]

/-- Settles O6: the command is a host write, which is ignored, waits or is refused as its checks say. -/
theorem hostWritesAreTurnedAwayAsTheChecksSay : Obligations.HostWritesAreTurnedAwayAsTheChecksSay := by
  unfold Obligations.HostWritesAreTurnedAwayAsTheChecksSay
  intro c w s hw
  obtain ⟨eff, he⟩ := Instr.exec_of_txn s hw
  rw [he]
  refine ⟨fun h => ?_, fun h1 h2 => ?_, fun code h1 h2 h3 => ⟨_, rfl, ?_⟩⟩
  · rw [State.hostWrite_idle h]
  · rw [State.hostWrite_waits h1 h2]
  · rw [State.hostWrite_refused h1 h2 h3]
    obtain ⟨hcount, habort⟩ := s.rd_refuse_counted w.tr w.key code
    have hf := s.refuse_counted_frame w.tr w.key code
    refine ⟨by rw [hf], habort, hcount, s.refuse_counted_same w.tr w.key code, ?_⟩
    rw [hf]

end Sys2Proof.Machine
end

section
/-!
PROOFS. The clear commands (R27, R124, R160, R190, R247, R259, R264, R282, R312, R313, R331, R358).
-/
namespace Sys2Proof.Machine

/-- The access counters of both transports but the count of commits lie in index 0x1020. -/
theorem State.rd_counted1 (s : State) (tr : Transport) (key : Nat) {j : Nat} (h : j / 256 ≠ 0x1020) :
    (s.counted1 tr key).rd j = s.rd j := by
  unfold State.counted1
  split
  · rfl
  · rw [State.rd_counted]
    have hr : ∀ i, i / 256 = 0x1020 → j ≠ i := fun i hi hj => h (hj ▸ hi)
    cases tr <;> simp [transportKeys, hr]

/-- `t` is `s` with the objects `ks` at `v`; beside them nothing changes. -/
structure SetsObjects (ks : List Nat) (v : Nat → Nat) (s t : State) : Prop where
  frame : t = { s with dict := t.dict }
  rd : ∀ j, t.rd j = if j ∈ ks then v j else s.rd j

theorem SetsObjects.same {ks : List Nat} {v : Nat → Nat} {s t : State} (h : SetsObjects ks v s t) : sameObjects ks s t :=
  fun k hk => by rw [h.rd, if_neg hk]

theorem State.toDefault_sets (s : State) (ks : List Nat) : SetsObjects ks objDefault s (s.toDefault ks) :=
  ⟨s.toDefault_frame ks, s.rd_toDefault ks⟩

/-- Objects whose Default is 0 stand at their Default when 0 is written to them. -/
theorem State.zero_sets (s : State) {ks : List Nat} (h : ∀ k ∈ ks, objDefault k = 0) :
    SetsObjects ks objDefault s (s.zero ks) :=
  ⟨s.zero_frame ks, fun j => by rw [s.rd_zero]; split <;> simp_all⟩

/-- The write of 1 by which `eff` takes place clears the objects that `eff` returns to their Default. -/
theorem clearsCounts_of_sets {c : Instr} {tr : Transport} {key : Nat} {ks : List Nat} {s : State} {eff : State → State}
    (hx : exec c s = .next (s.hostCommand tr key 1 eff)) (hk : key ≠ 0x102009) (hks : ∀ k ∈ ks, k / 256 ≠ 0x1020)
    (he : SetsObjects ks (fun k => if k = 0x902107 then s.booked else objDefault k) (s.onServe tr) (eff (s.onServe tr))) :
    clearsCounts c tr key ks s := by
  intro h
  rw [State.hostCommand_one] at hx
  refine ⟨_, hx, ?_, fun k hm => ?_, State.hostWrite_same h hk eff he.same, ?_⟩
  · rw [State.hostWrite_answer h hk, he.frame, State.onServe_frame]
  · rw [State.hostWrite_eq_counted1 h hk, State.rd_counted1 _ _ _ (hks k hm), he.rd, if_pos hm]
  · rw [State.hostWrite_eq_counted1 h hk, State.counted1_frame, he.frame, State.onServe_frame]

/-- No list but that of the lane counts names object 0x9021:07. -/
theorem clearsCounts_of_defaults {c : Instr} {tr : Transport} {key : Nat} {ks : List Nat} {s : State} {eff : State → State}
    (hx : exec c s = .next (s.hostCommand tr key 1 eff)) (hk : key ≠ 0x102009)
    (hks : ∀ k ∈ ks, k / 256 ≠ 0x1020 ∧ k ≠ 0x902107)
    (he : SetsObjects ks objDefault (s.onServe tr) (eff (s.onServe tr))) : clearsCounts c tr key ks s :=
  clearsCounts_of_sets hx hk (fun k hm => (hks k hm).1) ⟨he.frame, fun j => by
    rw [he.rd]
    split
    next hm => rw [if_neg (hks j hm).2]
    next => rfl⟩

/-- The bytes booked do not depend on the access counters. -/
theorem State.booked_onServe (s : State) (tr : Transport) : (s.onServe tr).booked = s.booked := by
  rw [State.onServe_frame]
  rfl

/-- The lane counts go to 0 and the highest booked bytes restart from the bytes booked now (R190). -/
theorem State.clearLaneCounts_sets (s : State) (tr : Transport) :
    SetsObjects (rangeFrom 0x900203 2 ++ rangeFrom 0x900303 4 ++ rangeFrom 0x901201 32 ++
        [0x901402, 0x902201, 0x902202, 0x902204, 0x902107])
      (fun k => if k = 0x902107 then s.booked else objDefault k) (s.onServe tr) (s.onServe tr).clearLaneCounts := by
  have hz := (s.onServe tr).zero_sets (ks := rangeFrom 0x900203 2 ++ rangeFrom 0x900303 4 ++ rangeFrom 0x901201 32 ++
    [0x901402, 0x902201, 0x902202, 0x902204]) (by decide +kernel)
  refine ⟨?_, fun j => ?_⟩
  · unfold State.clearLaneCounts
    rw [hz.frame]
    rfl
  · rw [State.clearLaneCounts, State.rd_wr, State.booked_onServe, hz.rd]
    by_cases hj : j = 0x902107
    · simp [hj]
    · simp [hj]

/-- The counts of a transport go to 0 once the write that clears them has been counted itself (R259). -/
theorem clearsCounts_transport (tr : Transport) (s : State) :
    clearsCounts (.clearTransportCounts tr 1) tr 0x102009 (rangeFrom 0x102001 8) s := by
  intro h
  have hx : exec (.clearTransportCounts tr 1) s = .next (s.hostWrite ⟨tr, 0x102009, 1, 1⟩ id) :=
    congrArg Host.Outcome.next (s.hostCommand_one tr 0x102009 id)
  have he : s.hostWrite ⟨tr, 0x102009, 1, 1⟩ id = ((s.onServe tr).counted1 tr 0x102009).zero (rangeFrom 0x102001 8) := by
    rw [State.hostWrite_admitted h]
    rfl
  have hz := ((s.onServe tr).counted1 tr 0x102009).zero_sets (ks := rangeFrom 0x102001 8) (by decide +kernel)
  have hs := (s.onServe_same tr).trans ((s.onServe tr).counted1_same tr 0x102009) (List.Subset.refl _) (List.Subset.refl _)
  refine ⟨_, hx, ?_, fun k hm => ?_, ?_, ?_⟩ <;> rw [he]
  · rw [State.zero_answer, State.counted1_answer, State.onServe_frame]
  · have hne : k ≠ 0x902107 := by rw [mem_rangeFrom] at hm; omega
    rw [hz.rd, if_pos hm, if_neg hne]
  · exact hs.trans hz.same (List.subset_append_right ..) (List.subset_append_left ..)
  · rw [State.zero_frame, State.counted1_frame, State.onServe_frame]

/-- Settles O8: each command returns its list to the Defaults; the lane counts and the transport counts have rules of their own. -/
theorem clearCommandsClearTheirCounts : Obligations.ClearCommandsClearTheirCounts := by
  unfold Obligations.ClearCommandsClearTheirCounts
  intro tr s
  let u := s.onServe tr
  refine ⟨?lowest, ?high, ?slag, ?converter, ?correction, ?lane, ?ring, clearsCounts_transport tr s, ?mram, ?twi, ?capture, ?quadrature,
    ?dma, ?housekeeping, ?thermal⟩
  case lowest | mram | thermal => exact clearsCounts_of_defaults rfl (by decide) (by decide) (u.toDefault_sets _)
  case lane => exact clearsCounts_of_sets rfl (by decide) (by decide) (s.clearLaneCounts_sets tr)
  case high | slag | converter | correction | ring | twi | capture | quadrature | dma | housekeeping =>
    exact clearsCounts_of_defaults rfl (by decide) (by decide) (u.zero_sets (by decide +kernel))

end Sys2Proof.Machine
end

section
/-!
PROOFS. Pace measurements and the VCORE loop (R24 to R27).
-/
namespace Sys2Proof.Machine

/-! ### Measurements (R24) -/

theorem State.paceRun_onPaceRun (s : State) (f g : Nat) (y : PaceRun → PaceRun) :
    (s.onPaceRun f y).paceRun g = if g = f ∧ g < s.pace.runs.length then y (s.paceRun g) else s.paceRun g :=
  nth_modifyNth ..

/-- The margins that the 16 flasks report. -/
def State.margins (s : State) : List Nat := (List.range 16).map fun g => s.rd (0x680001 + g)

/-- A measurement of flask `f` before the sensor margin follows it: the next run begins, the margin is reported, and its source
marked. -/
def State.measured (f margin left : Nat) (replica : Bool) (s : State) : State :=
  let s := (s.onPaceRun f fun _ => ⟨left, s.now, true⟩).wr (0x680001 + f) margin
  s.wr 0x680104 (if replica then setBit (s.rd 0x680104) f else clearBit (s.rd 0x680104) f)

section measured
variable (s : State) {f : Nat} (hf : f < 16) (margin left : Nat) (replica : Bool)

theorem State.measured_paceRun (g : Nat) : (s.measured f margin left replica).paceRun g =
    if g = f ∧ g < s.pace.runs.length then ⟨left, s.now, true⟩ else s.paceRun g :=
  s.paceRun_onPaceRun f g _

theorem State.measured_frame : s.measured f margin left replica = { s with
    dict := (s.measured f margin left replica).dict
    pace := { s.pace with runs := (s.measured f margin left replica).pace.runs } } := rfl

include hf

theorem State.rd_measured (k : Nat) : (s.measured f margin left replica).rd k =
    if k = 0x680104 then (if replica then setBit (s.rd 0x680104) f else clearBit (s.rd 0x680104) f)
    else if k = 0x680001 + f then margin else s.rd k := by
  have hne : 0x680104 ≠ 0x680001 + f := by omega
  simp only [State.measured, State.rd_wr, if_neg hne]
  rfl

/-- The sensor margin of a state in which flask `f` has just been measured: the lowest of the 16. -/
theorem State.lowest_of_measured (hm : margin ≤ 0xFFFF) :
    let u := s.measured f margin left replica
    u.margins.foldl min 0xFFFF ∈ u.margins ∧ ∀ x ∈ u.margins, u.margins.foldl min 0xFFFF ≤ x := by
  intro u
  have hmin : (0xFFFF :: u.margins).min? = some (u.margins.foldl min 0xFFFF) := List.min?_cons'
  obtain ⟨hmem, hle⟩ := List.min?_eq_some_iff.mp hmin
  have hle : ∀ x ∈ u.margins, u.margins.foldl min 0xFFFF ≤ x := fun x hx => hle x (List.mem_cons_of_mem _ hx)
  refine ⟨(List.mem_cons.mp hmem).elim (fun heq => ?_) id, hle⟩
  have hin : margin ∈ u.margins := by
    refine List.mem_map.mpr ⟨f, List.mem_range.mpr hf, ?_⟩
    rw [State.rd_measured _ hf, if_neg (by omega), if_pos rfl]
  have : margin = 0xFFFF := by have := hle _ hin; omega
  rw [heq, ← this]
  exact hin

end measured

/-- The sensor margin follows once each flask has a margin, and the lowest margin follows it. -/
theorem State.setMargin_of_all {s : State} {f margin left : Nat} {replica : Bool}
    (h : (s.measured f margin left replica).allMeasured = true) :
    let u := s.measured f margin left replica
    s.setMargin f margin left replica =
      (u.wr 0x680101 (u.margins.foldl min 0xFFFF)).wr 0x680102 (min (u.rd 0x680102) (u.margins.foldl min 0xFFFF)) :=
  if_pos h

theorem State.setMargin_of_not_all {s : State} {f margin left : Nat} {replica : Bool}
    (h : (s.measured f margin left replica).allMeasured = false) :
    s.setMargin f margin left replica = s.measured f margin left replica :=
  if_neg (ne_true_of_eq_false h)

/-- What a measurement of flask `f` leaves of the other flasks, and what the sensor margins become. -/
def State.othersKept (f : Nat) (s t : State) : Prop :=
  (∀ g, g ≠ f → t.paceRun g = s.paceRun g) ∧
    (t.allMeasured = true → t.rd 0x680101 ∈ t.margins ∧ (∀ x ∈ t.margins, t.rd 0x680101 ≤ x) ∧
      t.rd 0x680102 = min (s.rd 0x680102) (t.rd 0x680101)) ∧
    (t.allMeasured = false → t.rd 0x680101 = s.rd 0x680101 ∧ t.rd 0x680102 = s.rd 0x680102) ∧
    (∀ g < 16, g ≠ f → (t.rd 0x680104).testBit g = (s.rd 0x680104).testBit g) ∧
    sameObjects [0x680001 + f, 0x680101, 0x680102, 0x680104] s t ∧
    t = { s with dict := t.dict, pace := { s.pace with runs := t.pace.runs } }

/-- Beside the sensor margins, `setMargin` leaves the state as measured. -/
theorem State.setMargin_sets (s : State) (f margin left : Nat) (replica : Bool) :
    let t := s.setMargin f margin left replica
    let u := s.measured f margin left replica
    (∀ k, k ≠ 0x680101 → k ≠ 0x680102 → t.rd k = u.rd k) ∧ t = { u with dict := t.dict } := by
  intro t u
  cases h : u.allMeasured with
  | false =>
    have ht : t = u := State.setMargin_of_not_all h
    rw [ht]
    exact ⟨fun _ _ _ => rfl, rfl⟩
  | true =>
    have ht : t = _ := State.setMargin_of_all h
    rw [ht]
    exact ⟨fun k h1 h2 => by rw [State.rd_wr, if_neg h2, State.rd_wr, if_neg h1], rfl⟩

/-- A measurement reports the margin of its flask, marks the source and begins the next run. -/
theorem State.setMargin_reports (s : State) {f margin : Nat} (left : Nat) (replica : Bool) (hf : f < 16)
    (hl : s.pace.runs.length = 16) (hm : margin ≤ 0xFFFF) :
    let t := s.setMargin f margin left replica
    t.rd (0x680001 + f) = margin ∧ (t.rd 0x680104).testBit f = replica ∧ t.paceRun f = ⟨left, s.now, true⟩ ∧
      State.othersKept f s t := by
  intro t
  obtain ⟨hrd, hframe⟩ := s.setMargin_sets f margin left replica
  have hrun : ∀ g, t.paceRun g = (s.measured f margin left replica).paceRun g := fun g => by
    rw [show t = _ from hframe]; rfl
  have hmargins : t.margins = (s.measured f margin left replica).margins :=
    List.map_congr_left fun g hg => hrd _ (by have := List.mem_range.mp hg; omega) (by have := List.mem_range.mp hg; omega)
  have hall : t.allMeasured = (s.measured f margin left replica).allMeasured := by
    rw [show t = _ from hframe]; rfl
  have hsource : ∀ g, (t.rd 0x680104).testBit g = if g = f then replica else (s.rd 0x680104).testBit g := fun g => by
    rw [hrd _ (by decide) (by decide), State.rd_measured _ hf, if_pos rfl]
    cases replica <;> by_cases hg : g = f <;> simp [testBit_setBit, testBit_clearBit, hg]
  obtain ⟨hmem, hle⟩ := s.lowest_of_measured hf margin left replica hm
  have hold : (s.measured f margin left replica).rd 0x680102 = s.rd 0x680102 := by
    rw [State.rd_measured _ hf, if_neg (by decide), if_neg (by omega)]
  have hold' : (s.measured f margin left replica).rd 0x680101 = s.rd 0x680101 := by
    rw [State.rd_measured _ hf, if_neg (by decide), if_neg (by omega)]
  refine ⟨?_, by rw [hsource, if_pos rfl], ?_, ?_, fun ha => ?_, fun ha => ?_, fun g _ hg => by rw [hsource, if_neg hg], ?_, ?_⟩
  · rw [hrd _ (by omega) (by omega), State.rd_measured _ hf, if_neg (by omega), if_pos rfl]
  · rw [hrun, State.measured_paceRun, if_pos ⟨rfl, by omega⟩]
  · intro g hg
    rw [hrun, State.measured_paceRun, if_neg fun h => hg h.1]
  · rw [hall] at ha
    rw [hmargins, show t = _ from State.setMargin_of_all ha]
    simp only [State.rd_wr, if_true, hold]
    exact ⟨hmem, hle, rfl⟩
  · rw [hall] at ha
    rw [show t = _ from State.setMargin_of_not_all ha]
    exact ⟨hold', hold⟩
  · intro k hk
    simp only [List.mem_cons, List.not_mem_nil, or_false, not_or] at hk
    obtain ⟨h1, h2, h3, h4⟩ := hk
    rw [hrd k h2 h3, State.rd_measured _ hf, if_neg h4, if_neg h1]
  · rw [show t = _ from hframe]; rfl

/-- Settles O9: both measurements come down to the margin that is set. -/
theorem paceMeasurementsReportTheMargin : Obligations.PaceMeasurementsReportTheMargin := by
  unfold Obligations.PaceMeasurementsReportTheMargin
  intro f busy m s hf hl hc r margins rest
  have hpace : exec (.paceMeasurement f busy) s =
      .next (if s.converterClock = true ∧ 65536 ≤ r.pixels then
        s.setMargin f (paceMargin busy) (r.pixels - 65536) false else s) := rfl
  have hreplica : exec (.replicaMeasurement f m) s =
      .next (if s.converterClock = true ∧ r.pixels < 65536 ∧ r.since + ms 1 ≤ s.now then
        s.setMargin f (min 0xFFFF m) 0 true else s) := rfl
  rw [hpace, hreplica]
  refine ⟨fun hb hp => ⟨_, by rw [if_pos ⟨hc, hp⟩], ?_⟩, fun hp ht => ⟨_, by rw [if_pos ⟨hc, hp, ht⟩], ?_⟩,
    fun hp => by rw [if_neg (by omega)], fun h => ?_⟩
  · have hm : paceMargin busy = min 0xFFFF (65536 * 70 * 1000 / (1024 * busy)) := by
      rw [paceMargin, Nat.max_eq_right hb]
    have := s.setMargin_reports (r.pixels - 65536) false hf hl (margin := paceMargin busy) (Nat.min_le_left ..)
    rwa [hm] at this ⊢
  · exact s.setMargin_reports 0 true hf hl (Nat.min_le_left ..)
  · rw [if_neg]
    rintro ⟨-, hp, ht⟩
    exact h.elim (Nat.not_le.mpr hp) (Nat.not_lt.mpr ht)

/-! ### The evaluation of the adaptive loop (R26) -/

/-- From `s` to `t` the VID code becomes `c`; beside it at most an event is logged and the loop's own counts move. -/
structure MovesVid (c : Nat) (s t : State) : Prop where
  code : t.rd 0x680203 = c
  same : sameObjects [0x680203, 0x100101, 0xC00007, 0xC00008] s t
  frame : t = { s with dict := t.dict, log := t.log, ring := t.ring, pace := t.pace }
  evalAt : t.pace.evalAt = s.pace.evalAt
  running : t.pace.running = s.pace.running

theorem MovesVid.onAbove (s : State) (n : Nat) : MovesVid (s.rd 0x680203) s (s.onPace fun p => { p with above := n }) :=
  ⟨rfl, sameObjects.refl _ _, rfl, rfl, rfl⟩

section movesVid
variable {c : Nat} {s t : State} (h : MovesVid c s t)
include h

theorem MovesVid.setVid (code : Nat) (x : Instant) : MovesVid code s (t.setVid code x) := by
  obtain ⟨hc, hs, hf, he, hr⟩ := h
  unfold State.setVid
  split
  case isTrue heq => exact ⟨heq, hs, hf, he, hr⟩
  case isFalse =>
    refine ⟨by simp, ?_, by rw [hf]; rfl, he, hr⟩
    exact hs.trans (sameObjects_wr t 0x680203 code) (List.Subset.refl _) (by simp)

theorem MovesVid.paceEvent (code : Nat) : MovesVid c s (t.paceEvent code) := by
  obtain ⟨hc, hs, hf, he, hr⟩ := h
  have hl := t.logEvent_same code (leBytes 2 (t.rd 0x680101) ++ leBytes 1 (t.rd 0x680203))
  refine ⟨(hl _ (by decide)).trans hc, hs.trans hl (List.Subset.refl _) (by simp), ?_, ?_, ?_⟩
  · rw [State.paceEvent, State.logEvent_frame, hf]
  · rw [State.paceEvent, State.logEvent_pace, he]
  · rw [State.paceEvent, State.logEvent_pace, hr]

end movesVid

/-- 64 µs have gone by at `x` since the VID code changed. -/
def State.vidSettled (s : State) (x : Instant) : Bool := s.pace.changedAt.all fun c => decide (c + us 64 < x)

/-- The VID code that the table of R26 asks for. -/
def State.vidTable (s : State) (x : Instant) : Nat :=
  let m := s.rd 0x680101
  let code := s.rd 0x680203
  let lo := s.rd 0x680204
  let hi := s.rd 0x680205
  if s.vidSettled x = false then code else if hi < code then hi else if code < lo then lo
  else if code = hi ∧ m < 1100 then code else if m < 1120 ∧ code < hi then min hi (code + 2)
  else if 1120 ≤ m ∧ m < 1200 then min hi (code + 1) else if m ≤ 1300 then code
  else if 32 ≤ s.pace.above + 1 then max lo (code - 1) else code

theorem any_within_eq_not_all_past (o : Option Instant) (x d : Instant) :
    (o.any fun c => decide (x ≤ c + d)) = !(o.all fun c => decide (c + d < x)) := by
  cases o with
  | none => rfl
  | some c => simp only [Option.any_some, Option.all_some, ← decide_not, Nat.not_lt]

theorem State.changed_iff_not_settled (s : State) (x : Instant) :
    (s.pace.changedAt.any fun c => decide (x ≤ c + us 64)) = !s.vidSettled x :=
  any_within_eq_not_all_past ..

/-- An evaluation moves the VID code as the table says. -/
theorem State.evaluate_moves (s : State) (x : Instant) : MovesVid (s.vidTable x) s (s.evaluate x) := by
  have hreset := MovesVid.onAbove s 0
  simp only [State.evaluate, State.vidTable, State.changed_iff_not_settled, Bool.not_eq_true']
  split_ifs
  · exact ⟨rfl, sameObjects.refl _ _, rfl, rfl, rfl⟩
  · exact hreset.setVid _ x
  · exact hreset.setVid _ x
  · exact hreset.paceEvent _
  · exact (hreset.setVid _ x).paceEvent _
  · exact hreset.setVid _ x
  · exact hreset
  · exact hreset.setVid _ x
  · exact MovesVid.onAbove s _

/-- At the ceiling with the margin below 1.10 the evaluation raises its alert. -/
theorem State.evaluate_alert {s : State} {x : Instant} (hset : s.vidSettled x = true)
    (hhi : s.rd 0x680203 = s.rd 0x680205) (hlo : s.rd 0x680204 ≤ s.rd 0x680203) (hm : s.rd 0x680101 < 1100) :
    ((s.evaluate x).rd 0x100101).testBit 0 = true := by
  have he : s.evaluate x = (s.onPace fun p => { p with above := 0 }).paceEvent 0x0202 := by
    simp only [State.evaluate, State.changed_iff_not_settled, hset]
    rw [if_neg (by decide), if_neg (by omega), if_neg (by omega), if_pos ⟨hhi, hm⟩]
  rw [he]
  exact State.logEvent_setsAlert _ rfl

/-- Settles O10: the evaluation moves the code by the table, in a state whose next evaluation is set. -/
theorem paceEvaluationMovesTheVidCode : Obligations.PaceEvaluationMovesTheVidCode := by
  unfold Obligations.PaceEvaluationMovesTheVidCode
  intro s hrun hclk hdue hmode hall m code lo hi settled
  let u := s.onPace fun p => { p with evalAt := s.pace.evalAt + us 64 }
  have hx : exec .paceEvaluation s = .next (u.evaluate s.pace.evalAt) := by
    have hn : ¬(u.rd 0x680201 = 1 ∨ (!u.allMeasured) = true) := by
      have ha : u.allMeasured = true := hall
      have hm : u.rd 0x680201 = 0 := hmode
      simp [ha, hm]
    simp only [exec, execPaceEvaluation]
    rw [if_neg (by simp [hrun, hclk, Nat.not_lt.mpr hdue]), if_neg hn]
  obtain ⟨hcode, hsame, hframe, heval, hrunning⟩ := u.evaluate_moves s.pace.evalAt
  refine ⟨_, hx, heval, hrunning.trans hrun, hcode, fun h1 h2 h3 h4 => State.evaluate_alert h1 h2 h3 h4, hsame, ?_⟩
  rw [hframe]
  rfl

/-! ### Writes of the loop's objects (R27) -/

/-- The values that R27 refuses. -/
def State.vcoreBad (s : State) (sub v : Nat) : Prop :=
  (sub = 2 ∧ (v < s.rd 0x680204 ∨ s.rd 0x680205 < v)) ∨ (sub = 4 ∧ (s.rd 0x680205 < v ∨ s.rd 0x680202 < v)) ∨
    (sub = 5 ∧ (v < s.rd 0x680204 ∨ v < s.rd 0x680202))

theorem State.writeVcore_of_bad {s : State} {sub v : Nat} (h : s.vcoreBad sub v) :
    State.writeVcore sub v s = s.refuse abortValue := by
  unfold State.vcoreBad at h
  unfold State.writeVcore
  rcases h with ⟨rfl, h⟩ | ⟨rfl, h⟩ | ⟨rfl, h⟩ <;> simp [h]

/-- A value that R27 does not refuse is stored, and pins the code in pinned mode. -/
theorem State.writeVcore_of_good {s : State} {sub v : Nat} (hs : sub ∈ [1, 2, 4, 5]) (h : ¬s.vcoreBad sub v) :
    State.writeVcore sub v s =
      let t := s.wr (0x680200 + sub) v
      if t.rd 0x680201 = 1 ∧ t.pace.running = true then t.setVid (t.rd 0x680202) t.now else t := by
  unfold State.vcoreBad at h
  unfold State.writeVcore
  simp only [List.mem_cons, List.not_mem_nil, or_false] at hs
  rcases hs with rfl | rfl | rfl | rfl <;> simp at h ⊢ <;> omega

/-- A stored value reads back, in pinned mode the code follows the pinned one, and nothing else changes. -/
theorem State.writeVcore_stores {s : State} {sub v : Nat} (hs : sub ∈ [1, 2, 4, 5]) (h : ¬s.vcoreBad sub v) :
    let t := State.writeVcore sub v s
    t.rd (0x680200 + sub) = v ∧ (t.rd 0x680201 = 1 → s.pace.running = true → t.rd 0x680203 = t.rd 0x680202) ∧
      (t.rd 0x680201 ≠ 1 → t.rd 0x680203 = s.rd 0x680203) ∧ sameObjects [0x680200 + sub, 0x680203] s t ∧
      t = { s with dict := t.dict, pace := t.pace } := by
  have hne : 0x680203 ≠ 0x680200 + sub := by
    simp only [List.mem_cons, List.not_mem_nil, or_false] at hs
    omega
  have hw := (sameObjects_wr s (0x680200 + sub) v).trans (sameObjects.refl [] _) (ms := [0x680200 + sub, 0x680203])
    (by simp) (by simp)
  rw [State.writeVcore_of_good hs h]
  simp only
  split
  case isTrue hpin =>
    unfold State.setVid
    split
    case isTrue heq => exact ⟨by simp, fun _ _ => heq, fun hn => absurd hpin.1 hn, hw, rfl⟩
    case isFalse =>
      refine ⟨by simp [hne.symm], fun _ _ => by simp, fun hn => absurd hpin.1 (by simpa using hn), ?_, rfl⟩
      exact (hw.trans (sameObjects_wr _ 0x680203 _) (List.Subset.refl _) (by simp)).of_dict rfl
  case isFalse hpin =>
    exact ⟨by simp, fun h1 h2 => absurd ⟨h1, h2⟩ hpin, fun _ => by rw [State.rd_wr, if_neg hne], hw, rfl⟩

/-- Settles O11, by whether R27 refuses the value. -/
theorem vcoreLoopWritesKeepFloorPinnedCeilingOrdered : Obligations.VcoreLoopWritesKeepFloorPinnedCeilingOrdered := by
  unfold Obligations.VcoreLoopWritesKeepFloorPinnedCeilingOrdered
  intro tr sub v s hs h lo hi pin bad
  have hsub : sub = 1 ∨ sub = 2 ∨ sub = 4 ∨ sub = 5 := by simpa using hs
  have hk : (⟨tr, 0x680200 + sub, 1, v⟩ : Txn).key ≠ 0x102009 := by dsimp only; omega
  have hbad : (s.onServe tr).vcoreBad sub v ↔ bad := by
    simp only [State.vcoreBad, bad, lo, hi, pin]
    repeat rw [State.onServe_rd _ _ (by decide) (by decide)]
  have hx : exec (.vcoreLoopConfigWrite tr sub v) s = .next (s.hostWrite ⟨tr, 0x680200 + sub, 1, v⟩ (State.writeVcore sub v)) :=
    rfl
  refine ⟨fun hb => ⟨_, hx, ?_⟩, fun hb => ⟨_, hx, ?_⟩⟩
  · have he := State.writeVcore_of_bad (hbad.mpr hb)
    refine ⟨?_, State.hostWrite_same h hk _ (ks := []) (by rw [he]; exact sameObjects.refl _ _), ?_⟩
    · rw [State.hostWrite_answer h hk, he]; rfl
    · rw [State.hostWrite_eq_counted1 h hk, he, State.counted1_frame, State.refuse, State.onServe_frame]
  · obtain ⟨hv, hpin, hkeep, hsame, hframe⟩ := State.writeVcore_stores hs (mt hbad.mp hb)
    have hrd : ∀ k ∈ [0x680200 + sub, 0x680201, 0x680202, 0x680203],
        (s.hostWrite ⟨tr, 0x680200 + sub, 1, v⟩ (State.writeVcore sub v)).rd k =
          (State.writeVcore sub v (s.onServe tr)).rd k := fun k hm => by
      simp only [List.mem_cons, List.not_mem_nil, or_false] at hm
      exact State.rd_hostWrite h hk _ (by omega) (by omega)
    rw [hrd _ (by simp), hrd _ (by simp), hrd _ (by simp), hrd _ (by simp)]
    refine ⟨?_, hv, fun h1 h2 => hpin h1 (by rw [State.onServe_frame]; exact h2), fun h1 => ?_,
      State.hostWrite_same h hk _ hsame, ?_⟩
    · rw [State.hostWrite_answer h hk, hframe, State.onServe_frame]
    · rw [hkeep h1, State.onServe_rd _ _ (by decide) (by decide)]
    · rw [State.hostWrite_eq_counted1 h hk, State.counted1_frame, hframe, State.onServe_frame]

end Sys2Proof.Machine
end

section
/-!
PROOFS. A row of an area pour in its flask core (R22, R24, R121, R173, R175).
-/
namespace Sys2Proof.Machine

/-! ### What a core's row leaves unchanged -/

theorem State.add_frame {s t : State} (h : t = { s with dict := t.dict }) (k n : Nat) :
    t.add k n = { s with dict := (t.add k n).dict } := by
  rw [h]
  rfl

/-- Steps 1 to 5 only count. -/
theorem State.coreRow_frame (s : State) (p : Pour) (f : Nat) (prev next : Option LadleRow) (r : LadleRow) :
    (s.coreRow p f prev next r).1 = { s with dict := (s.coreRow p f prev next r).1.dict } :=
  State.add_frame (State.add_frame (State.add_frame (State.add_frame (State.add_frame rfl _ _) _ _) _ _) _ _) _ _

/-- The row that steps 1 to 5 make has one value for each sample. -/
theorem State.coreRow_length (s : State) (p : Pour) (f : Nat) (prev next : Option LadleRow) (r : LadleRow) :
    (s.coreRow p f prev next r).2.vals.length = r.samples.length := by
  simp [State.coreRow, State.correctRow, recoverRow]

/-- A packet of a pour in the tundish joins the queue of its flask's sprue; beside it the pour keeps its account. -/
theorem State.complete_joins {s : State} {k : Packet} {f : Nat} (hf : k.flask = f) (h : ∃ u ∈ s.lanes.tundish, u.idx = k.pour) :
    ∃ ts hs, s.complete k = { s with lanes := { s.lanes with
      tundish := ts, queues := modifyNth s.lanes.queues (f / 4) (· ++ [k]), headSince := hs } } := by
  subst hf
  obtain ⟨u, hu, hi⟩ := h
  obtain ⟨v, hv⟩ : ∃ v, s.lanes.tundish.find? k.ofPour = some v := by
    rw [← Option.isSome_iff_exists, List.find?_isSome]
    exact ⟨u, hu, by simp [Packet.ofPour, hi]⟩
  simp only [State.complete, hv]
  exact ⟨_, _, rfl⟩

/-- Without digital binning and fusing an area row goes to the queue as it is. -/
theorem State.coreOut_area {p : Pour} (harea : p.area = true) (hacq : p.acq = false) (hdig : digFactor p.cfg = 1)
    (hfuse : fusedOut p.cfg = false) (s : State) (f : Nat) (r : RowRef) (c : Option RowOut) (unread : Bool) :
    s.coreOut p f r c unread = s.complete (p.rowPacket f r.sub r.ord r.row c) := by
  simp [State.coreOut, State.areaRow, State.outputRow, State.sendRow, harea, hacq, hdig, hfuse]

/-- Of one area pour in progress, its being complete changes the list of pours only. -/
theorem State.settlePours_of_area {s : State} {p : Pour} (h : s.image.pours = [p]) (ha : p.area = true) :
    ∃ ps, s.settlePours = { s with image := { s.image with pours := ps } } := by
  cases hd : p.done with
  | false => exact ⟨s.image.pours, State.settlePours_of_not_done h hd⟩
  | true =>
    refine ⟨[], ?_⟩
    simp [State.settlePours, State.finishPours, h, hd, ha, State.onImage]

/-! ### The core's row -/

/-- The row `r` that stands alone in the ladle of flask `f` can be processed: its pour `p` is an area pour without digital binning
and fusing, no row after it is to come, its map entries have arrived, and the tundish has admitted the pour. -/
structure State.CoreRowDue (s : State) (f : Nat) (p : Pour) (r : LadleRow) : Prop where
  pours : s.image.pours = [p]
  area : p.area = true
  acq : p.acq = false
  idx : p.idx = r.ref.pour
  rows : (s.flask f).rows = [r]
  slag : r.slag = false
  last : s.nextToCome p r.ref = false
  entries : p.bank = 0xFF ∨ (s.flask f).window.contains r.ref = true
  dig : digFactor p.cfg = 1
  fused : fusedOut p.cfg = false
  admitted : ∃ u ∈ s.lanes.tundish, u.idx = p.idx

/-- The row `r` of pour `p` leaves the ladle of flask `f`. -/
def State.rowLeaves (f : Nat) (p : Pour) (r : LadleRow) (s : State) : State :=
  (s.rowDone f p.idx).onFlask f fun x => { x with
    prev := keepPrev p.area x.prev r, window := x.window.filter (· != r.ref) }

theorem State.rows_rowLeaves {s : State} {f : Nat} (hf : f < s.image.flasks.length) (p : Pour) (r : LadleRow) :
    ((s.rowLeaves f p r).flask f).rows = (s.flask f).rows.tail := by
  have hd : ((s.rowDone f p.idx).flask f).rows = (s.flask f).rows.tail :=
    congrArg Flask.rows ((s.flask_onFlask f f _ hf).trans (if_pos rfl))
  rw [State.rowLeaves, State.flask_onFlask _ _ _ _ (by simpa [State.rowDone] using hf), if_pos rfl, ← hd]

/-- Once the row that stood alone has left and its pour has settled, the ladle is empty; only the image path changed. -/
theorem State.settle_rowLeaves {s : State} {f : Nat} {p : Pour} {r : LadleRow} (hf : f < s.image.flasks.length)
    (hp : s.image.pours = [p]) (ha : p.area = true) (hr : (s.flask f).rows = [r]) :
    let u := s.rowLeaves f p r
    let t := (u.flushSlag f (u.flask f).rows.length).settlePours
    (t.flask f).rows = [] ∧ t = { s with image := t.image } := by
  have hrows : ((s.rowLeaves f p r).flask f).rows = [] := by rw [State.rows_rowLeaves hf, hr]; rfl
  obtain ⟨q, hq, hqa⟩ : ∃ q, (s.rowLeaves f p r).image.pours = [q] ∧ q.area = true := by
    simp [State.rowLeaves, State.rowDone, hp, ha]
  obtain ⟨ps, hs⟩ := State.settlePours_of_area hq hqa
  intro u t
  have ht : t = { u with image := { u.image with pours := ps } } := by
    rw [← hs]
    exact congrArg State.settlePours (State.flushSlag_of_no_slag (by simp [u, hrows]) _)
  rw [ht]
  exact ⟨hrows, rfl⟩

/-- The content of the row, as the core makes it. -/
def State.rowOut (s : State) (f : Nat) (p : Pour) (r : LadleRow) : State × RowOut :=
  (s.countPixels f r.samples.length).coreRow p f ((s.flask f).prev.find? fun q => p.follows q.ref r.ref) none r

/-- The packet of the row. -/
def State.corePacket (s : State) (f : Nat) (p : Pour) (r : LadleRow) : Packet :=
  p.rowPacket f r.ref.sub r.ref.ord r.ref.row (some (s.rowOut f p r).2)

/-- The row in the core: its pixels are counted, its packet is completed, and it leaves the ladle. -/
theorem State.coreRow_exec {s : State} {f : Nat} {p : Pour} {r : LadleRow} (h : s.CoreRowDue f p r) :
      exec (.coreRow f) s =
      let u := ((s.rowOut f p r).1.complete (s.corePacket f p r)).rowLeaves f p r
      .next (u.flushSlag f (u.flask f).rows.length).settlePours := by
  have hflush : s.flushSlag f (s.flask f).rows.length = s :=
    State.flushSlag_of_no_slag (by simp [h.rows, h.slag]) _
  have hpour : s.pourOf r.ref.pour = some p := by simp [State.pourOf, h.pours, h.idx]
  have hgo : ¬((s.nextToCome p r.ref = true) ∨ (p.bank ≠ 0xFF ∧ (!(s.flask f).window.contains r.ref) = true)) := by
    rcases h.entries with hb | hw
    · simp [h.last, hb]
    · simpa [h.last] using fun _ => hw
  simp only [exec, execCoreRow]
  rw [hflush]
  simp only [h.rows, hpour]
  rw [if_neg hgo]
  simp only [h.acq, List.find?_nil, Bool.false_eq_true, if_false]
  rw [State.coreOut_area h.area h.acq h.dig h.fused, ← h.idx]
  rfl

/-- The state once the packet of the row is complete, as far as the row's way on needs it. -/
structure State.RowSent (s t : State) (f : Nat) (k : Packet) (n : Nat) : Prop where
  frame : t = { s with dict := t.dict, lanes := t.lanes, pace := t.pace }
  queues : t.lanes.queues = modifyNth s.lanes.queues (f / 4) (· ++ [k])
  pace : t.pace = (s.countPixels f n).pace

theorem State.CoreRowDue.sent {s : State} {f : Nat} {p : Pour} {r : LadleRow} (h : s.CoreRowDue f p r) :
    s.RowSent ((s.rowOut f p r).1.complete (s.corePacket f p r)) f (s.corePacket f p r) r.samples.length := by
  have hmade : (s.rowOut f p r).1 = { s.countPixels f r.samples.length with dict := (s.rowOut f p r).1.dict } :=
    State.coreRow_frame ..
  obtain ⟨ts, hs, hc⟩ := State.complete_joins (s := (s.rowOut f p r).1) (k := s.corePacket f p r) (f := f) rfl
    (by rw [hmade]; exact h.admitted)
  rw [hc]
  generalize s.corePacket f p r = k at *
  rw [hmade]
  exact ⟨rfl, rfl, rfl⟩

/-- Settles O13: the state after the core's row is written out part by part. -/
theorem coreRowSendsTheRowOfItsLadle : Obligations.CoreRowSendsTheRowOfItsLadle := by
  unfold Obligations.CoreRowSendsTheRowOfItsLadle
  intro f s p r hf hflasks hqueues hruns hpours harea hacq hidx hrows hslag hlast hentries hdig hfused hadm
  have h : s.CoreRowDue f p r := ⟨hpours, harea, hacq, hidx, hrows, hslag, hlast, hentries, hdig, hfused, hadm⟩
  have hx := State.coreRow_exec h
  have hlen : (s.corePacket f p r).pixels.length = r.samples.length := State.coreRow_length _ p f _ none r
  obtain ⟨hframe, hjoined, hcount⟩ := h.sent
  generalize (s.rowOut f p r).1.complete (s.corePacket f p r) = u at *
  have himage : u.image = s.image := by rw [hframe]
  obtain ⟨hempty, ht⟩ := State.settle_rowLeaves (s := u) (f := f) (p := p) (r := r) (by rw [himage]; omega)
    (by rw [himage]; exact hpours) harea (by rw [State.flask, himage]; exact hrows)
  refine ⟨_, s.corePacket f p r, hx, hempty, ?_, rfl, rfl, rfl, rfl, rfl, rfl, hlen, ?_, ?_⟩
  · rw [ht, hjoined, nth_modifyNth, if_pos ⟨rfl, by omega⟩]
  · rw [ht, State.paceRun, hcount]
    exact (congrArg PaceRun.pixels (s.paceRun_onPaceRun f f _)).trans (by rw [if_pos ⟨rfl, by omega⟩])
  · rw [ht, hframe]

end Sys2Proof.Machine
end

section
/-!
PROOFS. MRAM words that read with an error (R33, R264), and the map window (R23, R126, R160).
-/
namespace Sys2Proof.Machine

/-! ### Words in error (R33, R264) -/

theorem inWords_iff (r : WordRange) (w : Nat) : inWords r w = true ↔ r.1 ≤ w ∧ w < r.1 + r.2 := by
  simp [inWords]

/-- The errors that a read names for the words of a range. -/
def namedErrors (r : WordRange) (bad corrected : List Nat) : List (Nat × Bool) :=
  ((bad.dedup.filter (inWords r)).map fun w => (w, true)) ++
    (corrected.dedup.filter fun w => inWords r w && !bad.contains w).map fun w => (w, false)

/-- After a read the words of its range hold the errors that it names, and every other word those that it held. -/
theorem State.noteErrors_eq (s : State) (r : WordRange) (bad corrected : List Nat) :
    s.noteErrors r bad corrected = { s with mram := { s.mram with
      errs := namedErrors r bad corrected ++ s.mram.errs.filter fun e => !inWords r e.1 } } := rfl

theorem inWords_of_mem_namedErrors {r : WordRange} {bad corrected : List Nat} {e : Nat × Bool}
    (h : e ∈ namedErrors r bad corrected) : inWords r e.1 = true := by
  simp only [namedErrors, List.mem_append, List.mem_map, List.mem_filter, Bool.and_eq_true] at h
  rcases h with ⟨w, ⟨-, h⟩, rfl⟩ | ⟨w, ⟨-, h, -⟩, rfl⟩ <;> exact h

theorem State.errorsIn_noteErrors (s : State) (r : WordRange) (bad corrected : List Nat) :
    (s.noteErrors r bad corrected).errorsIn r = namedErrors r bad corrected := by
  have hl : (namedErrors r bad corrected).filter (fun e => inWords r e.1) = namedErrors r bad corrected :=
    List.filter_eq_self.mpr fun e => inWords_of_mem_namedErrors
  simp [State.errorsIn, State.noteErrors_eq, hl, List.filter_filter]

theorem namedErrors_bad {r : WordRange} {w : Nat} (h : inWords r w = true) : namedErrors r [w] [] = [(w, true)] := by
  simp [namedErrors, h]

theorem namedErrors_corrected {r : WordRange} {w : Nat} (h : inWords r w = true) :
    namedErrors r [] [w] = [(w, false)] := by
  simp [namedErrors, h]

theorem State.countError_frame (s : State) (e : Nat × Bool) :
    s.countError e = { s with dict := (s.countError e).dict } := by
  unfold State.countError
  split <;> rfl

/-- Counting the words of a list touches nothing but the object store. -/
theorem State.foldl_countError_frame (l : List (Nat × Bool)) (s : State) :
    l.foldl State.countError s = { s with dict := (l.foldl State.countError s).dict } := by
  induction l generalizing s with
  | nil => rfl
  | cons e l ih => rw [List.foldl_cons, ih, State.countError_frame]

theorem State.readWords_frame (s : State) (r : WordRange) : s.readWords r = { s with dict := (s.readWords r).dict } :=
  State.foldl_countError_frame ..

/-! ### The alert bits of an event (R257, R262) -/

theorem State.rd_logEntry (s : State) (code : Nat) (data : List Byte) (bit : Option Nat) {k : Nat} (hk : k ≠ 0xC00008) :
    (s.logEntry code data bit).rd k = s.rd k := by
  simp only [State.logEntry, State.sendFrame]
  split <;> simp [hk]

/-- An event sets the alert bit that it has, and no other. -/
theorem State.logEvent_alerts (s : State) (code : Nat) (data : List Byte) :
    (s.logEvent code data).rd 0x100101 =
      match alertBit code data with
      | some b => setBit (s.rd 0x100101) b
      | none => s.rd 0x100101 := by
  cases hb : alertBit code data <;> simp only [State.logEvent, hb] <;> split <;> simp [State.rd_logEntry, State.raise]

/-! ### The map window (R23, R126) -/

/-- The pour with index `idx` keeps the words of `lost` as bad, and the window of flask `f` gains row `r`. -/
def State.windowGains (f : Nat) (r : RowRef) (idx : Nat) (lost : List Nat) (s : State) : State :=
  (s.onPour idx fun p => { p with bad := p.bad ++ lost }).onFlask f fun x => { x with window := x.window ++ [r] }

section windowGains
variable (s : State) (f : Nat) (r : RowRef) (idx : Nat) (lost : List Nat)

theorem State.flask_windowGains (g : Nat) : (s.windowGains f r idx lost).flask g =
    if g = f ∧ g < s.image.flasks.length then { s.flask g with window := (s.flask g).window ++ [r] } else s.flask g :=
  nth_modifyNth ..

theorem State.pourOf_windowGains {p : Pour} (h : s.pourOf idx = some p) :
    (s.windowGains f r idx lost).pourOf idx = some { p with bad := p.bad ++ lost } := by
  have hi : p.idx = idx := by simpa using List.find?_some h
  have hm : (s.windowGains f r idx lost).image.pours =
      s.image.pours.map fun q => if q.idx = idx then { q with bad := q.bad ++ lost } else q := rfl
  have hc : ((fun q : Pour => q.idx == idx) ∘ fun q => if q.idx = idx then { q with bad := q.bad ++ lost } else q) =
      fun q => q.idx == idx := by
    funext q
    simp only [Function.comp_apply]
    split <;> rfl
  rw [State.pourOf, hm, List.find?_map, hc, show s.image.pours.find? _ = _ from h]
  simp [hi]

/-- Where no word is lost the pours stay as they are. -/
theorem State.pours_windowGains : (s.windowGains f r idx []).image.pours = s.image.pours := by
  have hm : (s.windowGains f r idx []).image.pours =
      s.image.pours.map fun q => if q.idx = idx then { q with bad := q.bad ++ [] } else q := rfl
  rw [hm]
  simp

end windowGains

/-- A fetch for the next row of the window, of a pour with a live bank. -/
theorem State.mapWindowFetch_eq {s : State} {f : Nat} {r : LadleRow} {p : Pour} (hr : s.nextWindowRow f = some r)
    (hp : s.pourOf r.ref.pour = some p) (hb : p.bank ≤ 1) (bad corrected : List Nat) :
    let words := rowWords p.bank r.ref.row f
    let lost := ((namedErrors words bad corrected).filter Prod.snd).map Prod.fst
    exec (.mapWindowFetch f bad corrected) s =
      .next (((lost.foldl State.badMapWord (s.noteErrors words bad corrected)).readWords words).windowGains
        f r.ref r.ref.pour lost) := by
  have hi : p.idx = r.ref.pour := by simpa using List.find?_some hp
  simp only [exec, execMapWindowFetch, hr, hp]
  rw [if_neg (by omega), State.errorsIn_noteErrors, hi]
  rfl

/-- The words of a row of a bank lie in the region of the bank (R126, R264). -/
theorem regionOf_rowWords {bank row f w : Nat} (hb : bank ≤ 1) (hr : row < 1024) (hf : f < 16)
    (h : inWords (rowWords bank row f) w = true) : regionOf w = bank := by
  simp only [inWords_iff, rowWords, entryWord, pixelIndex] at h
  obtain rfl | rfl : bank = 0 ∨ bank = 1 := by omega
  · rw [regionOf, if_pos (by omega)]
  · rw [regionOf, if_neg (by omega), if_pos (by omega)]

theorem State.badMapWord_frame (s : State) (w : Nat) : s.badMapWord w = { s with
    dict := (s.badMapWord w).dict, log := (s.badMapWord w).log, ring := (s.badMapWord w).ring } := by
  unfold State.badMapWord
  rw [State.logEvent_frame]
  rfl

/-- A bad map word is counted and reported, and sets no alert. -/
theorem State.badMapWord_reports (s : State) (w : Nat) :
    (s.badMapWord w).rd 0x401201 = countUp (s.rd 0x401201) ∧ (s.badMapWord w).rd 0x401202 = w ∧
      (s.badMapWord w).rd 0x100101 = s.rd 0x100101 ∧
      sameObjects [0x401201, 0x401202, 0xC00007, 0xC00008] s (s.badMapWord w) := by
  have hl := ((s.inc 0x401201).wr 0x401202 w).logEvent_same 0x0302 (leBytes 4 w)
  have ha : (s.badMapWord w).rd 0x100101 = s.rd 0x100101 := by
    rw [State.badMapWord, State.logEvent_alerts]
    simp [alertBit]
  refine ⟨?_, ?_, ha, fun k hk => ?_⟩
  · exact (hl _ (by decide)).trans (by simp [countUp])
  · exact (hl _ (by decide)).trans (by simp)
  · simp only [List.mem_cons, List.not_mem_nil, or_false, not_or] at hk
    obtain ⟨h1, h2, h3, h4⟩ := hk
    by_cases h5 : k = 0x100101
    · rw [h5, ha]
    · exact (hl _ (by simp [h3, h4, h5])).trans (by simp [h1, h2])

section fetch
variable {s : State} {f : Nat} {r : LadleRow} {p : Pour} (hr : s.nextWindowRow f = some r)
  (hp : s.pourOf r.ref.pour = some p) (hb : p.bank ≤ 1)
include hr hp hb

theorem State.mapWindowFetch_clean : exec (.mapWindowFetch f [] []) s =
    .next ((s.noteErrors (rowWords p.bank r.ref.row f) [] []).windowGains f r.ref r.ref.pour []) := by
  have hx := State.mapWindowFetch_eq hr hp hb [] []
  have hn : namedErrors (rowWords p.bank r.ref.row f) [] [] = [] := rfl
  simp only [hn, List.filter_nil, List.map_nil, List.foldl_nil] at hx
  rw [hx, State.readWords, State.errorsIn_noteErrors, hn]
  rfl

theorem State.mapWindowFetch_bad {w : Nat} (hw : inWords (rowWords p.bank r.ref.row f) w = true) :
    exec (.mapWindowFetch f [w] []) s =
      .next ((((s.noteErrors (rowWords p.bank r.ref.row f) [w] []).badMapWord w).countError (w, true)).windowGains
        f r.ref r.ref.pour [w]) := by
  have hx := State.mapWindowFetch_eq hr hp hb [w] []
  have hn := namedErrors_bad hw
  have he : ((s.noteErrors (rowWords p.bank r.ref.row f) [w] []).badMapWord w).errorsIn (rowWords p.bank r.ref.row f) =
      [(w, true)] := by
    rw [State.badMapWord_frame, ← hn]
    exact s.errorsIn_noteErrors ..
  simp only [hn, List.filter_cons_of_pos, List.filter_nil, List.map_cons, List.map_nil, List.foldl_cons,
    List.foldl_nil] at hx
  rw [hx, State.readWords, he]
  rfl

theorem State.mapWindowFetch_corrected {w : Nat} (hw : inWords (rowWords p.bank r.ref.row f) w = true) :
    exec (.mapWindowFetch f [] [w]) s =
      .next (((s.noteErrors (rowWords p.bank r.ref.row f) [] [w]).countError (w, false)).windowGains
        f r.ref r.ref.pour []) := by
  have hx := State.mapWindowFetch_eq hr hp hb [] [w]
  have hn := namedErrors_corrected hw
  simp only [hn, Bool.false_eq_true, not_false_eq_true, List.filter_cons_of_neg, List.filter_nil, List.map_nil,
    List.foldl_nil] at hx
  rw [hx, State.readWords, State.errorsIn_noteErrors, hn]
  rfl

end fetch

/-- Settles O14, by what the words of the row hold: no error, an uncorrectable word, or one that is corrected. -/
theorem mapWindowTakesTheNextRowsEntries : Obligations.MapWindowTakesTheNextRowsEntries := by
  unfold Obligations.MapWindowTakesTheNextRowsEntries
  intro f s r p hf hflasks hr hp hb hrow words
  have hgain : ∀ {x : State} (lost : List Nat), x.image = s.image →
      ((x.windowGains f r.ref r.ref.pour lost).flask f).window = (s.flask f).window ++ [r.ref] := fun lost hx => by
    rw [State.flask_windowGains, if_pos ⟨rfl, by rw [hx]; omega⟩, State.flask, hx]
    rfl
  refine ⟨⟨_, State.mapWindowFetch_clean hr hp hb, ?_⟩, fun w hw => ?_,
    fun w hw => ⟨_, State.mapWindowFetch_corrected hr hp hb hw, ?_⟩⟩
  · have hp := (s.noteErrors words [] []).pours_windowGains f r.ref r.ref.pour
    refine ⟨hgain [] rfl, fun g hg => by rw [State.flask_windowGains, if_neg fun h => hg h.1]; rfl, rfl, ?_⟩
    rw [State.windowGains, State.onFlask, State.onPour] at hp ⊢
    simp only [State.onImage] at hp ⊢
    rw [hp]
    rfl
  · obtain ⟨hcount, hword, halert, hsame⟩ := (s.noteErrors words [w] []).badMapWord_reports w
    have hrd : ∀ (u : State) k, ((u.countError (w, true)).windowGains f r.ref r.ref.pour [w]).rd k =
        if k = 0xC10005 then p.bank else if k = 0xC10004 then w
        else if k = 0xC10002 then countUp (u.rd 0xC10002) else u.rd k := fun u k => by
      rw [← regionOf_rowWords hb hrow hf hw]
      simp [State.windowGains, State.onPour, State.countError, countUp]
    have hi : (((s.noteErrors words [w] []).badMapWord w).countError (w, true)).image = s.image := by
      rw [State.countError_frame, State.badMapWord_frame]; rfl
    refine ⟨_, { p with bad := p.bad ++ [w] }, State.mapWindowFetch_bad hr hp hb hw, hgain [w] hi, ?_, rfl, ?_⟩
    · exact State.pourOf_windowGains _ _ _ _ _ (by rw [State.pourOf, hi]; exact hp)
    · simp only [hrd]
      refine ⟨hcount, hword, congrArg countUp (hsame _ (by decide)), rfl, rfl, halert, fun k hk => ?_⟩
      simp only [List.mem_cons, List.not_mem_nil, or_false, not_or] at hk
      obtain ⟨h1, h2, h3, h4, h5, h6, h7⟩ := hk
      rw [hrd, if_neg h5, if_neg h4, if_neg h3]
      exact hsame k (by simp [h1, h2, h6, h7])
  · have hrd : ∀ k, (((s.noteErrors words [] [w]).countError (w, false)).windowGains f r.ref r.ref.pour []).rd k =
        if k = 0xC10003 then w else if k = 0xC10001 then countUp (s.rd 0xC10001) else s.rd k := fun k => by
      simp [State.windowGains, State.onPour, State.countError, State.noteErrors, countUp]
    refine ⟨hgain [] rfl, State.pours_windowGains .., ?_, ?_, fun k hk => ?_⟩ <;> rw [hrd]
    · rfl
    · rfl
    · simp only [List.mem_cons, List.not_mem_nil, or_false, not_or] at hk
      rw [if_neg hk.2, if_neg hk.1]

end Sys2Proof.Machine
end

section
/-!
PROOFS. Alert status, logged events, the log in MRAM and its reading (R257, R260 to R263).
-/
namespace Sys2Proof.Machine

/-! ### The alert status (R257) -/

/-- The bits of the five conditions stand at different places. -/
theorem testBit_conditions : ∀ (i : Fin 16) (supply inhibit quench therm nomap : Bool),
    ((cond supply (2 ^ 12) 0) + (cond inhibit (2 ^ 8) 0) + (cond quench (2 ^ 7) 0) + (cond therm (2 ^ 6) 0) +
      (cond nomap (2 ^ 2) 0)).testBit i =
      (i == 12 && supply || i == 8 && inhibit || i == 7 && quench || i == 6 && therm || i == 2 && nomap) := by
  decide

/-- Bit `i` of the alert status has a condition, and it holds. -/
def State.alertHolds (s : State) (i : Nat) : Prop :=
  (i = 12 ∧ s.rd 0xB03001 ≠ 0) ∨ (i = 8 ∧ s.rd 0x6A0003 = 1) ∨
    (i = 7 ∧ (s.therm.quench = true ∨ s.rd 0x6A1002 % 4 ≠ 0)) ∨
    (i = 6 ∧ (s.rd 0x6A0001 = 1 ∨ s.rd 0x6A0001 = 2 ∨ s.rd 0x6A0002 = 1 ∨ s.rd 0x6A0002 = 2)) ∨
    (i = 2 ∧ s.power.scanned = true ∧ s.rd 0x401001 = 0xFF)

theorem State.testBit_alertConditions (s : State) {i : Nat} (hi : i < 16) :
    s.alertConditions.testBit i = true ↔ s.alertHolds i := by
  have hc : ∀ (p : Prop) [Decidable p] (n : Nat), (if p then n else 0) = cond (decide p) n 0 := fun p _ n => by
    by_cases h : p <;> simp [h]
  have h := testBit_conditions ⟨i, hi⟩
  simp only [State.alertConditions, hc, h]
  simp [State.alertHolds, Fin.ext_iff, or_assoc]

theorem State.alertHolds_onServe (s : State) (tr : Transport) (i : Nat) :
    (s.onServe tr).alertHolds i ↔ s.alertHolds i := by
  unfold State.alertHolds
  repeat rw [State.onServe_rd _ _ (by decide) (by decide)]
  rw [State.onServe_therm, State.onServe_power]

theorem testBit_andNot (v m : Nat) {i : Nat} (hi : i < 64) :
    (andNot v m).testBit i = (v.testBit i && !m.testBit i) := by
  rw [andNot, Nat.testBit_and, Nat.testBit_xor, Nat.testBit_two_pow_sub_one]
  simp [hi]

/-- The alert status after a write of `v` to it. -/
theorem State.testBit_clearAlerts (s : State) (v : Nat) {i : Nat} (hi : i < 16) :
    ((State.clearAlerts v s).rd 0x100101).testBit i = true ↔
      ((s.rd 0x100101).testBit i = true ∧ v.testBit i = false) ∨ s.alertHolds i := by
  rw [State.clearAlerts, State.rd_wr, if_pos rfl, Nat.testBit_or, testBit_andNot _ _ (by omega), Bool.or_eq_true,
    Bool.and_eq_true, Bool.not_eq_true', State.testBit_alertConditions _ hi]

theorem State.alertStatusWrite_spec {tr : Transport} {v : Nat} {s : State} (h : s.admits ⟨tr, 0x100101, 2, v⟩) :
    ∃ t, exec (.alertStatusWrite tr v) s = .next t ∧ t.answer.abort = 0 ∧
      (∀ i < 16, (t.rd 0x100101).testBit i = true ↔
        ((s.rd 0x100101).testBit i = true ∧ v.testBit i = false) ∨ s.alertHolds i) ∧
      sameObjects (0x100101 :: accessCounters tr) s t ∧ t = { s with dict := t.dict, answer := t.answer } := by
  have hk : (⟨tr, 0x100101, 2, v⟩ : Txn).key ≠ 0x102009 := by simp
  refine ⟨_, rfl, ?_, fun i hi => ?_, State.hostWrite_same h hk (ks := [0x100101]) _ (sameObjects_wr _ 0x100101 _), ?_⟩
  · rw [State.hostWrite_answer h hk]; rfl
  · rw [State.rd_hostWrite h hk _ (by decide) (by decide), State.testBit_clearAlerts _ _ hi,
      State.onServe_rd _ _ (by decide) (by decide), State.alertHolds_onServe]
  · rw [State.hostWrite_eq_counted1 h hk, State.counted1_frame, State.clearAlerts, State.wr, State.onServe_frame]

/-! ### A logged event (R261) -/

/-- With room in the queue the event takes the next number and joins the queue. -/
theorem State.logEvent_of_room {s : State} (h : s.log.queue.length < 64) (code : Nat) (data : List Byte) :
    ∃ e, (s.logEvent code data).log = { s.log with queue := s.log.queue ++ [e], next := (s.log.next + 1) % 2 ^ 32 } ∧
      e.seq = s.log.next ∧ e.code = code ∧ e.rtime = s.ringTime ∧ e.data = pad 12 data ∧
      (s.logEvent code data).rd 0xC00007 = s.rd 0xC00007 := by
  have hentry : ∀ (u : State) bit, u.log = s.log → u.ring = s.ring → u.rd 0xC00007 = s.rd 0xC00007 →
      ∃ e, (u.logEntry code data bit).log = { s.log with queue := s.log.queue ++ [e], next := (s.log.next + 1) % 2 ^ 32 } ∧
        e.seq = s.log.next ∧ e.code = code ∧ e.rtime = s.ringTime ∧ e.data = pad 12 data ∧
        (u.logEntry code data bit).rd 0xC00007 = s.rd 0xC00007 := by
    intro u bit hl hr hc
    rw [State.rd_logEntry _ _ _ _ (by decide), hc]
    simp only [State.logEntry, State.sendFrame, State.ringTime, ← hl, ← hr]
    split <;> exact ⟨_, rfl, rfl, rfl, rfl, rfl, trivial⟩
  have hn : ∀ b, ¬64 ≤ (s.raise b).log.queue.length := fun b => Nat.not_le.mpr h
  cases hb : alertBit code data with
  | none =>
    simp only [State.logEvent, hb, if_neg (Nat.not_le.mpr h)]
    exact hentry s none rfl rfl rfl
  | some b =>
    simp only [State.logEvent, hb, if_neg (hn b)]
    exact hentry (s.raise b) (some b) rfl rfl (by simp [State.raise])

/-- With the queue full the event is counted and lost. -/
theorem State.logEvent_of_full {s : State} (h : 64 ≤ s.log.queue.length) (code : Nat) (data : List Byte) :
    (s.logEvent code data).log = { s.log with unreported := s.log.unreported + 1 } ∧
      (s.logEvent code data).rd 0xC00007 = countUp (s.rd 0xC00007) ∧ (s.logEvent code data).ring = s.ring := by
  have hn : ∀ b, 64 ≤ (s.raise b).log.queue.length := fun b => h
  cases hb : alertBit code data with
  | none =>
    simp only [State.logEvent, hb, if_pos h]
    exact ⟨rfl, by simp [countUp], rfl⟩
  | some b =>
    simp only [State.logEvent, hb, if_pos (hn b)]
    exact ⟨rfl, by simp [State.raise, countUp], rfl⟩

/-- An event sets the alert bit that it has and no other one. -/
theorem State.testBit_logEvent (s : State) (code : Nat) (data : List Byte) (i : Nat) :
    ((s.logEvent code data).rd 0x100101).testBit i =
      ((s.rd 0x100101).testBit i || decide (alertBit code data = some i)) := by
  rw [State.logEvent_alerts]
  cases alertBit code data with
  | none => simp
  | some b => simp [testBit_setBit, eq_comm]

theorem State.eventLogged_eq (s : State) (code : Nat) (data : List Byte) :
    exec (.eventLogged code data) s =
      .next (if s.power.phase ≠ .inReset ∧ code ∈ eventCodes then s.logEvent code data else s) := by
  simp only [exec, execEventLogged, List.contains_iff_mem]

/-! ### The log in MRAM (R261) -/

/-- The state once the oldest queued entry stands in MRAM. -/
def State.entryWritten (e : LogEntry) (l : List LogEntry) (s : State) : State :=
  ((s.onMram fun m => { m with log := writeEntry m.log e }).wroteWords (logWords e.seq)).onLog fun x => { x with queue := l }

theorem State.logEntryWrite_eq {s : State} {e : LogEntry} {l : List LogEntry} (hq : s.log.queue = e :: l)
    (hw : s.mramWritable = true) :
    exec .logEntryWrite s = .next (if s.log.unreported = 0 then s.entryWritten e l
      else ((s.entryWritten e l).onLog fun x => { x with unreported := 0 }).logEvent 0x0102
        (leBytes 4 (min (2 ^ 32 - 1) s.log.unreported))) := by
  simp only [exec, execLogEntryWrite, hq, hw, Bool.not_true, Bool.false_eq_true, if_false]
  by_cases hu : s.log.unreported = 0
  · rw [if_pos hu]
    exact if_pos hu
  · rw [if_neg hu]
    exact if_neg hu

/-- Entries that were lost are reported once there is room for the report. -/
theorem State.lossReport (s : State) (e : LogEntry) (l : List LogEntry) (n : Nat) (h : l.length < 64) :
    let t := ((s.entryWritten e l).onLog fun x => { x with unreported := 0 }).logEvent 0x0102 (leBytes 4 n)
    t.log.unreported = 0 ∧ (t.rd 0x100101).testBit 15 = true ∧
      ∃ x, t.log.queue = l ++ [x] ∧ x.code = 0x0102 ∧ x.data = pad 12 (leBytes 4 n) := by
  obtain ⟨x, hlog, -, hcode, -, hdata, -⟩ := State.logEvent_of_room
    (s := (s.entryWritten e l).onLog fun x => { x with unreported := 0 }) h 0x0102 (leBytes 4 n)
  exact ⟨by rw [hlog]; rfl, State.logEvent_setsAlert _ rfl, x, by rw [hlog]; rfl, hcode, hdata⟩

theorem State.logEntryWrite_spec {s : State} {e : LogEntry} {l : List LogEntry} (hq : s.log.queue = e :: l)
    (hw : s.mramWritable = true) :
    ∃ t, exec .logEntryWrite s = .next t ∧
      t.mram = { s.mram with log := writeEntry s.mram.log e, errs := t.mram.errs } ∧
      (s.log.unreported = 0 → t.dict = s.dict ∧ t.log = { s.log with queue := l }) ∧
      (s.log.unreported ≠ 0 → l.length < 64 → t.log.unreported = 0 ∧ (t.rd 0x100101).testBit 15 = true ∧
        ∃ x, t.log.queue = l ++ [x] ∧ x.code = 0x0102 ∧
          x.data = pad 12 (leBytes 4 (min (2 ^ 32 - 1) s.log.unreported))) := by
  refine ⟨_, State.logEntryWrite_eq hq hw, ?_, fun h => ?_, fun h hl => ?_⟩
  · split
    · rfl
    · rw [State.logEvent_mram]; rfl
  · rw [if_pos h]
    exact ⟨rfl, rfl⟩
  · rw [if_neg h]
    exact s.lossReport e l _ hl

/-! ### Reading the log (R263) -/

/-- Words without an uncorrectable error are read with corrected errors only. -/
theorem State.readWords_same_of_readable {s : State} {r : WordRange} (h : s.readable r = true) :
    sameObjects [0xC10001, 0xC10003] s (s.readWords r) := by
  have hl : ∀ (l : List (Nat × Bool)) (u : State), (∀ e ∈ l, e.2 = false) →
      sameObjects [0xC10001, 0xC10003] u (l.foldl State.countError u) := by
    intro l
    induction l with
    | nil => exact fun u _ => sameObjects.refl _ u
    | cons e l ih =>
      intro u he
      have h1 : sameObjects [0xC10001, 0xC10003] u (u.countError e) := fun k hk => by
        simp only [List.mem_cons, List.not_mem_nil, or_false, not_or] at hk
        simp [State.countError, he e List.mem_cons_self, hk.1, hk.2]
      exact h1.trans (ih _ fun x hx => he x (List.mem_cons_of_mem _ hx)) (List.Subset.refl _) (List.Subset.refl _)
  exact hl _ _ fun e he => by simpa using List.all_eq_true.mp h e he

/-- A read of words changes the MRAM diagnostics only. -/
theorem State.readWords_same (s : State) (r : WordRange) : sameObjects (rangeFrom 0xC10001 5) s (s.readWords r) := by
  have hl : ∀ (l : List (Nat × Bool)) (u : State), sameObjects (rangeFrom 0xC10001 5) u (l.foldl State.countError u) := by
    intro l
    induction l with
    | nil => exact fun u => sameObjects.refl _ u
    | cons e l ih =>
      intro u
      have h1 : sameObjects (rangeFrom 0xC10001 5) u (u.countError e) := fun k hk => by
        rw [mem_rangeFrom] at hk
        have hne : ∀ i, 0xC10001 ≤ i → i < 0xC10006 → k ≠ i := fun i h1 h2 hi => hk (by omega)
        cases he : e.2 <;> simp [State.countError, he, hne]
      exact h1.trans (ih _) (List.Subset.refl _) (List.Subset.refl _)
  exact hl _ _

theorem State.selection_committed (s : State) (tr other : Transport) :
    (s.committed tr).selection other = s.selection other := by
  cases other with
  | ring => exact State.onServe_rd s tr (by decide) (by decide)
  | twi => rw [State.selection, State.committed_frame]; rfl

/-- The transport's selection moves on where object 0xC000:06 says so, and the other's never does. -/
theorem State.selection_select (s : State) (tr other : Transport) (v : Nat) :
    (s.select tr v).selection other = if other = tr then v else s.selection other := by
  cases tr <;> cases other <;> simp [State.select, State.selection]

theorem State.select_same (s : State) (tr : Transport) (v : Nat) : sameObjects [0xC00004] s (s.select tr v) := by
  cases tr with
  | ring => exact sameObjects_wr s 0xC00004 v
  | twi => exact fun k _ => rfl

/-- The entry that a transport has selected. -/
def State.selectedEntry (s : State) (tr : Transport) : Option LogEntry :=
  s.mram.log.find? fun e => e.seq == s.selection tr

theorem State.select_frame (s : State) (tr : Transport) (v : Nat) :
    s.select tr v = { s with dict := (s.select tr v).dict, twi := (s.select tr v).twi } := by
  cases tr <;> rfl

/-- Counting an access leaves both selections. -/
theorem State.selection_counted (s : State) (tr other : Transport) (key : Nat) :
    (s.counted tr key).selection other = s.selection other := by
  cases other with
  | ring => exact s.counted_same tr key _ (by cases tr <;> decide)
  | twi => rw [State.selection, State.counted_twi]; rfl

section readLog
variable {s : State} {tr : Transport}

theorem State.readLog_of_none (h : s.selectedEntry tr = none) : State.readLog tr s = s.refuse 0x06020000 := by
  unfold State.selectedEntry at h
  simp only [State.readLog, h]

/-- The state in which a selected entry is answered. -/
def State.entryAnswered (e : LogEntry) (s : State) : State := (s.readWords (logWords e.seq)).acceptData e.bytes

theorem State.entryAnswered_frame (e : LogEntry) (s : State) :
    s.entryAnswered e = { s with dict := (s.entryAnswered e).dict, answer := (s.entryAnswered e).answer } := by
  rw [State.entryAnswered, State.readWords_frame]
  rfl

theorem State.selection_entryAnswered (e : LogEntry) (s : State) (other : Transport) :
    (s.entryAnswered e).selection other = s.selection other := by
  cases other with
  | ring => exact s.readWords_same _ _ (by decide)
  | twi => rw [State.selection, State.entryAnswered_frame]; rfl

theorem State.readLog_of_some {e : LogEntry} (h : s.selectedEntry tr = some e) :
    State.readLog tr s =
      if s.entryHeld e = true then
        (if s.rd 0xC00006 = 1 then (s.entryAnswered e).select tr ((s.selection tr + 1) % 2 ^ 32) else s.entryAnswered e)
      else (s.readWords (logWords e.seq)).refuse 0x06020000 := by
  have hh : (s.readWords (logWords e.seq)).entryHeld e = s.entryHeld e := by rw [State.readWords_frame]; rfl
  have hr : ∀ k, k ∉ rangeFrom 0xC10001 5 → (s.entryAnswered e).rd k = s.rd k := s.readWords_same _
  unfold State.selectedEntry at h
  simp only [State.readLog, h, hh]
  rw [← State.selection_entryAnswered e s tr, ← hr 0xC00006 (by decide)]
  cases s.entryHeld e <;> rfl

theorem State.committed_selectedEntry : (s.committed tr).selectedEntry tr = s.selectedEntry tr := by
  rw [State.selectedEntry, State.selection_committed, State.committed_frame]
  rfl

theorem State.committed_entryHeld (e : LogEntry) : (s.committed tr).entryHeld e = s.entryHeld e := by
  rw [State.committed_frame]
  rfl

variable (h : s.admitsRead tr 0xC00005)
include h

theorem State.logEntryRead_eq :
    exec (.logEntryRead tr) s = .next ((State.readLog tr (s.committed tr)).counted tr 0xC00005) :=
  congrArg Host.Outcome.next (State.hostRead_admitted h _)

/-- A read that finds no entry ends with the abort of R263 and changes counts of the access only. -/
theorem State.logEntryRead_of_none (hn : s.selectedEntry tr = none) :
    ∃ t, exec (.logEntryRead tr) s = .next t ∧ t.answer.abort = 0x06020000 ∧ sameObjects (accessCounters tr) s t ∧
      t = { s with dict := t.dict, answer := t.answer } := by
  refine ⟨_, State.logEntryRead_eq h, ?_⟩
  rw [State.readLog_of_none (State.committed_selectedEntry.trans hn)]
  refine ⟨by rw [State.counted_answer]; rfl, s.refuse_counted_same tr _ _, ?_⟩
  rw [State.refuse_counted_frame]

/-- A read of an entry that is not held ends with the abort of R263; the words read in error are counted. -/
theorem State.logEntryRead_of_bad {e : LogEntry} (he : s.selectedEntry tr = some e) (hb : s.entryHeld e = false) :
    ∃ t, exec (.logEntryRead tr) s = .next t ∧ t.answer.abort = 0x06020000 ∧
      sameObjects (rangeFrom 0xC10001 5 ++ accessCounters tr) s t ∧ t = { s with dict := t.dict, answer := t.answer } := by
  refine ⟨_, State.logEntryRead_eq h, ?_⟩
  rw [State.readLog_of_some (State.committed_selectedEntry.trans he), State.committed_entryHeld, hb,
    if_neg Bool.false_ne_true]
  have hread := (s.committed tr).readWords_same (logWords e.seq)
  have hall := (s.committed_same tr).trans hread (List.subset_append_right ..) (List.subset_append_left ..)
  refine ⟨by rw [State.counted_answer]; rfl, ?_, ?_⟩
  · exact hall.trans (State.counted_same _ tr _) (List.Subset.refl _) (List.subset_append_right ..)
  · rw [State.counted_frame, State.refuse, State.readWords_frame, State.committed_frame]

/-- A read of a held entry returns its bytes and moves the transport's own selection on. -/
theorem State.logEntryRead_of_held {e : LogEntry} (he : s.selectedEntry tr = some e) (hh : s.entryHeld e = true) :
    ∃ t, exec (.logEntryRead tr) s = .next t ∧ t.answer.abort = 0 ∧ t.answer.data = e.bytes ∧
      (∀ other, t.selection other =
        if other = tr ∧ s.rd 0xC00006 = 1 then (s.selection tr + 1) % 2 ^ 32 else s.selection other) ∧
      sameObjects ([0xC00004, 0xC10001, 0xC10003] ++ accessCounters tr) s t ∧ t.mram = s.mram ∧ t.log = s.log := by
  refine ⟨_, State.logEntryRead_eq h, ?_⟩
  rw [State.readLog_of_some (State.committed_selectedEntry.trans he), State.committed_entryHeld, hh, if_pos rfl,
    show (s.committed tr).rd 0xC00006 = s.rd 0xC00006 from s.onServe_rd tr (by decide) (by decide),
    State.selection_committed]
  have hselect := fun other => ((s.committed tr).selection_entryAnswered e other).trans (s.selection_committed tr other)
  have hframe := (s.committed tr).entryAnswered_frame e
  have hread : s.readable (logWords e.seq) = true := by
    simp only [State.entryHeld, Bool.and_eq_true] at hh
    exact hh.2
  have hsame : sameObjects ([0xC00004, 0xC10001, 0xC10003] ++ accessCounters tr) s ((s.committed tr).entryAnswered e) := by
    have hr : (s.committed tr).readable (logWords e.seq) = true := by rw [State.committed_frame]; exact hread
    exact (s.committed_same tr).trans (State.readWords_same_of_readable hr) (List.subset_append_right ..) (by simp)
  have hanswer : ((s.committed tr).entryAnswered e).answer.abort = 0 ∧
    ((s.committed tr).entryAnswered e).answer.data = e.bytes := ⟨rfl, rfl⟩
  have hmram : ((s.committed tr).entryAnswered e).mram = s.mram := by rw [hframe, State.committed_frame]
  have hlog : ((s.committed tr).entryAnswered e).log = s.log := by rw [hframe, State.committed_frame]
  generalize (s.committed tr).entryAnswered e = a at *
  have hcount : ∀ x : State, sameObjects ([0xC00004, 0xC10001, 0xC10003] ++ accessCounters tr) s x →
      sameObjects ([0xC00004, 0xC10001, 0xC10003] ++ accessCounters tr) s (x.counted tr 0xC00005) := fun x hx =>
    hx.trans (x.counted_same tr _) (List.Subset.refl _) (List.subset_append_right ..)
  simp only [State.counted_answer, State.counted_mram, State.counted_log, State.selection_counted]
  by_cases hauto : s.rd 0xC00006 = 1
  · rw [if_pos hauto]
    have hadvanced := hsame.trans (a.select_same tr ((s.selection tr + 1) % 2 ^ 32)) (List.Subset.refl _) (by simp)
    refine ⟨?_, ?_, fun other => ?_, hcount _ hadvanced, ?_, ?_⟩
    · rw [State.select_frame]; exact hanswer.1
    · rw [State.select_frame]; exact hanswer.2
    · simp only [State.selection_select, hselect, hauto, and_true]
    · rw [State.select_frame]; exact hmram
    · rw [State.select_frame]; exact hlog
  · rw [if_neg hauto]
    exact ⟨hanswer.1, hanswer.2, fun other => by rw [hselect, if_neg fun hn => hauto hn.2], hcount _ hsame, hmram, hlog⟩

end readLog

/-- Settles O50, command by command: the alert status, an event, the write of an entry and the read of one. -/
theorem alertsAndEventsReachTheLogAndAreRead : Obligations.AlertsAndEventsReachTheLogAndAreRead := by
  unfold Obligations.AlertsAndEventsReachTheLogAndAreRead
  refine ⟨fun tr v s h => State.alertStatusWrite_spec h, fun code data s => ⟨fun h => ?ignored, fun h1 h2 => ?logged⟩,
    fun s h => ?waits, fun e l s => State.logEntryWrite_spec,
    fun tr s h => ⟨fun e he => ⟨fun hcrc hread => ?held, fun hbad => ?bad⟩, State.logEntryRead_of_none h⟩⟩
  case ignored => rw [State.eventLogged_eq, if_neg fun hn => h.elim hn.1 fun hc => hc hn.2]
  case logged =>
    refine ⟨s.logEvent code data, by rw [State.eventLogged_eq, if_pos ⟨h1, h2⟩], fun b hb => ?_, fun i hi => ?_,
      fun hroom => State.logEvent_of_room hroom code data, fun hfull => State.logEvent_of_full hfull code data,
      s.logEvent_same code data, s.logEvent_frame code data⟩
    · simp [State.testBit_logEvent, hb]
    · simp [State.testBit_logEvent, hi]
  case waits =>
    simp only [exec, execLogEntryWrite]
    rcases h with h | h
    · rw [h]
    · cases s.log.queue <;> simp [h]
  case held => exact State.logEntryRead_of_held h he (by simp [State.entryHeld, hcrc, hread])
  case bad =>
    refine State.logEntryRead_of_bad h he ?_
    rcases hbad with hcrc | hread
    · simp [State.entryHeld, hcrc]
    · simp [State.entryHeld, hread]

end Sys2Proof.Machine
end

section
/-!
PROOFS. A mould pour (O48): the errors that its own read counts can change what the checks of R198 find. A loose set that
does not list its keys in rising order may hold a number of row ranges beyond 32, so that a range's row count is the address
of the word whose error was last corrected (object 0xC100:03).
-/
namespace Sys2Proof.Machine

/-! ### Sets of values -/

theorem Dict.get_setAll_of_notMem {k : Nat} (ws : Dict) (d : Dict) (h : ∀ w ∈ ws, w.1 ≠ k) :
    Dict.get (Dict.setAll d ws) k = Dict.get d k := by
  induction ws generalizing d with
  | nil => rfl
  | cons w ws ih =>
    have hw : k ≠ w.1 := fun e => h w List.mem_cons_self e.symm
    calc Dict.get (Dict.setAll (Dict.set d w.1 w.2) ws) k
        = Dict.get (Dict.set d w.1 w.2) k := ih _ fun x hx => h x (List.mem_cons_of_mem _ hx)
      _ = Dict.get d k := by rw [Dict.get_set, if_neg hw]

theorem Dict.setAll_append (d a b : Dict) : Dict.setAll d (a ++ b) = Dict.setAll (Dict.setAll d a) b :=
  List.foldl_append

/-- Zeros written to a list of keys. -/
theorem Dict.get_setAll_zeros (ks : List Nat) (d : Dict) (k : Nat) :
    Dict.get (Dict.setAll d (ks.map fun j => (j, 0))) k = if k ∈ ks then 0 else Dict.get d k := by
  induction ks generalizing d with
  | nil => simp [Dict.setAll]
  | cons j ks ih =>
    have h := ih (Dict.set d j 0)
    rw [Dict.get_set] at h
    rw [List.map_cons, Dict.setAll, List.foldl_cons, ← Dict.setAll, h]
    by_cases hk : k = j <;> simp [hk]

/-- A key below `b` is listed before `b`, wherever that stands. -/
theorem Dict.insert_before {b k : Nat} (hk : k < b) (v : Nat) (pre tail : Dict) :
    ∃ pre', Dict.insert (pre ++ (b, 0) :: tail) k v = pre' ++ (b, 0) :: tail ∧
      ∀ w ∈ pre', w.1 = k ∨ ∃ x ∈ pre, x.1 = w.1 := by
  induction pre with
  | nil => exact ⟨[(k, v)], by simp [Dict.insert, hk, hk.ne'], by simp⟩
  | cons p pre ih =>
    obtain ⟨pre', h, hm⟩ := ih
    by_cases hj : p.1 = k
    · exact ⟨(k, v) :: pre, by simp [Dict.insert, hj], by grind⟩
    · by_cases hlt : k < p.1
      · exact ⟨(k, v) :: p :: pre, by simp [Dict.insert, hj, hlt], by grind⟩
      · exact ⟨p :: pre', by simp [Dict.insert, hj, hlt, h], by grind⟩

theorem Dict.putAll_before {b : Nat} (ws pre tail : Dict) (h : ∀ w ∈ ws, w.1 < b) :
    ∃ pre', Dict.putAll (pre ++ (b, 0) :: tail) ws = pre' ++ (b, 0) :: tail ∧
      ∀ w ∈ pre', (∃ x ∈ ws, x.1 = w.1) ∨ ∃ x ∈ pre, x.1 = w.1 := by
  induction ws generalizing pre with
  | nil => exact ⟨pre, rfl, fun w hw => .inr ⟨w, hw, rfl⟩⟩
  | cons w ws ih =>
    obtain ⟨mid, hmid, hm⟩ := Dict.insert_before (h w List.mem_cons_self) w.2 pre tail
    obtain ⟨pre', h', hp⟩ := ih mid fun x hx => h x (List.mem_cons_of_mem _ hx)
    refine ⟨pre', by rw [Dict.putAll, List.foldl_cons, hmid, ← Dict.putAll, h'], fun x hx => ?_⟩
    obtain ⟨y, hy, e⟩ | ⟨y, hy, e⟩ := hp x hx
    · exact .inl ⟨y, List.mem_cons_of_mem _ hy, e⟩
    · obtain hk | ⟨z, hz, e'⟩ := hm y hy
      · exact .inl ⟨w, List.mem_cons_self, by omega⟩
      · exact .inr ⟨z, hz, by omega⟩

/-! ### The checks of R79 on rows that read 0 -/

theorem firstSome_eq_none_iff (l : List (Option Nat)) : firstSome l = none ↔ ∀ x ∈ l, x = none := by
  induction l with
  | nil => simp [firstSome]
  | cons x l ih => cases x <;> simp [firstSome, ih]

/-- The number of row ranges for which range `cexRows - 1` has its count in object 0xC100:03. -/
def cexRows : Nat := 0xC10003 - 0x212201 + 1

/-- Every object up to 0xC100:00 reads 0, but for the number of row ranges. -/
def Dict.rowsOnly (d : Dict) : Prop := ∀ k < 0xC10001, Dict.get d k = if k = 0x212001 then cexRows else 0

theorem Dict.rowsOnly.get_eq_zero {d : Dict} (h : d.rowsOnly) {k : Nat} (hk : k < 0xC10001) (hn : k ≠ 0x212001) :
    Dict.get d k = 0 := by rw [h k hk, if_neg hn]

theorem Dict.rowsOnly.rangesOf_eq {d : Dict} (h : d.rowsOnly) :
    rangesOf d = (List.range cexRows).map fun i => (0, Dict.get d (0x212201 + i)) := by
  rw [rangesOf, h 0x212001 (by decide), if_pos rfl]
  refine List.map_congr_left fun i hi => ?_
  have hi : i < 0xC10003 - 0x212201 + 1 := List.mem_range.mp hi
  rw [h.get_eq_zero (by omega) (by omega)]

theorem Dict.rowsOnly.spansOf_eq {d : Dict} (h : d.rowsOnly) : spansOf d = [] := by
  rw [spansOf, h.get_eq_zero (by decide) (by decide)]; rfl

theorem nth_replicate_self {α : Type} (n : Nat) (a : α) (i : Nat) : nth (List.replicate n a) i a = a := by
  rw [nth, List.getD_eq_getElem?_getD, List.getElem?_replicate]
  split <;> rfl

theorem firstSharing_replicate_zero (n : Nat) : firstSharing rowsShare (List.replicate n (0, 0)) = none := by
  simp [firstSharing, nth_replicate_self, rowsShare]

theorem firstIndex_replicate_zero (n : Nat) :
    (firstIndex (List.replicate n (0, 0)) fun r => 1024 < r.1 + r.2) = none := by
  simp [firstIndex, nth_replicate_self]

/-- While the objects 0xC100:01 to :03 read 0 as well, no row shares a row or ends beyond the array. -/
theorem Dict.rowsOnly.areaFault_eq_none {d : Dict} (h : d.rowsOnly)
    (he : ∀ k, 0xC10001 ≤ k → k ≤ 0xC10003 → Dict.get d k = 0) : areaFault d = none := by
  have hr : rangesOf d = List.replicate cexRows (0, 0) := by
    rw [h.rangesOf_eq]
    refine List.eq_replicate_iff.mpr ⟨by simp, fun b hb => ?_⟩
    obtain ⟨i, hi, rfl⟩ := List.mem_map.mp hb
    have hi : i < 0xC10003 - 0x212201 + 1 := List.mem_range.mp hi
    by_cases hk : 0x212201 + i < 0xC10001
    · rw [h.get_eq_zero hk (by omega)]
    · rw [he _ (by omega) (by omega)]
  have hrow : rowFactor d = 1 := by rw [rowFactor, h.get_eq_zero (by decide) (by decide)]; rfl
  have hdig : digFactor d = 1 := by rw [digFactor, h.get_eq_zero (by decide) (by decide)]; rfl
  have hfused : fusedOut d = false := by rw [fusedOut, h.get_eq_zero (by decide) (by decide)]; rfl
  refine (firstSome_eq_none_iff _).mpr ?_
  simp only [hr, h.spansOf_eq, hrow, hdig, hfused, firstSharing_replicate_zero, firstIndex_replicate_zero]
  simp [failIf, firstSharing, firstIndex]

/-- Once object 0xC100:03 holds the address of a word, the last range ends beyond the array. -/
theorem Dict.rowsOnly.areaFault_ne_none {d : Dict} (h : d.rowsOnly) (he : 1024 < Dict.get d 0xC10003) :
    areaFault d ≠ none := by
  have hlast : (nth (rangesOf d) (cexRows - 1) (0, 0)) = (0, Dict.get d 0xC10003) := by
    have hlt : cexRows - 1 < cexRows := by decide
    have hk : 0x212201 + (cexRows - 1) = 0xC10003 := by decide
    simp only [h.rangesOf_eq, nth, List.getD_eq_getElem?_getD, List.getElem?_map, List.getElem?_range hlt, Option.map_some,
      Option.getD_some, hk]
  have hbeyond : (firstIndex (rangesOf d) fun r => 1024 < r.1 + r.2) ≠ none := by
    rw [firstIndex, Ne, List.find?_eq_none]
    intro hall
    refine hall (cexRows - 1) ?_ ?_
    · rw [h.rangesOf_eq, List.length_map, List.length_range]; exact List.mem_range.mpr (by decide)
    · rw [hlast]; simpa using he
  intro hnone
  have hthird := (firstSome_eq_none_iff _).mp hnone _ (.tail _ (.tail _ (.head _)))
  exact hbeyond (Option.map_eq_none_iff.mp hthird)

theorem Dict.rowsOnly.tooLarge_eq_false {d : Dict} (h : d.rowsOnly) : tooLarge d = false := by
  have hmode : Dict.get d 0x210001 = 0 := h.get_eq_zero (by decide) (by decide)
  have hplanes : pourPlanes d = 0 := by
    have hfused : fusedOut d = false := by rw [fusedOut, h.get_eq_zero (by decide) (by decide)]; rfl
    rw [pourPlanes, hmode, planesOf, hfused, subCount, h.get_eq_zero (by decide) (by decide)]; rfl
  have hflask : flaskSize d = fun _ => 0 := funext fun f => by rw [flaskSize, hplanes, Nat.zero_mul, Nat.zero_mul]
  have hreserve : reserveOf d = 0 := by rw [reserveOf, hmode]; rfl
  rw [tooLarge, hreserve, pourSize, sprueSizes, hflask]
  rfl

/-! ### The counterexample -/

/-- Zeros for every object up to 0xC100:00, then the number of row ranges. -/
def cexTail (n m : Nat) : Dict := ((List.range n).map fun j => (j, 0)) ++ [(0x212001, m)]

theorem get_setAll_cexTail (d : Dict) (n m k : Nat) (hn : 0x212001 < n) :
    Dict.get (Dict.setAll d (cexTail n m)) k = if k < n then (if k = 0x212001 then m else 0) else Dict.get d k := by
  rw [cexTail, Dict.setAll_append, Dict.setAll, List.foldl_cons, List.foldl_nil, Dict.get_set, Dict.get_setAll_zeros]
  grind

/-- The loose set: a key above every object's, and the zeros after it. -/
def cexLoose (n : Nat) : Dict := [] ++ (2 ^ 24, 0) :: cexTail n cexRows

theorem mouldValues_below :
    ∀ w ∈ mouldValues [], w.1 < 2 ^ 24 ∧ (w.1 < 0xC10001 ∨ 0xC10003 < w.1) ∧ w.1 ≠ 0x401007 := by
  decide +kernel

/-- The write that asks for the pour of mould 1. -/
def cexTxn : Txn := ⟨.ring, 0x801001, 1, 1⟩

/-- The read of mould 1, whose image has no record, for a pour; map bank 0 is live. -/
def cexState : State :=
  let s := State.reset.wr 0x401001 0
  { s with
    power := { s.power with phase := .service }
    stage := { s.stage with
      reads := [⟨1, false, some cexTxn, 0⟩], serving := some (.write cexTxn 0), loose := cexLoose 0xC10001 }
    mram := { s.mram with moulds := [(1, imageHeader 1 5 0 (crc32 []) [])] } }

/-- The values of the entry: the mould's, under the loose set. -/
def cexValues : Dict := Dict.putAll (cexLoose 0xC10001) (mouldValues [])

/-- The mould's values stand before the loose set's: they name no word error and no map bank. -/
theorem exists_cexValues_eq :
    ∃ pre, cexValues = pre ++ (2 ^ 24, 0) :: cexTail 0xC10001 cexRows ∧
      ∀ w ∈ pre, (w.1 < 0xC10001 ∨ 0xC10003 < w.1) ∧ w.1 ≠ 0x401007 := by
  obtain ⟨pre, h, hm⟩ := Dict.putAll_before (mouldValues []) [] (cexTail 0xC10001 cexRows) fun w hw =>
    (mouldValues_below w hw).1
  refine ⟨pre, h, fun w hw => ?_⟩
  obtain ⟨x, hx, e⟩ | ⟨x, hx, -⟩ := hm w hw
  · exact e ▸ (mouldValues_below x hx).2
  · cases hx

theorem get_setAll_cexValues (d : Dict) {k : Nat} (hk : k ≤ 0xC10003) :
    Dict.get (Dict.setAll d cexValues) k =
      if k < 0xC10001 then (if k = 0x212001 then cexRows else 0) else Dict.get d k := by
  obtain ⟨pre, h, hm⟩ := exists_cexValues_eq
  rw [h, List.append_cons, Dict.setAll_append, get_setAll_cexTail _ _ _ _ (by decide)]
  by_cases hlt : k < 0xC10001
  · rw [if_pos hlt, if_pos hlt]
  · rw [if_neg hlt, if_neg hlt, Dict.get_setAll_of_notMem]
    intro w hw
    obtain hw | hw := List.mem_append.mp hw
    · have := (hm w hw).1; omega
    · rw [List.mem_singleton.mp hw]; exact (by omega : 2 ^ 24 ≠ k)

theorem rowsOnly_setAll_cexValues (d : Dict) : (Dict.setAll d cexValues).rowsOnly := fun k hk => by
  rw [get_setAll_cexValues d (by omega), if_pos hk]

theorem Dict.find_append_of_notMem (a b : Dict) {k : Nat} (h : ∀ w ∈ a, w.1 ≠ k) :
    Dict.find (a ++ b) k = Dict.find b k := by
  induction a with
  | nil => rfl
  | cons w a ih =>
    have hw : w.1 ≠ k := h w List.mem_cons_self
    rw [List.cons_append, Dict.find, if_neg hw, ih fun x hx => h x (List.mem_cons_of_mem _ hx)]

theorem find_zeros (ks : List Nat) (tail : Dict) {k : Nat} (h : k ∈ ks) :
    Dict.find (ks.map (fun j => (j, 0)) ++ tail) k = some 0 := by
  induction ks with
  | nil => cases h
  | cons j ks ih => grind [Dict.find]

/-- The entry names bank 0, which is live. -/
theorem find_cexValues_bank : Dict.find cexValues 0x401007 = some 0 := by
  obtain ⟨pre, h, hm⟩ := exists_cexValues_eq
  rw [h, List.append_cons, Dict.find_append_of_notMem, cexTail, find_zeros _ _ (List.mem_range.mpr (by decide))]
  intro w hw
  obtain hw | hw := List.mem_append.mp hw
  · exact (hm w hw).2
  · rw [List.mem_singleton.mp hw]; decide

/-- The state in which the word 1048832 of the image has been read with an error that was corrected. -/
def cexRead : State :=
  ((cexState.onStage fun g => { g with reads := g.reads.tail }).noteErrors (mouldWords 1) [] [1048832]).readWords
    (mouldWords 1)

theorem cexRead_address : cexRead.rd 0xC10003 = 1048832 := by decide +kernel

theorem entryFault_cexState : cexState.entryFault false cexValues = none := by
  have hd : cexState.combined cexValues = Dict.setAll cexState.dict cexValues := rfl
  have hrows := rowsOnly_setAll_cexValues cexState.dict
  have hzero : ∀ k ≤ 0xC10003, 0xC10001 ≤ k → Dict.get cexState.dict k = 0 := by
    intro k h1 h2
    obtain rfl | rfl | rfl : k = 0xC10001 ∨ k = 0xC10002 ∨ k = 0xC10003 := by omega
    all_goals decide +kernel
  have hfault : areaFault (Dict.setAll cexState.dict cexValues) = none := hrows.areaFault_eq_none fun k h1 h2 => by
    rw [get_setAll_cexValues _ h2, if_neg (by omega), hzero k h2 h1]
  have hmode : Dict.get (Dict.setAll cexState.dict cexValues) 0x210001 = 0 := hrows.get_eq_zero (by decide) (by decide)
  have hset : Dict.get (Dict.setAll cexState.dict cexValues) 0x400101 = 0 := hrows.get_eq_zero (by decide) (by decide)
  have hbank : cexState.bankFault cexValues = none := by
    have hlive : cexState.liveBank = 0 := by decide +kernel
    rw [State.bankFault, State.selectsBank, find_cexValues_bank, hlive]; rfl
  have hsource (d : Dict) : cexState.sourceFault d = none := by
    rw [State.sourceFault, if_pos (by decide +kernel)]
  have hversion : cexState.rd 0x110002 ≠ 2 ^ 64 - 1 := by decide +kernel
  have hqueue : ¬ 4 ≤ cexState.stage.queue.length := by decide +kernel
  have hempty : cexState.setEmpty 0 = false := by decide +kernel
  unfold State.entryFault
  simp only [hd, hmode, hfault, hset, hbank, hsource, hempty, hrows.tooLarge_eq_false, if_neg hversion, if_neg hqueue]
  rfl

theorem entryFault_cexRead : ∃ f, cexRead.entryFault false cexValues = some f := by
  have hd : cexRead.combined cexValues = Dict.setAll cexRead.dict cexValues := rfl
  have hrows := rowsOnly_setAll_cexValues cexRead.dict
  have hfault : areaFault (Dict.setAll cexRead.dict cexValues) ≠ none := hrows.areaFault_ne_none <| by
    rw [get_setAll_cexValues _ (by decide), if_neg (by decide)]
    exact lt_of_lt_of_eq (by decide) cexRead_address.symm
  obtain ⟨k, hk⟩ := Option.ne_none_iff_exists'.mp hfault
  have hmode : Dict.get (Dict.setAll cexRead.dict cexValues) 0x210001 = 0 := hrows.get_eq_zero (by decide) (by decide)
  have hversion : cexRead.rd 0x110002 ≠ 2 ^ 64 - 1 := by decide +kernel
  have hqueue : ¬ 4 ≤ cexRead.stage.queue.length := by decide +kernel
  unfold State.entryFault
  simp only [hd, hmode, hk, if_neg hversion, if_neg hqueue]
  exact ⟨_, rfl⟩

/-! ### The refused pour -/

theorem State.drain_of_waiting_nil {s : State} (h : s.stage.waiting = []) (n : Nat) : State.drain n s = s := by
  cases n with
  | zero => rfl
  | succ n =>
    rw [State.drain]
    split
    · rfl
    · rw [h]

theorem State.drainAll_of_waiting_nil {s : State} (h : s.stage.waiting = []) : s.drainAll = s :=
  State.drain_of_waiting_nil h _

/-- The end of a write that was served, with nothing waiting: it is counted, and the answer stands. -/
theorem State.endServing_of_write {s : State} {w : Txn} {y : Instant} (hs : s.stage.serving = some (.write w y))
    (hw : s.stage.waiting = []) :
    s.endServing = (s.onStage fun g => { g with serving := none }).counted w.tr w.key := by
  have hc : ((s.onStage fun g => { g with serving := none }).counted w.tr w.key).stage.waiting = [] := by
    rw [State.counted_frame]; exact hw
  rw [State.endServing, hs]
  simp only [hc, if_true, State.drainAll_of_waiting_nil]

/-- A request that a check of R198 fails is answered with the abort code of a refused hand-over. -/
theorem State.answerEntry_of_entryFault {s : State} {own : Dict} {bound : Boundary} {by_ : Requester}
    {mould reading : Option Nat} {gen : Nat} {bad : Bool} {f : Nat × Nat} (tr : Transport)
    (h : s.entryFault bad (Dict.putAll s.stage.loose own) = some f) :
    State.answerEntry tr (s.requestEntry own bound by_ mould gen reading bad) =
      (s.recordRefusal f.1 0 f.2 (by_ == Requester.part)).refuse abortHandOver := by
  simp [State.requestEntry, h, State.answerEntry]

@[simp] theorem State.recordRefusal_stage (s : State) (cause at_ obj : Nat) (part : Bool) :
    (s.recordRefusal cause at_ obj part).stage = s.stage := by
  rw [State.recordRefusal, State.logEvent_stage]; rfl

/-- The read of a valid image for a pour ends in the request for its entry. -/
theorem State.endPour_of_image {s : State} {t : Txn} {d : Dict} (h : readImage t.val (s.slotImage t.val) = .inl d) :
    s.endPour t true = State.answerEntry t.tr
      (s.requestEntry (mouldValues d) .next .host (some t.val) (imageGen (s.slotImage t.val)) none false) := by
  simp [State.endPour, h]

/-- A read ends on the state that has counted its errors. -/
theorem State.endRead_of_pour (s : State) (r : MouldRead) {t : Txn} {words : WordRange} (bad corrected : List Nat)
    (ht : r.txn = some t) (hload : r.load = false) (hw : s.imageWords r.slot = words) :
    let u := ((s.onStage fun g => { g with reads := g.reads.tail }).noteErrors words bad corrected).readWords words
    s.endRead r bad corrected = u.endPour t (u.readable words) := by
  subst hw
  simp only [State.endRead, ht, hload]
  rfl

/-- The read ends in a request for the mould's entry, made once the corrected error is counted, and a check refuses it. -/
theorem endRead_cexState {f : Nat × Nat} (hf : cexRead.entryFault false cexValues = some f) :
    cexState.endRead ⟨1, false, some cexTxn, 0⟩ [] [1048832] =
      (cexRead.recordRefusal f.1 0 f.2 (Requester.host == Requester.part)).refuse abortHandOver := by
  have hwords : cexState.imageWords 1 = mouldWords 1 := by decide +kernel
  have himage : readImage cexTxn.val (cexRead.slotImage cexTxn.val) = .inl [] := by
    decide +kernel
  have hreadable : cexRead.readable (mouldWords 1) = true := by decide +kernel
  rw [State.endRead_of_pour cexState _ [] [1048832] rfl rfl hwords, ← cexRead, hreadable, State.endPour_of_image himage]
  exact State.answerEntry_of_entryFault .ring hf

theorem cexState_refused :
    ∃ t, exec (.mouldReadComplete [] [1048832]) cexState = .next t ∧ t.answer.abort = abortHandOver := by
  obtain ⟨f, hf⟩ := entryFault_cexRead
  have hserving : cexRead.stage.serving = some (.write cexTxn 0) := by decide +kernel
  have hwaiting : cexRead.stage.waiting = [] := by decide +kernel
  refine ⟨_, rfl, ?_⟩
  rw [endRead_cexState hf, State.endServing_of_write (w := cexTxn) (y := 0), State.counted_answer]
  · rfl
  · exact (congrArg Stage.serving (State.recordRefusal_stage ..)).trans hserving
  · exact (congrArg Stage.waiting (State.recordRefusal_stage ..)).trans hwaiting

/-- Refutes O48: the checks of R198 are made once the read has counted its errors, and with a loose set whose keys do not
rise a check may find the word address that the read has just reported. -/
theorem not_mouldPoursAndLoadsReadTheWholeImage : ¬ Obligations.MouldPoursAndLoadsReadTheWholeImage := by
  unfold Obligations.MouldPoursAndLoadsReadTheWholeImage
  rintro ⟨-, h⟩
  obtain ⟨himage, -, -⟩ := h ⟨1, false, some cexTxn, 0⟩ cexTxn 0 [1048832] cexState
    rfl rfl rfl rfl rfl
  obtain ⟨-, hpour, -⟩ := himage [] (by decide +kernel)
  obtain ⟨t, e, hnext, hanswer, -⟩ := hpour rfl entryFault_cexState
  obtain ⟨u, hu, habort⟩ := cexState_refused
  obtain rfl : u = t := Host.Outcome.next.inj (hu.symm.trans hnext)
  rw [hanswer] at habort
  exact absurd habort (by decide)

end Sys2Proof.Machine
end

section
/-!
PROOFS. What no write of an object changes: the two-wire interface as a whole, but for the writes of its own objects, and of
these the STOP last seen and the transactions for which SCL is held (R272, R274). One lemma for each operation that a write can
lead to, in the order of the model.
-/
namespace Sys2Proof.Machine

@[simp] theorem State.ite_twi (c : Prop) [Decidable c] (s t : State) :
    (if c then s else t).twi = if c then s.twi else t.twi := apply_ite ..

@[simp] theorem foldl_twi {α : Type} (f : State → α → State) (h : ∀ s a, (f s a).twi = s.twi) (l : List α) (s : State) :
    (l.foldl f s).twi = s.twi := by
  induction l generalizing s with
  | nil => rfl
  | cons a l ih => rw [List.foldl_cons, ih, h]

theorem foldl_fst_twi {α β : Type} (f : State × β → α → State × β) (h : ∀ r a, (f r a).1.twi = r.1.twi) (l : List α)
    (r : State × β) : (l.foldl f r).1.twi = r.1.twi := by
  induction l generalizing r with
  | nil => rfl
  | cons a l ih => rw [List.foldl_cons, ih, h]

@[simp] theorem foldl_wr_twi (l : Dict) (s : State) : (l.foldl (fun s w => s.wr w.1 w.2) s).twi = s.twi :=
  foldl_twi (fun s w => s.wr w.1 w.2) (fun _ _ => rfl) l s

/-! #### Flags -/

@[simp] theorem State.sendFrame_twi (s : State) (f : Frame) : (s.sendFrame f).twi = s.twi := rfl
@[simp] theorem State.raise_twi (s : State) (bit : Nat) : (s.raise bit).twi = s.twi := rfl
@[simp] theorem State.logEntry_twi (s : State) (code : Nat) (data : List Byte) (bit : Option Nat) :
    (s.logEntry code data bit).twi = s.twi := by simp [State.logEntry]

/-! #### Mram -/

@[simp] theorem State.countError_twi (s : State) (e : Nat × Bool) : (s.countError e).twi = s.twi := by
  unfold State.countError; split <;> rfl
@[simp] theorem State.readWords_twi (r : WordRange) (s : State) : (s.readWords r).twi = s.twi := by simp [State.readWords]
@[simp] theorem State.wroteWords_twi (r : WordRange) (s : State) : (s.wroteWords r).twi = s.twi := rfl
@[simp] theorem State.needWords_twi (rs : List WordRange) (act : State → State) (s : State) (h : ∀ s, (act s).twi = s.twi) :
    (s.needWords rs act).twi = s.twi := by
  simp [h, State.needWords]
@[simp] theorem State.writeHeader_twi (n : Nat) (f : Bank → Bank) (s : State) : (s.writeHeader n f).twi = s.twi := by
  simp [State.writeHeader]

/-! #### Operands -/

@[simp] theorem State.startMramWrite_twi (s : State) (t : Txn) : (s.startMramWrite t).twi = s.twi := rfl

/-! #### Converters -/

@[simp] theorem State.darkRestart_twi (s : State) : s.darkRestart.twi = s.twi := rfl
@[simp] theorem State.dropTrims_twi (s : State) : s.dropTrims.twi = s.twi := rfl
@[simp] theorem State.takeTrims_twi (s : State) : s.takeTrims.twi = s.twi := by unfold State.takeTrims; split <;> rfl
@[simp] theorem State.startSelfCal_twi (s : State) (startup : Bool) : (s.startSelfCal startup).twi = s.twi := rfl
@[simp] theorem State.hostSelfCal_twi (s : State) : s.hostSelfCal.twi = s.twi := by
  unfold State.hostSelfCal; split <;> rfl
@[simp] theorem State.clearConverterCounts_twi (s : State) : s.clearConverterCounts.twi = s.twi := s.zero_twi _

/-! #### Maps -/

@[simp] theorem State.bankState_twi (n st : Nat) (s : State) : (s.bankState n st).twi = s.twi := by simp [State.bankState]
@[simp] theorem State.beginBank_twi (n : Nat) (s : State) : (s.beginBank n).twi = s.twi := by simp [State.beginBank]
@[simp] theorem State.verifyBank_twi (n : Nat) (s : State) : (s.verifyBank n).twi = s.twi := by simp [State.verifyBank]
@[simp] theorem State.generationWrite_twi (n : Nat) (s : State) : (s.generationWrite n).twi = s.twi := by
  simp [State.generationWrite]
@[simp] theorem State.fixTemp_twi (s : State) : s.fixTemp.1.twi = s.twi := by simp [State.fixTemp]
@[simp] theorem State.startCacheLoad_twi (s : State) : s.startCacheLoad.twi = s.twi := rfl
@[simp] theorem State.watchCache_twi (f : State → State) (s : State) (h : ∀ s, (f s).twi = s.twi) :
    (s.watchCache f).twi = s.twi := by simp [h, State.watchCache]

/-! #### Packets -/

@[simp] theorem State.markBooked_twi (s : State) : s.markBooked.twi = s.twi := rfl
@[simp] theorem State.watchHeads_twi (s : State) : s.watchHeads.twi = s.twi := rfl
@[simp] theorem State.headDropped_twi (sp : Nat) (s : State) : (s.headDropped sp).twi = s.twi := by
  unfold State.headDropped; split <;> rfl
@[simp] theorem State.bookSlagAll_twi (n : Nat) (s : State) : (s.bookSlagAll n).twi = s.twi := rfl
@[simp] theorem State.bookOverspeed_twi (s : State) : s.bookOverspeed.twi = s.twi := rfl
@[simp] theorem State.notice_twi (stamps : Packet) (s : State) (f : Nat) : (s.notice stamps f).twi = s.twi := by
  simp [State.notice]
@[simp] theorem State.recordDrop_twi (key : Nat) (stamps : Packet) (flasks : List Nat) (s : State) :
    (s.recordDrop key stamps flasks).twi = s.twi := by simp [State.recordDrop]
@[simp] theorem State.dropPour_twi (key : Nat) (t : TPour) (s : State) : (s.dropPour key t).twi = s.twi := by
  simp [State.dropPour]
@[simp] theorem State.makeRoom_twi (sizes : List Nat) (n : Nat) (s : State) : (s.makeRoom sizes n).twi = s.twi := by
  induction n generalizing s with
  | zero => rfl
  | succ n ih =>
    unfold State.makeRoom
    split
    · rfl
    · split
      · rfl
      · rw [ih, State.dropPour_twi]
@[simp] theorem State.beginHold_twi (s : State) (idx : Nat) : (s.beginHold idx).twi = s.twi := by
  unfold State.beginHold; split <;> rfl
@[simp] theorem State.admitPour_twi (stamps : Packet) (planes rows : Nat) (cells : List Nat) (s : State) :
    (s.admitPour stamps planes rows cells).1.twi = s.twi := by
  simp [State.admitPour, apply_ite Prod.fst]
@[simp] theorem State.complete_twi (s : State) (p : Packet) : (s.complete p).twi = s.twi := by
  unfold State.complete; split <;> rfl
@[simp] theorem State.endHold_twi (s : State) : s.endHold.twi = s.twi := rfl

/-! #### Tdi -/

@[simp] theorem State.setGrid_twi (t : Nat) (s : State) : (s.setGrid t).twi = s.twi := rfl
@[simp] theorem State.gridReset_twi (s : State) : s.gridReset.twi = s.twi := rfl
@[simp] theorem State.offerWeb_twi (rstrt : Bool) (r : State × List Packet) (w : WebLine) :
    (State.offerWeb rstrt r w).1.twi = r.1.twi := by
  simp [State.offerWeb, apply_ite Prod.fst]
@[simp] theorem State.sendWebs_twi (ws : List WebLine) (rstrt : Bool) (s : State) : (s.sendWebs ws rstrt).twi = s.twi := by
  rw [State.sendWebs, foldl_twi _ State.complete_twi, foldl_fst_twi _ (State.offerWeb_twi rstrt)]
@[simp] theorem State.dropWeb_twi (w : WebLine) (s : State) : (s.dropWeb w).twi = s.twi := by simp [State.dropWeb]
@[simp] theorem State.bookBand_twi (n : Nat) (s : State) (b : Nat) : (s.bookBand n b).twi = s.twi := by
  unfold State.bookBand
  dsimp only
  split
  · rfl
  · split <;> simp
@[simp] theorem State.finishLine_twi (n : Nat) (s : State) : (s.finishLine n).twi = s.twi := by
  unfold State.finishLine
  dsimp only
  split
  · rfl
  · split <;> simp
@[simp] theorem State.tdiRestart_twi (nr : Option Nat) (s : State) : (s.tdiRestart nr).twi = s.twi := by
  simp [State.tdiRestart]

/-! #### Handover -/

@[simp] theorem State.recordRefusal_twi (cause at_ obj : Nat) (part : Bool) (s : State) :
    (s.recordRefusal cause at_ obj part).twi = s.twi := by simp [State.recordRefusal]
@[simp] theorem State.markIdle_twi (s : State) : s.markIdle.twi = s.twi := rfl
@[simp] theorem State.markBoundary_twi (idx enc rt : Nat) (s : State) : (s.markBoundary idx enc rt).twi = s.twi := by
  unfold State.markBoundary; split <;> rfl
@[simp] theorem State.requestEntry_twi (own : Dict) (bound : Boundary) (by_ : Requester) (mould : Option Nat) (gen : Nat)
    (reading : Option Nat) (bad : Bool) (s : State) :
    (s.requestEntry own bound by_ mould gen reading bad).1.twi = s.twi := by
  unfold State.requestEntry
  dsimp only
  split
  · simp
  · rw [State.onImage_twi, State.watchCache_twi]
    exact fun _ => rfl
@[simp] theorem State.reportVersion_twi (tr : Transport) (v : Nat) (s : State) : (s.reportVersion tr v).twi = s.twi := by
  unfold State.reportVersion; split <;> rfl
@[simp] theorem State.answerEntry_twi (tr : Transport) (r : State × Bool) : (State.answerEntry tr r).twi = r.1.twi := by
  unfold State.answerEntry; split <;> simp
@[simp] theorem State.ownEntry_twi (vals : Dict) (s : State) : (s.ownEntry vals).twi = s.twi := by simp [State.ownEntry]
@[simp] theorem State.setMould_twi (e : Entry) (changed : Dict) (s : State) : (s.setMould e changed).twi = s.twi := by
  unfold State.setMould; split <;> simp
@[simp] theorem State.takeCache_twi (s : State) : s.takeCache.twi = s.twi := rfl
@[simp] theorem State.noteLate_twi (e : Entry) (idx enc : Nat) (s : State) : (s.noteLate e idx enc).twi = s.twi := by
  unfold State.noteLate; split <;> simp
@[simp] theorem State.tdiHandOver_twi (old changed : Dict) (nr : Option Nat) (s : State) :
    (s.tdiHandOver old changed nr).twi = s.twi := by simp [State.tdiHandOver]
@[simp] theorem State.sourceHandOver_twi (changed : Dict) (s : State) : (s.sourceHandOver changed).twi = s.twi := by
  simp [State.sourceHandOver]
@[simp] theorem State.handOver_twi (e : Entry) (idx enc : Nat) (nr : Option Nat) (s : State) :
    (s.handOver e idx enc nr).twi = s.twi := by
  unfold State.handOver
  dsimp only
  rw [State.onStage_twi, State.sourceHandOver_twi, State.tdiHandOver_twi]
  split
  all_goals
    simp only [State.generationWrite_twi, State.takeCache_twi, State.noteLate_twi, State.ite_twi, State.setMould_twi,
      State.wr_twi, ite_self]
    split <;> simp
@[simp] theorem State.boundaryHandOver_twi (idx enc rt : Nat) (nr : Option Nat) (s : State) :
    (s.boundaryHandOver idx enc rt nr).twi = s.twi := by
  unfold State.boundaryHandOver
  dsimp only
  split <;> simp
@[simp] theorem State.advanceIndex_twi (s : State) : s.advanceIndex.twi = s.twi := by simp [State.advanceIndex]

/-! #### Timers -/

@[simp] theorem State.onTimer_twi (ch : Nat) (f : Timer → Timer) (s : State) : (s.onTimer ch f).twi = s.twi := rfl
@[simp] theorem State.setTimerBit_twi (ch n : Nat) (b : Bool) (s : State) : (s.setTimerBit ch n b).twi = s.twi := rfl
@[simp] theorem State.driveTimer_twi (ch : Nat) (s : State) : (s.driveTimer ch).twi = s.twi := rfl
@[simp] theorem State.eachTimer_twi (f : Nat → State → State) (s : State) (h : ∀ n s, (f n s).twi = s.twi) :
    (s.eachTimer f).twi = s.twi := by simp [h, State.eachTimer]
@[simp] theorem State.runLf_twi (pos ch : Nat) (s : State) : (s.runLf pos ch).twi = s.twi := by simp [State.runLf]
@[simp] theorem State.rescaleLf_twi (ch : Nat) (s : State) : (s.rescaleLf ch).twi = s.twi := by simp [State.rescaleLf]
@[simp] theorem State.timerFromLf_twi (ch : Nat) (s : State) : (s.timerFromLf ch).twi = s.twi := by
  unfold State.timerFromLf; split <;> rfl
@[simp] theorem State.takePins_twi (s : State) : s.takePins.twi = s.twi := rfl
@[simp] theorem State.clockReturn_twi (s : State) : s.clockReturn.twi = s.twi := by simp [State.clockReturn]
@[simp] theorem State.restartTimer_twi (ch : Nat) (s : State) : (s.restartTimer ch).twi = s.twi := by
  simp [State.restartTimer]
@[simp] theorem State.unforceTimers_twi (s : State) : s.unforceTimers.twi = s.twi :=
  State.eachTimer_twi _ s fun _ _ => by simp
@[simp] theorem State.restartTimers_twi (mask : Nat) (s : State) : (s.restartTimers mask).twi = s.twi := by
  simp [State.restartTimers]

/-! #### Pours -/

@[simp] theorem State.newPour_twi (s : State) (area : Bool) (t : Instant) (enc phase : Nat) :
    (s.newPour area t enc phase).1.twi = s.twi := by simp [State.newPour]
@[simp] theorem State.bookRefused_twi (idx : Nat) (s : State) : (s.bookRefused idx).twi = s.twi := by
  unfold State.bookRefused; split <;> rfl
@[simp] theorem State.acceptPour_twi (t : Instant) (s : State) : (s.acceptPour t).twi = s.twi := by
  simp [State.acceptPour]
@[simp] theorem State.countOff_twi (s : State) : s.countOff.twi = s.twi := by simp [State.countOff]
@[simp] theorem State.startEvent_twi (t : Instant) (s : State) : (s.startEvent t).twi = s.twi := by
  simp [State.startEvent]
@[simp] theorem State.startOnePour_twi (v : Nat) (s : State) : (s.startOnePour v).twi = s.twi := by
  simp [State.startOnePour]
@[simp] theorem State.noteInterval_twi (t : Instant) (s : State) : (s.noteInterval t).twi = s.twi := by
  unfold State.noteInterval; split <;> rfl
@[simp] theorem State.lineBoundary_twi (t : Instant) (enc : Nat) (s : State) : (s.lineBoundary t enc).twi = s.twi := by
  simp [State.lineBoundary]
@[simp] theorem State.finishPours_twi (n : Nat) (s : State) : (s.finishPours n).twi = s.twi := by
  induction n generalizing s with
  | zero => rfl
  | succ n ih =>
    unfold State.finishPours
    split
    · rfl
    · split
      · rfl
      · rw [ih]; split <;> simp
@[simp] theorem State.settlePours_twi (s : State) : s.settlePours.twi = s.twi := by simp [State.settlePours]
@[simp] theorem State.lineTrigger_twi (t : Instant) (enc : Nat) (s : State) : (s.lineTrigger t enc).twi = s.twi := by
  simp [State.lineTrigger]
@[simp] theorem State.makeOneLine_twi (v : Nat) (s : State) : (s.makeOneLine v).twi = s.twi := by simp [State.makeOneLine]
@[simp] theorem State.askRestart_twi (s : State) : s.askRestart.twi = s.twi := by simp [State.askRestart]

/-! #### Capture -/

@[simp] theorem State.onCapture_twi (ch : Nat) (f : Capture → Capture) (s : State) : (s.onCapture ch f).twi = s.twi :=
  rfl
@[simp] theorem State.resetPrescalers_twi (v : Nat) (s : State) : (s.resetPrescalers v).twi = s.twi := by
  simp [State.resetPrescalers]
@[simp] theorem State.clearCaptureCounts_twi (s : State) : s.clearCaptureCounts.twi = s.twi := s.zero_twi _
@[simp] theorem State.presetPosition_twi (v : Nat) (s : State) : (s.presetPosition v).twi = s.twi := by
  unfold State.presetPosition; split <;> rfl
@[simp] theorem State.clearQuadratureCounts_twi (s : State) : s.clearQuadratureCounts.twi = s.twi := s.zero_twi _

/-! #### Rows -/

@[simp] theorem State.setVid_twi (code : Nat) (t : Instant) (s : State) : (s.setVid code t).twi = s.twi := by
  unfold State.setVid; split <;> rfl
@[simp] theorem State.writeVcore_twi (sub v : Nat) (s : State) : (s.writeVcore sub v).twi = s.twi := by
  simp [State.writeVcore]
@[simp] theorem State.clearLowestMargin_twi (s : State) : s.clearLowestMargin.twi = s.twi := rfl
@[simp] theorem State.clearHighWater_twi (s : State) : s.clearHighWater.twi = s.twi := s.zero_twi _
@[simp] theorem State.clearLadleSlag_twi (s : State) : s.clearLadleSlag.twi = s.twi := s.zero_twi _

/-! #### Calibrate -/

@[simp] theorem State.calPhase_twi (status : Nat) (f : Cal → Cal) (s : State) : (s.calPhase status f).twi = s.twi := rfl
@[simp] theorem State.tryAcquire_twi (s : State) : s.tryAcquire.twi = s.twi := by unfold State.tryAcquire; split <;> rfl
@[simp] theorem State.beginCal_twi (run : Nat) (s : State) : (s.beginCal run).twi = s.twi := by simp [State.beginCal]
@[simp] theorem State.beginCommit_twi (set : Nat) (words : List (Nat × Nat)) (cal : Bool) (s : State) :
    (s.beginCommit set words cal).twi = s.twi := rfl
@[simp] theorem State.startCal_twi (run : Nat) (s : State) : (s.startCal run).twi = s.twi := by
  unfold State.startCal
  repeat' split
  all_goals simp
@[simp] theorem State.bankVerified_twi (b : Nat) (s : State) : (s.bankVerified b).twi = s.twi := by
  unfold State.bankVerified
  dsimp only
  split <;> simp
@[simp] theorem State.releaseStaging_twi (s : State) : s.releaseStaging.twi = s.twi := by
  unfold State.releaseStaging; split <;> rfl
@[simp] theorem State.spoilBank_twi (b : Nat) (s : State) : (s.spoilBank b).twi = s.twi := by
  unfold State.spoilBank; split <;> simp
@[simp] theorem State.uploadFail_twi (s : State) : s.uploadFail.twi = s.twi := by unfold State.uploadFail; split <;> simp
@[simp] theorem State.settleUpload_twi (s : State) : s.settleUpload.twi = s.twi := by
  unfold State.settleUpload; split <;> simp
@[simp] theorem State.mapSwitchMode_twi (v : Nat) (s : State) : (s.mapSwitchMode v).twi = s.twi := by
  unfold State.mapSwitchMode
  dsimp only
  split <;> simp
@[simp] theorem State.openUpload_twi (what : Nat) (s : State) : (s.openUpload what).twi = s.twi := by
  simp [State.openUpload]
@[simp] theorem State.startMapUpload_twi (s : State) : s.startMapUpload.twi = s.twi := by
  unfold State.startMapUpload; split <;> simp
@[simp] theorem State.startSetUpload_twi (v : Nat) (s : State) : (s.startSetUpload v).twi = s.twi := by
  unfold State.startSetUpload; split <;> simp
@[simp] theorem State.startUpload_twi (v : Nat) (s : State) : (s.startUpload v).twi = s.twi := by
  unfold State.startUpload; split <;> simp
@[simp] theorem State.finishUpload_twi (s : State) : s.finishUpload.twi = s.twi := by
  unfold State.finishUpload
  repeat' split
  all_goals simp
@[simp] theorem State.clearCorrectionCounts_twi (s : State) : s.clearCorrectionCounts.twi = s.twi := s.zero_twi _

/-! #### Staging -/

@[simp] theorem State.groupWrite_twi (t : Txn) (g : Group) (s : State) : (s.groupWrite t g).twi = s.twi := by
  simp [State.groupWrite]
@[simp] theorem State.looseWrite_twi (t : Txn) (s : State) : (s.looseWrite t).twi = s.twi := by
  unfold State.looseWrite
  dsimp only
  split
  · rfl
  · rw [State.reportVersion_twi, State.watchCache_twi]
    exact fun _ => rfl
@[simp] theorem State.stageWrite_twi (t : Txn) (s : State) : (s.stageWrite t).twi = s.twi := by
  unfold State.stageWrite; split <;> simp
@[simp] theorem State.dropGroup_twi (s : State) : s.dropGroup.twi = s.twi := rfl
@[simp] theorem State.openGroup_twi (tr : Transport) (s : State) : (s.openGroup tr).twi = s.twi := by
  unfold State.openGroup; split <;> rfl
@[simp] theorem State.requestGroup_twi (g : Group) (bound : Boundary) (by_ : Requester) (s : State) :
    (s.requestGroup g bound by_).1.twi = s.twi := by simp [State.requestGroup]
@[simp] theorem State.closeGroup_twi (tr : Transport) (v : Nat) (s : State) : (s.closeGroup tr v).twi = s.twi := by
  unfold State.closeGroup
  repeat' split
  all_goals simp
@[simp] theorem State.abandonGroup_twi (tr : Transport) (v : Nat) (s : State) : (s.abandonGroup tr v).twi = s.twi := by
  simp [State.abandonGroup]
@[simp] theorem State.groupRegister_twi (t : Txn) (s : State) : (s.groupRegister t).twi = s.twi := by
  unfold State.groupRegister; split <;> rfl
@[simp] theorem State.beginRead_twi (load : Bool) (t : Txn) (s : State) : (s.beginRead load t).twi = s.twi := rfl
@[simp] theorem State.pourMould_twi (t : Txn) (s : State) : (s.pourMould t).twi = s.twi := rfl
@[simp] theorem State.loadMould_twi (t : Txn) (s : State) : (s.loadMould t).twi = s.twi := by
  unfold State.loadMould; split <;> rfl
@[simp] theorem State.mouldFail_twi (op slot cause : Nat) (s : State) : (s.mouldFail op slot cause).twi = s.twi := by
  simp [State.mouldFail]
@[simp] theorem State.mouldBusy_twi (op slot : Nat) (s : State) : (s.mouldBusy op slot).twi = s.twi := by
  simp [State.mouldBusy]
@[simp] theorem State.startMouldOp_twi (op slot : Nat) (img : List Byte) (s : State) :
    (s.startMouldOp op slot img).twi = s.twi := rfl
@[simp] theorem State.mouldCommand_twi (op n : Nat) (s : State) : (s.mouldCommand op n).twi = s.twi := by
  simp [State.mouldCommand]

/-! #### Lanes -/

@[simp] theorem State.onLane_twi (n : Nat) (f : Lane → Lane) (s : State) : (s.onLane n f).twi = s.twi := rfl
@[simp] theorem State.setEnable_twi (v : Nat) (s : State) : (s.setEnable v).twi = s.twi := by simp [State.setEnable]
@[simp] theorem State.laneSetting_twi (key v : Nat) (s : State) : (s.laneSetting key v).twi = s.twi := rfl
@[simp] theorem State.clearLaneCounts_twi (s : State) : s.clearLaneCounts.twi = s.twi := by
  rw [State.clearLaneCounts, State.wr_twi, State.zero_twi]

/-! #### Ring -/

@[simp] theorem State.closeSwitch_twi (link : Nat) (s : State) : (s.closeSwitch link).twi = s.twi := rfl
@[simp] theorem State.bypassHold_twi (v : Nat) (s : State) : (s.bypassHold v).twi = s.twi := by simp [State.bypassHold]
@[simp] theorem State.clearRingCounts_twi (s : State) : s.clearRingCounts.twi = s.twi := s.zero_twi _

/-! #### Log -/

@[simp] theorem State.clearAlerts_twi (v : Nat) (s : State) : (s.clearAlerts v).twi = s.twi := rfl
@[simp] theorem State.clearMramDiagnostics_twi (s : State) : s.clearMramDiagnostics.twi = s.twi := rfl

/-! #### TwoWire -/

@[simp] theorem State.clearTwiCounts_twi (s : State) : s.clearTwiCounts.twi = s.twi := s.zero_twi _

/-! #### Dma -/

@[simp] theorem State.onChan_twi (n : Nat) (f : DmaChan → DmaChan) (s : State) : (s.onChan n f).twi = s.twi := rfl
@[simp] theorem State.chanStop_twi (n status : Nat) (s : State) : (s.chanStop n status).twi = s.twi := rfl
@[simp] theorem State.startChan_twi (s : State) (n : Nat) : (s.startChan n).twi = s.twi := rfl
@[simp] theorem State.startChans_twi (mask : Nat) (s : State) : (s.startChans mask).twi = s.twi := by
  unfold State.startChans
  split
  · rfl
  · exact foldl_twi _ State.startChan_twi _ s
@[simp] theorem State.aimChan_twi (n a : Nat) (s : State) : (s.aimChan n a).twi = s.twi := rfl
@[simp] theorem State.stopChan_twi (s : State) (n : Nat) : (s.stopChan n).twi = s.twi := by
  unfold State.stopChan
  repeat' split
  all_goals simp
@[simp] theorem State.stopChans_twi (mask : Nat) (s : State) : (s.stopChans mask).twi = s.twi := by simp [State.stopChans]
@[simp] theorem State.dmaRegister_twi (t : Txn) (s : State) : (s.dmaRegister t).twi = s.twi := by
  unfold State.dmaRegister; split <;> rfl
@[simp] theorem State.clearDmaCounts_twi (s : State) : s.clearDmaCounts.twi = s.twi := s.zero_twi _
@[simp] theorem State.holdPour_twi (v : Nat) (s : State) : (s.holdPour v).twi = s.twi := by simp [State.holdPour]
@[simp] theorem State.releaseHold_twi (s : State) : s.releaseHold.twi = s.twi := rfl

/-! #### Housekeeping -/

@[simp] theorem State.beginPass_twi (s : State) : s.beginPass.twi = s.twi := rfl
@[simp] theorem State.beginHkCal_twi (s : State) : s.beginHkCal.twi = s.twi := rfl
@[simp] theorem State.takeRequest_twi (s : State) : s.takeRequest.twi = s.twi := by
  unfold State.takeRequest; split <;> rfl
@[simp] theorem State.hkNext_twi (s : State) : s.hkNext.twi = s.twi := by
  unfold State.hkNext
  split
  · rfl
  · split
    · simp
    · rfl
    · dsimp only
      split <;> simp
@[simp] theorem State.writeSequence_twi (v : Nat) (s : State) : (s.writeSequence v).twi = s.twi := by
  unfold State.writeSequence
  dsimp only
  split
  · rfl
  · split <;> simp
@[simp] theorem State.inject_twi (v : Nat) (s : State) : (s.inject v).twi = s.twi := by
  unfold State.inject; split <;> simp
@[simp] theorem State.clearHkCounts_twi (s : State) : s.clearHkCounts.twi = s.twi := s.zero_twi _
@[simp] theorem State.channelStatus_twi (t : Txn) (s : State) : (s.channelStatus t).twi = s.twi := by
  unfold State.channelStatus; split <;> rfl
@[simp] theorem State.askHkCal_twi (s : State) : s.askHkCal.twi = s.twi := by unfold State.askHkCal; split <;> simp
@[simp] theorem State.hkClockReturn_twi (s : State) : s.hkClockReturn.twi = s.twi := by
  unfold State.hkClockReturn
  dsimp only
  split <;> simp

/-! #### Thermal -/

@[simp] theorem State.onSource_twi (i : Nat) (f : Source → Source) (s : State) : (s.onSource i f).twi = s.twi := rfl
@[simp] theorem State.refreshLevel_twi (s : State) : s.refreshLevel.twi = s.twi := rfl
@[simp] theorem State.refreshStep_twi (s : State) : s.refreshStep.twi = s.twi := by simp [State.refreshStep]
@[simp] theorem State.setLevel_twi (i new : Nat) (v : ℤ) (s : State) : (s.setLevel i new v).twi = s.twi := by
  simp [State.setLevel]
@[simp] theorem State.quenchBit_twi (n : Nat) (b : Bool) (s : State) : (s.quenchBit n b).twi = s.twi := rfl
@[simp] theorem State.throttleWrite_twi (t : Txn) (s : State) : (s.throttleWrite t).twi = s.twi := by
  simp [State.throttleWrite]
@[simp] theorem State.leaveQuench_twi (s : State) : s.leaveQuench.twi = s.twi := by simp [State.leaveQuench]
@[simp] theorem State.dieLeaves_twi (i : Nat) (s : State) : (s.dieLeaves i).twi = s.twi := by simp [State.dieLeaves]
@[simp] theorem State.acknowledge_twi (s : State) (i : Nat) : (s.acknowledge i).twi = s.twi := by simp [State.acknowledge]
@[simp] theorem State.acknowledgeQuench_twi (v : Nat) (s : State) : (s.acknowledgeQuench v).twi = s.twi := by
  simp [State.acknowledgeQuench]
@[simp] theorem State.thermClockReturn_twi (s : State) : s.thermClockReturn.twi = s.twi := rfl
@[simp] theorem State.clearThermalCounts_twi (s : State) : s.clearThermalCounts.twi = s.twi := s.toDefault_twi _

/-! #### Power -/

@[simp] theorem State.resetWrite_twi (v : Nat) (s : State) : (s.resetWrite v).twi = s.twi := by
  unfold State.resetWrite; split <;> rfl
@[simp] theorem State.alignSlots_twi (s : State) : s.alignSlots.twi = s.twi := rfl
@[simp] theorem State.paceRestart_twi (s : State) : s.paceRestart.twi = s.twi := rfl
@[simp] theorem State.lifeFail_twi (cmd cause : Nat) (s : State) : (s.lifeFail cmd cause).twi = s.twi := by
  simp [State.lifeFail]
@[simp] theorem State.clocksReturn_twi (s : State) : s.clocksReturn.twi = s.twi := by simp [State.clocksReturn]
@[simp] theorem State.leaveHold_twi (s : State) : s.leaveHold.twi = s.twi := by simp [State.leaveHold]
@[simp] theorem State.holdWrite_twi (v : Nat) (s : State) : (s.holdWrite v).twi = s.twi := by simp [State.holdWrite]
@[simp] theorem State.sleepWrite_twi (s : State) : s.sleepWrite.twi = s.twi := by unfold State.sleepWrite; split <;> rfl
@[simp] theorem State.fuseKey_twi (v : Nat) (s : State) : (s.fuseKey v).twi = s.twi := rfl
@[simp] theorem State.blow_twi (cmd bits : Nat) (s : State) : (s.blow cmd bits).twi = s.twi := by
  unfold State.blow
  dsimp only
  split <;> simp
@[simp] theorem State.lifeKey_twi (tr : Transport) (v : Nat) (s : State) : (s.lifeKey tr v).twi = s.twi := rfl
@[simp] theorem State.lifeCommand_twi (tr : Transport) (target : Nat) (s : State) :
    (s.lifeCommand tr target).twi = s.twi := by
  unfold State.lifeCommand
  dsimp only
  split <;> simp

/-! #### Access -/

@[simp] theorem State.clearFlag_twi (t : Txn) (bit : Nat) (s : State) : (s.clearFlag t bit).twi = s.twi := by
  unfold State.clearFlag; split <;> rfl
@[simp] theorem State.clearPourCounts_twi (s : State) : s.clearPourCounts.twi = s.twi := s.zero_twi _
@[simp] theorem State.clearTdiCounts_twi (s : State) : s.clearTdiCounts.twi = s.twi := rfl
@[simp] theorem State.clearHandOverCounts_twi (s : State) : s.clearHandOverCounts.twi = s.twi := s.zero_twi _
@[simp] theorem State.selectMould_twi (t : Txn) (s : State) : (s.selectMould t).twi = s.twi := rfl
@[simp] theorem State.command3_twi (t : Txn) (s : State) : (s.command3 t).twi = s.twi := by
  unfold State.command3; split <;> simp
@[simp] theorem State.command5_twi (t : Txn) (s : State) : (s.command5 t).twi = s.twi := by
  unfold State.command5; split <;> simp
@[simp] theorem State.command7_twi (t : Txn) (s : State) : (s.command7 t).twi = s.twi := by
  unfold State.command7; split <;> simp
@[simp] theorem State.command9_twi (t : Txn) (s : State) : (s.command9 t).twi = s.twi := by
  unfold State.command9; split <;> simp
@[simp] theorem State.register6_twi (t : Txn) (s : State) : (s.register6 t).twi = s.twi := by simp [State.register6]

/-! #### The grant of a hand-over -/

@[simp] theorem State.grantTimer_twi (old : Dict) (ch : Nat) (s : State) : (s.grantTimer old ch).twi = s.twi := by
  unfold State.grantTimer
  dsimp only
  split
  all_goals split <;> simp
@[simp] theorem State.grantTimers_twi (old : Dict) (s : State) : (s.grantTimers old).twi = s.twi := by
  simp [State.grantTimers]
@[simp] theorem State.grantGrid_twi (old : Dict) (s : State) : (s.grantGrid old).twi = s.twi := by
  unfold State.grantGrid; split <;> simp
@[simp] theorem State.grantQuadrature_twi (old : Dict) (s : State) : (s.grantQuadrature old).twi = s.twi := by
  unfold State.grantQuadrature; split <;> rfl
@[simp] theorem State.grantCapture_twi (old : Dict) (s : State) (ch : Nat) : (s.grantCapture old ch).twi = s.twi := by
  unfold State.grantCapture
  dsimp only
  split <;> simp

/-! ### The bus -/

/-- The transactions for which SCL is held, and when the last STOP was seen (R272, R274). -/
def State.wire (s : State) : List BusTxn × Option Instant := (s.twi.bus, s.twi.lastStop)

theorem State.wire_eq_of_twi {s t : State} (h : t.twi = s.twi) : t.wire = s.wire := by rw [State.wire, h]; rfl

theorem State.addressWrite_wire (t : Txn) (s : State) : (s.addressWrite t).wire = s.wire := by
  unfold State.addressWrite
  dsimp only
  split <;> rfl

theorem State.beginList_wire (list : Nat) (s : State) : (s.beginList list).wire = s.wire := by
  unfold State.beginList; split <;> rfl

theorem State.sendList_wire (s : State) : s.sendList.wire = s.wire := by
  unfold State.sendList
  split
  · rfl
  · exact s.beginList_wire _

theorem State.sendListNow_wire (s : State) : s.sendListNow.wire = s.wire := by
  unfold State.sendListNow
  split
  · rfl
  · exact s.sendList_wire

theorem State.select_wire (tr : Transport) (v : Nat) (s : State) : (s.select tr v).wire = s.wire := by
  unfold State.select; split <;> rfl

theorem State.commandC_wire (t : Txn) (s : State) : (s.commandC t).wire = s.wire := by
  unfold State.commandC
  split
  case h_2 => exact s.sendListNow_wire
  all_goals exact State.wire_eq_of_twi (by simp)

theorem State.command_wire (t : Txn) (s : State) : (s.command t).wire = s.wire := by
  unfold State.command
  split
  case h_10 => exact s.commandC_wire t
  all_goals exact State.wire_eq_of_twi (by simp)

theorem State.registerC_wire (t : Txn) (s : State) : (s.registerC t).wire = s.wire := by
  unfold State.registerC
  split_ifs
  any_goals (refine State.wire_eq_of_twi ?_; simp)
  · exact s.addressWrite_wire t
  · exact s.select_wire t.tr t.val

theorem State.register_wire (t : Txn) (s : State) : (s.register t).wire = s.wire := by
  unfold State.register
  split
  · exact State.wire_eq_of_twi (by simp)
  · exact s.registerC_wire t

theorem State.effect_wire (t : Txn) (s : State) : (s.effect t).wire = s.wire := by
  unfold State.effect
  split
  · rfl
  · split
    · exact State.wire_eq_of_twi (by simp)
    · split
      · split
        · rfl
        · exact s.command_wire t
      · split
        · exact State.wire_eq_of_twi (by simp)
        · exact s.register_wire t

/-- A write, admitted or refused, leaves the bus as it was. -/
theorem State.writeNow_wire (t : Txn) (s : State) : (s.writeNow t (State.effect t)).wire = s.wire := by
  unfold State.writeNow
  split
  · exact State.wire_eq_of_twi (by simp)
  · calc _ = (State.effect t s.accept).wire := State.wire_eq_of_twi (by simp)
      _ = s.accept.wire := State.effect_wire ..
      _ = s.wire := rfl

theorem State.grant_wire (s : State) : s.grant.wire = s.wire := by
  unfold State.grant
  dsimp only
  split
  · exact (State.sendList_wire _).trans (State.wire_eq_of_twi (by simp))
  · exact State.wire_eq_of_twi (by simp)

end Sys2Proof.Machine
end

section
/-!
PROOFS. A hand-over at idle and the grant (O47): what goes live is what the entry lists. The RWS objects, the live version, the
staging store and MRAM are taken together as the live set of a state, with one lemma for each operation of the hand-over and
of the grant that leaves it as it is.
-/
namespace Sys2Proof.Machine

/-! ### The live set -/

/-- The RWS objects and the live version (R194, R195). -/
def liveKey (k : Nat) : Bool := k == 0x110001 || (objRow k).map ObjRow.acc == some .rws

/-- The other objects that a hand-over and its grant write, but for the timers' status. -/
@[simp] theorem liveKey_handOver :
    liveKey 0x100101 = false ∧ liveKey 0x110006 = false ∧ liveKey 0x110007 = false ∧ liveKey 0x340204 = false ∧
    liveKey 0x346006 = false ∧ liveKey 0x704002 = false ∧ liveKey 0x800105 = false ∧ liveKey 0x800108 = false ∧
    liveKey 0x902107 = false ∧ liveKey 0x902201 = false ∧ liveKey 0x902203 = false ∧ liveKey 0x902204 = false ∧
    liveKey 0xA01003 = false ∧ liveKey 0xA01103 = false ∧ liveKey 0xC00007 = false ∧ liveKey 0xC00008 = false := by
  decide +kernel

theorem liveKey_timerStatus : ∀ ch < 8, liveKey (0x500801 + ch) = false := by decide +kernel

/-- What a hand-over makes live, with the staging store and MRAM. -/
def State.liveSet (s : State) : Mram × Stage × (Nat → Option Nat) :=
  (s.mram, s.stage, fun k => if liveKey k then some (s.rd k) else none)

theorem State.liveSet_eq_iff {s t : State} :
    t.liveSet = s.liveSet ↔ t.mram = s.mram ∧ t.stage = s.stage ∧ ∀ k, liveKey k = true → t.rd k = s.rd k := by
  simp only [State.liveSet, Prod.mk.injEq, funext_iff]
  refine and_congr_right fun _ => and_congr_right fun _ => forall_congr' fun k => ?_
  by_cases h : liveKey k = true <;> simp [h]

theorem State.liveSet_of_frame {s t : State} {ks : List Nat} (hm : t.mram = s.mram) (hs : t.stage = s.stage)
    (h : sameObjects ks s t) (hk : ∀ k ∈ ks, liveKey k = false) : t.liveSet = s.liveSet :=
  State.liveSet_eq_iff.mpr ⟨hm, hs, fun k hl => h k fun hmem => by rw [hk k hmem] at hl; cases hl⟩

theorem State.foldl_liveSet {α : Type} (f : State → α → State) (l : List α) (s : State)
    (h : ∀ s, ∀ a ∈ l, (f s a).liveSet = s.liveSet) : (l.foldl f s).liveSet = s.liveSet := by
  induction l generalizing s with
  | nil => rfl
  | cons a l ih =>
    rw [List.foldl_cons, ih _ fun s b hb => h s b (List.mem_cons_of_mem _ hb), h s a List.mem_cons_self]

theorem foldl_fst_liveSet {α β : Type} (f : State × β → α → State × β) (h : ∀ r a, (f r a).1.liveSet = r.1.liveSet)
    (l : List α) (r : State × β) : (l.foldl f r).1.liveSet = r.1.liveSet := by
  induction l generalizing r with
  | nil => rfl
  | cons a l ih => rw [List.foldl_cons, ih, h]

@[simp] theorem State.ite_liveSet (c : Prop) [Decidable c] (s t : State) :
    (if c then s else t).liveSet = if c then s.liveSet else t.liveSet := apply_ite ..

theorem State.onStage_liveSet_congr {s t : State} (h : t.liveSet = s.liveSet) (f : Stage → Stage) :
    (t.onStage f).liveSet = (s.onStage f).liveSet := by
  obtain ⟨hm, hs, hr⟩ := State.liveSet_eq_iff.mp h
  exact State.liveSet_eq_iff.mpr ⟨hm, congrArg f hs, hr⟩

section
variable (s : State)

@[simp] theorem State.onImage_liveSet (f : Image → Image) : (s.onImage f).liveSet = s.liveSet := rfl
@[simp] theorem State.onTdi_liveSet (f : Tdi → Tdi) : (s.onTdi f).liveSet = s.liveSet := rfl
@[simp] theorem State.onCorr_liveSet (f : Corr → Corr) : (s.onCorr f).liveSet = s.liveSet := rfl
@[simp] theorem State.onLanes_liveSet (f : Lanes → Lanes) : (s.onLanes f).liveSet = s.liveSet := rfl
@[simp] theorem State.onTwi_liveSet (f : Twi → Twi) : (s.onTwi f).liveSet = s.liveSet := rfl
@[simp] theorem State.onTiming_liveSet (f : Timing → Timing) : (s.onTiming f).liveSet = s.liveSet := rfl
@[simp] theorem State.onDma_liveSet (f : Dma → Dma) : (s.onDma f).liveSet = s.liveSet := rfl

@[simp] theorem State.wr_liveSet {k : Nat} (hk : liveKey k = false) (v : Nat) : (s.wr k v).liveSet = s.liveSet := by
  refine State.liveSet_eq_iff.mpr ⟨rfl, rfl, fun j hj => ?_⟩
  rw [rd_wr, if_neg]
  rintro rfl
  rw [hk] at hj; cases hj

@[simp] theorem State.add_liveSet {k : Nat} (hk : liveKey k = false) (n : Nat) : (s.add k n).liveSet = s.liveSet :=
  s.wr_liveSet hk _

@[simp] theorem State.inc_liveSet {k : Nat} (hk : liveKey k = false) : (s.inc k).liveSet = s.liveSet := s.add_liveSet hk 1

@[simp] theorem State.logEvent_liveSet (code : Nat) (data : List Byte) : (s.logEvent code data).liveSet = s.liveSet :=
  State.liveSet_of_frame (s.logEvent_mram code data) (s.logEvent_stage code data) (s.logEvent_same code data) <|
    by simp

end

/-! ### The hand-over -/

section
variable (s : State)

@[simp] theorem State.setMould_liveSet (e : Entry) (changed : Dict) : (s.setMould e changed).liveSet = s.liveSet := by
  unfold State.setMould; split <;> simp

@[simp] theorem State.noteLate_liveSet (e : Entry) (idx enc : Nat) : (s.noteLate e idx enc).liveSet = s.liveSet := by
  unfold State.noteLate; split <;> simp

@[simp] theorem State.takeCache_liveSet : s.takeCache.liveSet = s.liveSet := rfl

@[simp] theorem State.watchHeads_liveSet : s.watchHeads.liveSet = s.liveSet := rfl

@[simp] theorem State.headDropped_liveSet (sp : Nat) : (s.headDropped sp).liveSet = s.liveSet := by
  unfold State.headDropped; split <;> rfl

@[simp] theorem State.bookSlagAll_liveSet (n : Nat) : (s.bookSlagAll n).liveSet = s.liveSet := rfl

@[simp] theorem State.notice_liveSet (stamps : Packet) (f : Nat) : (s.notice stamps f).liveSet = s.liveSet := by
  unfold State.notice
  dsimp only
  split
  · exact (s.inc 0x902204).onImage_liveSet _ |>.trans (s.inc_liveSet (by simp))
  · rfl

@[simp] theorem State.recordDrop_liveSet {key : Nat} (hk : liveKey key = false) (stamps : Packet) (flasks : List Nat) :
    (s.recordDrop key stamps flasks).liveSet = s.liveSet := by
  unfold State.recordDrop
  dsimp only
  rw [State.bookSlagAll_liveSet, State.foldl_liveSet _ _ _ fun s f _ => s.notice_liveSet stamps f]
  split <;> simp [hk]

@[simp] theorem State.dropPour_liveSet {key : Nat} (hk : liveKey key = false) (t : TPour) :
    (s.dropPour key t).liveSet = s.liveSet := by
  unfold State.dropPour
  dsimp only
  rw [State.watchHeads_liveSet, State.recordDrop_liveSet _ hk]
  simp only [State.ite_liveSet, State.onDma_liveSet, State.wr_liveSet, liveKey_handOver, ite_self]
  exact State.foldl_liveSet _ _ _ fun s sp _ => s.headDropped_liveSet sp

@[simp] theorem State.makeRoom_liveSet (sizes : List Nat) (n : Nat) : (s.makeRoom sizes n).liveSet = s.liveSet := by
  induction n generalizing s with
  | zero => rfl
  | succ n ih =>
    unfold State.makeRoom
    split
    · rfl
    · split
      · rfl
      · rw [ih, State.dropPour_liveSet _ (by simp)]

@[simp] theorem State.markBooked_liveSet : s.markBooked.liveSet = s.liveSet := s.wr_liveSet (by simp) _

@[simp] theorem State.beginHold_liveSet (idx : Nat) : (s.beginHold idx).liveSet = s.liveSet := by
  unfold State.beginHold; split <;> simp

@[simp] theorem State.admitPour_liveSet (stamps : Packet) (planes rows : Nat) (cells : List Nat) :
    (s.admitPour stamps planes rows cells).1.liveSet = s.liveSet := by
  unfold State.admitPour
  dsimp only
  simp only [apply_ite Prod.fst, State.ite_liveSet, State.markBooked_liveSet, State.beginHold_liveSet,
    State.onLanes_liveSet, State.recordDrop_liveSet, liveKey_handOver, State.makeRoom_liveSet, ite_self]

@[simp] theorem State.offerWeb_liveSet (rstrt : Bool) (r : State × List Packet) (w : WebLine) :
    (State.offerWeb rstrt r w).1.liveSet = r.1.liveSet := by
  unfold State.offerWeb
  dsimp only
  split
  · rfl
  · rw [apply_ite Prod.fst]
    split <;> simp

@[simp] theorem State.complete_liveSet (p : Packet) : (s.complete p).liveSet = s.liveSet := by
  unfold State.complete; split <;> rfl

@[simp] theorem State.sendWebs_liveSet (ws : List WebLine) (rstrt : Bool) : (s.sendWebs ws rstrt).liveSet = s.liveSet := by
  rw [State.sendWebs, State.foldl_liveSet _ _ _ fun s p _ => s.complete_liveSet p]
  exact foldl_fst_liveSet _ (State.offerWeb_liveSet rstrt) ws (s, [])

@[simp] theorem State.gridReset_liveSet : s.gridReset.liveSet = s.liveSet := State.wr_liveSet _ (by simp) _

@[simp] theorem State.tdiRestart_liveSet (nr : Option Nat) : (s.tdiRestart nr).liveSet = s.liveSet := by
  unfold State.tdiRestart
  dsimp only
  rw [State.gridReset_liveSet, State.onTdi_liveSet]
  split
  · rfl
  · split <;> simp

@[simp] theorem State.tdiHandOver_liveSet (old changed : Dict) (nr : Option Nat) :
    (s.tdiHandOver old changed nr).liveSet = s.liveSet := by
  unfold State.tdiHandOver
  split_ifs <;> simp

@[simp] theorem State.sourceHandOver_liveSet (changed : Dict) : (s.sourceHandOver changed).liveSet = s.liveSet := by
  unfold State.sourceHandOver
  dsimp only
  split_ifs <;> rfl

@[simp] theorem State.freeRunBegins_liveSet (old : Dict) : (s.freeRunBegins old).liveSet = s.liveSet := by
  unfold State.freeRunBegins
  dsimp only
  split_ifs <;> rfl

end

/-! ### The grant -/

section
variable (s : State)

@[simp] theorem State.onTimer_liveSet (ch : Nat) (f : Timer → Timer) : (s.onTimer ch f).liveSet = s.liveSet := rfl

@[simp] theorem State.driveTimer_liveSet (ch : Nat) : (s.driveTimer ch).liveSet = s.liveSet := rfl

@[simp] theorem State.setTimerBit_liveSet {ch : Nat} (hch : ch < 8) (n : Nat) (b : Bool) :
    (s.setTimerBit ch n b).liveSet = s.liveSet := s.wr_liveSet (liveKey_timerStatus ch hch) _

@[simp] theorem State.runLf_liveSet {ch : Nat} (hch : ch < 8) (pos : Nat) : (s.runLf pos ch).liveSet = s.liveSet := by
  unfold State.runLf
  dsimp only
  split_ifs <;> simp [hch]

@[simp] theorem State.rescaleLf_liveSet {ch : Nat} (hch : ch < 8) : (s.rescaleLf ch).liveSet = s.liveSet :=
  s.runLf_liveSet hch _

@[simp] theorem State.grantTimer_liveSet {ch : Nat} (hch : ch < 8) (old : Dict) :
    (s.grantTimer old ch).liveSet = s.liveSet := by
  unfold State.grantTimer
  dsimp only
  split
  all_goals split <;> simp [hch]

@[simp] theorem State.grantTimers_liveSet (old : Dict) : (s.grantTimers old).liveSet = s.liveSet :=
  State.foldl_liveSet _ _ s fun s _ h => s.grantTimer_liveSet (List.mem_range.mp h) old

@[simp] theorem State.grantGrid_liveSet (old : Dict) : (s.grantGrid old).liveSet = s.liveSet := by
  unfold State.grantGrid; split <;> simp

@[simp] theorem State.grantQuadrature_liveSet (old : Dict) : (s.grantQuadrature old).liveSet = s.liveSet := by
  unfold State.grantQuadrature; split <;> rfl

@[simp] theorem State.grantCapture_liveSet (old : Dict) (ch : Nat) :
    (s.grantCapture old ch).liveSet = s.liveSet := by
  unfold State.grantCapture
  dsimp only
  split <;> rfl

@[simp] theorem State.beginList_liveSet (list : Nat) : (s.beginList list).liveSet = s.liveSet := by
  unfold State.beginList; split <;> simp

@[simp] theorem State.sendList_liveSet : s.sendList.liveSet = s.liveSet := by
  unfold State.sendList; split <;> simp

end

/-- The grant ends the window and what it held of the old values; the live set is as it was. -/
theorem State.grant_liveSet (s : State) :
    s.grant.liveSet = (s.onStage fun g => { g with granted := [], window := none }).liveSet := by
  unfold State.grant
  dsimp only
  refine State.onStage_liveSet_congr ?_ _
  split <;> simp [State.foldl_liveSet]
end Sys2Proof.Machine
end

section
/-!
PROOFS. A hand-over at idle and the grant (O47): the values of an entry, and the three clauses.
-/
namespace Sys2Proof.Machine

/-! ### The values of an entry -/

theorem Dict.pairwise_of_rising : ∀ {d : Dict}, Dict.rising d = true → d.Pairwise fun p q => p.1 ≠ q.1
  | [], _ => .nil
  | (j, w) :: d, h => by
    obtain ⟨hlt, hd⟩ := (Dict.rising_cons j w d).mp h
    exact .cons (fun p hp => (hlt p hp).ne) (Dict.pairwise_of_rising hd)

theorem Dict.get_setAll_of_mem {ws : Dict} (h : ws.Pairwise fun p q => p.1 ≠ q.1) (d : Dict) {w : Nat × Nat} (hw : w ∈ ws) :
    Dict.get (Dict.setAll d ws) w.1 = w.2 := by
  induction ws generalizing d with
  | nil => cases hw
  | cons x ws ih =>
    obtain ⟨hx, hws⟩ := List.pairwise_cons.mp h
    obtain rfl | hmem := List.mem_cons.mp hw
    · calc Dict.get (Dict.setAll (Dict.set d w.1 w.2) ws) w.1
          = Dict.get (Dict.set d w.1 w.2) w.1 := Dict.get_setAll_of_notMem ws _ fun y hy => (hx y hy).symm
        _ = w.2 := Dict.get_set_self ..
    · exact ih hws _ hmem

theorem Dict.find_eq_none_iff {d : Dict} {k : Nat} : Dict.find d k = none ↔ ∀ w ∈ d, w.1 ≠ k := by
  induction d with
  | nil => simp [Dict.find]
  | cons p d ih => by_cases h : p.1 = k <;> simp [Dict.find, h, ih]

/-- The values that would change the store. -/
def Dict.changes (d vals : Dict) : Dict := vals.filter fun w => d.get w.1 != w.2

/-- Writing only what changes gives every listed key its value. -/
theorem Dict.get_setAll_changes {vals : Dict} (h : Dict.rising vals = true) (d : Dict) {w : Nat × Nat} (hw : w ∈ vals) :
    Dict.get (Dict.setAll d (Dict.changes d vals)) w.1 = w.2 := by
  have hp := Dict.pairwise_of_rising h
  have hsymm : Std.Symm fun p q : Nat × Nat => p.1 ≠ q.1 := ⟨fun _ _ h => h.symm⟩
  by_cases hc : d.get w.1 = w.2
  · rw [Dict.get_setAll_of_notMem, hc]
    intro x hx hk
    obtain ⟨hmem, hne⟩ := List.mem_filter.mp hx
    obtain rfl : x = w := by
      by_contra hxw
      exact hp.forall hmem hw hxw hk
    simp [hc] at hne
  · exact Dict.get_setAll_of_mem (hp.filter _) d (List.mem_filter.mpr ⟨hw, by simpa using hc⟩)

theorem Dict.get_setAll_changes_of_find_none {vals : Dict} {k : Nat} (h : Dict.find vals k = none) (d : Dict) :
    Dict.get (Dict.setAll d (Dict.changes d vals)) k = d.get k :=
  Dict.get_setAll_of_notMem _ _ fun w hw => Dict.find_eq_none_iff.mp h w (List.mem_filter.mp hw).1

theorem State.foldl_wr (l : Dict) (s : State) :
    l.foldl (fun s w => s.wr w.1 w.2) s = { s with dict := Dict.setAll s.dict l } := by
  induction l generalizing s with
  | nil => rfl
  | cons w l ih => exact ih (s.wr w.1 w.2)

/-! ### The hand-over -/

/-- The values of an entry and its version are live, and the entry has left the queue. -/
def State.goLive (e : Entry) (s : State) : State :=
  { (s.onStage fun g => { g with queue := g.queue.tail }) with
    dict := Dict.set (Dict.setAll s.dict (Dict.changes s.dict e.values)) 0x110001 e.version }

/-- A hand-over that no check of R199 discards and that selects no bank makes its entry live. -/
theorem State.handOver_liveSet {e : Entry} {s : State} (hr : s.recheck e = none) (hb : s.selectsBank e.values = none)
    (idx enc : Nat) (nr : Option Nat) :
    ∃ granted, (s.handOver e idx enc nr).liveSet = ((s.goLive e).onStage fun g => { g with granted := granted }).liveSet := by
  have hr' : (s.onStage fun g => { g with queue := g.queue.tail }).recheck e = none := hr
  have hb' : (s.onStage fun g => { g with queue := g.queue.tail }).selectsBank e.values = none := hb
  refine ⟨(Dict.changes s.dict e.values).map fun w => (w.1, s.dict.get w.1), ?_⟩
  unfold State.handOver
  simp only [hr', hb', Option.isSome_none, Bool.false_eq_true, if_false]
  refine State.onStage_liveSet_congr ?_ _
  rw [State.sourceHandOver_liveSet, State.tdiHandOver_liveSet, State.takeCache_liveSet, State.noteLate_liveSet,
    State.setMould_liveSet, State.foldl_wr]
  rfl

theorem State.idleHandOver_liveSet {e : Entry} {s : State} (hr : s.recheck e = none) (hb : s.selectsBank e.values = none) :
    (s.idleHandOver e).liveSet = ((s.goLive e).onStage fun g => { g with granted := [], window := none }).liveSet := by
  obtain ⟨granted, h⟩ := State.handOver_liveSet hr hb (s.rd 0x110003) s.position none
  rw [State.idleHandOver, State.freeRunBegins_liveSet, State.grant_liveSet]
  exact State.onStage_liveSet_congr h _

theorem State.rd_goLive_version (e : Entry) (s : State) : (s.goLive e).rd 0x110001 = e.version := Dict.get_set_self ..

theorem State.rd_goLive (e : Entry) (s : State) {k : Nat} (hk : k ≠ 0x110001) :
    (s.goLive e).rd k = Dict.get (Dict.setAll s.dict (Dict.changes s.dict e.values)) k := by
  rw [State.rd, State.goLive, Dict.get_set, if_neg hk]

/-! ### The clauses -/

theorem liveKey_of_rws {k : Nat} (h : (objRow k).map ObjRow.acc = some .rws) : liveKey k = true := by simp [liveKey, h]

theorem ne_version_of_rws {k : Nat} (h : (objRow k).map ObjRow.acc = some .rws) : k ≠ 0x110001 := by
  rintro rfl
  exact absurd h (by decide +kernel)

theorem State.markIdle_of_queue_nil {s : State} (h : s.stage.queue = []) : s.markIdle = s := by
  have hq : s.stage.queue.map (s.markMet s.metAtIdle) = s.stage.queue := by rw [h]; rfl
  rw [State.markIdle, State.onStage, hq]

theorem execHandOverAtIdle_of_waits {s : State} (h : s.idle = false ∨ s.stage.queue = []) :
    exec .handOverAtIdle s = .next s := by
  change execHandOverAtIdle s = .next s
  unfold execHandOverAtIdle
  obtain h | h := h
  · simp [h]
  · simp [State.markIdle_of_queue_nil h, h]

/-- The head entry, ready and with its condition met, takes place. -/
theorem execHandOverAtIdle_of_ready {e : Entry} {l : List Entry} {s : State} (hidle : s.idle = true)
    (himaging : s.imaging = true) (hwindow : s.stage.window = none) (hq : s.stage.queue = e :: l)
    (hmet : e.due = true ∨ s.metAtIdle e.bound = true) (hready : s.ready e = true) :
    exec .handOverAtIdle s = .next (s.markIdle.idleHandOver (s.markMet s.metAtIdle e)) := by
  have hq' : s.markIdle.stage.queue = s.markMet s.metAtIdle e :: l.map (s.markMet s.metAtIdle) := by
    change s.stage.queue.map _ = _
    rw [hq]; rfl
  have hdue : (s.markMet s.metAtIdle e).due = true := by simpa [State.markMet] using hmet
  have hready' : s.markIdle.ready (s.markMet s.metAtIdle e) = true := hready
  change execHandOverAtIdle s = _
  unfold execHandOverAtIdle
  simp only [hidle, himaging, hwindow, hq', hdue, hready']
  rfl

/-- The one write that waits, with no transaction held on SCL and no STOP since it came, is the only thing applied. -/
theorem State.drainAll_of_one_write {s : State} {w : Txn} {y : Instant} (hserving : s.stage.serving = none)
    (hwindow : s.stage.window = none) (hwaiting : s.stage.waiting = [.write w y]) (hbus : s.twi.bus = [])
    (hstop : ∀ z, s.twi.lastStop = some z → z ≤ y) :
    s.drainAll = (s.onStage fun g => { g with waiting := [] }).writeNow w (State.effect w) := by
  have hbusy : s.busy = false := by simp [State.busy, hserving, hwindow]
  have hwire := State.writeNow_wire w (s.onStage fun g => { g with waiting := [] })
  generalize hu : (s.onStage fun g => { g with waiting := [] }).writeNow w (State.effect w) = u at hwire
  obtain ⟨hub, hus⟩ := Prod.mk.inj hwire
  have hlate : u.twi.lastStop.any (fun t => (Job.write w y).arrived < t) = false := by
    rw [hus, Option.any_eq_false]
    exact fun z hz => decide_eq_false (Nat.not_lt.mpr (hstop z hz))
  have hserve : State.lateAddresses (.write w y) (s.onStage fun g => { g with waiting := [] })
      (State.serveJob (.write w y) (s.onStage fun g => { g with waiting := [] })) = u := by
    rw [State.serveJob, hu, State.lateAddresses, hlate, Bool.and_false]
    rfl
  have hrelease : State.releaseScl u.twi.bus.length u = u := by
    rw [hub]
    change State.releaseScl s.twi.bus.length u = u
    rw [hbus]; rfl
  rw [State.drainAll, hwaiting, hbus]
  simp only [List.length_cons, List.length_nil, State.drain, hbusy, Bool.false_eq_true, if_false, hwaiting]
  rw [hserve, hrelease]

theorem State.grant_stage (s : State) : s.grant.stage = { s.stage with granted := [], window := none } :=
  (State.liveSet_eq_iff.mp s.grant_liveSet).2.1

/-- Settles O47: a hand-over and its grant leave the live set but for what the entry lists, and a write keeps the bus. -/
theorem handOversTakePlaceWholeAndTheGrantEndsTheWindow :
    Obligations.HandOversTakePlaceWholeAndTheGrantEndsTheWindow := by
  unfold Obligations.HandOversTakePlaceWholeAndTheGrantEndsTheWindow
  refine ⟨?_, fun s => execHandOverAtIdle_of_waits, fun x s hwindow => ⟨fun hlt => ?_, fun hle hwaiting => ?_, ?_⟩⟩
  · intro e l s hidle himaging hwindow hq hmet hreading hloading hbank hrecheck hrising hrws
    have hready : s.ready e = true := by simp [State.ready, State.loaded, State.writable, hreading, hloading, hbank]
    obtain ⟨hmram, hstage, hrd⟩ := State.liveSet_eq_iff.mp
      (State.idleHandOver_liveSet (e := s.markMet s.metAtIdle e) (s := s.markIdle) hrecheck hbank)
    have hqueue : (s.markIdle.idleHandOver (s.markMet s.metAtIdle e)).stage.queue = l.map (s.markMet s.metAtIdle) := by
      rw [hstage]
      change (s.stage.queue.map (s.markMet s.metAtIdle)).tail = _
      rw [hq]; rfl
    refine ⟨_, execHandOverAtIdle_of_ready hidle himaging hwindow hq hmet hready, ?_, fun w hw => ?_, fun k hk hnone => ?_,
      ?_, by rw [hstage]; rfl, by rw [hstage]; rfl, by rw [hstage]; rfl, by rw [hstage]; rfl, hmram⟩
    · exact (hrd _ (by decide +kernel)).trans (State.rd_goLive_version ..)
    · calc _ = _ := hrd _ (liveKey_of_rws (hrws w hw))
        _ = _ := State.rd_goLive _ _ (ne_version_of_rws (hrws w hw))
        _ = w.2 := Dict.get_setAll_changes hrising _ hw
    · calc _ = _ := hrd _ (liveKey_of_rws hk)
        _ = _ := State.rd_goLive _ _ (ne_version_of_rws hk)
        _ = s.rd k := Dict.get_setAll_changes_of_find_none hnone _
    · rw [hqueue, List.map_map]; rfl
  · change execHandOverGrant s = .next s
    simp only [execHandOverGrant, hwindow, if_neg (Nat.not_le.mpr hlt)]
  · obtain ⟨hmram, hstage, hrd⟩ := State.liveSet_eq_iff.mp s.grant_liveSet
    have hnil : s.grant.stage.waiting = [] := by rw [hstage]; exact hwaiting
    refine ⟨s.grant, ?_, by rw [hstage]; rfl, by rw [hstage]; rfl, by rw [hstage]; rfl, hmram, fun k hk =>
      hrd k (liveKey_of_rws hk)⟩
    change execHandOverGrant s = _
    simp only [execHandOverGrant, hwindow, if_pos hle, State.drainAll_of_waiting_nil hnil]
  · intro hle hserving hbus w y hwaiting hstop
    obtain ⟨hgbus, hgstop⟩ := Prod.mk.inj s.grant_wire
    have hdrain := State.drainAll_of_one_write (s := s.grant) (by rw [s.grant_stage]; exact hserving)
      (by rw [s.grant_stage]) (by rw [s.grant_stage]; exact hwaiting) (hgbus.trans hbus) fun z hz => hstop z (hgstop ▸ hz)
    change execHandOverGrant s = _
    simp only [execHandOverGrant, hwindow, if_pos hle, hdrain]

end Sys2Proof.Machine
end

section
/-!
PROOFS. An exposure opens at its GRST fall and is stored at its TX fall (R45, R47, R57, R73, R291 to R293).
-/
namespace Sys2Proof.Machine

/-! ### Timer channels -/

theorem modifyNth_modifyNth {α : Type} (l : List α) (i : Nat) (f g : α → α) :
    modifyNth (modifyNth l i f) i g = modifyNth l i (fun a => g (f a)) := by
  induction l generalizing i with
  | nil => rfl
  | cons a l ih => cases i <;> simp [modifyNth, ih]

theorem modifyNth_id {α : Type} (l : List α) (i : Nat) : modifyNth l i id = l := by
  induction l generalizing i with
  | nil => rfl
  | cons a l ih => cases i <;> simp [modifyNth, ih]

theorem State.onTimer_onTimer (s : State) (ch : Nat) (f g : Timer → Timer) :
    (s.onTimer ch f).onTimer ch g = s.onTimer ch (fun t => g (f t)) := by
  simp [State.onTimer, State.onTiming, modifyNth_modifyNth]

theorem State.onTimer_id (s : State) (ch : Nat) : s.onTimer ch id = s := by
  simp [State.onTimer, State.onTiming, modifyNth_id]

/-- The state with other timer channels. -/
def State.withTimers (s : State) (ts : List Timer) : State := s.onTiming fun t => { t with timers := ts }

theorem State.frame_of_withTimers {s u : State} {f : Image → Image} {ts : List Timer}
    (h : u = (s.onImage f).withTimers ts) :
    u = { s with image := u.image, timing := { s.timing with timers := u.timing.timers } } := by
  subst h
  rfl

/-- State `u` is `s` with channel `ch` updated, to a value that meets `Q` whatever it was. -/
def State.BringsTimer (s : State) (ch : Nat) (Q : Timer → Prop) (u : State) : Prop :=
  ∃ g, u = s.onTimer ch g ∧ ∀ t, Q (g t)

theorem State.bringsTimer_onTimer {Q : Timer → Prop} {g : Timer → Timer} (h : ∀ t, Q (g t)) (s : State) (ch : Nat) :
    s.BringsTimer ch Q (s.onTimer ch g) := ⟨g, rfl, h⟩

theorem State.BringsTimer.imp {s u : State} {ch : Nat} {Q R : Timer → Prop} (h : s.BringsTimer ch Q u)
    (hQ : ∀ t, Q t → R t) : s.BringsTimer ch R u :=
  Exists.imp (fun _ hg => ⟨hg.1, fun t => hQ _ (hg.2 t)⟩) h

/-- A further update of the channel that keeps the condition. -/
theorem State.BringsTimer.onTimer {s u : State} {ch : Nat} {Q : Timer → Prop} {g : Timer → Timer}
    (h : s.BringsTimer ch Q u) (hg : ∀ t, Q t → Q (g t)) : s.BringsTimer ch Q (u.onTimer ch g) := by
  obtain ⟨f, rfl, hf⟩ := h
  exact ⟨_, s.onTimer_onTimer ch f g, fun t => hg _ (hf t)⟩

/-- What brings each channel to meet its own condition brings all eight to it and changes nothing else. -/
theorem State.eachTimer_brings {f : Nat → State → State} {P : Nat → Timer → Prop}
    (h : ∀ ch (s : State), s.BringsTimer ch (P ch) (f ch s)) {s : State} (hlen : s.timing.timers.length = 8) :
    s.eachTimer f = s.withTimers (s.eachTimer f).timing.timers ∧ ∀ ch < 8, P ch ((s.eachTimer f).timer ch) := by
  have hfold : ∀ n ≤ 8, ∃ ts, (List.range n).foldl (fun s ch => f ch s) s = s.withTimers ts ∧ ts.length = 8 ∧
      ∀ ch < n, P ch (nth ts ch Timer.reset) := by
    intro n hn
    induction n with
    | zero => exact ⟨s.timing.timers, rfl, hlen, fun ch hch => absurd hch (Nat.not_lt_zero ch)⟩
    | succ n ih =>
      obtain ⟨ts, hts, hl, hP⟩ := ih (by omega)
      obtain ⟨g, hg, hPg⟩ := h n (s.withTimers ts)
      refine ⟨modifyNth ts n g, ?_, by simp [hl], fun ch hch => ?_⟩
      · rw [List.range_succ, List.foldl_append, hts]
        exact hg
      · rw [nth_modifyNth]
        split
        case isTrue hin => exact hin.1 ▸ hPg _
        case isFalse hout => exact hP ch (by omega)
  obtain ⟨ts, hts, -, hP⟩ := hfold 8 le_rfl
  have hts : s.eachTimer f = s.withTimers ts := hts
  rw [hts]
  exact ⟨rfl, hP⟩

/-! ### The exposure window (R291 to R293) -/

/-- Driving the output changes no part of the exposure window. -/
@[simp] theorem Timer.drive_window (now : Instant) (b : Bool) (t : Timer) :
    (t.drive now b).window = t.window ∧ (t.drive now b).txAt = t.txAt ∧ (t.drive now b).pulse = t.pulse ∧
      (t.drive now b).running = t.running := by
  simp only [Timer.drive]
  split
  · simp
  · split <;> simp

/-- A restart of the cycle leaves the exposure window as it is. -/
@[simp] theorem Timer.restart_window (t : Timer) : t.restart.window = t.window ∧ t.restart.txAt = t.txAt := by
  have hload : t.load.window = t.window ∧ t.load.txAt = t.txAt := by
    simp only [Timer.load]
    split <;> simp
  simp only [Timer.restart]
  split <;> exact hload

/-- The channel has an exposure window that ends at `tx`. -/
def Timer.opensTo (tx : Instant) (t : Timer) : Prop := t.window = true ∧ t.txAt = tx

/-- The channels that strobe bank `bank` selects, as bits; none above bank 3 (R291). -/
def strobeMask (cfg : Dict) (bank : Nat) : Nat := if bank ≤ 3 then cfg.get (0x501001 + bank) else 0

/-- Each channel selected by the bank of an exposure has a window that ends at the TX fall. -/
theorem State.openWindow_opens (cfg : Dict) (bank : Nat) (tx : Instant) {s : State} (hlen : s.timing.timers.length = 8) :
    s.openWindow cfg bank tx = s.withTimers (s.openWindow cfg bank tx).timing.timers ∧
      ∀ ch < 8, bitAt (strobeMask cfg bank) ch = true → ((s.openWindow cfg bank tx).timer ch).opensTo tx := by
  refine State.eachTimer_brings (P := fun ch t => bitAt (strobeMask cfg bank) ch = true → t.opensTo tx) (fun ch s => ?_) hlen
  change s.BringsTimer ch _ (if !bitAt (strobeMask cfg bank) ch then s else _)
  split
  case isTrue hout => exact ⟨id, (s.onTimer_id ch).symm, fun t hin => by simp [hin] at hout⟩
  case isFalse hin =>
    have hselect : s.BringsTimer ch (Timer.opensTo tx) (s.onTimer ch fun t =>
        { t with window := true, txAt := tx, delay := cfg.get (0x500401 + ch), width := cfg.get (0x500501 + ch) }) :=
      State.bringsTimer_onTimer (fun _ => ⟨rfl, rfl⟩) s ch
    refine State.BringsTimer.imp (State.BringsTimer.onTimer (Q := Timer.opensTo tx) ?_ ?_) fun t h _ => h
    · split
      · exact hselect.onTimer fun t => by simp [Timer.opensTo]
      · split
        · exact hselect.onTimer fun t => id
        · exact hselect
    · exact fun t => by simp [Timer.opensTo]

/-- At the end of an exposure window no channel has a window or a pulse, and no pulse counter runs. -/
theorem State.closeWindow_closes {s : State} (hlen : s.timing.timers.length = 8) :
    s.closeWindow = s.withTimers s.closeWindow.timing.timers ∧ ∀ ch < 8, (s.closeWindow.timer ch).window = false ∧
      (s.closeWindow.timer ch).pulse = false ∧ (s.closeWindow.timer ch).running = false :=
  State.eachTimer_brings (P := fun _ t => t.window = false ∧ t.pulse = false ∧ t.running = false)
    (fun ch s => (State.bringsTimer_onTimer (fun _ => ⟨rfl, rfl, rfl⟩) s ch).onTimer fun t => by simp) hlen

/-! ### The first exposure of the only pour -/

theorem State.pourExposures_of_one_pour {s : State} {p : Pour} (hp : s.image.pours = [p]) :
    s.pourExposures = p.exps.map fun e => (p, e) := by
  simp [State.pourExposures, hp]

/-- Of one pour in progress, its first exposure updated. -/
theorem State.onExposure_first {s : State} {p : Pour} {e : Exposure} {l : List Exposure} (hp : s.image.pours = [p])
    (he : p.exps = e :: l) (g : Exposure → Exposure) :
    s.onExposure p.idx e.sub g = s.onImage fun i => { i with pours := [{ p with exps := g e :: l }] } := by
  simp [State.onExposure, State.onImage, hp, he, updateFirst]

/-- The image path after the GRST fall of exposure `e`, the first of pour `p`. -/
def Image.opened (p : Pour) (e : Exposure) (l : List Exposure) (i : Image) : Image :=
  { i with pours := [{ p with exps := { e with stage := .opened } :: l }] }

/-- The next planned exposure opens at its GRST fall. -/
theorem State.exposureStart_first {s : State} {p : Pour} {e : Exposure} {l : List Exposure} (hp : s.image.pours = [p])
    (he : p.exps = e :: l) (hplanned : e.stage = .planned) (hdue : e.grst ≤ s.now) :
    exec .exposureStart s = .next ((s.onImage (Image.opened p e l)).openWindow p.cfg e.bank e.tx) := by
  have hfind : s.pourExposures.find? (fun x => x.2.stage == .planned) = some (p, e) := by
    simp [State.pourExposures_of_one_pour hp, he, hplanned]
  change execExposureStart s = _
  simp only [execExposureStart, hfind, if_neg (Nat.not_lt.mpr hdue), State.onExposure_first hp he]
  rfl

/-- The image path after exposure `e`, the first of pour `p`, is stored at `x`. -/
def Image.stored (p : Pour) (e : Exposure) (l : List Exposure) (x : Instant) (i : Image) : Image :=
  { i with
    pours := [{ p with exps := { e with stage := .stored, tx := x } :: l }], madeTx := some x, lastTx := i.lastTx.map (max x) }

/-- An exposure with rows to read keeps its pour in progress. -/
theorem Pour.not_done_of_toRead {p : Pour} {e : Exposure} (he : e ∈ p.exps) (hr : e.toRead ≠ []) : p.done = false := by
  have : (p.exps.all fun e => e.toRead.isEmpty) = false := List.all_eq_false.mpr ⟨e, he, by simpa using hr⟩
  simp [Pour.done, this]

/-- The opened exposure is stored at the later of its TX fall and 170 ns after the release (log entry 58), when no other exposure
is stored; with rows of its own to read it keeps its pour in progress. -/
theorem State.transferSequence_first {s : State} {p : Pour} {e : Exposure} {l : List Exposure} (hp : s.image.pours = [p])
    (he : p.exps = e :: l) (hlen : s.timing.timers.length = 8) {x : Instant}
    (hx : x = max e.tx (s.image.releaseAt + ns 170)) (hopened : e.stage = .opened) (hdue : x ≤ s.now) (hread : e.toRead ≠ [])
    (hfree : ∀ y ∈ l, y.stage ≠ .stored) :
    exec .transferSequence s = .next (s.onImage (Image.stored p e l x)).closeWindow := by
  have hfind : s.pourExposures.find? (fun x => x.2.stage == .opened) = some (p, e) := by
    simp [State.pourExposures_of_one_pour hp, he, hopened]
  have hbefore : s.pourExposures.filter (fun x => x.2.stage == .stored) = [] := by
    simpa [State.pourExposures_of_one_pour hp, he, hopened, List.filter_eq_nil_iff] using hfree
  have hsettle : (s.onImage (Image.stored p e l x)).closeWindow.settlePours =
      (s.onImage (Image.stored p e l x)).closeWindow := by
    obtain ⟨hframe, -⟩ := State.closeWindow_closes (s := s.onImage (Image.stored p e l x)) hlen
    rw [hframe]
    exact State.settlePours_of_not_done rfl (Pour.not_done_of_toRead List.mem_cons_self hread)
  change execTransferSequence s = _
  simp only [execTransferSequence, hfind, hbefore, ← hx]
  rw [if_neg (by simpa using hdue), State.onExposure_first (by exact hp) he, ← hsettle]
  rfl

/-- Settles O17, by the two transitions of the first exposure. -/
theorem exposuresOpenAndStore : Obligations.ExposuresOpenAndStore := by
  unfold Obligations.ExposuresOpenAndStore
  intro s p e l hp he hlen
  refine ⟨fun hplanned hdue => ?_, fun x hx hopened hdue hread hfree => ?_⟩
  · obtain ⟨hframe, hopens⟩ :=
      State.openWindow_opens p.cfg e.bank e.tx (s := s.onImage (Image.opened p e l)) hlen
    refine ⟨_, State.exposureStart_first hp he hplanned hdue, congrArg State.image hframe, fun ch hch hbank hbit => ?_,
      State.frame_of_withTimers hframe⟩
    exact hopens ch hch (by rwa [strobeMask, if_pos hbank])
  · obtain ⟨hframe, hclosed⟩ := State.closeWindow_closes (s := s.onImage (Image.stored p e l x)) hlen
    have himage := congrArg State.image hframe
    refine ⟨_, State.transferSequence_first hp he hlen hx hopened hdue hread hfree, congrArg Image.pours himage,
      congrArg Image.madeTx himage, ?_, hclosed, State.frame_of_withTimers hframe⟩
    rw [himage]
    rfl

end Sys2Proof.Machine
end

section
/-!
PROOFS. The making of a pour or line (O15, O16, O44): what its stamps and the pours in progress rest on is taken together as the
scene of a state, with one lemma for each operation of a boundary that leaves the scene as it is.
-/
namespace Sys2Proof.Machine

/-! ### The scene of a boundary (R63, R87, R202) -/

/-- What no boundary touches: the taps to come, the levels of the TRIG pins, the longest hold of a start event (object 0x2101:05)
and the answer of an access. -/
structure Bystanders where
  taps    : List PendingTap
  trig    : List Bool
  longest : Nat
  answer  : Answer

/-- What the stamps of a pour rest on, the pours in progress, and what waits for a boundary. -/
structure Scene where
  now      : Instant
  nanos    : Nat
  position : Nat
  wraps    : Nat
  hist     : List (Nat × Nat × Nat)
  pours    : List Pour
  held     : Option Held
  lastLine : Option Instant
  queue    : List Entry
  mram     : Mram
  index    : Nat
  aside    : Bystanders

/-- The scene of a state. -/
def State.scene (s : State) : Scene :=
  ⟨s.now, s.ring.nanos, s.rd 0x520001, s.rd 0x520004, s.timing.hist, s.image.pours, s.image.held, s.tdi.lastLine, s.stage.queue,
    s.mram, s.rd 0x110003, s.ring.taps, s.timing.trig, s.rd 0x210105, s.answer⟩

/-- The objects of a scene: the pour index, position, EWRAP and the longest hold. -/
def sceneKeys : List Nat := [0x110003, 0x520001, 0x520004, 0x210105]

@[simp] theorem notMem_sceneKeys {k : Nat} :
    k ∉ sceneKeys ↔ k ≠ 0x110003 ∧ k ≠ 0x520001 ∧ k ≠ 0x520004 ∧ k ≠ 0x210105 := by simp [sceneKeys]

section
variable (s : State)

@[simp] theorem State.ite_scene (c : Prop) [Decidable c] (s t : State) :
    (if c then s else t).scene = if c then s.scene else t.scene := apply_ite ..

theorem State.foldl_scene {α : Type} (f : State → α → State) (h : ∀ s a, (f s a).scene = s.scene) (l : List α)
    (s : State) : (l.foldl f s).scene = s.scene := by
  induction l generalizing s with
  | nil => rfl
  | cons a l ih => rw [List.foldl_cons, ih, h]

theorem foldl_fst_scene {α β : Type} (f : State × β → α → State × β) (h : ∀ r a, (f r a).1.scene = r.1.scene)
    (l : List α) (r : State × β) : (l.foldl f r).1.scene = r.1.scene := by
  induction l generalizing r with
  | nil => rfl
  | cons a l ih => rw [List.foldl_cons, ih, h]

@[simp] theorem State.onCorr_scene (f : Corr → Corr) : (s.onCorr f).scene = s.scene := rfl
@[simp] theorem State.onLanes_scene (f : Lanes → Lanes) : (s.onLanes f).scene = s.scene := rfl
@[simp] theorem State.onLog_scene (f : Log → Log) : (s.onLog f).scene = s.scene := rfl
@[simp] theorem State.onDma_scene (f : Dma → Dma) : (s.onDma f).scene = s.scene := rfl
@[simp] theorem State.onFlask_scene (n : Nat) (f : Flask → Flask) : (s.onFlask n f).scene = s.scene := rfl

theorem State.onTdi_scene {f : Tdi → Tdi} (h : (f s.tdi).lastLine = s.tdi.lastLine) : (s.onTdi f).scene = s.scene := by
  change { s.scene with lastLine := (f s.tdi).lastLine } = _
  rw [h]
  rfl

theorem State.onImage_scene (f : Image → Image) :
    (s.onImage f).scene = { s.scene with pours := (f s.image).pours, held := (f s.image).held } := rfl

theorem State.onStage_scene {f : Stage → Stage} (h : (f s.stage).queue = s.stage.queue) : (s.onStage f).scene = s.scene := by
  change { s.scene with queue := (f s.stage).queue } = _
  rw [h]
  rfl

theorem State.scene_of_same {s t : State} {ks : List Nat} (hframe : t = { s with dict := t.dict })
    (hsame : sameObjects ks s t) (hk : ∀ k ∈ sceneKeys, k ∉ ks) : t.scene = s.scene := by
  have hrd : ∀ k ∈ sceneKeys, t.rd k = s.rd k := fun k hmem => hsame k (hk k hmem)
  simp only [sceneKeys, List.forall_mem_cons] at hrd
  obtain ⟨hindex, hposition, hwraps, hlongest, -⟩ := hrd
  unfold State.scene
  rw [hindex, hposition, hwraps, hlongest, hframe]

@[simp] theorem State.wr_scene {k : Nat} (hk : k ∉ sceneKeys) (v : Nat) : (s.wr k v).scene = s.scene :=
  State.scene_of_same rfl (sameObjects_wr s k v) fun _ hj h => hk (List.mem_singleton.mp h ▸ hj)

@[simp] theorem State.add_scene {k : Nat} (hk : k ∉ sceneKeys) (n : Nat) : (s.add k n).scene = s.scene := s.wr_scene hk _

@[simp] theorem State.inc_scene {k : Nat} (hk : k ∉ sceneKeys) : (s.inc k).scene = s.scene := s.wr_scene hk _

@[simp] theorem State.logEntry_scene (code : Nat) (data : List Byte) (bit : Option Nat) :
    (s.logEntry code data bit).scene = s.scene := by
  unfold State.logEntry
  extract_lets due sent e queued marked
  have hmarked : marked.scene = s.scene := queued.wr_scene (by simp) _
  rw [State.ite_scene, hmarked]
  split
  · exact hmarked
  · rfl

@[simp] theorem State.logEvent_scene (code : Nat) (data : List Byte) : (s.logEvent code data).scene = s.scene := by
  have hraise (b : Nat) : (s.raise b).scene = s.scene := s.wr_scene (by decide) _
  unfold State.logEvent
  dsimp only
  rw [State.ite_scene, State.onLog_scene, State.inc_scene _ (by decide), State.logEntry_scene, ite_self]
  split
  · exact hraise _
  · rfl

/-! ### Trims and the temperature bracket (R117, R136) -/

@[simp] theorem State.takeTrims_scene : s.takeTrims.scene = s.scene := by
  unfold State.takeTrims
  rw [State.inc_scene _ (by simp)]
  split <;> rfl

@[simp] theorem State.fixTemp_scene : s.fixTemp.1.scene = s.scene := by
  simp [State.fixTemp]

/-! ### Drops and admission (R183, R184, R316) -/

@[simp] theorem State.bookRefused_scene (idx : Nat) : (s.bookRefused idx).scene = s.scene := by
  unfold State.bookRefused; split <;> rfl

@[simp] theorem State.watchHeads_scene : s.watchHeads.scene = s.scene := rfl

@[simp] theorem State.headDropped_scene (sp : Nat) : (s.headDropped sp).scene = s.scene := by
  unfold State.headDropped; split <;> rfl

@[simp] theorem State.bookSlagAll_scene (n : Nat) : (s.bookSlagAll n).scene = s.scene := rfl

@[simp] theorem State.bookOverspeed_scene : s.bookOverspeed.scene = s.scene := rfl

@[simp] theorem State.notice_scene (stamps : Packet) (f : Nat) : (s.notice stamps f).scene = s.scene := by
  simp [State.notice]

@[simp] theorem State.recordDrop_scene {key : Nat} (hk : key ∉ sceneKeys) (stamps : Packet) (flasks : List Nat) :
    (s.recordDrop key stamps flasks).scene = s.scene := by
  unfold State.recordDrop
  dsimp only
  rw [State.bookSlagAll_scene, State.foldl_scene _ (fun s f => s.notice_scene stamps f)]
  simp [State.inc_scene _ hk]

@[simp] theorem State.dropPour_scene {key : Nat} (hk : key ∉ sceneKeys) (t : TPour) : (s.dropPour key t).scene = s.scene := by
  unfold State.dropPour
  dsimp only
  rw [State.watchHeads_scene, State.recordDrop_scene _ hk]
  simp [State.foldl_scene _ (fun s sp => s.headDropped_scene sp)]

@[simp] theorem State.makeRoom_scene (sizes : List Nat) (n : Nat) : (s.makeRoom sizes n).scene = s.scene := by
  induction n generalizing s with
  | zero => rfl
  | succ n ih =>
    unfold State.makeRoom
    split
    · rfl
    · split
      · rfl
      · rw [ih, State.dropPour_scene _ (by simp)]

@[simp] theorem State.markBooked_scene : s.markBooked.scene = s.scene := s.wr_scene (by simp) _

@[simp] theorem State.beginHold_scene (idx : Nat) : (s.beginHold idx).scene = s.scene := by
  unfold State.beginHold; split <;> simp

@[simp] theorem State.admitPour_scene (stamps : Packet) (planes rows : Nat) (cells : List Nat) :
    (s.admitPour stamps planes rows cells).1.scene = s.scene := by
  simp [State.admitPour, apply_ite Prod.fst]

/-! ### Web lines and the restart (R99 to R101) -/

@[simp] theorem State.offerWeb_scene (rstrt : Bool) (r : State × List Packet) (w : WebLine) :
    (State.offerWeb rstrt r w).1.scene = r.1.scene := by
  unfold State.offerWeb
  dsimp only
  split
  · rfl
  · rw [apply_ite Prod.fst]
    split
    · exact State.admitPour_scene ..
    · exact (State.onTdi_scene _ rfl).trans (State.admitPour_scene ..)

@[simp] theorem State.complete_scene (p : Packet) : (s.complete p).scene = s.scene := by
  unfold State.complete; split <;> rfl

@[simp] theorem State.sendWebs_scene (ws : List WebLine) (rstrt : Bool) : (s.sendWebs ws rstrt).scene = s.scene := by
  rw [State.sendWebs, State.foldl_scene _ fun s p => s.complete_scene p]
  exact foldl_fst_scene _ (State.offerWeb_scene rstrt) ws (s, [])

@[simp] theorem State.gridReset_scene : s.gridReset.scene = s.scene := State.wr_scene _ (by simp) _

@[simp] theorem State.tdiRestart_scene (nr : Option Nat) : (s.tdiRestart nr).scene = s.scene := by
  unfold State.tdiRestart
  dsimp only
  rw [State.gridReset_scene, State.onTdi_scene _ rfl]
  split
  · rfl
  · split
    · rw [State.sendWebs_scene, State.onTdi_scene _ rfl, State.add_scene _ (by simp)]
    · rw [State.bookSlagAll_scene, State.add_scene _ (by simp)]

@[simp] theorem State.dropWeb_scene (w : WebLine) : (s.dropWeb w).scene = s.scene := by
  unfold State.dropWeb
  dsimp only
  rw [State.onTdi_scene _ rfl, State.recordDrop_scene _ (by simp)]

@[simp] theorem State.bookBand_scene (n b : Nat) : (s.bookBand n b).scene = s.scene := by
  unfold State.bookBand
  dsimp only
  split
  · rfl
  · split
    · exact s.dropWeb_scene _
    · rfl

@[simp] theorem State.finishLine_scene (n : Nat) : (s.finishLine n).scene = s.scene := by
  have hbands := State.foldl_scene (State.bookBand n) (fun s b => s.bookBand_scene n b) (bandsOn s.tdi.cfg) s
  unfold State.finishLine
  dsimp only
  split
  · rfl
  · split
    · exact hbands
    · rw [State.onTdi_scene _ rfl, State.sendWebs_scene, State.onTdi_scene _ rfl, hbands]

end

end Sys2Proof.Machine
end

section
/-!
PROOFS. The making of a pour or line (O15, O16, O44): with no hand-over waiting, a boundary adds one pour or line to the scene,
and a line boundary lets those lines leave that are complete.
-/
namespace Sys2Proof.Machine

/-! ### No hand-over waits (R193, R195) -/

section
variable {s : State} (hq : s.stage.queue = [])
include hq

theorem State.markBoundary_of_queue_nil (idx enc rt : Nat) : s.markBoundary idx enc rt = s := by
  have hmap (f : Entry → Entry) : s.stage.queue.map f = s.stage.queue := by rw [hq]; rfl
  unfold State.markBoundary
  dsimp only
  rw [State.markIdle_of_queue_nil hq, ite_self, State.onStage, hmap]

theorem State.modeWaits_of_queue_nil : s.modeWaits = false := by simp [State.modeWaits, hq]

theorem State.boundaryEntry_of_queue_nil : s.boundaryEntry = none := by simp [State.boundaryEntry, hq]

theorem State.boundaryHandOver_of_queue_nil (idx enc rt : Nat) (nr : Option Nat) : s.boundaryHandOver idx enc rt nr = s := by
  simp [State.boundaryHandOver, State.markBoundary_of_queue_nil hq, State.boundaryEntry_of_queue_nil hq]

theorem State.valuesAtBoundary_of_queue_nil (idx enc rt : Nat) : s.valuesAtBoundary idx enc rt = s.dict := by
  simp [State.valuesAtBoundary, State.markBoundary_of_queue_nil hq, State.boundaryEntry_of_queue_nil hq]

end

/-! ### Index and stamps (R62, R63, R202) -/

/-- The next pour index in a scene. -/
def Scene.nextIndex (c : Scene) : Nat := min (2 ^ 64 - 1) (c.index + 1)

/-- The stamps of an instant in a scene. -/
def Scene.stampAt (c : Scene) (t : Instant) : Nat × Nat × Nat :=
  let n := min (ceilDiv (c.now - t) tickUnits) c.hist.length
  let p := (c.nanos, c.position, c.wraps)
  let h := if n = 0 then p else nth c.hist (n - 1) p
  let at_ := c.now - n * tickUnits
  (h.1 + (t - at_) / 57 - ceilDiv (at_ - t) 57, h.2)

theorem State.stampAt_eq_scene (s : State) (t : Instant) : s.stampAt t = s.scene.stampAt t := rfl

/-- Pour or line `p` has its boundary at `at_` of the scene, with the next pour index and ring time of that instant. -/
def Scene.begins (c : Scene) (area : Bool) (at_ : Instant) (enc : Nat) (p : Pour) : Prop :=
  p.area = area ∧ p.idx = c.nextIndex ∧ p.at_ = at_ ∧ p.rtime = (c.stampAt at_).1 ∧ p.enc = enc

/-- The scene with one more pour, under the next pour index. -/
def Scene.add (c : Scene) (p : Pour) : Scene := { c with pours := c.pours ++ [p], index := c.nextIndex }

theorem State.wr_index_scene (s : State) (n : Nat) : (s.wr 0x110003 n).scene = { s.scene with index := n } := by
  simp [State.scene]

theorem State.advanceIndex_scene (s : State) : s.advanceIndex.scene = { s.scene with index := s.scene.nextIndex } := by
  unfold State.advanceIndex
  dsimp only
  split
  · rw [State.onStage_scene _ rfl, State.logEvent_scene, State.wr_index_scene]
    rfl
  · exact s.wr_index_scene _

theorem State.newPour_scene (s : State) (area : Bool) (t : Instant) (enc phase : Nat) :
    (s.newPour area t enc phase).1.scene = s.scene := s.fixTemp_scene

/-- A pour begun in a state whose index has advanced. -/
theorem State.newPour_begins {s : State} {c : Scene} {t : Instant} (hindex : s.scene.index = c.nextIndex)
    (hstamp : s.scene.stampAt t = c.stampAt t) (area : Bool) (enc phase : Nat) :
    c.begins area t enc (s.newPour area t enc phase).2 :=
  ⟨rfl, (congrArg Scene.index s.fixTemp_scene).trans hindex, rfl, congrArg Prod.fst hstamp, rfl⟩

/-- A pour joins those in progress. -/
theorem State.onImage_adds (s : State) {f : Image → Image} {p : Pour} (hp : (f s.image).pours = s.image.pours ++ [p])
    (hheld : (f s.image).held = s.image.held) : (s.onImage f).scene = { s.scene with pours := s.scene.pours ++ [p] } := by
  rw [State.onImage_scene, hp, hheld]
  rfl

/-! ### The boundary of a pour (R63) -/

theorem State.acceptPour_scene {s : State} (hq : s.stage.queue = []) (t : Instant) :
    ∃ p, s.scene.begins true t (s.stampAt t).2.1 p ∧ (s.acceptPour t).scene = { s.scene.add p with held := none } := by
  unfold State.acceptPour
  extract_lets st enc handed advanced boundary d
  have hscene : boundary.scene = { s.scene with held := none, index := s.scene.nextIndex } := by
    simp only [boundary, advanced, handed, State.boundaryHandOver_of_queue_nil hq]
    rw [State.onStage_scene _ rfl, State.advanceIndex_scene, State.takeTrims_scene, State.onImage_scene]
    rfl
  clear_value boundary
  refine ⟨?pour, ?begins, ?scene⟩
  case scene =>
    dsimp only
    refine (State.onImage_adds _ rfl rfl).trans ?_
    rw [State.admitPour_scene, State.bookRefused_scene, State.newPour_scene, hscene]
    rfl
  case begins => exact State.newPour_begins (by rw [hscene]) (by rw [hscene]; rfl) true enc 0

/-! ### The boundary of a line (R87 to R93, R99) -/

theorem State.noteInterval_scene (s : State) (t : Instant) :
    (s.noteInterval t).scene = { s.scene with lastLine := some t } := by
  unfold State.noteInterval
  dsimp only
  split
  · exact congrArg (fun c : Scene => { c with lastLine := some t }) (s.wr_scene (k := 0x346004) (by simp) _)
  · rfl

theorem State.lineBoundary_scene {s : State} (hq : s.stage.queue = []) (t : Instant) (enc : Nat) :
    ∃ p, s.scene.begins false t enc p ∧ (s.lineBoundary t enc).scene = { s.scene.add p with lastLine := some t } := by
  unfold State.lineBoundary
  extract_lets idx handed reserved restarted placed boundary d rows
  have hhanded : handed.scene = s.scene := congrArg State.scene (State.boundaryHandOver_of_queue_nil hq ..)
  clear_value handed
  have hreserved : reserved.scene = s.scene := by
    simp only [reserved]
    rw [State.ite_scene, State.onTdi_scene _ rfl, ite_self, hhanded]
  clear_value reserved
  have hrestarted : restarted.scene = s.scene := by
    simp only [restarted]
    rw [State.ite_scene, State.tdiRestart_scene, ite_self, hreserved]
  clear_value restarted
  have hplaced : placed.scene = s.scene := by
    simp only [placed]
    rw [State.ite_scene, State.onTdi_scene _ rfl, ite_self, hrestarted]
  clear_value placed
  have hscene : boundary.scene = { s.scene with index := s.scene.nextIndex, lastLine := some t } := by
    simp only [boundary]
    rw [State.onStage_scene _ rfl, State.noteInterval_scene, State.advanceIndex_scene, State.takeTrims_scene, hplaced]
  clear_value boundary
  have hbegins : s.scene.begins false t enc (boundary.newPour false t enc _).2 :=
    State.newPour_begins (by rw [hscene]) (by rw [hscene]; rfl) false enc
      ((idx - boundary.tdi.origin.getD idx) % interleave d)
  dsimp only
  split
  case isTrue =>
    refine ⟨?pour, ?begins, ?scene⟩
    case scene =>
      refine (State.onImage_adds _ rfl rfl).trans ?_
      rw [State.onTdi_scene _ rfl, State.newPour_scene, hscene]
      rfl
    case begins => exact hbegins
  case isFalse =>
    refine ⟨_, hbegins, (State.onImage_adds _ rfl rfl).trans ?_⟩
    rw [State.bookOverspeed_scene, State.inc_scene _ (by simp), State.inc_scene _ (by simp), State.onTdi_scene _ rfl,
      State.newPour_scene, hscene]
    rfl

/-- A line or pour that is complete leaves first. -/
theorem State.finishPours_succ (n : Nat) {s : State} {p : Pour} {l : List Pour} (hp : s.image.pours = p :: l) :
    s.finishPours (n + 1) = if p.done then
      (if p.area then s.onImage fun i => { i with pours := l }
        else (s.onImage fun i => { i with pours := l }).finishLine p.idx).finishPours n else s := by
  simp only [State.finishPours, hp]
  cases p.done <;> rfl

theorem Scene.eq_dropWhile {c : Scene} (h : c.pours.dropWhile Pour.done = c.pours) :
    c = { c with pours := c.pours.dropWhile Pour.done } := by rw [h]

/-- The pours that are complete leave the scene. -/
theorem State.finishPours_scene (n : Nat) (s : State) (hn : s.image.pours.length ≤ n) :
    (s.finishPours n).scene = { s.scene with pours := s.scene.pours.dropWhile Pour.done } := by
  induction n generalizing s with
  | zero =>
    refine Scene.eq_dropWhile (c := s.scene) ?_
    rw [show s.scene.pours = [] from List.eq_nil_of_length_eq_zero (Nat.le_zero.mp hn), List.dropWhile_nil]
  | succ n ih =>
    match hp : s.image.pours with
    | [] =>
      simp only [State.finishPours, hp]
      refine Scene.eq_dropWhile ?_
      rw [show s.scene.pours = [] from hp, List.dropWhile_nil]
    | p :: l =>
      rw [State.finishPours_succ n hp]
      split
      case isFalse hd =>
        refine Scene.eq_dropWhile ?_
        rw [show s.scene.pours = p :: l from hp, List.dropWhile_cons_of_neg hd]
      case isTrue hd =>
        have hrest (u : State) (hu : u.scene = { s.scene with pours := l }) :
            (u.finishPours n).scene = { s.scene with pours := l.dropWhile Pour.done } := by
          have hpours : u.image.pours = l := congrArg Scene.pours hu
          rw [ih u (by rw [hpours]; simpa [hp] using hn), hu]
        rw [show s.scene.pours = p :: l from hp, List.dropWhile_cons_of_pos hd]
        refine hrest _ ?_
        rw [State.ite_scene, State.finishLine_scene, ite_self]
        rfl

theorem State.settlePours_scene (s : State) :
    s.settlePours.scene = { s.scene with pours := s.scene.pours.dropWhile Pour.done } :=
  s.finishPours_scene _ le_rfl

/-! ### Accepted (R63, R87) -/

theorem State.scene_taps (s : State) : s.scene.aside.taps = s.ring.taps := rfl
theorem State.scene_trig (s : State) : s.scene.aside.trig = s.timing.trig := rfl
theorem State.scene_longest (s : State) : s.scene.aside.longest = s.rd 0x210105 := rfl
theorem State.scene_answer (s : State) : s.scene.aside.answer = s.answer := rfl

/-- A state whose scene is that of a pour accepted at `at_`, but for what no boundary touches. -/
theorem pourAccepted_of_scene {s u t : State} {at_ : Instant} {a : Bystanders}
    (hq : s.stage.queue = []) (hu : u.scene = { s.scene with aside := a }) (ht : t.scene = (u.acceptPour at_).scene) :
    pourAccepted s t at_ ∧ t.scene.aside = a := by
  have huq : u.stage.queue = [] := (congrArg Scene.queue hu).trans hq
  obtain ⟨p, hbegins, hscene⟩ := State.acceptPour_scene huq at_
  rw [State.stampAt_eq_scene] at hbegins
  rw [hscene] at ht
  rw [hu] at hbegins ht
  obtain ⟨harea, hidx, hat, hrtime, henc⟩ := hbegins
  exact ⟨⟨p, congrArg Scene.pours ht, harea, hidx, hat, hrtime, henc, congrArg Scene.index ht, congrArg Scene.held ht,
    congrArg Scene.mram ht, (congrArg Scene.queue ht).trans hq⟩, congrArg Scene.aside ht⟩

/-- A state whose scene is that of a line boundary at `at_`, but for what no boundary touches. -/
theorem lineAccepted_of_scene {s u t : State} {at_ : Instant} {enc : Nat} {a : Bystanders}
    (hq : s.stage.queue = []) (hu : u.scene = { s.scene with aside := a })
    (ht : t.scene = (u.lineBoundary at_ enc).settlePours.scene) : lineAccepted s t at_ enc ∧ t.scene.aside = a := by
  have huq : u.stage.queue = [] := (congrArg Scene.queue hu).trans hq
  obtain ⟨p, hbegins, hscene⟩ := State.lineBoundary_scene huq at_ enc
  rw [State.settlePours_scene, hscene] at ht
  rw [hu] at hbegins ht
  obtain ⟨harea, hidx, hat, hrtime, henc⟩ := hbegins
  exact ⟨⟨p, harea, hidx, hat, hrtime, henc, congrArg Scene.pours ht, congrArg Scene.index ht, congrArg Scene.lastLine ht,
    congrArg Scene.mram ht⟩, congrArg Scene.aside ht⟩

end Sys2Proof.Machine
end

section
/-!
PROOFS. Start events (O15, O16): what a start event does where it counts, and that the schedule of R64 rests on the image path
and on the throttle step alone.
-/
namespace Sys2Proof.Machine

/-! ### Start events and line triggers (R62, R64, R67, R87) -/

theorem State.startEvent_of_takesPour {s : State} {t : Instant} (h : s.takesPour t) : s.startEvent t = s.acceptPour t := by
  obtain ⟨⟨hmakes, hoff, hq⟩, hheld, hok⟩ := h
  simp [State.startEvent, hmakes, hoff, hheld, hok, State.markBoundary_of_queue_nil hq, State.modeWaits_of_queue_nil hq,
    State.valuesAtBoundary_of_queue_nil hq]

theorem State.startEvent_held {s : State} {t : Instant} (h : s.takesEvents) (hheld : s.image.held = none)
    (hok : s.scheduleOk s.dict t = false) :
    s.startEvent t = (s.inc 0x210103).onImage fun i => { i with held := some ⟨t⟩ } := by
  obtain ⟨hmakes, hoff, hq⟩ := h
  simp [State.startEvent, hmakes, hoff, hheld, hok, State.markBoundary_of_queue_nil hq, State.modeWaits_of_queue_nil hq,
    State.valuesAtBoundary_of_queue_nil hq]

theorem State.startEvent_second {s : State} (h : s.takesEvents) (hheld : s.image.held.isSome = true) (t : Instant) :
    s.startEvent t = (s.inc 0x210104).onImage fun i => { i with ospd := satAdd i.ospd 1 } := by
  obtain ⟨hmakes, hoff, -⟩ := h
  simp [State.startEvent, hmakes, hoff, hheld]

theorem State.startEvent_off {s : State} (hmakes : s.makesPours = true) (hoff : s.eventsOff = true) (t : Instant) :
    s.startEvent t = s.countOff := by
  simp [State.startEvent, hmakes, hoff]

/-- In quench or re-arm, and not in Hold, one object counts the event. -/
theorem State.countOff_of_quiet {s : State} (hquiet : s.quiet = true) (hhold : s.rd 0xB02002 = 0) :
    s.countOff = s.inc 0x6A1105 := by
  unfold State.countOff
  rw [if_pos hquiet]
  exact if_neg (by simpa using hhold)

theorem State.lineTrigger_of_takesEvents {s : State} (h : s.takesEvents) (t : Instant) (enc : Nat) :
    s.lineTrigger t enc = (s.lineBoundary t enc).settlePours := by
  obtain ⟨hmakes, hoff, hq⟩ := h
  simp [State.lineTrigger, hmakes, hoff, State.markBoundary_of_queue_nil hq, State.modeWaits_of_queue_nil hq]

/-! ### The schedule (R58, R64, R351) -/

section
variable {s t : State} (himage : t.image = s.image) (hstep : t.rd 0x6A0005 = s.rd 0x6A0005)
include himage hstep

theorem State.stepAt_congr (j : Nat) : t.stepAt j = s.stepAt j := by
  simp only [State.stepAt, himage, hstep]

theorem State.activeSlot_congr (fuel j : Nat) : t.activeSlot fuel j = s.activeSlot fuel j := by
  induction fuel generalizing j with
  | zero => rfl
  | succ fuel ih => simp only [State.activeSlot, State.stepAt_congr himage hstep, ih]

theorem State.readsFrom_congr (n j : Nat) : t.readsFrom n j = s.readsFrom n j := by
  induction n generalizing j with
  | zero => rfl
  | succ n ih => simp only [State.readsFrom, State.activeSlot_congr himage hstep, ih]

theorem State.releaseTime_congr : t.releaseTime = s.releaseTime := by
  have hcursor : t.readsCursor = s.readsCursor := by
    unfold State.readsCursor State.exposures State.firstCapture
    simp only [State.readsFrom_congr himage hstep, himage]
  unfold State.releaseTime State.slotStart State.exposures
  rw [hcursor, himage]

/-- The schedule under two stores that agree in the exposure time and the start alignment. -/
theorem State.scheduleOk_congr {d e : Dict} (hexpo : e.get 0x211101 = d.get 0x211101) (halign : e.get 0x210005 = d.get 0x210005)
    (x : Instant) : t.scheduleOk e x = s.scheduleOk d x := by
  unfold State.scheduleOk State.firstExposure State.grstFree State.alignedTx expoUnits
  rw [State.releaseTime_congr himage hstep, himage, hexpo, halign]

end

/-! ### What an event rests on (R62, R353, R373) -/

section
variable {s t : State} (hdict : t.dict = s.dict) (hstage : t.stage = s.stage) (htherm : t.therm = s.therm)
  (hpower : t.power = s.power)
include hdict hstage htherm hpower

theorem State.takesEvents_congr : t.takesEvents ↔ s.takesEvents := by
  unfold State.takesEvents State.makesPours State.imaging State.life State.eventsOff State.quiet State.rd
  rw [hdict, hstage, htherm, hpower]

theorem State.takesPour_congr (himage : t.image = s.image) (x : Instant) : t.takesPour x ↔ s.takesPour x := by
  unfold State.takesPour
  rw [State.takesEvents_congr hdict hstage htherm hpower, himage, hdict,
    State.scheduleOk_congr himage (congrArg (Dict.get · 0x6A0005) hdict) rfl rfl]

end

/-! ### A start event of the host (R62, R80) -/

/-- An access counter is no object of a scene. -/
theorem notMem_accessCounters_of_sceneKeys (tr : Transport) : ∀ k ∈ sceneKeys, k ∉ accessCounters tr := by
  intro k hk
  simp only [sceneKeys, List.mem_cons, List.not_mem_nil, or_false] at hk
  exact notMem_accessCounters (by omega) (by omega) tr

section
variable (s : State) (tr : Transport)

@[simp] theorem State.counted1_scene (key : Nat) : (s.counted1 tr key).scene = s.scene :=
  State.scene_of_same (s.counted1_frame tr key) (s.counted1_same tr key) (notMem_accessCounters_of_sceneKeys tr)

theorem State.onServe_scene :
    (s.onServe tr).scene = { s.scene with aside := { s.scene.aside with answer := ⟨0, 0, [], false⟩ } } := by
  have hcommitted : (s.committed tr).scene = s.scene :=
    State.scene_of_same (s.committed_frame tr) (s.committed_same tr) (notMem_accessCounters_of_sceneKeys tr)
  rw [← hcommitted]
  rfl

@[simp] theorem State.onServe_image : (s.onServe tr).image = s.image := by rw [State.onServe_frame]
@[simp] theorem State.onServe_stage : (s.onServe tr).stage = s.stage := by rw [State.onServe_frame]
@[simp] theorem State.onServe_makesPours : (s.onServe tr).makesPours = s.makesPours := by rw [State.onServe_frame]; rfl
@[simp] theorem State.onServe_quiet : (s.onServe tr).quiet = s.quiet := by rw [State.onServe_frame]; rfl

@[simp] theorem State.onServe_eventsOff : (s.onServe tr).eventsOff = s.eventsOff := by
  unfold State.eventsOff
  rw [State.onServe_quiet, State.onServe_rd _ _ (by decide) (by decide)]

@[simp] theorem State.onServe_scheduleOk (x : Instant) :
    (s.onServe tr).scheduleOk (s.onServe tr).dict x = s.scheduleOk s.dict x :=
  State.scheduleOk_congr (s.onServe_image tr) (s.onServe_rd tr (by decide) (by decide))
    (s.onServe_rd tr (by decide) (by decide)) (s.onServe_rd tr (by decide) (by decide)) x

theorem State.onServe_takesEvents : (s.onServe tr).takesEvents ↔ s.takesEvents := by
  unfold State.takesEvents
  rw [State.onServe_makesPours, State.onServe_eventsOff, State.onServe_stage]

theorem State.onServe_takesPour (x : Instant) : (s.onServe tr).takesPour x ↔ s.takesPour x := by
  unfold State.takesPour
  rw [State.onServe_takesEvents, State.onServe_image, State.onServe_scheduleOk]

end

/-- A part that admits a write makes pours: it is in service and not in SCRAP (R254, R382). -/
theorem State.makesPours_of_admits {s : State} {w : Txn} (h : s.admits w) : s.makesPours = true := by
  obtain ⟨hhears, -, habort⟩ := h
  have himaging : s.imaging = true := by
    simp only [State.hears, State.serves, Bool.and_eq_true] at hhears
    simp [State.imaging, hhears.1]
  have hlife : s.life ≠ 3 := by
    intro hlife
    have hstate : s.stateAbort w.key = some abortState := by simp [State.stateAbort, hlife]
    unfold State.writeAbort at habort
    rw [hstate] at habort
    split at habort
    · cases habort
    · split_ifs at habort
  simp [State.makesPours, himaging, hlife]

section
variable {s : State} {tr : Transport}

/-- The write that asks for a pour with any source but 5. -/
theorem State.startOnePour_refused (hsource : s.rd 0x210002 ≠ 5) (v : Nat) : s.startOnePour v = s.refuse abortValue := by
  simp [State.startOnePour, hsource]

/-- The write that asks for a pour in area mode with source 5 is a start event. -/
theorem State.startOnePour_event (hmode : s.rd 0x210001 = 0) (hsource : s.rd 0x210002 = 5) :
    s.startOnePour 1 = s.startEvent s.now := by
  simp [State.startOnePour, hmode, hsource]

theorem State.onServe_startOnePour (hmode : s.rd 0x210001 = 0) (hsource : s.rd 0x210002 = 5) :
    (s.onServe tr).startOnePour 1 = (s.onServe tr).startEvent s.now := by
  rw [State.startOnePour_event, State.onServe_now]
  · rwa [State.onServe_rd _ _ (by decide) (by decide)]
  · rwa [State.onServe_rd _ _ (by decide) (by decide)]

end

end Sys2Proof.Machine
end

section
/-!
PROOFS. Start events that start a pour (O15), and those that are held or discarded (O16).
-/
namespace Sys2Proof.Machine

/-! ### Events that are held, discarded or refused (O16) -/

theorem exec_startOnePour (tr : Transport) (s : State) :
    exec (.startOnePour tr 1) s = .next (s.hostWrite ⟨tr, 0x210007, 1, 1⟩ (State.startOnePour 1)) := rfl

section
variable {tr : Transport} {s : State} (h : s.admits ⟨tr, 0x210007, 1, 1⟩)
include h

/-- With any source but 5 the write is refused, and only counted. -/
theorem State.startOnePour_refuses (hsource : s.rd 0x210002 ≠ 5) :
    ∃ t, exec (.startOnePour tr 1) s = .next t ∧ t.answer.abort = abortValue ∧ sameObjects (accessCounters tr) s t ∧
      t = { s with dict := t.dict, answer := t.answer } := by
  have hk : (⟨tr, 0x210007, 1, 1⟩ : Txn).key ≠ 0x102009 := by simp
  have he : State.startOnePour 1 (s.onServe tr) = (s.onServe tr).refuse abortValue :=
    State.startOnePour_refused (by rwa [State.onServe_rd _ _ (by decide) (by decide)]) 1
  refine ⟨_, exec_startOnePour tr s, ?_, State.hostWrite_same h hk _ (ks := []) ?_, ?_⟩
  · rw [State.hostWrite_answer h hk, he]; rfl
  · rw [he]; exact sameObjects.refl _ _
  · rw [State.hostWrite_eq_counted1 h hk, he, State.counted1_frame, State.refuse, State.onServe_frame]

/-- A start event that starts no pour counts one object and changes the image path as `f` says. -/
theorem State.startOnePour_counts {k : Nat} (h1 : k / 256 ≠ 0x1020) (h2 : k ≠ 0xA00401) {f : Image → Image}
    (hmode : s.rd 0x210001 = 0) (hsource : s.rd 0x210002 = 5)
    (hevent : (s.onServe tr).startEvent s.now = ((s.onServe tr).inc k).onImage f) :
    ∃ t, exec (.startOnePour tr 1) s = .next t ∧ t.image = f s.image ∧ t.rd k = countUp (s.rd k) ∧
      sameObjects ([k] ++ accessCounters tr) s t ∧ t = { s with dict := t.dict, answer := t.answer, image := t.image } := by
  have hk : (⟨tr, 0x210007, 1, 1⟩ : Txn).key ≠ 0x102009 := by simp
  have he : State.startOnePour 1 (s.onServe tr) = ((s.onServe tr).inc k).onImage f := by
    rw [State.onServe_startOnePour hmode hsource, hevent]
  have hrd : (((s.onServe tr).inc k).onImage f).rd k = countUp (s.rd k) := by
    change ((s.onServe tr).inc k).rd k = _
    rw [State.rd_inc, if_pos rfl, State.onServe_rd _ _ h1 h2, countUp]
  refine ⟨_, exec_startOnePour tr s, ?_, ?_, State.hostWrite_same h hk _ ?_, ?_⟩
  · rw [State.hostWrite_eq_counted1 h hk, he, State.counted1_image]
    exact congrArg f (s.onServe_image tr)
  · rw [State.rd_hostWrite h hk _ h1 h2, he, hrd]
  · rw [he]
    exact sameObjects_wr (s.onServe tr) k _
  · rw [State.hostWrite_eq_counted1 h hk, he, State.counted1_frame, State.onServe_frame]
    rfl

end

/-- Settles O16, by what the start event of an admitted write does in each case. -/
theorem startEventsThatCannotStartAreHeldOrCounted : Obligations.StartEventsThatCannotStartAreHeldOrCounted := by
  unfold Obligations.StartEventsThatCannotStartAreHeldOrCounted
  intro tr s h
  have hmakes : (s.onServe tr).makesPours = true := by rw [State.onServe_makesPours, State.makesPours_of_admits h]
  refine ⟨State.startOnePour_refuses h, fun hsource hmode hoff hq => ?_, fun hsource hmode hquiet hhold => ?_⟩
  · have htakes : (s.onServe tr).takesEvents := ⟨hmakes, by rwa [State.onServe_eventsOff], by rwa [State.onServe_stage]⟩
    refine ⟨fun hheld hok => ?_, fun hheld => ?_⟩
    · obtain ⟨t, hexec, himage, hcount, hsame, -⟩ := State.startOnePour_counts h (by decide) (by decide) hmode hsource
        (State.startEvent_held htakes (by rwa [State.onServe_image]) (by rwa [State.onServe_scheduleOk]))
      exact ⟨t, hexec, himage, hcount, hsame⟩
    · obtain ⟨t, hexec, himage, hcount, hsame, -⟩ := State.startOnePour_counts h (by decide) (by decide) hmode hsource
        (State.startEvent_second htakes (by rwa [State.onServe_image]) s.now)
      exact ⟨t, hexec, himage, hcount, hsame⟩
  · have hoff : (s.onServe tr).eventsOff = true := by simp [State.eventsOff, hquiet]
    have hcount : (s.onServe tr).countOff = (s.onServe tr).inc 0x6A1105 :=
      State.countOff_of_quiet (by rwa [State.onServe_quiet]) (by rwa [State.onServe_rd _ _ (by decide) (by decide)])
    obtain ⟨t, hexec, himage, hrd, hsame, hframe⟩ := State.startOnePour_counts h (f := id) (by decide) (by decide) hmode
      hsource ((State.startEvent_off hmakes hoff s.now).trans hcount)
    exact ⟨t, hexec, hrd, hsame, by rw [hframe, himage]; rfl⟩

end Sys2Proof.Machine
end

section
/-!
PROOFS. The start events that start a pour (O15).
-/
namespace Sys2Proof.Machine

/-! ### The four makers of a start event (O15) -/

/-- The host's write starts a pour at once (R62). -/
theorem State.startOnePour_accepts {tr : Transport} {s : State} (h : s.admits ⟨tr, 0x210007, 1, 1⟩)
    (hmode : s.rd 0x210001 = 0) (hsource : s.rd 0x210002 = 5) (htakes : s.takesPour s.now) :
    ∃ t, exec (.startOnePour tr 1) s = .next t ∧ t.answer.abort = 0 ∧ pourAccepted s t s.now := by
  have hk : (⟨tr, 0x210007, 1, 1⟩ : Txn).key ≠ 0x102009 := by simp
  have he : State.startOnePour 1 (s.onServe tr) = (s.onServe tr).acceptPour s.now := by
    rw [State.onServe_startOnePour hmode hsource, State.startEvent_of_takesPour ((s.onServe_takesPour tr _).mpr htakes)]
  obtain ⟨⟨-, -, hq⟩, -⟩ := htakes
  obtain ⟨haccepted, haside⟩ := pourAccepted_of_scene (t := s.hostWrite ⟨tr, 0x210007, 1, 1⟩ (State.startOnePour 1))
    hq (s.onServe_scene tr) (by rw [State.hostWrite_eq_counted1 h hk, he, State.counted1_scene])
  exact ⟨_, exec_startOnePour tr s, by rw [← State.scene_answer, haside], haccepted⟩

/-- A held event is accepted at the earliest instant that keeps the schedule, and how long it was held is kept (R64). -/
theorem State.heldStartEvent_accepts {s : State} {h : Held} (hheld : s.image.held = some h) (hq : s.stage.queue = [])
    (hdue : s.startAt s.dict h.at_ ≤ s.now) :
    ∃ t, exec .heldStartEventAccept s = .next t ∧ pourAccepted s t (s.startAt s.dict h.at_) ∧
      t.rd 0x210105 = min 0xFFFFFFFF (max (s.rd 0x210105) ((s.startAt s.dict h.at_ - h.at_) / 57)) := by
  generalize hx : s.startAt s.dict h.at_ = x at hdue ⊢
  generalize hlong : min 0xFFFFFFFF (max (s.rd 0x210105) ((x - h.at_) / 57)) = longest
  have hexec : exec .heldStartEventAccept s = .next ((s.wr 0x210105 longest).acceptPour x) := by
    change execHeldStartEventAccept s = _
    simp [execHeldStartEventAccept, hheld, State.markBoundary_of_queue_nil hq, State.modeWaits_of_queue_nil hq,
      State.valuesAtBoundary_of_queue_nil hq, hx, hdue, hlong]
  have hwr : (s.wr 0x210105 longest).scene = { s.scene with aside := { s.scene.aside with longest := longest } } := by
    simp [State.scene]
  obtain ⟨haccepted, haside⟩ := pourAccepted_of_scene (t := (s.wr 0x210105 longest).acceptPour x) hq hwr rfl
  exact ⟨_, hexec, haccepted, by rw [← State.scene_longest, haside]⟩

/-- The free-running source starts a pour at its due instant (R65). -/
theorem State.freeRunStartEvent_accepts {s : State} {x : Instant} (hx : s.freeRunAt = some x) (hdue : x ≤ s.now)
    (htakes : s.takesEvents) : ∃ t, exec .freeRunStartEvent s = .next t ∧ pourAccepted s t x := by
  obtain ⟨hmakes, hoff, hq⟩ := htakes
  have hexec : exec .freeRunStartEvent s = .next (s.acceptPour x) := by
    change execFreeRunStartEvent s = _
    simp [execFreeRunStartEvent, hx, hdue, hmakes, hoff, State.markBoundary_of_queue_nil hq, State.modeWaits_of_queue_nil hq]
  exact ⟨_, hexec, (pourAccepted_of_scene (t := s.acceptPour x) (a := s.scene.aside) hq rfl rfl).1⟩

/-- The input levels after an edge of a TRIG pin. -/
def Timing.trigEdge (pin : Nat) (level : Bool) (t : Timing) : Timing :=
  { t with pins := setNth t.pins (3 + pin) level, trig := setNth t.trig pin level }

/-- An edge of the chosen pin and sense in area mode is a start event at the first sample of the filter (R62). -/
theorem State.trigPinEdge_event {s : State} {pin : Nat} {level : Bool} (hclk : s.timing.clk100 = true)
    (hnew : nth s.timing.trig pin level ≠ level) (hmode : s.rd 0x210001 = 0) (hsource : s.rd 0x210002 = 3)
    (hnumber : s.rd 0x210003 = pin) (hsense : s.rd 0x210004 = if level then 0 else 1) :
    exec (.trigPinEdge pin level) s = .next ((s.onTiming (Timing.trigEdge pin level)).startEvent (s.now - tickUnits)) := by
  have hedge : ((s.rd 0x210004 == 0) == level) = true := by cases level <;> simp [hsense]
  change execTrigPinEdge pin level s = _
  unfold execTrigPinEdge
  extract_lets seen edged sense
  have hstay : ¬(nth seen.timing.trig pin level = level ∨ (!seen.timing.clk100) = true) := by
    have hclk' : seen.timing.clk100 = true := hclk
    have hnew' : nth seen.timing.trig pin level ≠ level := hnew
    simp [hclk', hnew']
  have hmode' : edged.rd 0x210001 = 0 := hmode
  have hsource' : edged.rd 0x210002 = 3 := hsource
  have hnumber' : edged.rd 0x210003 = pin := hnumber
  have hsense' : sense 0x210004 = true := hedge
  have hevent : edged.sourceEvent 3 pin (edged.now - tickUnits) = edged.startEvent (edged.now - tickUnits) := by
    simp [State.sourceEvent, hmode', hsource', hnumber']
  rw [if_neg hstay, hmode', if_neg Nat.zero_ne_one, if_pos hsense', hevent]
  rfl

/-- Such an edge starts a pour (R62). -/
theorem State.trigPinEdge_accepts {s : State} {pin : Nat} {level : Bool} (hpin : pin < s.timing.trig.length)
    (hclk : s.timing.clk100 = true) (hnew : nth s.timing.trig pin level ≠ level) (hmode : s.rd 0x210001 = 0)
    (hsource : s.rd 0x210002 = 3) (hnumber : s.rd 0x210003 = pin) (hsense : s.rd 0x210004 = if level then 0 else 1)
    (htakes : s.takesPour (s.now - tickUnits)) :
    ∃ t, exec (.trigPinEdge pin level) s = .next t ∧ pourAccepted s t (s.now - tickUnits) ∧
      nth t.timing.trig pin (!level) = level := by
  let u := s.onTiming (Timing.trigEdge pin level)
  have htakes' : u.takesPour (s.now - tickUnits) :=
    (State.takesPour_congr (s := s) (t := u) rfl rfl rfl rfl rfl (s.now - tickUnits)).mpr htakes
  have hu : u.scene = { s.scene with aside := { s.scene.aside with trig := setNth s.timing.trig pin level } } := rfl
  obtain ⟨⟨-, -, hq⟩, -⟩ := htakes
  obtain ⟨haccepted, haside⟩ := pourAccepted_of_scene (t := u.acceptPour (s.now - tickUnits)) hq hu rfl
  refine ⟨_, State.trigPinEdge_event hclk hnew hmode hsource hnumber hsense, ?_⟩
  rw [State.startEvent_of_takesPour (s := u) htakes']
  exact ⟨haccepted, by rw [← State.scene_trig, haside, nth_setNth, if_pos ⟨rfl, hpin⟩]⟩

/-- Settles O15, by who makes the start event. -/
theorem startEventsMakePours : Obligations.StartEventsMakePours := by
  unfold Obligations.StartEventsMakePours
  exact ⟨fun _ _ => State.startOnePour_accepts, fun _ _ => State.heldStartEvent_accepts,
    fun _ _ => State.freeRunStartEvent_accepts, fun _ _ _ => State.trigPinEdge_accepts⟩

end Sys2Proof.Machine
end

section
/-!
PROOFS. Taps (O44): a good tap frame is counted and goes on, and its tap is discarded or scheduled; a scheduled tap leaves the
list at its action time and fires.
-/
namespace Sys2Proof.Machine

/-! ### A good frame at an active part (R226, R229) -/

theorem State.hearFrame_frame (s : State) (f : Frame) : s.hearFrame f = { s with dict := (s.hearFrame f).dict } := by
  unfold State.hearFrame
  dsimp only
  split_ifs <;> rfl

/-- An active part counts the violations of a frame, and no other object. -/
theorem State.hearFrame_same {s : State} (hactive : s.ringActive = true) (f : Frame) :
    sameObjects [0x120103] s (s.hearFrame f) := by
  have hlink : s.rd 0x120002 = 3 := by simpa [State.ringActive] using hactive
  unfold State.hearFrame
  dsimp only
  split
  · exact sameObjects.refl _ _
  · rw [if_neg (by simp [hlink])]
    exact sameObjects_wr s 0x120103 _

/-- An active part acts on a good frame with HOPS below 31, its violations counted. -/
theorem State.frameArrives_good {s : State} {f : Frame} (hactive : s.ringActive = true) (hhops : f.hops < 31)
    (hgood : goodFrame f = true) (act : State → State) : s.frameArrives f act = act (s.hearFrame f) := by
  have hlink : (s.hearFrame f).ringActive = true := by
    unfold State.ringActive
    rwa [State.hearFrame_same hactive f _ (by decide)]
  have hend : f.fin = .eof := by
    simp only [goodFrame, Bool.and_eq_true, beq_iff_eq] at hgood
    exact hgood.1
  have hcount (u : State) : u.countBad f = u := by simp [State.countBad, hend, hgood]
  simp [State.frameArrives, hlink, hcount, hgood, Nat.not_le.mpr hhops]

/-- A forwarded frame leaves or waits, with HOPS one higher and the payload as it came. -/
theorem State.forward_leaves {s u : State} (f : Frame) (hnow : u.now = s.now) (hfree : u.ring.txFree = s.ring.txFree)
    (hins : u.ring.ins = s.ring.ins) (hout : u.ring.out = s.ring.out) :
    frameLeaves s (u.forward f) (withCrc { f with hops := f.hops + 1, viol := 0 }) := by
  unfold frameLeaves State.forward State.sendOut State.onRing
  rw [← hnow, ← hfree, ← hins, ← hout]
  dsimp only
  split
  case isTrue h => exact ⟨rfl, h.2⟩
  case isFalse h => exact ⟨rfl, rfl⟩

/-- Forwarding a frame changes what leaves at RING_OUT and the insertion buffer. -/
theorem State.forward_frame (f : Frame) (s : State) :
    s.forward f = { s with ring := { s.ring with out := (s.forward f).ring.out, ins := (s.forward f).ring.ins } } := by
  unfold State.forward State.sendOut State.onRing
  dsimp only
  split <;> rfl

section
variable (f : Frame) (s : State)

@[simp] theorem State.forward_rd (k : Nat) : (s.forward f).rd k = s.rd k := by rw [State.forward_frame]; rfl
@[simp] theorem State.forward_stage : (s.forward f).stage = s.stage := by rw [State.forward_frame]
@[simp] theorem State.forward_taps : (s.forward f).ring.taps = s.ring.taps := by rw [State.forward_frame]
@[simp] theorem State.forward_lastTapA : (s.forward f).ring.lastTapA = s.ring.lastTapA := by rw [State.forward_frame]

end

/-! ### Counts and events beside the ring's own state (R244, R261) -/

/-- The objects of the event log. -/
def logKeys : List Nat := [0x100101, 0xC00007, 0xC00008]

/-- `q` is `r` but for the part's own frames that wait, and when the last emergency was sent. -/
def Ring.sends (r q : Ring) : Prop := q = { r with tx := q.tx, lastEmerg := q.lastEmerg }

theorem Ring.sends.trans {q r u : Ring} (h1 : q.sends r) (h2 : r.sends u) : q.sends u := by
  unfold Ring.sends at h1 h2 ⊢
  rw [h2, h1]

theorem State.logEntry_sends (s : State) (code : Nat) (data : List Byte) (bit : Option Nat) :
    s.ring.sends (s.logEntry code data bit).ring := by
  unfold State.logEntry
  dsimp only
  split <;> rfl

theorem State.logEvent_sends (s : State) (code : Nat) (data : List Byte) : s.ring.sends (s.logEvent code data).ring := by
  unfold State.logEvent
  extract_lets bit raised
  have hraised : raised.ring = s.ring := by
    clear_value bit
    cases bit <;> rfl
  rw [← hraised]
  split
  · rfl
  · exact raised.logEntry_sends code data bit

/-- `t` is `s` after events that were logged, and writes of the objects `ks`. -/
def State.notes (ks : List Nat) (s t : State) : Prop :=
  sameObjects ks s t ∧ s.ring.sends t.ring ∧ t = { s with dict := t.dict, log := t.log, ring := t.ring }

theorem State.notes.trans {ks ls ms : List Nat} {s t u : State} (h1 : s.notes ks t) (h2 : t.notes ls u) (hk : ks ⊆ ms)
    (hl : ls ⊆ ms) : s.notes ms u := by
  obtain ⟨hsame1, hring1, hframe1⟩ := h1
  obtain ⟨hsame2, hring2, hframe2⟩ := h2
  exact ⟨hsame1.trans hsame2 hk hl, hring1.trans hring2, by rw [hframe2, hframe1]⟩

theorem State.notes.mono {ks ls : List Nat} {s t : State} (h : s.notes ks t) (hk : ks ⊆ ls) : s.notes ls t :=
  ⟨fun k hn => h.1 k fun hm => hn (hk hm), h.2⟩

theorem State.notes_wr (s : State) (k v : Nat) : s.notes [k] (s.wr k v) := ⟨sameObjects_wr s k v, rfl, rfl⟩

theorem State.notes_logEvent (s : State) (code : Nat) (data : List Byte) : s.notes logKeys (s.logEvent code data) :=
  ⟨s.logEvent_same code data, s.logEvent_sends code data, s.logEvent_frame code data⟩

/-! ### A tap arrives (R242, R243) -/

/-- The objects in which a tap is counted and reported: taps, late taps and discarded taps, and the lead. -/
def tapKeys : List Nat := [0x120301, 0x120302, 0x120303, 0x120305]

theorem State.notes_tapCounted (s : State) (lead : Nat) : s.notes tapKeys ((s.inc 0x120301).wr 0x120305 lead) :=
  (s.notes_wr 0x120301 _).trans ((s.inc 0x120301).notes_wr 0x120305 lead) (by simp [tapKeys]) (by simp [tapKeys])

/-- A discarded tap is counted and logged. -/
theorem State.tapArrives_discarded {s : State} {a : Nat} (h : s.tapDiscarded a = true) (act arg : Nat) :
    s.notes (tapKeys ++ logKeys) (s.tapArrives act arg a) ∧
      (s.tapArrives act arg a).rd 0x120301 = countUp (s.rd 0x120301) ∧
      (s.tapArrives act arg a).rd 0x120303 = countUp (s.rd 0x120303) := by
  unfold State.tapArrives
  extract_lets lead counted late
  have hcounted : s.notes tapKeys counted := s.notes_tapCounted _
  have hlog := State.notes_logEvent (counted.inc 0x120303) 0x0607 (leBytes 1 act ++ [0, 0, 0] ++ leBytes 4 a)
  rw [if_pos (show counted.tapDiscarded a = true from h)]
  refine ⟨(hcounted.trans (counted.notes_wr _ _) (List.Subset.refl _) (by simp [tapKeys])).trans hlog
    (List.subset_append_left ..) (List.subset_append_right ..), ?_, ?_⟩
  · rw [hlog.1 _ (by decide)]
    simp [counted, countUp]
  · rw [hlog.1 _ (by decide)]
    simp [counted, countUp]

/-- The event of a tap with the sources that listen to it. -/
def State.tapEvent (act a : Nat) (s : State) : PendingTap :=
  ⟨a, s.rd 0x210002 == 4 && s.rd 0x210008 == act, s.rd 0x340101 == 4 && s.rd 0x340104 == act, act⟩

/-- The event of a tap is scheduled, and its action time reported. -/
def State.scheduleTap (act a : Nat) (s : State) : State :=
  (s.wr 0x120304 a).onRing fun r => { r with lastTapA := some a, taps := r.taps ++ [s.tapEvent act a] }

theorem State.rd_scheduleTap (s : State) (act a k : Nat) :
    (s.scheduleTap act a).rd k = if k = 0x120304 then a else s.rd k := s.rd_wr 0x120304 a k

/-- With no table entry for its action, a tap does no more than schedule its event. -/
theorem State.carryTap_of_no_entry {s : State} {act : Nat} (h : ∀ i < 16, byteOf (s.rd (0x802001 + i)) 0 ≠ act)
    (arg a : Nat) : s.carryTap act arg a = s.scheduleTap act a := by
  have hrd (i : Nat) (hi : i < 16) : (s.scheduleTap act a).rd (0x802001 + i) = s.rd (0x802001 + i) := by
    rw [State.rd_scheduleTap, if_neg (by omega)]
  have hfold (l : List Nat) (hl : ∀ i ∈ l, i < 16) :
      l.foldl (State.tapOperation act arg a) (s.scheduleTap act a) = s.scheduleTap act a := by
    induction l with
    | nil => rfl
    | cons i l ih =>
      have hop : State.tapOperation act arg a (s.scheduleTap act a) i = s.scheduleTap act a := by
        unfold State.tapOperation
        rw [hrd i (hl i List.mem_cons_self), if_pos (h i (hl i List.mem_cons_self))]
      rw [List.foldl_cons, hop, ih fun j hj => hl j (List.mem_cons_of_mem _ hj)]
  have hstart : s.carryTap act arg a = (List.range 16).foldl (State.tapOperation act arg a) (s.scheduleTap act a) := by
    unfold State.carryTap State.scheduleTap State.tapEvent
    simp
  rw [hstart, hfold _ fun i hi => List.mem_range.mp hi]

/-- A tap in time is counted, and scheduled if no table entry names its action. -/
theorem State.tapArrives_scheduled {s : State} {act a : Nat} (h : s.tapDiscarded a = false)
    (hact : ∀ i < 16, byteOf (s.rd (0x802001 + i)) 0 ≠ act) (arg : Nat) :
    ∃ u : State, s.notes (tapKeys ++ logKeys) u ∧ u.rd 0x120301 = countUp (s.rd 0x120301) ∧
      s.tapArrives act arg a = u.scheduleTap act a := by
  unfold State.tapArrives
  extract_lets lead counted late
  have hcounted : s.notes tapKeys counted := s.notes_tapCounted _
  have hlate : s.notes (tapKeys ++ logKeys) late ∧ late.rd 0x120301 = countUp (s.rd 0x120301) := by
    have hcount : counted.rd 0x120301 = countUp (s.rd 0x120301) := by simp [counted, countUp]
    simp only [late]
    split
    · have hlog := State.notes_logEvent (counted.inc 0x120302) 0x0608
        (leBytes 1 act ++ [0, 0, 0] ++ leBytes 4 (ofSigned 32 lead))
      refine ⟨(hcounted.trans (counted.notes_wr _ _) (List.Subset.refl _) (by simp [tapKeys])).trans hlog
        (List.subset_append_left ..) (List.subset_append_right ..), ?_⟩
      rw [hlog.1 _ (by decide), State.rd_inc, if_neg (by decide), hcount]
    · exact ⟨hcounted.mono (List.subset_append_left ..), hcount⟩
  refine ⟨late, hlate.1, hlate.2, ?_⟩
  rw [if_neg (show ¬counted.tapDiscarded a = true by rw [show counted.tapDiscarded a = false from h]; decide)]
  refine State.carryTap_of_no_entry (fun i hi => ?_) arg a
  rw [hlate.1.1 _ (by simp [tapKeys, logKeys]; omega)]
  exact hact i hi

section
variable {s : State} {f : Frame} (hactive : s.ringActive = true)
include hactive

theorem State.hearFrame_rd (k : Nat) (hk : k ≠ 0x120103) : (s.hearFrame f).rd k = s.rd k :=
  State.hearFrame_same hactive f k (by simpa using hk)

variable (hhops : f.hops < 31) (hgood : goodFrame f = true) (hdst : f.dst = 0xFF) (htyp : f.typ = 0x12)
  (hlen : f.payload.length = 16)
include hhops hgood hdst htyp hlen

/-- A good tap frame at an active part is taken, and goes on. -/
theorem State.tap_arrives :
    exec (.tap f) s = .next (((s.hearFrame f).tapArrives (payloadField f.payload 0 1) (payloadField f.payload 4 4)
      (payloadField f.payload 8 8)).forward f) := by
  change execTap f s = _
  unfold execTap
  rw [State.frameArrives_good hactive hhops hgood, if_neg (by simp [hdst, htyp, hlen])]

/-- A discarded tap is counted twice over and changes no list (R242, R243). -/
theorem State.tap_discards (hdiscard : s.tapDiscarded (payloadField f.payload 8 8) = true) :
    ∃ t, exec (.tap f) s = .next t ∧ t.rd 0x120301 = countUp (s.rd 0x120301) ∧ t.rd 0x120303 = countUp (s.rd 0x120303) ∧
      t.ring.taps = s.ring.taps ∧ t.stage = s.stage := by
  have hexec := State.tap_arrives hactive hhops hgood hdst htyp hlen
  generalize payloadField f.payload 8 8 = a at hdiscard hexec
  obtain ⟨⟨-, hring, hframe⟩, hcount, hdropped⟩ := State.tapArrives_discarded (s := s.hearFrame f) (a := a)
    (by rw [State.hearFrame_frame]; exact hdiscard) (payloadField f.payload 0 1) (payloadField f.payload 4 4)
  refine ⟨_, hexec, ?_, ?_, ?_, ?_⟩
  · rw [State.forward_rd, hcount, State.hearFrame_rd hactive _ (by decide)]
  · rw [State.forward_rd, hdropped, State.hearFrame_rd hactive _ (by decide)]
  · rw [State.forward_taps, hring, State.hearFrame_frame]
  · rw [State.forward_stage, hframe, State.hearFrame_frame]

/-- A tap in time goes to the end of the waiting list and on round the ring (R242, R243, R215). -/
theorem State.tap_schedules (hin : s.tapDiscarded (payloadField f.payload 8 8) = false)
    (hact : ∀ i < 16, byteOf (s.rd (0x802001 + i)) 0 ≠ payloadField f.payload 0 1) :
    ∃ t, exec (.tap f) s = .next t ∧ t.rd 0x120301 = countUp (s.rd 0x120301) ∧
      t.rd 0x120304 = payloadField f.payload 8 8 ∧
      t.ring.taps = s.ring.taps ++ [s.tapEvent (payloadField f.payload 0 1) (payloadField f.payload 8 8)] ∧
      t.ring.lastTapA = some (payloadField f.payload 8 8) ∧
      frameLeaves s t (withCrc { f with hops := f.hops + 1, viol := 0 }) ∧ t.stage = s.stage := by
  have hexec := State.tap_arrives hactive hhops hgood hdst htyp hlen
  generalize payloadField f.payload 0 1 = act at hact hexec ⊢
  generalize payloadField f.payload 8 8 = a at hin hexec ⊢
  obtain ⟨u, ⟨hsame, hring, hframe⟩, hcount, harrives⟩ :=
    State.tapArrives_scheduled (s := s.hearFrame f) (act := act) (a := a)
    (by rw [State.hearFrame_frame]; exact hin)
    (fun i hi => by rw [State.hearFrame_rd hactive _ (by omega)]; exact hact i hi) (payloadField f.payload 4 4)
  rw [harrives] at hexec
  have hrd (k : Nat) (hk : k ∉ tapKeys ++ logKeys) (hk' : k ≠ 0x120103) : u.rd k = s.rd k :=
    (hsame k hk).trans (State.hearFrame_rd hactive k hk')
  have hring' : s.ring.sends u.ring := by rw [State.hearFrame_frame] at hring; exact hring
  have hframe' : u = { s with dict := u.dict, log := u.log, ring := u.ring } := by
    rw [State.hearFrame_frame] at hframe; exact hframe
  have hevent : u.tapEvent act a = s.tapEvent act a := by
    unfold State.tapEvent
    rw [hrd _ (by decide) (by decide), hrd _ (by decide) (by decide), hrd _ (by decide) (by decide),
      hrd _ (by decide) (by decide)]
  have hnow : u.now = s.now := by rw [hframe']
  have hstage : u.stage = s.stage := by rw [hframe']
  have htaps : u.ring.taps = s.ring.taps := by rw [hring']
  have hfree : u.ring.txFree = s.ring.txFree := by rw [hring']
  have hins : u.ring.ins = s.ring.ins := by rw [hring']
  have hout : u.ring.out = s.ring.out := by rw [hring']
  refine ⟨_, hexec, ?_, ?_, ?_, by rw [State.forward_lastTapA]; rfl, State.forward_leaves f hnow hfree hins hout, ?_⟩
  · rw [State.forward_rd, State.rd_scheduleTap, if_neg (by decide), hcount, State.hearFrame_rd hactive _ (by decide)]
  · rw [State.forward_rd, State.rd_scheduleTap, if_pos rfl]
  · rw [State.forward_taps, ← htaps, ← hevent]; rfl
  · rw [State.forward_stage, ← hstage]; rfl

end

theorem State.imaging_of_makesPours {s : State} (h : s.makesPours = true) : s.imaging = true := by
  simp only [State.makesPours, Bool.and_eq_true] at h
  exact h.1

/-! ### A tap fires (R62, R85, R242) -/

/-- The first scheduled tap leaves the list. -/
def State.dropTap (l : List PendingTap) (s : State) : State := s.onRing fun r => { r with taps := l }

@[simp] theorem State.dropTap_now (l : List PendingTap) (s : State) : (s.dropTap l).now = s.now := rfl

@[simp] theorem State.dropTap_position (l : List PendingTap) (s : State) : (s.dropTap l).position = s.position := rfl

section
variable {x : PendingTap} {l : List PendingTap} {s : State} (htaps : s.ring.taps = x :: l) (hdue : x.at_ ≤ s.ringTime)
include htaps hdue

/-- At its action time the first tap leaves the list and its events occur. -/
theorem State.tapActionTime_due :
    exec .tapActionTime s = .next (if s.imaging then State.tapFires x (s.dropTap l) else s.dropTap l) := by
  have hfind : s.ring.taps.find? (fun t => t.at_ ≤ s.ringTime) = some x := by simp [htaps, hdue]
  have hdrop : (s.onRing fun r => { r with taps := r.taps.erase x }) = s.dropTap l := by
    simp [State.dropTap, State.onRing, htaps]
  change execTapActionTime s = _
  simp only [execTapActionTime, hfind, hdrop]
  rfl

/-- A tap that no source listens to does nothing else. -/
theorem State.tapActionTime_unheard (hpour : x.pour = false) (hline : x.line = false) :
    exec .tapActionTime s = .next { s with ring := { s.ring with taps := l } } := by
  have hfires : State.tapFires x (s.dropTap l) = s.dropTap l := by simp [State.tapFires, hpour, hline]
  rw [State.tapActionTime_due htaps hdue, hfires, ite_self]
  rfl

/-- The pour source that listens starts a pour. -/
theorem State.tapActionTime_pour (hpour : x.pour = true) (hline : x.line = false) (hmode : s.rd 0x210001 = 0)
    (hsource : s.rd 0x210002 = 4) (haction : s.rd 0x210008 = x.act) (htakes : s.takesPour s.now) :
    ∃ t, exec .tapActionTime s = .next t ∧ t.ring.taps = l ∧ pourAccepted s t s.now := by
  have htakes' : (s.dropTap l).takesPour s.now :=
    (State.takesPour_congr (s := s) (t := s.dropTap l) rfl rfl rfl rfl rfl s.now).mpr htakes
  have hmode' : (s.dropTap l).rd 0x210001 = 0 := hmode
  have hsource' : (s.dropTap l).rd 0x210002 = 4 := hsource
  have haction' : (s.dropTap l).rd 0x210008 = x.act := haction
  have hfires : State.tapFires x (s.dropTap l) = (s.dropTap l).acceptPour s.now := by
    rw [← State.startEvent_of_takesPour htakes']
    simp [State.tapFires, hpour, hline, hmode', hsource', haction']
  have hscene : (s.dropTap l).scene = { s.scene with aside := { s.scene.aside with taps := l } } := rfl
  obtain ⟨⟨hmakes, -, hq⟩, -⟩ := htakes
  obtain ⟨haccepted, haside⟩ := pourAccepted_of_scene (t := (s.dropTap l).acceptPour s.now) hq hscene rfl
  refine ⟨_, State.tapActionTime_due htaps hdue, ?_⟩
  rw [if_pos (State.imaging_of_makesPours hmakes), hfires]
  exact ⟨by rw [← State.scene_taps, haside], haccepted⟩

/-- The line source that listens makes a line. -/
theorem State.tapActionTime_line (hpour : x.pour = false) (hline : x.line = true) (hmode : s.tdiMode = true)
    (hsource : s.rd 0x340101 = 4) (haction : s.rd 0x340104 = x.act) (htakes : s.takesEvents) :
    ∃ t, exec .tapActionTime s = .next t ∧ t.ring.taps = l ∧ lineAccepted s t s.now s.position := by
  have htakes' : (s.dropTap l).takesEvents :=
    (State.takesEvents_congr (s := s) (t := s.dropTap l) rfl rfl rfl rfl).mpr htakes
  have hmode' : (s.dropTap l).tdiMode = true := hmode
  have hsource' : (s.dropTap l).rd 0x340101 = 4 := hsource
  have haction' : (s.dropTap l).rd 0x340104 = x.act := haction
  have hfires : State.tapFires x (s.dropTap l) = ((s.dropTap l).lineBoundary s.now s.position).settlePours := by
    rw [← State.lineTrigger_of_takesEvents htakes']
    simp [State.tapFires, hpour, hline, hmode', hsource', haction']
  have hscene : (s.dropTap l).scene = { s.scene with aside := { s.scene.aside with taps := l } } := rfl
  obtain ⟨hmakes, -, hq⟩ := htakes
  obtain ⟨haccepted, haside⟩ := lineAccepted_of_scene
    (t := ((s.dropTap l).lineBoundary s.now s.position).settlePours) hq hscene rfl
  refine ⟨_, State.tapActionTime_due htaps hdue, ?_⟩
  rw [if_pos (State.imaging_of_makesPours hmakes), hfires]
  exact ⟨by rw [← State.scene_taps, haside], haccepted⟩

end

/-- Settles O44: how a tap frame is taken, and what a scheduled tap does at its action time. -/
theorem tapsAreScheduledAndFire : Obligations.TapsAreScheduledAndFire := by
  unfold Obligations.TapsAreScheduledAndFire
  refine ⟨fun f s hactive hhops hgood hdst htyp hlen => ⟨State.tap_discards hactive hhops hgood hdst htyp hlen,
    fun hin hact => ?_⟩, fun x l s htaps hdue => ⟨State.tapActionTime_pour htaps hdue, State.tapActionTime_line htaps hdue,
    State.tapActionTime_unheard htaps hdue⟩⟩
  obtain ⟨t, hexec, hcount, haction, htaps, hlast, hleaves, hstage⟩ :=
    State.tap_schedules hactive hhops hgood hdst htyp hlen hin hact
  exact ⟨t, _, hexec, hcount, haction, htaps, rfl, rfl, hlast, rfl, rfl, ⟨_, hleaves, rfl, rfl⟩, hstage⟩

end Sys2Proof.Machine
end

section
/-!
PROOFS. The instant set for the next free-running line (O18, R92): admission and drops leave TDI's own state alone, what sends or
drops web lines changes other fields of it, and a line boundary clears it.
-/
namespace Sys2Proof.Machine

/-! ### Admission and drops (R183, R184, R316) -/

/-- What every step of a fold keeps, the fold keeps. -/
theorem foldl_keeps {α β γ : Type} (g : β → γ) (f : β → α → β) (h : ∀ b a, g (f b a) = g b) (l : List α) (b : β) :
    g (l.foldl f b) = g b :=
  (List.foldl_hom g fun b a => (h b a).symm).symm.trans (List.foldl_fixed l)

section
variable (s : State)

@[simp] theorem State.headDropped_tdi (sp : Nat) : (s.headDropped sp).tdi = s.tdi := by
  unfold State.headDropped; split <;> rfl

@[simp] theorem State.notice_tdi (stamps : Packet) (f : Nat) : (s.notice stamps f).tdi = s.tdi := by
  simp [State.notice, apply_ite State.tdi]

@[simp] theorem State.recordDrop_tdi (key : Nat) (stamps : Packet) (flasks : List Nat) :
    (s.recordDrop key stamps flasks).tdi = s.tdi := by
  unfold State.recordDrop
  refine (foldl_keeps State.tdi _ (fun s f => s.notice_tdi stamps f) flasks _).trans ?_
  simp [apply_ite State.tdi]

@[simp] theorem State.dropPour_tdi (key : Nat) (t : TPour) : (s.dropPour key t).tdi = s.tdi := by
  unfold State.dropPour
  refine (State.recordDrop_tdi ..).trans ?_
  simp [apply_ite State.tdi, foldl_keeps State.tdi _ (fun s sp => s.headDropped_tdi sp)]

@[simp] theorem State.makeRoom_tdi (sizes : List Nat) (n : Nat) : (s.makeRoom sizes n).tdi = s.tdi := by
  induction n generalizing s with
  | zero => rfl
  | succ n ih =>
    unfold State.makeRoom
    split
    · rfl
    · split
      · rfl
      · rw [ih, State.dropPour_tdi]

@[simp] theorem State.beginHold_tdi (idx : Nat) : (s.beginHold idx).tdi = s.tdi := by
  unfold State.beginHold; split <;> rfl

@[simp] theorem State.admitPour_tdi (stamps : Packet) (planes rows : Nat) (cells : List Nat) :
    (s.admitPour stamps planes rows cells).1.tdi = s.tdi := by
  simp [State.admitPour, State.markBooked, apply_ite Prod.fst, apply_ite State.tdi]

@[simp] theorem State.complete_tdi (p : Packet) : (s.complete p).tdi = s.tdi := by
  unfold State.complete; split <;> rfl

/-! ### Web lines (R99, R100) -/

theorem State.offerWeb_freeAt (rstrt : Bool) (r : State × List Packet) (w : WebLine) :
    (State.offerWeb rstrt r w).1.tdi.freeAt = r.1.tdi.freeAt := by
  simp [State.offerWeb, apply_ite Prod.fst, apply_ite State.tdi, apply_ite Tdi.freeAt]

@[simp] theorem State.sendWebs_freeAt (ws : List WebLine) (rstrt : Bool) :
    (s.sendWebs ws rstrt).tdi.freeAt = s.tdi.freeAt := by
  rw [State.sendWebs, foldl_keeps State.tdi _ State.complete_tdi]
  exact foldl_keeps (fun r => r.1.tdi.freeAt) _ (State.offerWeb_freeAt rstrt) ws (s, [])

@[simp] theorem State.dropWeb_freeAt (w : WebLine) : (s.dropWeb w).tdi.freeAt = s.tdi.freeAt := by
  simp [State.dropWeb]

@[simp] theorem State.bookBand_freeAt (n b : Nat) : (s.bookBand n b).tdi.freeAt = s.tdi.freeAt := by
  unfold State.bookBand
  dsimp only
  split
  · rfl
  · split
    · exact s.dropWeb_freeAt _
    · rfl

@[simp] theorem State.finishLine_freeAt (n : Nat) : (s.finishLine n).tdi.freeAt = s.tdi.freeAt := by
  have hbands := foldl_keeps (fun s : State => s.tdi.freeAt) (State.bookBand n) (fun s b => s.bookBand_freeAt n b)
    (bandsOn s.tdi.cfg) s
  unfold State.finishLine
  dsimp only
  split
  · rfl
  · split
    · exact hbands
    · exact (State.sendWebs_freeAt ..).trans hbands

theorem State.finishPours_freeAt (n : Nat) : (s.finishPours n).tdi.freeAt = s.tdi.freeAt := by
  induction n generalizing s with
  | zero => rfl
  | succ n ih =>
    match hp : s.image.pours with
    | [] => simp only [State.finishPours, hp]
    | p :: l =>
      rw [State.finishPours_succ n hp]
      split
      · rw [ih]
        split
        · rfl
        · exact State.finishLine_freeAt ..
      · rfl

/-! ### The boundary of a line (R87, R92) -/

theorem State.fixTemp_tdi : s.fixTemp.1.tdi = s.tdi := by
  simp [State.fixTemp, apply_ite State.tdi]

@[simp] theorem State.newPour_tdi (area : Bool) (t : Instant) (enc phase : Nat) :
    (s.newPour area t enc phase).1.tdi = s.tdi := s.fixTemp_tdi

/-- A line boundary leaves no instant set: the next free-running line follows from its interval. -/
theorem State.lineBoundary_freeAt (t : Instant) (enc : Nat) : (s.lineBoundary t enc).tdi.freeAt = none := by
  unfold State.lineBoundary
  extract_lets idx handed reserved restarted placed boundary d rows
  have hboundary : boundary.tdi.freeAt = none := rfl
  clear_value boundary
  simp [apply_ite State.tdi, State.bookOverspeed, hboundary]

end

end Sys2Proof.Machine
end

section
/-!
PROOFS. Line triggers that make a line (O18): the write of the host and the free-running source.
-/
namespace Sys2Proof.Machine

/-! ### What an admitted write leaves (R254) -/

section admitted
variable {s : State} {w : Txn} (h : s.admits w) (hk : w.key ≠ 0x102009) (eff : State → State)
include h hk

theorem State.hostWrite_scene : (s.hostWrite w eff).scene = (eff (s.onServe w.tr)).scene := by
  rw [State.hostWrite_eq_counted1 h hk, State.counted1_scene]

theorem State.hostWrite_tdi : (s.hostWrite w eff).tdi = (eff (s.onServe w.tr)).tdi := by
  rw [State.hostWrite_eq_counted1 h hk, State.counted1_tdi]

variable {eff}

/-- An admitted write whose effect refuses it is only counted. -/
theorem State.hostWrite_of_refuse {c : Nat} (he : eff (s.onServe w.tr) = (s.onServe w.tr).refuse c) :
    (s.hostWrite w eff).answer.abort = c ∧ sameObjects (accessCounters w.tr) s (s.hostWrite w eff) ∧
      s.hostWrite w eff = { s with dict := (s.hostWrite w eff).dict, answer := (s.hostWrite w eff).answer } := by
  refine ⟨?_, State.hostWrite_same h hk eff (ks := []) ?_, ?_⟩
  · rw [State.hostWrite_answer h hk, he]; rfl
  · rw [he]; exact sameObjects.refl _ _
  · rw [State.hostWrite_eq_counted1 h hk, he, State.counted1_frame, State.refuse, State.onServe_frame]

/-- An admitted write whose effect lies in TDI's own state is else only counted. -/
theorem State.hostWrite_of_onTdi {f : Tdi → Tdi} (he : eff (s.onServe w.tr) = (s.onServe w.tr).onTdi f) :
    sameObjects (accessCounters w.tr) s (s.hostWrite w eff) ∧
      s.hostWrite w eff =
        { s with dict := (s.hostWrite w eff).dict, answer := (s.hostWrite w eff).answer, tdi := f s.tdi } := by
  refine ⟨State.hostWrite_same h hk eff (ks := []) ?_, ?_⟩
  · rw [he]; exact sameObjects.refl _ _
  · rw [State.hostWrite_eq_counted1 h hk, he, State.counted1_frame, State.onServe_frame]
    rfl

end admitted

/-! ### The write that makes a line (R85, R105) -/

theorem exec_makeOneLine (tr : Transport) (s : State) :
    exec (.makeOneLine tr 1) s = .next (s.hostWrite ⟨tr, 0x340106, 1, 1⟩ (State.makeOneLine 1)) := rfl

theorem State.onServe_position (s : State) (tr : Transport) : (s.onServe tr).position = s.position :=
  s.onServe_rd tr (by decide) (by decide)

/-- The write makes a line now, at the present position. -/
theorem State.makeOneLine_accepts {tr : Transport} {s : State} (h : s.admits ⟨tr, 0x340106, 1, 1⟩)
    (hmode : s.rd 0x210001 = 1) (hsource : s.rd 0x340101 = 5) (htakes : s.takesEvents) :
    ∃ t, exec (.makeOneLine tr 1) s = .next t ∧ t.answer.abort = 0 ∧ lineAccepted s t s.now s.position := by
  have hmode' : (s.onServe tr).rd 0x210001 = 1 := by rwa [State.onServe_rd _ _ (by decide) (by decide)]
  have hsource' : (s.onServe tr).rd 0x340101 = 5 := by rwa [State.onServe_rd _ _ (by decide) (by decide)]
  have he : (s.onServe tr).makeOneLine 1 = ((s.onServe tr).lineBoundary s.now s.position).settlePours := by
    rw [← State.lineTrigger_of_takesEvents ((s.onServe_takesEvents tr).mpr htakes)]
    simp [State.makeOneLine, hmode', hsource', State.onServe_position]
  obtain ⟨-, -, hq⟩ := htakes
  obtain ⟨haccepted, haside⟩ := lineAccepted_of_scene (t := s.hostWrite ⟨tr, 0x340106, 1, 1⟩ (State.makeOneLine 1)) hq
    (s.onServe_scene tr) (by rw [State.hostWrite_scene h (by simp), he])
  exact ⟨_, exec_makeOneLine tr s, by rw [← State.scene_answer, haside], haccepted⟩

/-- With any source but 5 the write is refused. -/
theorem State.makeOneLine_refuses {tr : Transport} {s : State} (h : s.admits ⟨tr, 0x340106, 1, 1⟩)
    (hsource : s.rd 0x340101 ≠ 5) :
    ∃ t, exec (.makeOneLine tr 1) s = .next t ∧ t.answer.abort = abortValue ∧ sameObjects (accessCounters tr) s t ∧
      t = { s with dict := t.dict, answer := t.answer } := by
  have hsource' : (s.onServe tr).rd 0x340101 ≠ 5 := by rwa [State.onServe_rd _ _ (by decide) (by decide)]
  exact ⟨_, exec_makeOneLine tr s, State.hostWrite_of_refuse h (by simp) (if_pos hsource')⟩

/-! ### The free-running source (R85, R92) -/

/-- The free-running source makes a line at its due instant. -/
theorem State.freeRunLineTrigger_accepts {s : State} {x : Instant} (hx : s.freeLineAt = some x) (hdue : x ≤ s.now)
    (htakes : s.takesEvents) :
    ∃ t, exec .freeRunLineTrigger s = .next t ∧ lineAccepted s t x (s.stampAt x).2.1 ∧ t.tdi.freeAt = none := by
  have hline := State.lineTrigger_of_takesEvents htakes x (s.stampAt x).2.1
  obtain ⟨-, hoff, hq⟩ := htakes
  have hexec : exec .freeRunLineTrigger s = .next (s.lineBoundary x (s.stampAt x).2.1).settlePours := by
    change execFreeRunLineTrigger s = _
    simp [execFreeRunLineTrigger, hx, hdue, hoff, State.markBoundary_of_queue_nil hq, State.modeWaits_of_queue_nil hq, hline]
  obtain ⟨haccepted, -⟩ := lineAccepted_of_scene (t := (s.lineBoundary x (s.stampAt x).2.1).settlePours)
    (a := s.scene.aside) hq rfl rfl
  refine ⟨_, hexec, haccepted, ?_⟩
  rw [State.settlePours, State.finishPours_freeAt, State.lineBoundary_freeAt]

/-- Settles O18, by who makes the line trigger. -/
theorem lineTriggersMakeLines : Obligations.LineTriggersMakeLines := by
  unfold Obligations.LineTriggersMakeLines
  exact ⟨fun _ _ => State.makeOneLine_accepts, fun _ _ => State.freeRunLineTrigger_accepts,
    fun _ _ => State.makeOneLine_refuses⟩

end Sys2Proof.Machine
end

section
/-!
PROOFS. The TDI restart that the host asks for (O19).
-/
namespace Sys2Proof.Machine

theorem exec_restartTdi (tr : Transport) (s : State) :
    exec (.restartTdi tr 1) s = .next (s.hostWrite ⟨tr, 0x344003, 1, 1⟩ State.askRestart) :=
  congrArg Host.Outcome.next (s.hostCommand_one tr 0x344003 State.askRestart)

/-- A restart with no origin leaves no web line and no accumulator. -/
theorem State.tdiRestart_none_tdi (s : State) :
    (s.tdiRestart none).tdi.origin = none ∧ (s.tdiRestart none).tdi.accs = [] ∧ (s.tdiRestart none).tdi.webs = [] ∧
      (s.tdiRestart none).tdi.restartReq = false := ⟨rfl, rfl, rfl, rfl⟩

theorem State.askRestart_area {s : State} (hmode : s.rd 0x210001 = 0) : s.askRestart = s.onTdi id := by
  simp [State.askRestart, hmode, State.onTdi]

theorem State.askRestart_sourceOff {s : State} (hmode : s.rd 0x210001 = 1) (hsource : s.rd 0x340101 = 0) :
    s.askRestart = s.tdiRestart none := by
  simp [State.askRestart, hmode, hsource]

theorem State.askRestart_sourceOn {s : State} (hmode : s.rd 0x210001 = 1) (hsource : s.rd 0x340101 ≠ 0) :
    s.askRestart = s.onTdi fun x => { x with restartReq := true } := by
  simp [State.askRestart, hmode, hsource]

/-- Settles O19, by readout mode and line source. -/
theorem tdiRestartClosesTheWebLines : Obligations.TdiRestartClosesTheWebLines := by
  unfold Obligations.TdiRestartClosesTheWebLines
  intro tr s h
  have hk : (⟨tr, 0x344003, 1, 1⟩ : Txn).key ≠ 0x102009 := by simp
  have hmode : (s.onServe tr).rd 0x210001 = s.rd 0x210001 := s.onServe_rd tr (by decide) (by decide)
  have hsource : (s.onServe tr).rd 0x340101 = s.rd 0x340101 := s.onServe_rd tr (by decide) (by decide)
  rw [exec_restartTdi, ← hmode, ← hsource]
  refine ⟨fun htdi hoff => ?off, fun htdi hon => ?on, fun harea => ?area⟩
  case off =>
    have he := State.askRestart_sourceOff htdi hoff
    have hscene := (State.hostWrite_scene h hk State.askRestart).trans
      ((congrArg State.scene he).trans (State.tdiRestart_scene ..))
    have htdi := (State.hostWrite_tdi h hk State.askRestart).trans (congrArg State.tdi he)
    refine ⟨_, rfl, ?_, ?_⟩
    · rw [← State.scene_answer, hscene]; rfl
    · obtain ⟨horigin, haccs, hwebs, hreq⟩ := (s.onServe tr).tdiRestart_none_tdi
      rw [htdi]
      exact ⟨horigin, haccs, hwebs, hreq, (congrArg Scene.mram hscene).trans (s.onServe_mram tr)⟩
  case on =>
    obtain ⟨hsame, hframe⟩ := State.hostWrite_of_onTdi h hk (State.askRestart_sourceOn htdi hon)
    have htdi := congrArg State.tdi hframe
    exact ⟨_, rfl, htdi, hsame, by rwa [htdi]⟩
  case area =>
    obtain ⟨hsame, hframe⟩ := State.hostWrite_of_onTdi h hk (State.askRestart_area harea)
    exact ⟨_, rfl, hsame, hframe⟩

end Sys2Proof.Machine
end

section
/-!
PROOFS. The foreground self-calibration (O28): what starts it or refuses it, and the result of a run in which no converter fails
(R113 to R115, R353).
-/
namespace Sys2Proof.Machine

/-! ### The start (R113, R115, R353) -/

/-- The conditions of R115 and R353 for a start: both sources off, no row to read or convert, and nothing else in progress. -/
def State.selfCalFree (s : State) : Prop :=
  s.rd 0x210002 = 0 ∧ s.rd 0x340101 = 0 ∧ s.rowsToConvert = false ∧ s.conv.calAt = none ∧
    s.corr.cal = none ∧ s.corr.mapWrite = none ∧ s.therm.quench = false

theorem State.hostSelfCal_of_free {s : State} (h : s.selfCalFree) : s.hostSelfCal = s.startSelfCal false := by
  obtain ⟨harea, hline, hrows, hself, hcal, hmap, hquench⟩ := h
  simp [State.hostSelfCal, State.calRunning, State.mapCommitting, harea, hline, hrows, hself, hcal, hmap, hquench]

theorem State.hostSelfCal_of_not_free {s : State} (h : ¬s.selfCalFree) : s.hostSelfCal = s.refuse abortState := by
  refine if_pos (by_contra fun hn => h ?_)
  simp only [State.calRunning, State.mapCommitting, not_or, Classical.not_not, Bool.not_eq_true,
    Option.isSome_eq_false_iff, Option.isNone_iff_eq_none] at hn
  exact hn

/-- Counting a committed two-wire transaction touches none of the conditions. -/
theorem State.onServe_selfCalFree (s : State) (tr : Transport) : (s.onServe tr).selfCalFree ↔ s.selfCalFree := by
  unfold State.selfCalFree
  rw [State.onServe_rd _ _ (by decide) (by decide), State.onServe_rd _ _ (by decide) (by decide), State.onServe_frame]
  rfl

theorem exec_foregroundSelfCalibration (tr : Transport) (s : State) :
    exec (.foregroundSelfCalibration tr 1) s = .next (s.hostWrite ⟨tr, 0x300101, 1, 1⟩ State.hostSelfCal) :=
  congrArg Host.Outcome.next (s.hostCommand_one tr 0x300101 State.hostSelfCal)

/-- An admitted write on an idle image path begins the run now. -/
theorem State.foregroundSelfCalibration_begins {tr : Transport} {s : State} (h : s.admits ⟨tr, 0x300101, 1, 1⟩)
    (hfree : s.selfCalFree) :
    ∃ t, exec (.foregroundSelfCalibration tr 1) s = .next t ∧ t.answer.abort = 0 ∧ t.rd 0x300102 = 1 ∧
      t.conv = { s.conv with calAt := some s.now, startup := false, rerun := false } ∧
      sameObjects ([0x300102] ++ accessCounters tr) s t ∧
      t = { s with dict := t.dict, answer := t.answer, conv := t.conv } := by
  have hk : (⟨tr, 0x300101, 1, 1⟩ : Txn).key ≠ 0x102009 := by simp
  have he := State.hostSelfCal_of_free ((s.onServe_selfCalFree tr).mpr hfree)
  have hconv : (s.hostWrite ⟨tr, 0x300101, 1, 1⟩ State.hostSelfCal).conv =
      { s.conv with calAt := some s.now, startup := false, rerun := false } := by
    rw [State.hostWrite_eq_counted1 h hk, State.counted1_conv, he, State.onServe_frame]
    rfl
  refine ⟨_, exec_foregroundSelfCalibration tr s, ?_, ?_, hconv, State.hostWrite_same h hk _ ?_, ?_⟩
  · rw [State.hostWrite_answer h hk, he]
    rfl
  · rw [State.rd_hostWrite h hk _ (by decide) (by decide), he]
    simp [State.startSelfCal]
  · rw [he]
    exact (sameObjects_wr _ 0x300102 1).of_dict rfl
  · rw [hconv, State.hostWrite_eq_counted1 h hk, State.counted1_frame, he, State.onServe_frame]
    rfl

/-- With any condition not met, the write is refused. -/
theorem State.foregroundSelfCalibration_refused {tr : Transport} {s : State} (h : s.admits ⟨tr, 0x300101, 1, 1⟩)
    (hbusy : ¬s.selfCalFree) :
    ∃ t, exec (.foregroundSelfCalibration tr 1) s = .next t ∧ t.answer.abort = abortState ∧
      sameObjects (accessCounters tr) s t ∧ t = { s with dict := t.dict, answer := t.answer } :=
  ⟨_, exec_foregroundSelfCalibration tr s, State.hostWrite_of_refuse h (by simp)
    (State.hostSelfCal_of_not_free ((s.onServe_selfCalFree tr).not.mpr hbusy))⟩

/-! ### The result (R113, R114) -/

theorem measureFails_measureOf {l : List ConvMeasure} (h : failedConverters l = []) {i : Nat} (hi : i < 260) :
    measureFails (measureOf l i) = false := by
  simpa using List.filter_eq_nil_iff.mp h i (List.mem_range.mpr hi)

theorem nth_of_lt {α : Type} {l : List α} {i : Nat} (h : i < l.length) (d : α) : nth l i d = l[i] :=
  (List.getElem_eq_getD d).symm

theorem nth_map_const {α β : Type} (l : List α) (b : β) (i : Nat) : nth (l.map fun _ => b) i b = b := by
  rw [List.map_const', nth_replicate_self]

/-- A converter that does not fail takes what it measured. -/
theorem nth_newSets {α : Type} {l : List ConvMeasure} (f : ConvMeasure → α) {old : List α} {i : Nat} (hi : i < old.length)
    (hpass : measureFails (measureOf l i) = false) (d : α) : nth (newSets l f old) i d = f (measureOf l i) := by
  rw [nth_of_lt (by simpa [newSets] using hi)]
  simp [newSets, hpass]

/-- The converters after the result: new factor sets, all trims 0, and no trim period under way. -/
def Conv.calibrated (l : List ConvMeasure) (c : Conv) : Conv :=
  { c with
    weights := newSets l ConvMeasure.weights c.weights
    gains := newSets l ConvMeasure.gain c.gains
    offsets := newSets l ConvMeasure.offset c.offsets
    gtrims := c.gtrims.map fun _ => 0
    otrims := c.otrims.map fun _ => 0
    pendG := c.pendG.map fun _ => none
    pendO := c.pendO.map fun _ => none
    sums := c.sums.map fun _ => ⟨0, 0, 0, 0⟩
    slots := 0
    calAt := none
    startup := false
    freshL := true
    freshR := true }

/-- A result in which no converter fails: status 2, no converter reported, no drift flag, no pour counted. -/
def State.postPass (l : List ConvMeasure) (s : State) : State :=
  ((((((s.onConv (Conv.calibrated l)).wr 0x301101 0).wr 0x300104 0).wr 0x300102 2).wr 0x300103 0)).onPower
    fun p => { p with selfCalDone := true }

theorem State.selfCalibrationResult_early {s : State} {x : Instant} (hx : s.conv.calAt = some x) (h : s.now < x + ms 38)
    (l : List ConvMeasure) : exec (.selfCalibrationResult l) s = .next s := by
  change execSelfCalibrationResult l s = _
  simp [execSelfCalibrationResult, hx, h]

theorem State.selfCalibrationResult_pass {s : State} {x : Instant} (hx : s.conv.calAt = some x) (h : x + ms 38 ≤ s.now)
    {l : List ConvMeasure} (hl : failedConverters l = []) :
    exec (.selfCalibrationResult l) s =
      .next (if s.conv.startup then (s.postPass l).startLoop else s.postPass l) := by
  change execSelfCalibrationResult l s = _
  simp only [execSelfCalibrationResult, hx, if_neg (Nat.not_lt.mpr h), hl, if_true]
  rfl

theorem State.rd_postPass (s : State) (l : List ConvMeasure) (k : Nat) :
    (s.postPass l).rd k =
      if k = 0x300103 ∨ k = 0x300104 ∨ k = 0x301101 then 0 else if k = 0x300102 then 2 else s.rd k := by
  simp only [State.postPass, State.onPower_rd, State.rd_wr, State.onConv_rd]
  grind

@[simp] theorem State.startLoop_conv (s : State) : s.startLoop.conv = s.conv := by
  unfold State.startLoop; split <;> rfl

theorem State.startLoop_same (s : State) : sameObjects [0x680203] s s.startLoop := by
  unfold State.startLoop
  split
  · exact (sameObjects_wr s 0x680203 _).of_dict rfl
  · exact (sameObjects.refl _ s).of_dict rfl

/-- The VCORE loop that starts after the self-calibration of start-up leaves the converters and the result's objects alone. -/
theorem State.posted_or_loop (s : State) (startup : Bool) :
    (if startup then s.startLoop else s).conv = s.conv ∧
      sameObjects [0x680203] s (if startup then s.startLoop else s) := by
  cases startup
  · exact ⟨rfl, sameObjects.refl _ _⟩
  · exact ⟨s.startLoop_conv, s.startLoop_same⟩

/-- From 38.0 ms on, a result without a failure gives every converter what it measured. -/
theorem State.selfCalibrationResult_posts {s : State} {x : Instant} (hx : s.conv.calAt = some x) (h : x + ms 38 ≤ s.now)
    {l : List ConvMeasure} (hl : failedConverters l = []) (hgains : s.conv.gains.length = 260)
    (hoffsets : s.conv.offsets.length = 260) (hweights : s.conv.weights.length = 260) :
    ∃ t, exec (.selfCalibrationResult l) s = .next t ∧ t.conv.calAt = none ∧
      (∀ i < 260, nth t.conv.weights i [] = (measureOf l i).weights ∧ nth t.conv.gains i 0 = (measureOf l i).gain ∧
        nth t.conv.offsets i 0 = (measureOf l i).offset ∧
        nth t.conv.gtrims i 0 = 0 ∧ nth t.conv.otrims i 0 = 0) ∧
      t.rd 0x300102 = 2 ∧ t.rd 0x300103 = 0 ∧ t.rd 0x301101 = 0 ∧ t.rd 0x300104 = 0 ∧
      sameObjects [0x300102, 0x300103, 0x300104, 0x301101, 0x680203] s t := by
  refine ⟨_, State.selfCalibrationResult_pass hx h hl, ?_⟩
  obtain ⟨hconv, hsame⟩ := (s.postPass l).posted_or_loop s.conv.startup
  rw [hconv, hsame _ (by decide), hsame _ (by decide), hsame _ (by decide), hsame _ (by decide)]
  simp only [State.rd_postPass]
  refine ⟨rfl, fun i hi => ?_, rfl, rfl, rfl, rfl, fun k hk => ?_⟩
  · have hpass := measureFails_measureOf hl hi
    exact ⟨nth_newSets _ (hweights ▸ hi) hpass _, nth_newSets _ (hgains ▸ hi) hpass _,
      nth_newSets _ (hoffsets ▸ hi) hpass _, nth_map_const .., nth_map_const ..⟩
  · simp only [List.mem_cons, List.not_mem_nil, or_false, not_or] at hk
    obtain ⟨hstatus, hmask, hcount, hdrift, hvid⟩ := hk
    rw [hsame k (by simpa using hvid), State.rd_postPass, if_neg (by simp [hmask, hcount, hdrift]), if_neg hstatus]

/-- Settles O28, by whether the start finds the image path idle, and by the instant of the result. -/
theorem selfCalibrationRunsAndPosts : Obligations.SelfCalibrationRunsAndPosts := by
  unfold Obligations.SelfCalibrationRunsAndPosts
  refine ⟨fun tr s h => ⟨State.foregroundSelfCalibration_begins h, State.foregroundSelfCalibration_refused h⟩,
    fun l x s hx => ⟨fun hearly => State.selfCalibrationResult_early hx hearly l, ?_⟩⟩
  intro hdue hl hgains hoffsets _ _ hweights
  exact State.selfCalibrationResult_posts hx hdue hl hgains hoffsets hweights

end Sys2Proof.Machine
end

section
/-!
PROOFS. The end of a trim period (O29): the pending sets that converters form, within the limits of R119 for every value of the
free target, and the drift checks that follow (R117 to R119).
-/
namespace Sys2Proof.Machine

/-! ### The pending sets (R117, R119) -/

theorem clampInt_bounds {b : Int} (hb : 0 ≤ b) (x : Int) : -b ≤ clampInt (-b) b x ∧ clampInt (-b) b x ≤ b := by
  unfold clampInt; omega

/-- A trim moved towards any target stays within its limit. -/
theorem trimMove_bounds {limit : Int} (h : 0 ≤ limit) (step cur target : Int) :
    -limit ≤ trimMove step limit cur target ∧ trimMove step limit cur target ≤ limit := clampInt_bounds h _

/-- A converter with more than half its slots left out, or with no slot, forms no set; any other forms one within the limits
of R119. -/
theorem pendingTrim_spec (free g gt ot : Int) (slots : Nat) (t : TrimSum) :
    if slots < 2 * t.out ∨ t.n = 0 then pendingTrim free g gt ot slots t = none
    else ∃ p, pendingTrim free g gt ot slots t = some p ∧ -167772 ≤ p.1 ∧ p.1 ≤ 167772 ∧ -4096 ≤ p.2 ∧ p.2 ≤ 4096 := by
  unfold pendingTrim
  split
  · rfl
  · obtain ⟨hg, hg'⟩ := trimMove_bounds (limit := 167772) (by decide) (fdiv (2 ^ 24 + g) 65536) gt (gainTarget free g gt t)
    obtain ⟨ho, ho'⟩ := trimMove_bounds (limit := 4096) (by decide) 4 ot (offsetTarget ot t)
    exact ⟨_, rfl, hg, hg', ho, ho'⟩

/-- The set that converter `i` forms at the end of the period, if any. -/
def State.trimOf (s : State) (i : Nat) : Option (Int × Int) :=
  pendingTrim (Config.freeValue (s.free + i)) (nth s.conv.gains i 0) (nth s.conv.gtrims i 0) (nth s.conv.otrims i 0)
    s.conv.slots (nth s.conv.sums i ⟨0, 0, 0, 0⟩)

/-- The sets of all converters. -/
def State.trimSets (s : State) : List (Option (Int × Int)) := (List.range 260).map s.trimOf

theorem State.nth_trimSets (s : State) {i : Nat} (hi : i < 260) : nth s.trimSets i none = s.trimOf i := by
  rw [nth_of_lt (by simpa [State.trimSets] using hi)]
  simp [State.trimSets]

/-- A component of the new sets replaces what is pending for the converters that formed one. -/
def takePending (f : Int × Int → Int) (old : List (Option Int)) (sets : List (Option (Int × Int))) : List (Option Int) :=
  List.zipWith (fun a p => if p.isSome then p.map f else a) old sets

theorem State.nth_takePending (s : State) (f : Int × Int → Int) {old : List (Option Int)} (hold : old.length = 260) {i : Nat}
    (hi : i < 260) :
    nth (takePending f old s.trimSets) i none = if (s.trimOf i).isSome then (s.trimOf i).map f else nth old i none := by
  have hsets : i < s.trimSets.length := by simpa [State.trimSets] using hi
  rw [nth_of_lt (by rw [takePending, List.length_zipWith]; omega), nth_of_lt (hold ▸ hi)]
  simp only [takePending, List.getElem_zipWith]
  rw [← nth_of_lt hsets none, s.nth_trimSets hi]

/-- The converters once the sets are formed: the sums begin again, and the trims in force stay. -/
def Conv.trimmed (sets : List (Option (Int × Int))) (c : Conv) : Conv :=
  { c with
    pendG := takePending Prod.fst c.pendG sets
    pendO := takePending Prod.snd c.pendO sets
    sums := c.sums.map fun _ => ⟨0, 0, 0, 0⟩
    slots := 0 }

/-! ### The drift checks (R119) -/

/-- Steps that each only write the objects `ks` and log events do so together. -/
theorem State.notes_foldl {α : Type} {ks : List Nat} {f : State → α → State} (h : ∀ (s : State) a, s.notes ks (f s a))
    (l : List α) (s : State) : s.notes ks (l.foldl f s) := by
  induction l generalizing s with
  | nil => exact ⟨sameObjects.refl _ _, rfl, rfl⟩
  | cons a l ih => exact (h s a).trans (ih (f s a)) (List.Subset.refl _) (List.Subset.refl _)

/-- A drift check writes the drift flags and logs, at most. -/
theorem State.notes_driftCheck (s : State) (i : Nat) (p : Option (Int × Int)) :
    s.notes (0x301101 :: logKeys) (s.driftCheck i p) := by
  cases p with
  | none => exact ⟨sameObjects.refl _ _, rfl, rfl⟩
  | some p =>
    unfold State.driftCheck
    dsimp only
    split
    · exact (s.notes_wr 0x301101 _).trans (State.notes_logEvent ..) (by simp) (by simp)
    · exact ⟨sameObjects.refl _ _, rfl, rfl⟩

/-! ### The end of the period (R117) -/

/-- The end of a period is the new reference means and pending sets, and then the drift checks. -/
theorem State.trimPeriodEnd_eq {s : State} (hon : s.rd 0x300201 ≠ 0) (hslots : 2 ^ s.rd 0x300202 ≤ s.conv.slots) :
    ∃ l h, exec .trimPeriodEnd s = .next ((List.range 260).foldl (fun t i => t.driftCheck i (nth s.trimSets i none))
      ((({ s with free := s.free + 260 }.wr 0x301201 l).wr 0x301202 h).onConv (Conv.trimmed s.trimSets))) :=
  ⟨_, _, if_neg (not_or.mpr ⟨Nat.not_lt.mpr hslots, hon⟩)⟩

/-- Settles O29: the drift checks leave the converters as the pending sets made them. -/
theorem trimsStayWithinTheirLimits : Obligations.TrimsStayWithinTheirLimits := by
  unfold Obligations.TrimsStayWithinTheirLimits
  intro s hon hslots hpendG hpendO _
  obtain ⟨l, h, hexec⟩ := State.trimPeriodEnd_eq hon hslots
  refine ⟨_, hexec, ?_⟩
  obtain ⟨hsame, -, hframe⟩ := State.notes_foldl (fun t i => t.notes_driftCheck i (nth s.trimSets i none)) (List.range 260)
    ((({ s with free := s.free + 260 }.wr 0x301201 l).wr 0x301202 h).onConv (Conv.trimmed s.trimSets))
  rw [congrArg State.conv hframe]
  refine ⟨rfl, fun x hx => ?_, rfl, rfl, rfl, rfl, fun i hi => ?_, ?_⟩
  · obtain ⟨-, -, rfl⟩ := List.mem_map.mp hx
    rfl
  · have hG := s.nth_takePending Prod.fst hpendG hi
    have hO := s.nth_takePending Prod.snd hpendO hi
    have hset := pendingTrim_spec (Config.freeValue (s.free + i)) (nth s.conv.gains i 0) (nth s.conv.gtrims i 0)
      (nth s.conv.otrims i 0) s.conv.slots (nth s.conv.sums i ⟨0, 0, 0, 0⟩)
    dsimp only
    split at hset
    · have hnone : s.trimOf i = none := hset
      rw [hnone] at hG hO
      rw [if_pos ‹_›]
      exact ⟨hG, hO⟩
    · obtain ⟨p, hp, hbounds⟩ := hset
      have hsome : s.trimOf i = some p := hp
      rw [hsome] at hG hO
      rw [if_neg ‹_›]
      exact ⟨p.1, p.2, hG, hO, hbounds⟩
  · have hlow : sameObjects [0x301201] s ({ s with free := s.free + 260 }.wr 0x301201 l) :=
      sameObjects_wr _ 0x301201 l
    have hmeans := hlow.trans (sameObjects_wr _ 0x301202 h) (ms := [0x301201, 0x301202]) (by simp) (by simp)
    exact (hmeans.of_dict rfl).trans hsame (by simp) (by simp [logKeys])

end Sys2Proof.Machine
end

section
/-!
PROOFS. What a TDI restart leaves alone (O30): the calibration runs and every object but those of its own counts, of the drops of
pours, of the tundish and of the grid (R101, R183 to R186, R316).
-/
namespace Sys2Proof.Machine

/-- The objects that a TDI restart may write: the grid, the web lines begun, the held pour, the highest booked bytes and the
drop counts. -/
def restartKeys : List Nat := [0x340204, 0x346006, 0x704002, 0x902107, 0x902201, 0x902203, 0x902204]

/-- The calibration state, with every object that a TDI restart does not write. -/
def State.calSet (s : State) : Corr × (Nat → Option Nat) :=
  (s.corr, fun k => if k ∈ restartKeys then none else some (s.rd k))

theorem State.calSet_eq_iff {s t : State} : t.calSet = s.calSet ↔ t.corr = s.corr ∧ sameObjects restartKeys s t := by
  simp only [State.calSet, Prod.mk.injEq, funext_iff]
  refine and_congr_right fun _ => forall_congr' fun k => ?_
  by_cases h : k ∈ restartKeys <;> simp [h]

section
variable (s : State)

@[simp] theorem State.onImage_calSet (f : Image → Image) : (s.onImage f).calSet = s.calSet := rfl
@[simp] theorem State.onTdi_calSet (f : Tdi → Tdi) : (s.onTdi f).calSet = s.calSet := rfl
@[simp] theorem State.onLanes_calSet (f : Lanes → Lanes) : (s.onLanes f).calSet = s.calSet := rfl
@[simp] theorem State.onDma_calSet (f : Dma → Dma) : (s.onDma f).calSet = s.calSet := rfl
@[simp] theorem State.onFlask_calSet (n : Nat) (f : Flask → Flask) : (s.onFlask n f).calSet = s.calSet := rfl
@[simp] theorem State.watchHeads_calSet : s.watchHeads.calSet = s.calSet := rfl
@[simp] theorem State.bookSlagAll_calSet (n : Nat) : (s.bookSlagAll n).calSet = s.calSet := rfl

@[simp] theorem State.wr_calSet {k : Nat} (hk : k ∈ restartKeys) (v : Nat) : (s.wr k v).calSet = s.calSet :=
  State.calSet_eq_iff.mpr ⟨rfl, fun j hj => sameObjects_wr s k v j fun h => hj (List.mem_singleton.mp h ▸ hk)⟩

@[simp] theorem State.add_calSet {k : Nat} (hk : k ∈ restartKeys) (n : Nat) : (s.add k n).calSet = s.calSet := s.wr_calSet hk _

@[simp] theorem State.inc_calSet {k : Nat} (hk : k ∈ restartKeys) : (s.inc k).calSet = s.calSet := s.wr_calSet hk _

/-! ### Drops and admission (R183, R184, R316) -/

@[simp] theorem State.headDropped_calSet (sp : Nat) : (s.headDropped sp).calSet = s.calSet := by
  unfold State.headDropped; split <;> rfl

@[simp] theorem State.notice_calSet (stamps : Packet) (f : Nat) : (s.notice stamps f).calSet = s.calSet := by
  simp [State.notice, apply_ite State.calSet, s.inc_calSet (k := 0x902204) (by decide)]

@[simp] theorem State.recordDrop_calSet {key : Nat} (hk : key ∈ restartKeys) (stamps : Packet) (flasks : List Nat) :
    (s.recordDrop key stamps flasks).calSet = s.calSet := by
  unfold State.recordDrop
  extract_lets counted held
  have hcounted : counted.calSet = s.calSet :=
    (State.wr_calSet _ (k := 0x902203) (by decide) _).trans (s.inc_calSet hk)
  rw [State.bookSlagAll_calSet, foldl_keeps State.calSet _ fun s f => s.notice_calSet stamps f, apply_ite State.calSet,
    counted.wr_calSet (k := 0x704002) (by decide), ite_self, hcounted]

@[simp] theorem State.dropPour_calSet {key : Nat} (hk : key ∈ restartKeys) (t : TPour) :
    (s.dropPour key t).calSet = s.calSet := by
  unfold State.dropPour
  extract_lets heads kept dropped lost freed
  have hdropped : dropped.calSet = s.calSet := foldl_keeps State.calSet _ (fun s sp => s.headDropped_calSet sp) heads kept
  have hlost : lost.calSet = s.calSet := by
    rw [apply_ite State.calSet, dropped.wr_calSet (k := 0x704002) (by decide), ite_self, hdropped]
  rw [State.watchHeads_calSet, State.recordDrop_calSet _ hk, apply_ite State.calSet, State.onDma_calSet, ite_self, hlost]

@[simp] theorem State.makeRoom_calSet (sizes : List Nat) (n : Nat) : (s.makeRoom sizes n).calSet = s.calSet := by
  induction n generalizing s with
  | zero => rfl
  | succ n ih =>
    unfold State.makeRoom
    split
    · rfl
    · split
      · rfl
      · rw [ih, State.dropPour_calSet _ (by decide)]

@[simp] theorem State.markBooked_calSet : s.markBooked.calSet = s.calSet := s.wr_calSet (by decide) _

@[simp] theorem State.beginHold_calSet (idx : Nat) : (s.beginHold idx).calSet = s.calSet := by
  unfold State.beginHold
  split
  · exact s.wr_calSet (k := 0x704002) (by decide) 2
  · rfl

@[simp] theorem State.admitPour_calSet (stamps : Packet) (planes rows : Nat) (cells : List Nat) :
    (s.admitPour stamps planes rows cells).1.calSet = s.calSet := by
  have hdrop (t : State) : (t.recordDrop 0x902201 stamps (flasksOf cells)).calSet = t.calSet :=
    t.recordDrop_calSet (key := 0x902201) (by decide) ..
  simp [State.admitPour, apply_ite Prod.fst, apply_ite State.calSet, hdrop]

/-! ### Web lines and the restart (R99 to R101) -/

@[simp] theorem State.offerWeb_calSet (rstrt : Bool) (r : State × List Packet) (w : WebLine) :
    (State.offerWeb rstrt r w).1.calSet = r.1.calSet := by
  simp [State.offerWeb, apply_ite Prod.fst, apply_ite State.calSet]

@[simp] theorem State.complete_calSet (p : Packet) : (s.complete p).calSet = s.calSet := by
  unfold State.complete; split <;> rfl

@[simp] theorem State.sendWebs_calSet (ws : List WebLine) (rstrt : Bool) : (s.sendWebs ws rstrt).calSet = s.calSet := by
  rw [State.sendWebs, foldl_keeps State.calSet _ State.complete_calSet]
  exact foldl_keeps (fun r => r.1.calSet) _ (State.offerWeb_calSet rstrt) ws (s, [])

@[simp] theorem State.gridReset_calSet : s.gridReset.calSet = s.calSet := State.wr_calSet _ (by decide) _

@[simp] theorem State.tdiRestart_calSet (nr : Option Nat) : (s.tdiRestart nr).calSet = s.calSet := by
  unfold State.tdiRestart
  dsimp only
  rw [State.gridReset_calSet, State.onTdi_calSet]
  split
  · rfl
  · split
    · rw [State.sendWebs_calSet, State.onTdi_calSet, State.add_calSet _ (by decide)]
    · rw [State.bookSlagAll_calSet, State.add_calSet _ (by decide)]

end

end Sys2Proof.Machine
end

section
/-!
PROOFS. The start of a calibration run (O30): its conditions, what begins where they hold, and the refusals (R144, R145, R148, R152,
R153, R186).
-/
namespace Sys2Proof.Machine

/-! ### The conditions of R145 -/

section
variable (s : State) (tr : Transport)

theorem State.onServe_calFree : (s.onServe tr).calFree = s.calFree := by
  unfold State.calFree
  rw [State.onServe_rd _ _ (by decide) (by decide), State.onServe_rd _ _ (by decide) (by decide), State.onServe_frame]
  rfl

theorem State.onServe_calAllowed (run : Nat) : (s.onServe tr).calAllowed run = s.calAllowed run := by
  unfold State.calAllowed State.liveBank
  rw [State.onServe_rd _ _ (by decide) (by decide), State.onServe_rd _ _ (by decide) (by decide),
    State.onServe_rd _ _ (by decide) (by decide), State.onServe_frame]
  rfl

/-- Counting a committed two-wire transaction touches no condition of a run. -/
theorem State.onServe_calMay (run : Nat) :
    ((s.onServe tr).calFree && (s.onServe tr).calAllowed run) = (s.calFree && s.calAllowed run) := by
  rw [State.onServe_calFree, State.onServe_calAllowed]

/-- The words of the source set of a seed run. -/
def State.seedSource : WordRange := s.copyWords (s.rd 0x420006)

theorem State.onServe_seedSource : (s.onServe tr).seedSource = s.seedSource := by
  unfold State.seedSource
  rw [State.onServe_rd _ _ (by decide) (by decide), State.onServe_frame]
  rfl

theorem State.onServe_readable (r : WordRange) : (s.onServe tr).readable r = s.readable r := by
  rw [State.onServe_frame]
  rfl

end

/-- Where a run may start, no upload and no set commit is in progress. -/
theorem State.commit_of_calFree {s : State} (h : s.calFree = true) : s.corr.commit = none := by
  simp only [State.calFree, State.uploading, Bool.and_eq_true, Bool.not_eq_true', Bool.or_eq_false_iff,
    Option.isSome_eq_false_iff, Option.isNone_iff_eq_none] at h
  obtain ⟨⟨-, -, hcommit⟩, -⟩ := h
  exact hcommit

/-! ### A run that has begun -/

/-- `t` is `s` after writes of the objects `ks` and changes of the calibration state. -/
def State.calWrites (ks : List Nat) (s t : State) : Prop := sameObjects ks s t ∧ t = { s with dict := t.dict, corr := t.corr }

theorem State.calWrites.trans {ks ls ms : List Nat} {s t u : State} (h1 : s.calWrites ks t) (h2 : t.calWrites ls u)
    (hk : ks ⊆ ms) (hl : ls ⊆ ms) : s.calWrites ms u := by
  obtain ⟨hsame1, hframe1⟩ := h1
  obtain ⟨hsame2, hframe2⟩ := h2
  exact ⟨hsame1.trans hsame2 hk hl, by rw [hframe2, hframe1]⟩

theorem State.calWrites.mono {ks ls : List Nat} {s t : State} (h : s.calWrites ks t) (hk : ks ⊆ ls) : s.calWrites ls t :=
  ⟨fun k hn => h.1 k fun hm => hn (hk hm), h.2⟩

theorem State.calWrites_wr (s : State) (k v : Nat) : s.calWrites [k] (s.wr k v) := ⟨sameObjects_wr s k v, rfl⟩

theorem State.calWrites_onCorr (s : State) (f : Corr → Corr) : s.calWrites [] (s.onCorr f) := ⟨sameObjects.refl _ _, rfl⟩

/-- The words of a readable range are read. -/
theorem State.calWrites_readWords {s : State} {r : WordRange} (h : s.readable r = true) :
    s.calWrites [0xC10001, 0xC10003] (s.readWords r) :=
  ⟨State.readWords_same_of_readable h, by rw [State.readWords_frame]⟩

/-- From `s` to `t` a run of number `run` has begun, with no acquisition pour made; a seed run stands at its set commit. -/
structure RunBegun (run : Nat) (s t : State) : Prop where
  answer   : t.answer = s.answer
  cal      : ∃ x, t.corr.cal = some x ∧ x.run = run ∧ x.pours = 0
  commit   : t.corr.commit.isSome = (run == 5)
  status   : t.rd 0x420008 = if run = 5 then 3 else 1
  progress : t.rd 0x420009 = 0
  mram     : t.mram = s.mram

/-- The run's fields, status 1 and progress 0. -/
def State.calBegun (run : Nat) (s : State) : State :=
  ((s.onCorr fun x => { x with cal := some (s.newCal run) }).wr 0x420008 1).wr 0x420009 0

theorem State.calBegun_writes (s : State) (run : Nat) : s.calWrites [0x420008, 0x420009] (s.calBegun run) :=
  ((s.calWrites_onCorr _).trans (State.calWrites_wr _ 0x420008 1) (by simp) (List.Subset.refl _)).trans
    (State.calWrites_wr _ 0x420009 0) (by simp) (by simp)

/-- A seed run at the start of its set commit. -/
def State.seedBegun (set : Nat) (words : List (Nat × Nat)) (s : State) : State :=
  ((s.calBegun 5).calPhase 3 id).beginCommit set words true

theorem State.seedBegun_writes (s : State) (set : Nat) (words : List (Nat × Nat)) :
    s.calWrites [0x420008, 0x420009] (s.seedBegun set words) := by
  have hphase : (s.calBegun 5).calWrites [0x420008] ((s.calBegun 5).calPhase 3 id) :=
    (State.calWrites_onCorr _ _).trans (State.calWrites_wr _ 0x420008 3) (by simp) (List.Subset.refl _)
  exact ((s.calBegun_writes 5).trans hphase (List.Subset.refl _) (by simp)).trans (State.calWrites_onCorr _ _)
    (List.Subset.refl _) (by simp)

theorem State.calBegun_begun {s : State} (hcommit : s.corr.commit = none) {run : Nat} (hrun : run ≠ 5) :
    RunBegun run s (s.calBegun run) where
  answer := rfl
  cal := ⟨_, rfl, rfl, rfl⟩
  commit := by simp [State.calBegun, hcommit, hrun]
  status := by simp [State.calBegun, hrun]
  progress := by simp [State.calBegun]
  mram := rfl

theorem State.beginCal_of_ne_fullMap {run : Nat} (hrun : run ≠ 4) (s : State) : s.beginCal run = s.calBegun run :=
  if_pos hrun

/-- A full-map run that waits for tundish room has begun too; with room it acquires at once (R186). -/
theorem RunBegun.tryAcquire {s t : State} (h : RunBegun 4 s t) : RunBegun 4 s t.tryAcquire := by
  obtain ⟨x, hcal, hx, hpours⟩ := h.cal
  unfold State.tryAcquire
  split
  · exact { answer := h.answer
            cal := ⟨{ x with started := true, at_ := t.now }, by simp [State.calPhase, hcal], hx, hpours⟩
            commit := h.commit, status := by simp [State.calPhase], progress := by simp [State.calPhase, h.progress],
            mram := h.mram }
  · exact h

/-- A TDI restart takes nothing back of a run that has begun. -/
theorem RunBegun.tdiRestart {run : Nat} {s t : State} (h : RunBegun run s t) (nr : Option Nat) :
    RunBegun run s (t.tdiRestart nr) := by
  obtain ⟨hcorr, hsame⟩ := State.calSet_eq_iff.mp (t.tdiRestart_calSet nr)
  have hscene := t.tdiRestart_scene nr
  exact { answer := (congrArg (fun c => c.aside.answer) hscene).trans h.answer, cal := hcorr ▸ h.cal,
          commit := hcorr ▸ h.commit, status := (hsame _ (by decide)).trans h.status,
          progress := (hsame _ (by decide)).trans h.progress, mram := (congrArg Scene.mram hscene).trans h.mram }

theorem State.beginCal_fullMap {s : State} (hcommit : s.corr.commit = none) : RunBegun 4 s (s.beginCal 4) := by
  have hbegun := State.calBegun_begun hcommit (run := 4) (by decide)
  change RunBegun 4 s (State.tryAcquire (if (s.calBegun 4).rd 0x210001 = 1 then _ else s.calBegun 4))
  refine RunBegun.tryAcquire ?_
  split
  · obtain ⟨answer, cal, commit, status, progress, mram⟩ := hbegun.tdiRestart none
    exact ⟨answer, cal, commit, status, progress, mram⟩
  · exact hbegun

theorem State.beginCal_begun {s : State} (hcommit : s.corr.commit = none) {run : Nat} (hrun : run ≠ 5) :
    RunBegun run s (s.beginCal run) := by
  by_cases hfull : run = 4
  · exact hfull ▸ State.beginCal_fullMap hcommit
  · exact State.beginCal_of_ne_fullMap hfull s ▸ State.calBegun_begun hcommit hrun

theorem State.seedBegun_begun {ks : List Nat} {s t : State} (h : s.calWrites ks t) (set : Nat) (words : List (Nat × Nat)) :
    RunBegun 5 s (t.seedBegun set words) := by
  obtain ⟨-, hframe⟩ := h.trans (t.seedBegun_writes set words) (List.subset_append_left ..) (List.subset_append_right ..)
  exact { answer := by rw [hframe], cal := ⟨t.newCal 5, rfl, rfl, rfl⟩, commit := rfl
          status := by simp [State.seedBegun, State.beginCommit, State.calPhase]
          progress := by simp [State.seedBegun, State.beginCommit, State.calPhase, State.calBegun]
          mram := by rw [hframe] }

/-! ### What a start write does (R145) -/

section startCal
variable {s : State} {run : Nat}

theorem State.startCal_of_not_allowed (h : (s.calFree && s.calAllowed run) = false) :
    s.startCal run = s.refuse abortState := by
  simp [State.startCal, h]

theorem State.startCal_of_acquisition (h : (s.calFree && s.calAllowed run) = true) (hrun : run ≠ 5) :
    s.startCal run = s.beginCal run := by
  simp [State.startCal, h, hrun]

theorem State.setCopy_of_seed (h : (s.calFree && s.calAllowed 5) = true) : ∃ k, s.setCopy (s.rd 0x420006) = some k := by
  simp only [State.calAllowed, State.setEmpty, Bool.and_eq_true, Bool.not_eq_true', Option.isNone_eq_false_iff] at h
  obtain ⟨-, -, hcopy⟩ := h
  exact Option.isSome_iff_exists.mp hcopy

/-- A seed run whose source set is readable begins with its set commit. -/
theorem State.startCal_of_seed (h : (s.calFree && s.calAllowed 5) = true) (hread : s.readable s.seedSource = true) :
    ∃ set words, s.startCal 5 = (s.readWords s.seedSource).seedBegun set words := by
  obtain ⟨k, hk⟩ := State.setCopy_of_seed h
  unfold State.seedSource at hread ⊢
  simp only [State.startCal, h, hk, State.needWords, List.all_cons, hread]
  exact ⟨_, _, rfl⟩

/-- A seed run whose source set holds an uncorrectable word is refused. -/
theorem State.startCal_of_seed_unreadable (h : (s.calFree && s.calAllowed 5) = true)
    (hread : s.readable s.seedSource = false) : s.startCal 5 = (s.readWords s.seedSource).refuse abortMram := by
  obtain ⟨k, hk⟩ := State.setCopy_of_seed h
  unfold State.seedSource at hread ⊢
  simp only [State.startCal, h, hk, State.needWords, List.all_cons, hread]
  rfl

end startCal

/-- An allowed start write begins its run. -/
theorem State.startCal_begun {s : State} {run : Nat} (h : (s.calFree && s.calAllowed run) = true)
    (hread : run = 5 → s.readable s.seedSource = true) : RunBegun run s (s.startCal run) := by
  by_cases hseed : run = 5
  · subst hseed
    obtain ⟨set, words, he⟩ := State.startCal_of_seed h (hread rfl)
    exact he ▸ State.seedBegun_begun (State.calWrites_readWords (hread rfl)) set words
  · obtain ⟨hfree, -⟩ := Bool.and_eq_true_iff.mp h
    exact State.startCal_of_acquisition h hseed ▸ State.beginCal_begun (State.commit_of_calFree hfree) hseed

/-- Any run but the full-map run changes its own state and objects, and the counts of the words it read. -/
theorem State.startCal_writes {s : State} {run : Nat} (h : (s.calFree && s.calAllowed run) = true)
    (hread : run = 5 → s.readable s.seedSource = true) (hfull : run ≠ 4) :
    s.calWrites [0x420008, 0x420009, 0xC10001, 0xC10003] (s.startCal run) := by
  by_cases hseed : run = 5
  · subst hseed
    obtain ⟨set, words, he⟩ := State.startCal_of_seed h (hread rfl)
    exact he ▸ (State.calWrites_readWords (hread rfl)).trans (State.seedBegun_writes _ set words) (by simp) (by simp)
  · rw [State.startCal_of_acquisition h hseed, State.beginCal_of_ne_fullMap hfull]
    exact (s.calBegun_writes run).mono (by simp)

/-! ### The start write (R145, R254) -/

section calCommand
variable {tr : Transport} {run : Nat} {s : State} (h : s.admits ⟨tr, 0x420001, 1, run⟩)
include h

theorem State.calCommand_refused (hno : (s.calFree && s.calAllowed run) = false) :
    (s.calCommand tr run).answer.abort = abortState ∧ sameObjects (accessCounters tr) s (s.calCommand tr run) ∧
      s.calCommand tr run = { s with dict := (s.calCommand tr run).dict, answer := (s.calCommand tr run).answer } :=
  State.hostWrite_of_refuse h (by simp) (State.startCal_of_not_allowed ((s.onServe_calMay tr run).trans hno))

theorem State.calCommand_unreadable (hrun : run = 5) (hmay : (s.calFree && s.calAllowed run) = true)
    (hread : s.readable s.seedSource = false) :
    (s.calCommand tr run).answer.abort = abortMram ∧
      sameObjects (rangeFrom 0xC10001 5 ++ accessCounters tr) s (s.calCommand tr run) ∧
      s.calCommand tr run = { s with dict := (s.calCommand tr run).dict, answer := (s.calCommand tr run).answer } := by
  subst hrun
  have hk : (⟨tr, 0x420001, 1, 5⟩ : Txn).key ≠ 0x102009 := by simp
  have he := State.startCal_of_seed_unreadable ((s.onServe_calMay tr 5).trans hmay)
    (by rw [State.onServe_seedSource, State.onServe_readable, hread])
  refine ⟨?_, State.hostWrite_same h hk _ ?_, ?_⟩
  · rw [State.calCommand, State.hostWrite_answer h hk, he]
    rfl
  · rw [he]
    exact (State.readWords_same _ _).of_dict rfl
  · rw [State.calCommand, State.hostWrite_eq_counted1 h hk, State.counted1_frame, he, State.refuse, State.readWords_frame,
      State.onServe_frame]

theorem State.calCommand_begins (hmay : (s.calFree && s.calAllowed run) = true)
    (hread : run = 5 → s.readable s.seedSource = true) :
    ∃ x, (s.calCommand tr run).answer.abort = 0 ∧
      (s.calCommand tr run).corr.cal = some x ∧ x.run = run ∧ x.pours = 0 ∧
      (s.calCommand tr run).rd 0x420008 = (if run = 5 then 3 else 1) ∧ (s.calCommand tr run).rd 0x420009 = 0 ∧
      (s.calCommand tr run).corr.commit.isSome = (run == 5) ∧ (s.calCommand tr run).mram = s.mram ∧
      (run ≠ 4 → sameObjects ([0x420008, 0x420009, 0xC10001, 0xC10003] ++ accessCounters tr) s (s.calCommand tr run) ∧
        s.calCommand tr run = { s with dict := (s.calCommand tr run).dict, answer := (s.calCommand tr run).answer,
                                       corr := (s.calCommand tr run).corr }) := by
  have hk : (⟨tr, 0x420001, 1, run⟩ : Txn).key ≠ 0x102009 := by simp
  have hmay' := (s.onServe_calMay tr run).trans hmay
  have hread' : run = 5 → (s.onServe tr).readable (s.onServe tr).seedSource = true := fun hseed => by
    rw [State.onServe_seedSource, State.onServe_readable, hread hseed]
  obtain ⟨answer, ⟨x, hcal, hx, hpours⟩, commit, status, progress, mram⟩ := State.startCal_begun hmay' hread'
  have hcorr : (s.calCommand tr run).corr = ((s.onServe tr).startCal run).corr := by
    rw [State.calCommand, State.hostWrite_eq_counted1 h hk, State.counted1_corr]
  refine ⟨x, ?_, by rw [hcorr, hcal], hx, hpours, ?_, ?_, by rw [hcorr, commit], ?_, fun hfull => ?_⟩
  · rw [State.calCommand, State.hostWrite_answer h hk, answer]
    rfl
  · rw [State.calCommand, State.rd_hostWrite h hk _ (by decide) (by decide), status]
  · rw [State.calCommand, State.rd_hostWrite h hk _ (by decide) (by decide), progress]
  · rw [State.calCommand, State.hostWrite_mram h hk, mram, State.onServe_mram]
  · obtain ⟨hsame, hframe⟩ := State.startCal_writes hmay' hread' hfull
    refine ⟨State.hostWrite_same h hk _ hsame, ?_⟩
    rw [hcorr, State.calCommand, State.hostWrite_eq_counted1 h hk, State.counted1_frame, hframe, State.onServe_frame]

end calCommand

/-- Settles O30: the five commands are one start write, with its number. -/
theorem calibrationRunsStartOrAreRefused : Obligations.CalibrationRunsStartOrAreRefused := by
  unfold Obligations.CalibrationRunsStartOrAreRefused
  intro starts tr s
  have hstart (run : Nat) : starts (.next (s.calCommand tr run)) tr run s := fun h =>
    ⟨fun hno => ⟨_, rfl, State.calCommand_refused h hno⟩,
      fun hmay hread =>
        have ⟨x, hbegun⟩ := State.calCommand_begins h hmay hread
        ⟨_, x, rfl, hbegun⟩,
      fun hmay hrun hread => ⟨_, rfl, State.calCommand_unreadable h hrun hmay hread⟩⟩
  exact ⟨hstart 1, hstart 2, hstart 3, hstart 4, hstart 5⟩

end Sys2Proof.Machine
end

section
/-!
PROOFS. The end of a flat run (O31): the profile goes into the loose set, where it replaces the first listing of its object (R151,
R191). With a loose set that lists the object twice, the staged view goes on reading the second listing.
-/
namespace Sys2Proof.Machine

/-- A flat run that passes its checks stages its profile and passes (R148, R151). -/
theorem State.acquisitionComplete_flat {s : State} {c : Cal} {v : Nat} (hcal : s.corr.cal = some c) (hstarted : c.started = true)
    (hpours : acqPours c.run ≤ c.pours) (hstatus : s.rd 0x420008 = 1) (hacq : s.image.pours.any Pour.acq = false)
    (hcheck : s.calCheck c = none) (hrun : c.run = 3) (hflat : s.flatResult c = some v) :
    exec .acquisitionComplete s = .next (s.ownStaged 0x410001 v).calPass := by
  change execAcquisitionComplete s = _
  rw [hrun] at hpours
  simp [execAcquisitionComplete, hcal, hstarted, Nat.not_lt.mpr hpours, hstatus, hacq, hcheck, hrun, hflat]

/-- A flat run whose 64 pours have given one sample, of the target signal, so that the knot of its block is 1.0. -/
def oneSampleFlatRun : Cal :=
  { run := 3, target := 0, at_ := 0, started := true, pours := 64, temp0 := 0, tempEnd := 0, point := none,
    sums := [⟨0, 0, 16 * 2400, 16 * 2400, 1⟩], means := [], dark := 0, darkN := 0, dl := 0, dr := 0, rows := 0, ovrs := 0,
    total := 1, slag := false, newMap := [], retried := false, bank := 1 }

/-- That run at its end, over a loose set that lists the profile twice, as 0. -/
def profileTwice : State :=
  let s := State.reset.wr 0x420008 1
  { s with
    corr := { s.corr with cal := some oneSampleFlatRun }
    stage := { s.stage with loose := [(0x410001, 0), (0x410001, 0)] } }

/-- The run passes its checks. -/
theorem profileTwice_calCheck : profileTwice.calCheck oneSampleFlatRun = none := by decide +kernel

/-- Its profile is not 0: it holds the knot. -/
theorem profileTwice_flatResult : (profileTwice.flatResult oneSampleFlatRun).any (· != 0) = true := by decide +kernel

/-- Whatever profile the run stages, with a cache load or without, the staged view reads the second listing. -/
theorem profileTwice_staged (v : Nat) : (profileTwice.ownStaged 0x410001 v).calPass.staged 0x410001 = 0 := by
  simp only [State.ownStaged, State.watchCache]
  split <;> rfl

/-- Refutes O31: the statement does not ask that the loose set list an object once, and where it lists the profile twice a flat
run ends with a staged profile that is not its result. -/
theorem not_acquisitionPoursAddUpAndAreChecked : ¬ Obligations.AcquisitionPoursAddUpAndAreChecked := by
  unfold Obligations.AcquisitionPoursAddUpAndAreChecked
  rintro ⟨-, hcomplete, -⟩
  obtain ⟨v, hflat, hnonzero⟩ := (Option.any_eq_true _ _).mp profileTwice_flatResult
  obtain ⟨-, -, -, hflatRun⟩ := hcomplete oneSampleFlatRun profileTwice rfl rfl (by decide) (by decide +kernel) rfl
  obtain ⟨t, hnext, -, -, hstaged, -⟩ := hflatRun v profileTwice_calCheck rfl hflat
  have hend := State.acquisitionComplete_flat rfl rfl (by decide) (by decide +kernel) rfl profileTwice_calCheck rfl hflat
  obtain rfl := Host.Outcome.next.inj (hend.symm.trans hnext)
  rw [← hstaged, profileTwice_staged] at hnonzero
  exact absurd hnonzero (by decide)

end Sys2Proof.Machine
end

section
/-!
PROOFS. Resets (O57): what the write inhibit holds back from MRAM counts at a reset whatever objects it names (R366, R370).
-/
namespace Sys2Proof.Machine

/-- A state whose values held back from MRAM name an object that is not MRAM-backed: the live version, as 5. -/
def strayRepair : State :=
  { State.reset with power := { State.reset.power with unwritten := some (Mram.shipped, [(0x110001, 5)]) } }

/-- Power-on takes the value held back for the live version, not its Default. -/
theorem strayRepair_powerOn : (strayRepair.assertReset 1).rd 0x110001 = 5 ∧ objDefault 0x110001 = 0 := by decide +kernel

/-- Refutes O57: the clause on the objects that are not MRAM-backed does not ask that the values held back name MRAM-backed
objects only, and a reset takes them all. -/
theorem not_resetsKeepMramAndStartUpRunsInOrder : ¬ Obligations.ResetsKeepMramAndStartUpRunsInOrder := by
  unfold Obligations.ResetsKeepMramAndStartUpRunsInOrder
  intro h
  obtain ⟨hresets, -⟩ := h
  obtain ⟨⟨t, hnext, hafter⟩, -⟩ := hresets 0 strayRepair
  obtain rfl : strayRepair.assertReset 1 = t := Host.Outcome.next.inj hnext
  obtain ⟨-, -, -, -, -, -, -, -, -, -, -, hdefaults, -⟩ := hafter
  obtain ⟨hread, hdefault⟩ := strayRepair_powerOn
  rw [hdefaults 0x110001 (by decide +kernel), hdefault] at hread
  exact absurd hread (by decide)

end Sys2Proof.Machine
end

section
/-!
PROOFS. Writes of the bank headers (R127, R154, R155, R158): what they leave in the header, and that they touch MRAM alone.
-/
namespace Sys2Proof.Machine

section
variable (s : State) (n : Nat)

theorem State.bankOf_onBank (f : Bank → Bank) : (s.onBank n f).bankOf n = f (s.bankOf n) := by
  by_cases hn : n = 0 <;> simp [State.onBank, State.bankOf, hn]

theorem State.bankOf_congr {s t : State} (h : t.mram = s.mram) (n : Nat) : t.bankOf n = s.bankOf n := by
  unfold State.bankOf
  rw [h]

@[simp] theorem State.onCorr_bankOf (f : Corr → Corr) : (s.onCorr f).bankOf n = s.bankOf n := rfl

@[simp] theorem State.wr_bankOf (k v : Nat) : (s.wr k v).bankOf n = s.bankOf n := rfl

theorem State.onBank_frame (f : Bank → Bank) : s.onBank n f = { s with mram := (s.onBank n f).mram } := by
  unfold State.onBank
  split <;> rfl

/-- A header write reads back as the header that it seals. -/
theorem State.bankOf_writeHeader (f : Bank → Bank) : (s.writeHeader n f).bankOf n = (f (s.bankOf n)).sealed :=
  s.bankOf_onBank n fun b => (f b).sealed

theorem State.writeHeader_frame (f : Bank → Bank) : s.writeHeader n f = { s with mram := (s.writeHeader n f).mram } := by
  unfold State.writeHeader State.wroteWords
  rw [State.onBank_frame]
  rfl

theorem State.bankState_frame (st : Nat) : s.bankState n st = { s with mram := (s.bankState n st).mram } :=
  s.writeHeader_frame n _

theorem State.beginBank_state : ((s.beginBank n).bankOf n).state = 1 :=
  congrArg Bank.state (s.bankOf_writeHeader n _)

/-- Beside MRAM, the start of a bank's write sets its segment CRCs to 0 and takes the bank off the list of spoilt ones. -/
theorem State.beginBank_frame : s.beginBank n = { s with
    mram := (s.beginBank n).mram
    corr := { s.corr with newCrcs := List.replicate 32 0, spoil := s.corr.spoil.filter (· != n) } } := by
  unfold State.beginBank
  rw [State.writeHeader_frame]
  rfl

theorem State.verifyBank_state : ((s.verifyBank n).bankOf n).state = 2 :=
  congrArg Bank.state (s.bankOf_writeHeader n _)

theorem State.verifyBank_frame : s.verifyBank n = { s with mram := (s.verifyBank n).mram } := by
  unfold State.verifyBank State.wroteWords
  rw [State.writeHeader_frame]
  rfl

@[simp] theorem State.verifyBank_corr : (s.verifyBank n).corr = s.corr := by rw [State.verifyBank_frame]

@[simp] theorem State.verifyBank_rd (k : Nat) : (s.verifyBank n).rd k = s.rd k := by rw [State.verifyBank_frame]; rfl

end

/-- A bank verified in a manual switch mode waits to go live, with no hand-over (R155). -/
theorem State.bankVerified_of_manual {s : State} (hmode : s.rd 0x401006 ≠ 0) (b : Nat) :
    s.bankVerified b = (s.verifyBank b).onCorr fun x => { x with waiting := some b } := by
  exact if_neg (by rwa [State.onCorr_rd, State.verifyBank_rd])

end Sys2Proof.Machine
end

section
/-!
PROOFS. Uploads of maps and sets, and the map switch mode (O33; R133, R134, R155, R157 to R160).
-/
namespace Sys2Proof.Machine

/-! ### An admitted write -/

section
variable (s : State) (tr : Transport)

@[simp] theorem State.onServe_corr : (s.onServe tr).corr = s.corr := by rw [State.onServe_frame]

theorem State.onServe_uploadFree : (s.onServe tr).uploadFree = s.uploadFree := by rw [State.onServe_frame]; rfl

theorem State.onServe_calLocked : (s.onServe tr).calLocked = s.calLocked := by rw [State.onServe_frame]; rfl

theorem State.onServe_factoryBank : (s.onServe tr).factoryBank = s.factoryBank := by rw [State.onServe_frame]; rfl

theorem State.onServe_idleBank : (s.onServe tr).idleBank = s.idleBank := by
  unfold State.idleBank State.liveBank
  rw [State.onServe_rd _ _ (by decide) (by decide), State.onServe_factoryBank]

theorem State.onServe_inhibited : (s.onServe tr).inhibited = s.inhibited := by
  unfold State.inhibited
  rw [State.onServe_rd _ _ (by decide) (by decide)]

end

theorem State.hostWrite_corr {s : State} {w : Txn} (h : s.admits w) (hk : w.key ≠ 0x102009) (eff : State → State) :
    (s.hostWrite w eff).corr = (eff (s.onServe w.tr)).corr := by
  rw [State.hostWrite_eq_counted1 h hk, State.counted1_corr]

/-! ### What an open upload writes (R157, R158) -/

theorem State.settleUpload_of_set {s : State} {u : Upload} (hu : s.corr.upload = some u) (hwhat : u.what ≠ 1) :
    s.settleUpload = s := by
  simp [State.settleUpload, hu, hwhat]

/-- An upload that is not finished stays open, whether its bank's header may be written now or not. -/
theorem State.settleUpload_of_unfinished {s : State} {u : Upload} (hu : s.corr.upload = some u) (hfinish : u.finish = false) :
    ∃ b, s.settleUpload.corr.upload = some { u with begun := b } ∧ s.settleUpload.dict = s.dict ∧
      s.settleUpload.answer = s.answer := by
  unfold State.settleUpload
  rw [hu]
  dsimp only
  split
  · exact ⟨u.begun, hu, rfl, rfl⟩
  · split
    · split
      · exact ⟨u.begun, hu, rfl, rfl⟩
      · exact ⟨true, rfl, by rw [State.beginBank_frame]; rfl, by rw [State.beginBank_frame]; rfl⟩
    · rw [if_neg (by simp [hfinish])]
      exact ⟨u.begun, hu, rfl, rfl⟩

/-- A finished map upload whose segments are written completes its bank (R158). -/
theorem State.settleUpload_of_finished {s : State} {u : Upload} (hu : s.corr.upload = some u) (hwhat : u.what = 1)
    (hinhibit : s.inhibited = false) (hbegun : u.begun = true) (hfinish : u.finish = true) (hwriting : u.writing = none) :
    s.settleUpload = ((s.onCorr fun x => { x with upload := none }).wr 0x421005 2).bankVerified u.bank := by
  simp [State.settleUpload, hu, hwhat, hinhibit, hbegun, hfinish, hwriting]

/-! ### The start (R158, R159) -/

/-- From `s` to `t` an upload of kind `what` has been opened, with no segment received. -/
structure UploadOpened (what : Nat) (s t : State) : Prop where
  upload : ∃ u, t.corr.upload = some u ∧ u.what = what ∧ u.bank = s.idleBank ∧ u.lastAt = s.now ∧ u.segData = none
  segments : t.rd 0x421004 = 0
  status : t.rd 0x421005 = 1
  answer : t.answer = s.answer

theorem State.openUpload_opens (what : Nat) (s : State) : UploadOpened what s (s.openUpload what) := by
  obtain ⟨b, hupload, hdict, hanswer⟩ := State.settleUpload_of_unfinished
    (s := ((s.onCorr fun x => { x with upload := some ⟨what, s.idleBank, s.now, none, none, false, false, false⟩ }).wr
      0x421004 0).wr 0x421005 1) rfl rfl
  have hrd (k : Nat) : (s.openUpload what).rd k = if k = 0x421005 then 1 else if k = 0x421004 then 0 else s.rd k := by
    rw [State.rd, State.openUpload, hdict]
    exact (State.rd_wr ..).trans (by rw [State.rd_wr]; rfl)
  exact { upload := ⟨_, hupload, rfl, rfl, rfl, rfl⟩, segments := by simp [hrd], status := by simp [hrd], answer := hanswer }

theorem State.openUpload_mram_of_set {what : Nat} (hwhat : what ≠ 1) (s : State) : (s.openUpload what).mram = s.mram := by
  unfold State.openUpload
  rw [State.settleUpload_of_set rfl hwhat]
  rfl

/-- A start write that an upload's effect opens. -/
theorem UploadOpened.of_write {s : State} {tr : Transport} {what : Nat} (h : s.admits ⟨tr, 0x421001, 1, what⟩)
    (he : (s.onServe tr).startUpload what = (s.onServe tr).openUpload what) :
    let t := s.hostWrite ⟨tr, 0x421001, 1, what⟩ (State.startUpload what)
    ∃ u, t.answer.abort = 0 ∧ t.corr.upload = some u ∧ u.what = what ∧ u.bank = s.idleBank ∧ u.lastAt = s.now ∧
      u.segData = none ∧ t.rd 0x421004 = 0 ∧ t.rd 0x421005 = 1 := by
  obtain ⟨⟨u, hupload, hwhat, hbank, hlast, hseg⟩, hsegments, hstatus, hanswer⟩ := (s.onServe tr).openUpload_opens what
  rw [State.onServe_idleBank] at hbank
  rw [State.onServe_now] at hlast
  have hk : (⟨tr, 0x421001, 1, what⟩ : Txn).key ≠ 0x102009 := by simp
  refine ⟨u, ?_, ?_, hwhat, hbank, hlast, hseg, ?_, ?_⟩
  · rw [State.hostWrite_answer h hk, he, hanswer]; rfl
  · rw [State.hostWrite_corr h hk, he, hupload]
  · rw [State.rd_hostWrite h hk _ (by decide) (by decide), he, hsegments]
  · rw [State.rd_hostWrite h hk _ (by decide) (by decide), he, hstatus]

theorem exec_startMapUpload (tr : Transport) (s : State) :
    exec (.startMapUpload tr 1) s = .next (s.hostWrite ⟨tr, 0x421001, 1, 1⟩ (State.startUpload 1)) := rfl

theorem exec_startSetUpload (tr : Transport) (v : Nat) (s : State) :
    exec (.startSetUpload tr v) s = .next (s.hostWrite ⟨tr, 0x421001, 1, v⟩ (State.startUpload v)) := rfl

theorem State.startMapUpload_opens {tr : Transport} {s : State} (h : s.admits ⟨tr, 0x421001, 1, 1⟩)
    (hfree : s.uploadFree = true) (hbank : (s.calLocked && s.idleBank == s.factoryBank) = false) :
    ∃ t u, exec (.startMapUpload tr 1) s = .next t ∧ t.answer.abort = 0 ∧ t.corr.upload = some u ∧ u.what = 1 ∧
      u.bank = s.idleBank ∧ u.lastAt = s.now ∧ t.rd 0x421004 = 0 ∧ t.rd 0x421005 = 1 := by
  have hbank' : ¬(s.calLocked = true ∧ s.idleBank = s.factoryBank) := by simpa using hbank
  have he : (s.onServe tr).startUpload 1 = (s.onServe tr).openUpload 1 := by
    simp [State.startUpload, State.startMapUpload, State.onServe_uploadFree, State.onServe_calLocked, State.onServe_idleBank,
      State.onServe_factoryBank, hfree, hbank']
  obtain ⟨u, habort, hupload, hwhat, hub, hlast, -, hsegments, hstatus⟩ := UploadOpened.of_write h he
  exact ⟨_, u, exec_startMapUpload tr s, habort, hupload, hwhat, hub, hlast, hsegments, hstatus⟩

theorem State.startMapUpload_refused {tr : Transport} {s : State} (h : s.admits ⟨tr, 0x421001, 1, 1⟩)
    (hno : s.uploadFree = false ∨ (s.calLocked = true ∧ s.idleBank = s.factoryBank)) :
    ∃ t, exec (.startMapUpload tr 1) s = .next t ∧ t.answer.abort = abortState ∧ sameObjects (accessCounters tr) s t ∧
      t = { s with dict := t.dict, answer := t.answer } := by
  have he : (s.onServe tr).startUpload 1 = (s.onServe tr).refuse abortState := by
    simp [State.startUpload, State.startMapUpload, State.onServe_uploadFree, State.onServe_calLocked, State.onServe_idleBank,
      State.onServe_factoryBank, hno]
  exact ⟨_, exec_startMapUpload tr s, State.hostWrite_of_refuse h (by simp) he⟩

theorem State.startSetUpload_opens {tr : Transport} {v : Nat} {s : State} (hv : v = 2 ∨ v = 3)
    (h : s.admits ⟨tr, 0x421001, 1, v⟩) (hfree : s.uploadFree = true) :
    ∃ t u, exec (.startSetUpload tr v) s = .next t ∧ t.answer.abort = 0 ∧ t.corr.upload = some u ∧ u.what = v ∧
      u.segData = none ∧ t.rd 0x421004 = 0 ∧ t.rd 0x421005 = 1 ∧ t.mram = s.mram := by
  have hv1 : v ≠ 1 := by omega
  have he : (s.onServe tr).startUpload v = (s.onServe tr).openUpload v := by
    simp [State.startUpload, State.startSetUpload, State.onServe_uploadFree, hfree, hv1]
  obtain ⟨u, habort, hupload, hwhat, -, -, hseg, hsegments, hstatus⟩ := UploadOpened.of_write h he
  refine ⟨_, u, exec_startSetUpload tr v s, habort, hupload, hwhat, hseg, hsegments, hstatus, ?_⟩
  rw [State.hostWrite_mram h (by simp), he, State.openUpload_mram_of_set hv1, State.onServe_mram]

/-! ### The finish (R133, R158, R159) -/

theorem exec_finishUpload (tr : Transport) (s : State) :
    exec (.finishUpload tr 1) s = .next (s.hostWrite ⟨tr, 0x421002, 1, 1⟩ State.finishUpload) :=
  congrArg Host.Outcome.next (s.hostCommand_one tr 0x421002 State.finishUpload)

/-- The finish write of a set whose points keep R133 begins its set commit. -/
theorem State.finishUpload_of_set {s : State} {u : Upload} {w : List (Nat × Nat)} (hu : s.corr.upload = some u)
    (hwhat : u.what ≠ 1) (hseg : u.segData = some w) (hcommit : s.corr.commit = none) (hfinish : u.finish = false)
    (hpoints : userPointsOk (uploadedPoints w) = true) : s.finishUpload = s.beginCommit (u.what - 1) w false := by
  simp [State.finishUpload, hu, hwhat, hseg, hcommit, hfinish, hpoints]

/-- The finish write of a map with every segment written completes its bank, which waits to go live. -/
theorem State.finishUpload_of_map {s : State} {u : Upload} (hu : s.corr.upload = some u) (hwhat : u.what = 1)
    (hbegun : u.begun = true) (hfinish : u.finish = false) (hwriting : u.writing = none) (hcommit : s.corr.commit = none)
    (hsegments : s.rd 0x421004 = 2 ^ 32 - 1) (hinhibit : s.inhibited = false) (hmode : s.rd 0x401006 = 1) :
    s.finishUpload.corr = { s.corr with upload := none, waiting := some u.bank } ∧
      (s.finishUpload.bankOf u.bank).state = 2 ∧ s.finishUpload.dict = (s.wr 0x421005 2).dict ∧
      s.finishUpload.answer = s.answer := by
  have hfinished : s.finishUpload = (s.onCorr fun x => { x with upload := some { u with finish := true } }).settleUpload := by
    simp [State.finishUpload, hu, hwhat, hcommit, hfinish, hsegments]
  have hsettled := State.settleUpload_of_finished
    (s := s.onCorr fun x => { x with upload := some { u with finish := true } }) rfl hwhat hinhibit hbegun rfl hwriting
  rw [hfinished, hsettled, State.bankVerified_of_manual (by simp [hmode])]
  refine ⟨by simp, by rw [State.onCorr_bankOf, State.verifyBank_state], ?_, ?_⟩ <;> rw [State.verifyBank_frame] <;> rfl

theorem State.finishUpload_commits {tr : Transport} {u : Upload} {w : List (Nat × Nat)} {s : State}
    (h : s.admits ⟨tr, 0x421002, 1, 1⟩) (hu : s.corr.upload = some u) (hwhat : u.what ≠ 1) (hseg : u.segData = some w)
    (hcommit : s.corr.commit = none) (hfinish : u.finish = false) (hpoints : userPointsOk (uploadedPoints w) = true) :
    ∃ t, exec (.finishUpload tr 1) s = .next t ∧ t.answer.abort = 0 ∧
      t.corr = { s.corr with commit := some ⟨u.what - 1, w, false⟩ } ∧ sameObjects (accessCounters tr) s t := by
  have hk : (⟨tr, 0x421002, 1, 1⟩ : Txn).key ≠ 0x102009 := by simp
  have hcorr := s.onServe_corr tr
  have he := State.finishUpload_of_set (s := s.onServe tr) (hcorr ▸ hu) hwhat hseg (hcorr ▸ hcommit) hfinish hpoints
  refine ⟨_, exec_finishUpload tr s, ?_, ?_, State.hostWrite_same h hk _ (ks := []) ?_⟩
  · rw [State.hostWrite_answer h hk, he]; rfl
  · rw [State.hostWrite_corr h hk, he, State.beginCommit, State.onCorr_corr, hcorr]
  · rw [he]; exact sameObjects.refl _ _

theorem State.finishUpload_verifies {tr : Transport} {u : Upload} {s : State} (h : s.admits ⟨tr, 0x421002, 1, 1⟩)
    (hu : s.corr.upload = some u) (hwhat : u.what = 1) (hbegun : u.begun = true) (hfinish : u.finish = false)
    (hwriting : u.writing = none) (hcommit : s.corr.commit = none) (hsegments : s.rd 0x421004 = 2 ^ 32 - 1)
    (hinhibit : s.inhibited = false) (hmode : s.rd 0x401006 = 1) :
    ∃ t, exec (.finishUpload tr 1) s = .next t ∧ t.answer.abort = 0 ∧ t.rd 0x421005 = 2 ∧ t.corr.upload = none ∧
      t.corr.waiting = some u.bank ∧ (t.bankOf u.bank).state = 2 ∧ sameObjects ([0x421005] ++ accessCounters tr) s t := by
  have hk : (⟨tr, 0x421002, 1, 1⟩ : Txn).key ≠ 0x102009 := by simp
  have hcorr := s.onServe_corr tr
  obtain ⟨hend, hstate, hdict, hanswer⟩ := State.finishUpload_of_map (s := s.onServe tr) (hcorr ▸ hu) hwhat hbegun hfinish
    hwriting (hcorr ▸ hcommit) (by rw [State.onServe_rd _ _ (by decide) (by decide), hsegments])
    (by rw [State.onServe_inhibited, hinhibit]) (by rw [State.onServe_rd _ _ (by decide) (by decide), hmode])
  have hsame := (sameObjects_wr (s.onServe tr) 0x421005 2).of_dict hdict
  refine ⟨_, exec_finishUpload tr s, ?_, ?_, ?_, ?_, ?_, State.hostWrite_same h hk _ hsame⟩
  · rw [State.hostWrite_answer h hk, hanswer]; rfl
  · rw [State.rd_hostWrite h hk _ (by decide) (by decide), State.rd, hdict]
    exact (State.rd_wr ..).trans (if_pos rfl)
  · rw [State.hostWrite_corr h hk, hend]
  · rw [State.hostWrite_corr h hk, hend]
  · rw [State.bankOf_congr (State.hostWrite_mram h hk _), hstate]

/-! ### The end of a failed upload (R157, R158) -/

@[simp] theorem State.spoilBank_cal (b : Nat) (s : State) : (s.spoilBank b).corr.cal = s.corr.cal := by
  unfold State.spoilBank
  split
  · rfl
  · rw [State.bankState_frame]

@[simp] theorem State.releaseStaging_corr (s : State) : s.releaseStaging.corr = s.corr := by
  unfold State.releaseStaging
  split <;> rfl

/-- A failed upload ends at status 4; calibration runs go on. -/
theorem State.uploadFail_ends {s : State} {u : Upload} (hu : s.corr.upload = some u) :
    s.uploadFail.corr.upload = none ∧ s.uploadFail.rd 0x421005 = 4 ∧ s.uploadFail.corr.cal = s.corr.cal := by
  unfold State.uploadFail
  rw [hu]
  dsimp only
  refine ⟨by rw [State.logEvent_corr]; rfl, ?_, ?_⟩
  · rw [State.logEvent_same _ _ _ _ (by decide), State.rd_wr, if_pos rfl]
  · rw [State.logEvent_corr]
    simp only [State.wr_corr, State.onCorr_corr, apply_ite State.corr, apply_ite Corr.cal, State.releaseStaging_corr,
      State.spoilBank_cal, ite_self]

theorem State.abortUpload_ends {tr : Transport} {u : Upload} {s : State} (h : s.admits ⟨tr, 0x421003, 1, 1⟩)
    (hu : s.corr.upload = some u) :
    ∃ t, exec (.abortUpload tr 1) s = .next t ∧ t.corr.upload = none ∧ t.rd 0x421005 = 4 ∧ t.corr.cal = s.corr.cal := by
  have hk : (⟨tr, 0x421003, 1, 1⟩ : Txn).key ≠ 0x102009 := by simp
  have hcorr := s.onServe_corr tr
  obtain ⟨hupload, hstatus, hcal⟩ := State.uploadFail_ends (s := s.onServe tr) (hcorr ▸ hu)
  refine ⟨_, congrArg Host.Outcome.next (s.hostCommand_one tr 0x421003 State.uploadFail), ?_, ?_, ?_⟩
  · rw [State.hostWrite_corr h hk, hupload]
  · rw [State.rd_hostWrite h hk _ (by decide) (by decide), hstatus]
  · rw [State.hostWrite_corr h hk, hcal, hcorr]

theorem State.uploadTimeout_ends {u : Upload} {s : State} (hu : s.corr.upload = some u) (hcommit : s.corr.commit = none)
    (hpaused : s.uploadPaused u = false) (hdue : u.lastAt + ms 10000 ≤ s.now) :
    ∃ t, exec .uploadTimeout s = .next t ∧ t.corr.upload = none ∧ t.rd 0x421005 = 4 := by
  have hexec : exec .uploadTimeout s = .next s.uploadFail := by
    change execUploadTimeout s = _
    simp [execUploadTimeout, hu, hcommit, hpaused, hdue]
  obtain ⟨hupload, hstatus, -⟩ := State.uploadFail_ends hu
  exact ⟨_, hexec, hupload, hstatus⟩

/-! ### The switch mode (R155) -/

/-- With no bank waiting, a write of the switch mode stores it. -/
theorem State.mapSwitchModeWrite_stores {tr : Transport} {v : Nat} {s : State} (h : s.admits ⟨tr, 0x401006, 1, v⟩)
    (hwaiting : s.corr.waiting = none) :
    ∃ t, exec (.mapSwitchModeWrite tr v) s = .next t ∧ t.answer.abort = 0 ∧ t.rd 0x401006 = v ∧
      sameObjects ([0x401006] ++ accessCounters tr) s t ∧ t = { s with dict := t.dict, answer := t.answer } := by
  have hk : (⟨tr, 0x401006, 1, v⟩ : Txn).key ≠ 0x102009 := by simp
  have he : State.mapSwitchMode v (s.onServe tr) = (s.onServe tr).wr 0x401006 v := by simp [State.mapSwitchMode, hwaiting]
  refine ⟨s.hostWrite ⟨tr, 0x401006, 1, v⟩ (State.mapSwitchMode v), rfl, ?_, ?_, State.hostWrite_same h hk _ ?_, ?_⟩
  · rw [State.hostWrite_answer h hk, he]; rfl
  · rw [State.rd_hostWrite h hk _ (by decide) (by decide), he, State.rd_wr, if_pos rfl]
  · rw [he]; exact sameObjects_wr _ 0x401006 v
  · rw [State.hostWrite_eq_counted1 h hk, he, State.counted1_frame, State.wr, State.onServe_frame]

/-- Settles O33, clause by clause: how an upload starts, finishes and fails, and the switch mode. -/
theorem mapAndSetUploadsRunToTheirEnd : Obligations.MapAndSetUploadsRunToTheirEnd := by
  unfold Obligations.MapAndSetUploadsRunToTheirEnd
  exact ⟨fun _ _ h => ⟨State.startMapUpload_opens h, State.startMapUpload_refused h⟩,
    fun _ _ _ => State.startSetUpload_opens,
    fun _ _ _ _ => State.finishUpload_commits,
    fun _ _ _ => State.finishUpload_verifies,
    fun _ _ _ => State.abortUpload_ends,
    fun _ _ => State.uploadTimeout_ends,
    fun _ _ _ => State.mapSwitchModeWrite_stores⟩

end Sys2Proof.Machine
end

section
/-!
PROOFS. The commit of a temperature set (R131, R134): the new copy is the only one of its set, and no other set's copy moves.
-/
namespace Sys2Proof.Machine

/-- The copy that a commit of set `n` writes. -/
def SetSlot.committed (n gen : Nat) (words : List (Nat × Nat)) : SetSlot :=
  let t : SetSlot := ⟨setTag, n, gen, 0, 0, false, words⟩
  { t with dcrc := t.dataCrc }.sealed

theorem SetSlot.committed_holds {n : Nat} (hn : n ≤ 2) (gen : Nat) (words : List (Nat × Nat)) (m : Nat) :
    (SetSlot.committed n gen words).holds m = (n == m) := by
  simp [SetSlot.committed, SetSlot.holds, SetSlot.current, SetSlot.sealed, hn]

theorem SetSlot.freed_holds (t : SetSlot) (m : Nat) : t.freed.holds m = false := by
  simp [SetSlot.freed, SetSlot.holds, SetSlot.current, SetSlot.sealed]

theorem SetSlot.holds_of_not_current {t : SetSlot} (h : t.current = false) (m : Nat) : t.holds m = false := by
  simp [SetSlot.holds, h]

/-- A slot holds a copy of one set. -/
theorem SetSlot.holds_unique {t : SetSlot} {n m : Nat} (hn : t.holds n = true) (hm : t.holds m = true) : n = m := by
  simp only [SetSlot.holds, Bool.and_eq_true, beq_iff_eq] at hn hm
  exact hn.2.symm.trans hm.2

/-- The slots once the copy of set `n` has become free. -/
def freeSlots (n : Nat) (l : List SetSlot) : List SetSlot := l.map fun t => if t.holds n then t.freed else t

theorem find?_freeSlots {n m : Nat} (hm : m ≠ n) (l : List SetSlot) :
    (freeSlots n l).find? (SetSlot.holds m) = l.find? (SetSlot.holds m) := by
  induction l with
  | nil => rfl
  | cons t l ih =>
    rw [freeSlots, List.map_cons, List.find?_cons, List.find?_cons, ← freeSlots, ih]
    by_cases hn : t.holds n = true
    · have hm' : t.holds m = false := Bool.eq_false_iff.mpr fun h => hm (SetSlot.holds_unique h hn)
      rw [if_pos hn, SetSlot.freed_holds, hm']
    · rw [if_neg hn]

/-- With a free slot for it, the new copy is the one found for its set; every other set's is found as before. -/
theorem find?_setNth_freeSlots {n : Nat} {x : SetSlot} (hx : ∀ m, x.holds m = (n == m)) {l : List SetSlot}
    (hfree : ∃ t ∈ l, t.current = false) (m : Nat) :
    (setNth (freeSlots n l) (l.findIdx fun t => !t.current) x).find? (SetSlot.holds m) =
      if m = n then some x else l.find? (SetSlot.holds m) := by
  induction l with
  | nil => obtain ⟨t, ht, -⟩ := hfree; cases ht
  | cons t l ih =>
    by_cases hcurrent : t.current = true
    · have hrest : ∃ u ∈ l, u.current = false := by
        obtain ⟨u, hu, hfalse⟩ := hfree
        rcases List.mem_cons.mp hu with rfl | hu
        · exact absurd hcurrent (by simp [hfalse])
        · exact ⟨u, hu, hfalse⟩
      have hset : setNth (freeSlots n (t :: l)) ((t :: l).findIdx fun t => !t.current) x =
          (if t.holds n then t.freed else t) :: setNth (freeSlots n l) (l.findIdx fun t => !t.current) x := by
        simp [List.findIdx_cons, hcurrent, freeSlots, setNth, modifyNth]
      rw [hset, List.find?_cons, List.find?_cons, ih hrest]
      by_cases hn : t.holds n = true
      · rw [if_pos hn, SetSlot.freed_holds]
        by_cases hm : m = n
        · rw [if_pos hm, if_pos hm]
        · have hm' : t.holds m = false := Bool.eq_false_iff.mpr fun h => hm (SetSlot.holds_unique h hn)
          rw [if_neg hm, if_neg hm, hm']
      · rw [if_neg hn]
        by_cases hm : m = n
        · rw [if_pos hm, if_pos hm, hm, Bool.eq_false_iff.mpr hn]
        · rw [if_neg hm, if_neg hm]
    · have hnot : t.current = false := Bool.eq_false_iff.mpr hcurrent
      have hset : setNth (freeSlots n (t :: l)) ((t :: l).findIdx fun t => !t.current) x = x :: freeSlots n l := by
        simp [List.findIdx_cons, hnot, freeSlots, setNth, modifyNth]
      rw [hset, List.find?_cons, List.find?_cons, hx, SetSlot.holds_of_not_current hnot]
      by_cases hm : m = n
      · rw [if_pos hm, hm, beq_self_eq_true]
      · rw [if_neg hm, beq_eq_false_iff_ne.mpr (Ne.symm hm), find?_freeSlots hm]

@[simp] theorem State.setBecomes_rd (s : State) (n : Nat) (words : List (Nat × Nat)) (k : Nat) :
    (s.setBecomes n words).rd k = s.rd k := by
  simp [State.setBecomes, State.wroteWords]

theorem State.setCopy_congr {s t : State} (h : t.mram = s.mram) (n : Nat) : t.setCopy n = s.setCopy n := by
  unfold State.setCopy
  rw [h]

/-- A set commit makes its copy the set's current one and leaves the copies of the other sets (R134). -/
theorem State.setCopy_setBecomes {s : State} {n : Nat} (hn : n ≤ 2) (words : List (Nat × Nat))
    (hfree : ∃ x ∈ s.mram.sets, x.current = false) :
    ((s.setBecomes n words).setCopy n).map SetSlot.words = some words ∧
      ∀ m, m ≠ n → (s.setBecomes n words).setCopy m = s.setCopy m := by
  obtain ⟨gen, hsets⟩ : ∃ gen, (s.setBecomes n words).mram.sets =
      setNth (freeSlots n s.mram.sets) (s.mram.sets.findIdx fun t => !t.current) (SetSlot.committed n gen words) := ⟨_, rfl⟩
  have hfind := find?_setNth_freeSlots (SetSlot.committed_holds hn gen words) hfree
  constructor
  · rw [State.setCopy, hsets, hfind, if_pos rfl]
    rfl
  · intro m hm
    rw [State.setCopy, hsets, hfind, if_neg hm, State.setCopy]

end Sys2Proof.Machine
end

section
/-!
PROOFS. The new map of a full-map run, set commits and cache loads (O32; R127, R131, R134, R135, R153 to R157, R264).
-/
namespace Sys2Proof.Machine

/-! ### The start of the write (R153, R154) -/

/-- The write of bank `b` with the new entries has begun: its header, status 3, no segment done. -/
def State.mapBegun (b : Nat) (new : List (Nat × Nat)) (s : State) : State :=
  ((s.beginBank b).calPhase 3 fun c => { c with newMap := new, bank := b, retried := false }).onCorr fun x => { x with
    mapWrite := some b, mapDone := 0, waiting := if x.waiting = some b then none else x.waiting }

theorem State.mapBegun_begins {c : Cal} {s : State} (hcal : s.corr.cal = some c) (b : Nat) (new : List (Nat × Nat)) :
    (s.mapBegun b new).rd 0x420008 = 3 ∧ (s.mapBegun b new).corr.mapWrite = some b ∧ (s.mapBegun b new).corr.mapDone = 0 ∧
      (s.mapBegun b new).corr.cal.map Cal.bank = some b ∧ ((s.mapBegun b new).bankOf b).state = 1 := by
  unfold State.mapBegun State.calPhase
  refine ⟨by simp, rfl, rfl, ?_, ?_⟩
  · rw [State.beginBank_frame]
    simp [hcal]
  · rw [State.onCorr_bankOf, State.wr_bankOf, State.onCorr_bankOf, State.beginBank_state]

theorem State.mapEntriesComputed_within_limits {c : Cal} {s : State} (hcal : s.corr.cal = some c) (hstatus : s.rd 0x420008 = 2)
    (hdue : c.at_ + us 75600 ≤ s.now) (hinhibit : s.inhibited = false) (huse : s.bankInUse s.idleBank = false)
    (hdefects : s.defectsOk (c.sums.map fun q => (pixelIndex q.row q.col, newEntry c s.liveEntry q.row q.col)) = true) :
    exec .mapEntriesComputed s = .next (s.mapBegun s.idleBank
      (c.sums.map fun q => (pixelIndex q.row q.col, newEntry c s.liveEntry q.row q.col))) := by
  have hgo : ¬(s.rd 0x420008 ≠ 2 ∨ s.now < c.at_ + us 75600 ∨ s.inhibited = true ∨ s.bankInUse s.idleBank = true) := by
    simp [hstatus, hdue, hinhibit, huse]
  change execMapEntriesComputed s = _
  unfold execMapEntriesComputed
  rw [hcal]
  dsimp only
  rw [if_neg hgo]
  rw [if_neg (by rw [hdefects]; decide)]
  rfl

theorem State.mapEntriesComputed_begins {c : Cal} {s : State} (hcal : s.corr.cal = some c) (hstatus : s.rd 0x420008 = 2)
    (hdue : c.at_ + us 75600 ≤ s.now) (hinhibit : s.inhibited = false) (huse : s.bankInUse s.idleBank = false)
    (hdefects : s.defectsOk (c.sums.map fun q => (pixelIndex q.row q.col, newEntry c s.liveEntry q.row q.col)) = true) :
    ∃ t, exec .mapEntriesComputed s = .next t ∧ t.rd 0x420008 = 3 ∧ t.corr.mapWrite = some s.idleBank ∧
      t.corr.mapDone = 0 ∧ (t.corr.cal.map Cal.bank) = some s.idleBank ∧ (t.bankOf s.idleBank).state = 1 := by
  exact ⟨_, State.mapEntriesComputed_within_limits hcal hstatus hdue hinhibit huse hdefects, State.mapBegun_begins hcal _ _⟩

/-! ### The segments (R154, R157) -/

theorem State.writeSegment_frame (n g : Nat) (data : List (Nat × Nat)) (s : State) :
    s.writeSegment n g data = { s with
      mram := (s.writeSegment n g data).mram
      corr := { s.corr with newCrcs := setNth s.corr.newCrcs g (crc32 (segmentBytes data)) } } := by
  unfold State.writeSegment State.wroteWords
  rw [State.onBank_frame]
  rfl

/-- A segment of a map commit read back well: it is written, counted and reported. -/
def State.segmentDone (c : Cal) (b : Nat) (s : State) : State :=
  let g := s.corr.mapDone
  let data := (rangeFrom (524288 * g) 524288).map fun i => (i, s.newMapEntry c.newMap i)
  (((s.writeSegment b g data).calPhase 3 fun c => { c with retried := false }).onCorr fun x =>
    { x with mapDone := g + 1 }).wr 0x420009 (g + 1)

theorem State.segmentDone_dict (c : Cal) (b : Nat) (s : State) :
    (s.segmentDone c b).dict = ((s.wr 0x420008 3).wr 0x420009 (s.corr.mapDone + 1)).dict := by
  unfold State.segmentDone
  extract_lets g data
  rw [State.writeSegment_frame]
  rfl

theorem State.rd_segmentDone (c : Cal) (b : Nat) (s : State) (k : Nat) :
    (s.segmentDone c b).rd k = if k = 0x420009 then s.corr.mapDone + 1 else if k = 0x420008 then 3 else s.rd k := by
  rw [State.rd, State.segmentDone_dict]
  exact (State.rd_wr ..).trans (by rw [State.rd_wr])

theorem State.segmentDone_corr (c : Cal) (b : Nat) (s : State) :
    (s.segmentDone c b).corr.mapDone = s.corr.mapDone + 1 ∧ (s.segmentDone c b).corr.mapWrite = s.corr.mapWrite := by
  unfold State.segmentDone
  extract_lets g data
  rw [State.writeSegment_frame]
  exact ⟨rfl, rfl⟩

theorem State.commitSegment_of_more {s : State} (hmore : s.corr.mapDone < 31) (c : Cal) (b : Nat) :
    s.commitSegment c b true = s.segmentDone c b := by
  have hlt : s.corr.mapDone + 1 < 32 := by omega
  simp only [State.commitSegment, Bool.not_true, Bool.false_eq_true, if_false, hlt, if_true]
  rfl

theorem State.commitSegment_of_last {s : State} (hlast : s.corr.mapDone = 31) (c : Cal) (b : Nat) :
    s.commitSegment c b true =
      (((s.segmentDone c b).onCorr fun x => { x with mapWrite := none, cal := none }).wr 0x420008 4).bankVerified b := by
  have hlt : ¬s.corr.mapDone + 1 < 32 := by omega
  simp only [State.commitSegment, Bool.not_true, Bool.false_eq_true, if_false, hlt]
  rfl

/-- A run that fails leaves no map commit. -/
theorem State.calFail_ends (cause : Nat) (s : State) {c : Cal} (hcal : s.corr.cal = some c) :
    (s.calFail cause).corr.cal = none ∧ (s.calFail cause).corr.mapWrite = none ∧ (s.calFail cause).rd 0x420008 = 6 := by
  unfold State.calFail
  rw [hcal]
  dsimp only
  refine ⟨by rw [State.logEvent_corr]; rfl, by rw [State.logEvent_corr]; rfl, ?_⟩
  rw [State.logEvent_same _ _ _ _ (by decide), State.rd_wr, if_pos rfl]

section mapSegmentWritten
variable {b : Nat} {c : Cal} {s : State} (hwrite : s.corr.mapWrite = some b) (hcal : s.corr.cal = some c)

theorem State.mapSegmentWritten_of_inhibited (hinhibit : s.inhibited = true) (ok : Bool) :
    exec (.mapSegmentWritten ok) s = .next s := if_pos hinhibit

include hwrite hcal

theorem State.mapSegmentWritten_of_commit (hinhibit : s.inhibited = false) (hdue : c.at_ + ms 55 ≤ s.now) (ok : Bool) :
    exec (.mapSegmentWritten ok) s = .next (s.commitSegment c b ok) := by
  change execMapSegmentWritten ok s = _
  simp [execMapSegmentWritten, hwrite, hcal, hinhibit, Nat.not_lt.mpr hdue]

theorem State.mapSegmentWritten_goes_on (hinhibit : s.inhibited = false) (hdue : c.at_ + ms 55 ≤ s.now)
    (hmore : s.corr.mapDone < 31) :
    ∃ t, exec (.mapSegmentWritten true) s = .next t ∧ t.corr.mapDone = s.corr.mapDone + 1 ∧
      t.rd 0x420009 = s.corr.mapDone + 1 ∧ t.rd 0x420008 = 3 ∧ t.corr.mapWrite = some b := by
  obtain ⟨hdone, hbank⟩ := s.segmentDone_corr c b
  refine ⟨_, State.mapSegmentWritten_of_commit hwrite hcal hinhibit hdue true, ?_⟩
  rw [State.commitSegment_of_more hmore]
  exact ⟨hdone, by simp [State.rd_segmentDone], by simp [State.rd_segmentDone], hbank.trans hwrite⟩

theorem State.mapSegmentWritten_ends (hinhibit : s.inhibited = false) (hdue : c.at_ + ms 55 ≤ s.now)
    (hlast : s.corr.mapDone = 31) (hmode : s.rd 0x401006 = 1) :
    ∃ t, exec (.mapSegmentWritten true) s = .next t ∧ t.corr.mapWrite = none ∧ t.corr.cal = none ∧ t.rd 0x420008 = 4 ∧
      t.corr.waiting = some b ∧ (t.bankOf b).state = 2 := by
  refine ⟨_, State.mapSegmentWritten_of_commit hwrite hcal hinhibit hdue true, ?_⟩
  rw [State.commitSegment_of_last hlast, State.bankVerified_of_manual (by simp [State.rd_segmentDone, hmode])]
  exact ⟨by simp, by simp, by simp, rfl, by rw [State.onCorr_bankOf, State.verifyBank_state]⟩

theorem State.mapSegmentWritten_fails (hinhibit : s.inhibited = false) (hdue : c.at_ + ms 55 ≤ s.now)
    (hretried : c.retried = true) :
    ∃ t, exec (.mapSegmentWritten false) s = .next t ∧ t.corr.cal = none ∧ t.corr.mapWrite = none ∧ t.rd 0x420008 = 6 := by
  have hfail : s.commitSegment c b false = (s.bankState b 0xFF).calFail 0x0D := by simp [State.commitSegment, hretried]
  refine ⟨_, State.mapSegmentWritten_of_commit hwrite hcal hinhibit hdue false, ?_⟩
  rw [hfail]
  exact State.calFail_ends 0x0D _ (by rw [State.bankState_frame]; exact hcal)

end mapSegmentWritten

/-! ### Set commits (R134, R135) -/

/-- A commit of a set that is not the live one starts a cache load at most. -/
theorem State.setChanged_of_not_live {s : State} {n : Nat} (h : s.rd 0x400101 ≠ n) :
    (s.setChanged n).mram = s.mram ∧ (s.setChanged n).corr.cal = s.corr.cal ∧
      (s.setChanged n).corr.commit = s.corr.commit ∧ sameObjects [0x400106] s (s.setChanged n) := by
  by_cases hstaged : s.staged 0x400101 = n
  · have hlive : s.startCacheLoad.rd 0x400101 ≠ n := by rw [State.startCacheLoad, State.onCorr_rd, State.rd_wr]; exact h
    have hload : s.setChanged n = s.startCacheLoad := by simp [State.setChanged, hstaged, hlive]
    rw [hload]
    exact ⟨rfl, rfl, rfl, (sameObjects_wr s 0x400106 1).of_dict rfl⟩
  · have hkept : s.setChanged n = s := by simp [State.setChanged, hstaged, h]
    rw [hkept]
    exact ⟨rfl, rfl, rfl, sameObjects.refl _ s⟩

theorem State.setCommitComplete_passes {k : SetCommit} {s : State} (hcommit : s.corr.commit = some k)
    (hinhibit : s.inhibited = false) (hcal : k.cal = true) (hset : k.set ≤ 2) (hlive : s.rd 0x400101 ≠ k.set)
    (hfree : ∃ x ∈ s.mram.sets, x.current = false) :
    ∃ t, exec (.setCommitComplete true) s = .next t ∧ t.rd 0x420008 = 5 ∧ t.corr.cal = none ∧ t.corr.commit = none ∧
      (t.setCopy k.set).map SetSlot.words = some k.words ∧ ∀ n, n ≠ k.set → t.setCopy n = s.setCopy n := by
  generalize hpassed : ((s.setBecomes k.set k.words).onCorr fun x => { x with commit := none }).calPass = passed
  have hexec : exec (.setCommitComplete true) s = .next (passed.setChanged k.set) := by
    change execSetCommitComplete true s = _
    simp [execSetCommitComplete, hcommit, hinhibit, hcal, hpassed]
  have hlive' : passed.rd 0x400101 ≠ k.set := by simpa [← hpassed, State.calPass] using hlive
  obtain ⟨hmram, hrun, hdone, hsame⟩ := State.setChanged_of_not_live hlive'
  have hcopies := State.setCopy_setBecomes hset k.words hfree
  have hcopy (n : Nat) : (passed.setChanged k.set).setCopy n = (s.setBecomes k.set k.words).setCopy n :=
    State.setCopy_congr (hmram.trans (by simp [← hpassed, State.calPass])) n
  refine ⟨_, hexec, ?_, ?_, ?_, ?_⟩
  · rw [hsame _ (by decide), ← hpassed, State.calPass, State.rd_wr, if_pos rfl]
  · rw [hrun]; simp [← hpassed, State.calPass]
  · rw [hdone]; simp [← hpassed, State.calPass]
  · simpa only [hcopy] using hcopies

/-! ### Cache loads (R33, R135) -/

/-- That the part is idle changes no staged value. -/
theorem State.markIdle_staged (s : State) (k : Nat) : s.markIdle.staged k = s.staged k := by
  have hwrites : s.markIdle.stagedWrites = s.stagedWrites := by
    unfold State.stagedWrites State.markIdle
    rw [State.onStage_stage, List.foldl_map]
    rfl
  rw [State.staged, hwrites]
  rfl

/-- A read that names no uncorrectable word finds every word of its range readable. -/
theorem State.readable_noteErrors (s : State) (r : WordRange) (corrected : List Nat) :
    (s.noteErrors r [] corrected).readable r = true := by
  rw [State.readable, State.errorsIn_noteErrors]
  simp [namedErrors]

/-- The words of the staged set's copy are read, with the errors that the lists name. -/
def State.cacheRead (bad corrected : List Nat) (s : State) : State :=
  let r := s.copyWords (s.staged 0x400101)
  (s.noteErrors r bad corrected).readWords r

theorem State.cacheRead_frame (bad corrected : List Nat) (s : State) :
    s.cacheRead bad corrected = { s with
      dict := (s.cacheRead bad corrected).dict
      mram := { s.mram with errs := (s.cacheRead bad corrected).mram.errs } } := by
  unfold State.cacheRead
  rw [State.readWords_frame]
  rfl

theorem State.cacheRead_same (bad corrected : List Nat) (s : State) :
    sameObjects (rangeFrom 0xC10001 5) s (s.cacheRead bad corrected) :=
  fun k hk => State.readWords_same _ _ k hk

theorem State.cacheRead_readable (corrected : List Nat) (s : State) :
    (s.cacheRead [] corrected).readable ((s.cacheRead [] corrected).copyWords (s.staged 0x400101)) = true := by
  unfold State.cacheRead
  rw [State.readWords_frame]
  exact s.readable_noteErrors _ corrected

theorem State.setCacheLoadComplete_ends (bad corrected : List Nat) {s : State} (hloading : s.corr.loading.isSome = true) :
    ∃ t, exec (.setCacheLoadComplete bad corrected) s = .next t ∧ t.corr.loading = none ∧ t.rd 0x400106 = 0 ∧
      (bad = [] → t.corr.unread = s.corr.unread.filter (· != s.staged 0x400101)) ∧
      t.mram = { s.mram with errs := t.mram.errs } ∧ sameObjects (0x400106 :: rangeFrom 0xC10001 5) s t := by
  generalize hmarked : (if s.idle then s.markIdle else s) = marked
  have hframe : marked = { s with stage := marked.stage } := by rw [← hmarked]; split <;> rfl
  have hstaged : marked.staged 0x400101 = s.staged 0x400101 := by
    rw [← hmarked]; split
    · exact s.markIdle_staged _
    · rfl
  have hexec : exec (.setCacheLoadComplete bad corrected) s = .next
      (((marked.cacheRead bad corrected).onCorr fun x => { x with
        loading := none
        unread := if !(marked.cacheRead bad corrected).readable
            ((marked.cacheRead bad corrected).copyWords (marked.staged 0x400101)) then some (marked.staged 0x400101)
          else x.unread.filter (· != marked.staged 0x400101) }).wr 0x400106 0) := by
    have hnone : s.corr.loading.isNone = false := by simpa using hloading
    change execSetCacheLoadComplete s bad corrected = _
    simp only [execSetCacheLoadComplete, hnone, hmarked]
    rfl
  refine ⟨_, hexec, rfl, ?_, ?_, ?_, ?_⟩
  · rw [State.rd_wr, if_pos rfl]
  · rintro rfl
    rw [State.wr_corr, State.onCorr_corr, State.cacheRead_readable, hstaged, State.cacheRead_frame, hframe]
    rfl
  · rw [State.wr_mram, State.onCorr_mram, State.cacheRead_frame, hframe]
  · have hread : sameObjects (rangeFrom 0xC10001 5) s (marked.cacheRead bad corrected) := fun k hk =>
      (marked.cacheRead_same bad corrected k hk).trans (by rw [hframe]; rfl)
    exact hread.trans (sameObjects_wr _ 0x400106 0) (List.subset_cons_self ..) (by simp)

/-- Settles O32, clause by clause: the new map, a set commit, a cache load. -/
theorem newMapsAreWrittenSegmentBySegment : Obligations.NewMapsAreWrittenSegmentBySegment := by
  unfold Obligations.NewMapsAreWrittenSegmentBySegment
  exact ⟨fun _ _ => State.mapEntriesComputed_begins,
    fun _ _ _ hwrite hcal => ⟨fun hinhibit => State.mapSegmentWritten_of_inhibited hinhibit true, fun hinhibit hdue =>
      ⟨State.mapSegmentWritten_goes_on hwrite hcal hinhibit hdue, State.mapSegmentWritten_ends hwrite hcal hinhibit hdue,
        State.mapSegmentWritten_fails hwrite hcal hinhibit hdue⟩⟩,
    fun _ _ => State.setCommitComplete_passes,
    fun bad corrected _ => State.setCacheLoadComplete_ends bad corrected⟩

end Sys2Proof.Machine
end

section
/-!
PROOFS. Uplinks (R161, R165, R179, R180, R190): what a packet meets in each state of its uplink, what a discarded packet leaves,
and that a packet which decodes acts as the command of its type.
-/
namespace Sys2Proof.Machine

section
variable {s : State} {ul : Nat}

/-! ### A packet in each state of its uplink (R165) -/

theorem State.uplinkPacket_of_locked (h : s.rd (0x900301 + ul) = 2) (eff : State → State) : s.uplinkPacket ul eff = eff s := by
  simp [State.uplinkPacket, State.uplink, h]

theorem State.uplinkPacket_of_highBer (h : s.rd (0x900301 + ul) = 3) (eff : State → State) :
    s.uplinkPacket ul eff = s.discardUplink ul := by
  simp [State.uplinkPacket, State.uplink, h]

theorem State.uplinkPacket_of_unlocked (h : s.rd (0x900301 + ul) < 2) (eff : State → State) : s.uplinkPacket ul eff = s := by
  unfold State.uplinkPacket State.uplink
  split
  · omega
  · omega
  · rfl

/-! ### Discarded packets (R179) -/

/-- `t` is `s` with one more packet counted as discarded on the uplink. -/
def State.discardedTo (ul : Nat) (s t : State) : Prop :=
  t.rd (0x900303 + ul) = countUp (s.rd (0x900303 + ul)) ∧ sameObjects [0x900303 + ul] s t ∧ t = { s with dict := t.dict }

theorem State.discardUplink_discarded (ul : Nat) (s : State) : s.discardedTo ul (s.discardUplink ul) :=
  ⟨by rw [State.discardUplink, State.rd_inc, if_pos rfl, countUp], sameObjects_wr s _ _, rfl⟩

/-! ### The receiver (R161, R165, R190) -/

theorem State.uplinkBlockLock_locks (hstate : s.rd (0x900301 + ul) < 2) (hreleased : s.lanes.released = true) :
    exec (.uplinkBlockLock ul) s = .next (s.wr (0x900301 + ul) 2) := by
  change execUplinkBlockLock ul s = _
  rw [execUplinkBlockLock, if_pos ⟨hreleased, hstate⟩]

theorem State.uplinkHighBer_sets (hstate : 2 ≤ s.rd (0x900301 + ul)) (high : Bool) :
    exec (.uplinkHighBer ul high) s = .next (s.wr (0x900301 + ul) (if high then 3 else 2)) := by
  change execUplinkHighBer ul high s = _
  rw [execUplinkHighBer, State.uplink, if_neg (by omega)]

theorem State.rd_prbsErrors (ul n k : Nat) (s : State) : (s.prbsErrors ul n).rd k =
    if k = 0x900203 + ul ∧ s.rd 0x900202 = 1 then min 0xFFFFFFFF (s.rd k + n) else s.rd k := by
  unfold State.prbsErrors
  by_cases hcheck : s.rd 0x900202 = 1 <;> by_cases hk : k = 0x900203 + ul <;> simp [hcheck, hk]

theorem State.prbsErrors_frame (ul n : Nat) (s : State) : s.prbsErrors ul n = { s with dict := (s.prbsErrors ul n).dict } := by
  unfold State.prbsErrors
  split <;> rfl

/-- The receiver of an uplink has lost its lock or still has none: the pattern errors, the loss of a held lock, the state. -/
def State.lockLost (ul : Nat) (signal : Bool) (errors : Nat) (s : State) : State :=
  (if s.rd (0x900301 + ul) < 2 then s.prbsErrors ul errors else (s.prbsErrors ul errors).inc (0x900305 + ul)).wr (0x900301 + ul)
    (b2n signal)

theorem State.uplinkLossOfLock_eq (hreleased : s.lanes.released = true) (signal : Bool) (errors : Nat) :
    exec (.uplinkLossOfLock ul signal errors) s = .next (s.lockLost ul signal errors) := by
  have hstate : (s.prbsErrors ul errors).uplink ul = s.rd (0x900301 + ul) := by
    rw [State.uplink, State.rd_prbsErrors, if_neg (by omega)]
  change execUplinkLossOfLock ul s signal errors = _
  simp only [execUplinkLossOfLock, hreleased, hstate, State.lockLost]
  rfl

theorem State.rd_lockLost (ul : Nat) (signal : Bool) (errors k : Nat) (s : State) : (s.lockLost ul signal errors).rd k =
    if k = 0x900301 + ul then b2n signal
    else if k = 0x900305 + ul ∧ 2 ≤ s.rd (0x900301 + ul) then countUp (s.rd k)
    else if k = 0x900203 + ul ∧ s.rd 0x900202 = 1 then min 0xFFFFFFFF (s.rd k + errors) else s.rd k := by
  unfold State.lockLost
  rw [State.rd_wr]
  congr 1
  by_cases hstate : s.rd (0x900301 + ul) < 2
  · rw [if_pos hstate, State.rd_prbsErrors, if_neg (c := k = 0x900305 + ul ∧ _) (by omega)]
  · rw [if_neg hstate, State.rd_inc, State.rd_prbsErrors, State.rd_prbsErrors,
      if_neg (c := 0x900305 + ul = 0x900203 + ul ∧ _) (by omega)]
    by_cases hk : k = 0x900305 + ul
    · rw [if_pos hk, if_pos ⟨hk, by omega⟩, hk, countUp]
    · rw [if_neg hk, if_neg (c := k = 0x900305 + ul ∧ _) fun h => hk h.1]

theorem State.lockLost_frame (ul : Nat) (signal : Bool) (errors : Nat) (s : State) :
    s.lockLost ul signal errors = { s with dict := (s.lockLost ul signal errors).dict } := by
  unfold State.lockLost
  split <;> rw [State.prbsErrors_frame] <;> rfl

/-- A loss of lock leaves the state of R190, counts the loss of a held lock and, while the check is on, the pattern errors. -/
theorem State.uplinkLossOfLock_counts (hreleased : s.lanes.released = true) (signal : Bool) (errors : Nat) :
    ∃ t, exec (.uplinkLossOfLock ul signal errors) s = .next t ∧ t.rd (0x900301 + ul) = (if signal then 1 else 0) ∧
      t.rd (0x900305 + ul) =
        (if 2 ≤ s.rd (0x900301 + ul) then countUp (s.rd (0x900305 + ul)) else s.rd (0x900305 + ul)) ∧
      t.rd (0x900203 + ul) =
        (if s.rd 0x900202 = 1 then min 0xFFFFFFFF (s.rd (0x900203 + ul) + errors) else s.rd (0x900203 + ul)) ∧
      sameObjects [0x900301 + ul, 0x900305 + ul, 0x900203 + ul] s t ∧ t = { s with dict := t.dict } := by
  refine ⟨_, State.uplinkLossOfLock_eq hreleased signal errors, ?_, ?_, ?_, fun k hk => ?_,
    State.lockLost_frame ul signal errors s⟩
  · rw [State.rd_lockLost, if_pos rfl, b2n]
  · simp [State.rd_lockLost]
  · simp [State.rd_lockLost]
  · simp only [List.mem_cons, List.not_mem_nil, or_false, not_or] at hk
    obtain ⟨hstate, hlosses, herrors⟩ := hk
    simp [State.rd_lockLost, hstate, hlosses, herrors]

/-! ### Packets as bytes (R179, R180) -/

theorem exec_uplinkPacketDiscard_of_undecoded {packet : List Byte} (h : uplinkDecode packet = none) :
    exec (.uplinkPacketDiscard ul packet) s = .next (s.uplinkPacket ul (State.discardUplink ul)) := by
  change execUplinkPacketDiscard ul s packet = _
  rw [execUplinkPacketDiscard, h]

theorem exec_uplinkPacketDiscard_of_decoded {packet : List Byte} {useq : Nat} {body : UplinkBody}
    (h : uplinkDecode packet = some (useq, body)) :
    exec (.uplinkPacketDiscard ul packet) s = .next (s.uplinkPacket ul fun s => body.effect ul useq s) := by
  change execUplinkPacketDiscard ul s packet = _
  rw [execUplinkPacketDiscard, h]

/-- Bytes that do not decode, or any bytes under high BER, are a discarded packet. -/
theorem State.uplinkPacketDiscard_discards {packet : List Byte}
    (h : (s.rd (0x900301 + ul) = 2 ∧ uplinkDecode packet = none) ∨ s.rd (0x900301 + ul) = 3) :
    exec (.uplinkPacketDiscard ul packet) s = .next (s.discardUplink ul) := by
  rcases h with ⟨hlocked, hdecode⟩ | hber
  · rw [exec_uplinkPacketDiscard_of_undecoded hdecode, State.uplinkPacket_of_locked hlocked]
  · exact congrArg _ (State.uplinkPacket_of_highBer hber _)

/-- A lane command in a packet acts as the command row of its number does. -/
theorem State.uplinkPacket_lane {command : Nat} {eff : List Nat → State → State} (h : laneEffect command = some eff)
    (useq lane : Nat) :
    s.uplinkPacket ul (fun s => (UplinkBody.lane command lane).effect ul useq s) = s.laneCommand ul lane eff := by
  refine congrArg (s.uplinkPacket ul) (funext fun u => ?_)
  simp only [UplinkBody.effect, h]
  cases lanesNamed lane <;> rfl

end

/-- Settles O34, clause by clause: the receiver's states, then the packets by what their bytes decode to. -/
theorem uplinkStatesFollowTheReceiver : Obligations.UplinkStatesFollowTheReceiver := by
  unfold Obligations.UplinkStatesFollowTheReceiver
  intro ul s _ key
  refine ⟨fun hstate hreleased => ?_, fun signal errors hreleased => State.uplinkLossOfLock_counts hreleased signal errors,
    fun high hstate => ?_, fun packet hbad => ?_, fun packet hstate => ?_, fun packet useq mask limits h => ?_,
    fun packet useq target segment offset data h => ?_, fun packet useq target segment length crc h => ?_,
    fun packet useq lane => ⟨fun h => ?_, fun h => ?_, fun h => ?_⟩⟩
  · exact ⟨_, State.uplinkBlockLock_locks hstate hreleased, by rw [State.rd_wr, if_pos rfl], sameObjects_wr s _ _, rfl⟩
  · exact ⟨_, State.uplinkHighBer_sets hstate high, by rw [State.rd_wr, if_pos rfl], sameObjects_wr s _ _, rfl⟩
  · exact ⟨_, State.uplinkPacketDiscard_discards hbad, State.discardUplink_discarded ul s⟩
  · exact congrArg Host.Outcome.next (State.uplinkPacket_of_unlocked hstate _)
  · exact exec_uplinkPacketDiscard_of_decoded h
  · exact exec_uplinkPacketDiscard_of_decoded h
  · exact exec_uplinkPacketDiscard_of_decoded h
  · exact (exec_uplinkPacketDiscard_of_decoded h).trans (congrArg _ (State.uplinkPacket_lane rfl useq lane))
  · exact (exec_uplinkPacketDiscard_of_decoded h).trans (congrArg _ (State.uplinkPacket_lane rfl useq lane))
  · exact (exec_uplinkPacketDiscard_of_decoded h).trans (congrArg _ (State.uplinkPacket_lane rfl useq lane))

end Sys2Proof.Machine
end

section
/-!
PROOFS. Lane settings (R166, R177, R180, R182): what an operation on one lane and the watch of the head entries leave unchanged,
credit grants, the enable mask, and retraining.
-/
namespace Sys2Proof.Machine

/-! ### One lane and the head entries -/

section
variable (s : State)

theorem State.watchHeads_frame :
    s.watchHeads = { s with lanes := { s.lanes with headSince := s.watchHeads.lanes.headSince } } := rfl

/-- A lane after lane `n` was updated. -/
theorem State.lane_onLane (n m : Nat) (f : Lane → Lane) : nth (s.onLane n f).lanes.lanes m Lane.reset =
    if m = n ∧ m < s.lanes.lanes.length then f (nth s.lanes.lanes m Lane.reset) else nth s.lanes.lanes m Lane.reset :=
  nth_modifyNth ..

/-! ### Credit grants (R177, R180) -/

/-- The credit limits of the masked lanes below `n` are replaced. -/
def State.granted (mask : Nat) (limits : List Nat) (n : Nat) : State :=
  (List.range n).foldl (fun s n => if bitAt mask n then s.wr (0x901001 + n) (nth limits n 0) else s) s

theorem State.grantCredit_eq (mask : Nat) (limits : List Nat) :
    s.grantCredit mask limits = (s.granted mask limits 32).watchHeads := rfl

theorem State.granted_succ (mask : Nat) (limits : List Nat) (n : Nat) : s.granted mask limits (n + 1) =
    if mask.testBit n then (s.granted mask limits n).wr (0x901001 + n) (nth limits n 0) else s.granted mask limits n := by
  rw [State.granted, List.range_succ, List.foldl_append]
  rfl

theorem State.granted_frame (mask : Nat) (limits : List Nat) (n : Nat) :
    s.granted mask limits n = { s with dict := (s.granted mask limits n).dict } := by
  induction n with
  | zero => rfl
  | succ n ih =>
    rw [State.granted_succ]
    split
    · rw [ih]; rfl
    · exact ih

theorem State.rd_granted_succ (mask : Nat) (limits : List Nat) (n k : Nat) : (s.granted mask limits (n + 1)).rd k =
    if k = 0x901001 + n ∧ mask.testBit n then nth limits n 0 else (s.granted mask limits n).rd k := by
  rw [State.granted_succ, apply_ite (State.rd · k), State.rd_wr]
  by_cases hmask : mask.testBit n <;> simp [hmask]

theorem State.granted_same (mask : Nat) (limits : List Nat) (n : Nat) :
    sameObjects (rangeFrom 0x901001 n) s (s.granted mask limits n) := by
  induction n with
  | zero => exact sameObjects.refl _ s
  | succ n ih =>
    intro k hk
    rw [mem_rangeFrom] at hk
    rw [State.rd_granted_succ, if_neg (by omega), ih k (by rw [mem_rangeFrom]; omega)]

theorem State.rd_granted (mask : Nat) (limits : List Nat) {n i : Nat} (hi : i < n) :
    (s.granted mask limits n).rd (0x901001 + i) = if mask.testBit i then nth limits i 0 else s.rd (0x901001 + i) := by
  induction n with
  | zero => omega
  | succ n ih =>
    rw [State.rd_granted_succ]
    by_cases hlast : i = n
    · have hbelow := s.granted_same mask limits n (0x901001 + i) (by rw [mem_rangeFrom]; omega)
      rw [hbelow, hlast]
      simp
    · rw [if_neg (by omega), ih (by omega)]

/-- On a locked uplink a grant replaces the credit limits of the masked lanes (R177). -/
theorem State.creditGrant_replaces {s : State} {ul : Nat} (hlocked : s.rd (0x900301 + ul) = 2) (mask : Nat)
    (limits : List Nat) : ∃ t, exec (.creditGrant ul mask limits) s = .next t ∧
      (∀ n < 32, t.rd (0x901001 + n) = if mask.testBit n then nth limits n 0 else s.rd (0x901001 + n)) ∧
      sameObjects (rangeFrom 0x901001 32) s t ∧
      t = { s with dict := t.dict, lanes := { s.lanes with headSince := t.lanes.headSince } } := by
  refine ⟨(s.granted mask limits 32).watchHeads, ?_, fun n hn => s.rd_granted mask limits hn, s.granted_same mask limits 32,
    ?_⟩
  · exact congrArg Host.Outcome.next (State.uplinkPacket_of_locked hlocked (State.grantCredit mask limits))
  · rw [State.watchHeads_frame, State.granted_frame]

/-! ### The enable mask (R166, R182) -/

/-- The lanes that a new enable mask starts to drive count their marker interval from now. -/
def State.drivesAnew (v : Nat) : State :=
  (List.range 32).foldl (fun u n =>
    if bitAt v n && !bitAt (s.rd 0x900101) n then u.onLane n fun l => { l with since := u.now } else u) s

theorem State.setEnable_eq (v : Nat) : s.setEnable v = ((s.drivesAnew v).wr 0x900101 v).watchHeads := rfl

theorem State.setEnable_dict (v : Nat) : (s.setEnable v).dict = Dict.set s.dict 0x900101 v := by
  have hdict : (s.drivesAnew v).dict = s.dict := foldl_keeps State.dict _ (fun u n => by split <;> rfl) _ s
  rw [State.setEnable_eq, State.watchHeads_frame, State.wr_dict, hdict]

theorem State.setEnable_answer (v : Nat) : (s.setEnable v).answer = s.answer :=
  foldl_keeps State.answer _ (fun u n => by split <;> rfl) _ s

theorem State.rd_setEnable (v k : Nat) : (s.setEnable v).rd k = if k = 0x900101 then v else s.rd k := by
  rw [State.rd, State.setEnable_dict, Dict.get_set, State.rd]

theorem State.setEnable_same (v : Nat) : sameObjects [0x900101] s (s.setEnable v) := fun k hk => by
  rw [State.rd_setEnable, if_neg (by simpa using hk)]

theorem testBit_laneBits_one (lane i : Nat) : (laneBits [lane]).testBit i = decide (i = lane) := by
  rw [laneBits, List.foldl_cons, List.foldl_nil, testBit_setBit, Nat.zero_testBit, Bool.false_or]

/-- Quiescing a lane clears its enable bit and no other. -/
theorem State.testBit_quiesceLanes_one (lane : Nat) {i : Nat} (hi : i < 32) :
    ((s.quiesceLanes [lane]).rd 0x900101).testBit i = ((s.rd 0x900101).testBit i && !decide (i = lane)) := by
  rw [State.quiesceLanes, State.rd_setEnable, if_pos rfl, testBit_andNot _ _ (by omega), testBit_laneBits_one]

/-- Resuming a lane sets its enable bit and no other. -/
theorem State.testBit_resumeLanes_one (lane i : Nat) :
    ((s.resumeLanes [lane]).rd 0x900101).testBit i = ((s.rd 0x900101).testBit i || decide (i = lane)) := by
  rw [State.resumeLanes, State.rd_setEnable, if_pos rfl, Nat.testBit_or, testBit_laneBits_one]

end

/-! ### Lane commands (R182) -/

section
variable {s : State} {ul : Nat} (hlocked : s.rd (0x900301 + ul) = 2)
include hlocked

theorem State.laneCommand_one {lane : Nat} (hlane : lane < 32) (eff : List Nat → State → State) :
    s.laneCommand ul lane eff = eff [lane] s := by
  rw [State.laneCommand, State.uplinkPacket_of_locked hlocked, lanesNamed, if_pos hlane]

theorem State.laneCommand_unnamed {lane : Nat} (hlane : 32 ≤ lane) (hall : lane ≠ 0xFF) (eff : List Nat → State → State) :
    s.laneCommand ul lane eff = s.discardUplink ul := by
  rw [State.laneCommand, State.uplinkPacket_of_locked hlocked, lanesNamed, if_neg (by omega), if_neg hall]

/-- Quiesce clears and resume sets the enable bit of the lane named (R182). -/
theorem State.quiesce_resume_set_one {lane : Nat} (hlane : lane < 32) :
    ∃ t u, exec (.quiesce ul lane) s = .next t ∧ exec (.resume ul lane) s = .next u ∧
      (t.rd 0x900101).testBit lane = false ∧ (u.rd 0x900101).testBit lane = true ∧
      (∀ i < 32, i ≠ lane → (t.rd 0x900101).testBit i = (s.rd 0x900101).testBit i ∧
        (u.rd 0x900101).testBit i = (s.rd 0x900101).testBit i) ∧
      sameObjects [0x900101] s t ∧ sameObjects [0x900101] s u := by
  refine ⟨s.quiesceLanes [lane], s.resumeLanes [lane], congrArg _ (State.laneCommand_one hlocked hlane _),
    congrArg _ (State.laneCommand_one hlocked hlane _), ?_, ?_, fun i hi hne => ⟨?_, ?_⟩, s.setEnable_same _,
    s.setEnable_same _⟩
  · rw [s.testBit_quiesceLanes_one lane hlane]; simp
  · rw [s.testBit_resumeLanes_one]; simp
  · rw [s.testBit_quiesceLanes_one lane hi]; simp [hne]
  · rw [s.testBit_resumeLanes_one]; simp [hne]

/-- Retrain lets the lane named finish its packet and retrain, and touches no other lane (R166). -/
theorem State.retrain_one {lane : Nat} (hlane : lane < 32) (hlanes : s.lanes.lanes.length = 32) :
    ∃ t, exec (.retrain ul lane) s = .next t ∧
      (nth t.lanes.lanes lane Lane.reset).retrainUntil =
        some ((match (nth s.lanes.lanes lane Lane.reset).sending with
          | some q => max s.now q.endsAt
          | none => s.now) + us (s.rd 0x900108)) ∧
      (∀ n < 32, n ≠ lane → nth t.lanes.lanes n Lane.reset = nth s.lanes.lanes n Lane.reset) ∧ t.dict = s.dict := by
  refine ⟨(s.retrainLane lane).watchHeads, congrArg _ (State.laneCommand_one hlocked hlane _), ?_, fun n _ hne => ?_, rfl⟩
  · exact congrArg Lane.retrainUntil ((s.lane_onLane lane lane _).trans (if_pos ⟨rfl, by omega⟩))
  · exact (s.lane_onLane lane n _).trans (if_neg fun h => hne h.1)

/-- A lane byte that names no lane is a discarded packet (R182). -/
theorem State.laneCommand_discards {lane : Nat} (hlane : 32 ≤ lane) (hall : lane ≠ 0xFF) :
    exec (.quiesce ul lane) s = .next (s.discardUplink ul) ∧ exec (.resume ul lane) s = .next (s.discardUplink ul) ∧
      exec (.retrain ul lane) s = .next (s.discardUplink ul) :=
  ⟨congrArg _ (State.laneCommand_unnamed hlocked hlane hall _), congrArg _ (State.laneCommand_unnamed hlocked hlane hall _),
    congrArg _ (State.laneCommand_unnamed hlocked hlane hall _)⟩

end

/-- A retrain whose time is over ends (R166). -/
theorem State.retrainEnd_ends {s : State} {lane : Nat} {x : Instant} (hlane : lane < 32) (hlanes : s.lanes.lanes.length = 32)
    (huntil : (nth s.lanes.lanes lane Lane.reset).retrainUntil = some x) (hdue : x ≤ s.now) :
    ∃ t, exec (.retrainEnd lane) s = .next t ∧
      nth t.lanes.lanes lane Lane.reset = { nth s.lanes.lanes lane Lane.reset with retrainUntil := none } ∧
      t = { s with lanes := { s.lanes with lanes := t.lanes.lanes, headSince := t.lanes.headSince } } := by
  refine ⟨(s.onLane lane fun l => { l with retrainUntil := none }).watchHeads, ?_, ?_, rfl⟩
  · change execRetrainEnd lane s = _
    simp only [execRetrainEnd, huntil, hdue, if_true]
  · exact (s.lane_onLane lane lane _).trans (if_pos ⟨rfl, by omega⟩)

/-! ### Settings written by the host (R166) -/

theorem State.downlinkEnableWrite_stores {s : State} {tr : Transport} {v : Nat} (h : s.admits ⟨tr, 0x900101, 4, v⟩) :
    ∃ t, exec (.downlinkEnableWrite tr v) s = .next t ∧ t.answer.abort = 0 ∧ t.rd 0x900101 = v ∧
      sameObjects ([0x900101] ++ accessCounters tr) s t := by
  have hk : (⟨tr, 0x900101, 4, v⟩ : Txn).key ≠ 0x102009 := by simp
  refine ⟨s.hostWrite ⟨tr, 0x900101, 4, v⟩ (State.setEnable v), rfl, ?_, ?_,
    State.hostWrite_same h hk _ (State.setEnable_same _ v)⟩
  · rw [State.hostWrite_answer h hk, State.setEnable_answer]; rfl
  · rw [State.rd_hostWrite h hk _ (by decide) (by decide), State.rd_setEnable, if_pos rfl]

theorem State.testPatternWrite_stores {s : State} {tr : Transport} {v : Nat} (h : s.admits ⟨tr, 0x900106, 1, v⟩) :
    ∃ t, exec (.testPatternWrite tr v) s = .next t ∧ t.answer.abort = 0 ∧ t.rd 0x900106 = v ∧
      sameObjects ([0x900106] ++ accessCounters tr) s t ∧
      t = { s with dict := t.dict, answer := t.answer, lanes := { s.lanes with headSince := t.lanes.headSince } } := by
  have hk : (⟨tr, 0x900106, 1, v⟩ : Txn).key ≠ 0x102009 := by simp
  refine ⟨s.hostWrite ⟨tr, 0x900106, 1, v⟩ (State.laneSetting 0x900106 v), rfl, ?_, ?_,
    State.hostWrite_same h hk _ (sameObjects_wr _ 0x900106 v), ?_⟩
  · rw [State.hostWrite_answer h hk]; rfl
  · rw [State.rd_hostWrite h hk _ (by decide) (by decide)]
    exact (State.rd_wr ..).trans (if_pos rfl)
  · rw [State.hostWrite_eq_counted1 h hk, State.counted1_frame, State.laneSetting, State.watchHeads_frame, State.wr,
      State.onServe_frame]

/-- Settles O35, clause by clause: credit grants, lane commands, the end of a retrain, the settings written. -/
theorem grantsAndLaneCommandsActOnTheNamedLanes : Obligations.GrantsAndLaneCommandsActOnTheNamedLanes := by
  unfold Obligations.GrantsAndLaneCommandsActOnTheNamedLanes
  intro ul s _ listens
  refine ⟨fun mask limits hlocked => State.creditGrant_replaces hlocked mask limits, fun mask limits hber => ?_,
    fun lane hlane hlocked => State.quiesce_resume_set_one hlocked hlane,
    fun lane hlane hlanes hlocked => State.retrain_one hlocked hlane hlanes,
    fun lane x hlane hlanes huntil hdue => State.retrainEnd_ends hlane hlanes huntil hdue, fun lane hlane hall hlocked => ?_,
    fun tr v h => State.downlinkEnableWrite_stores h, fun tr v h => State.testPatternWrite_stores h⟩
  · exact ⟨_, congrArg Host.Outcome.next (State.uplinkPacket_of_highBer hber _), State.discardUplink_discarded ul s⟩
  · obtain ⟨hquiesce, hresume, hretrain⟩ := State.laneCommand_discards hlocked hlane hall
    exact ⟨_, hquiesce, hresume, hretrain, State.discardUplink_discarded ul s⟩

end Sys2Proof.Machine
end

section
/-!
PROOFS. Dispatch (R163, R174 to R178, R183): the choice of the lane, what a packet that starts takes from its flask and pays on
its lane, what one that was sent leaves, markers and credit stalls.
-/
namespace Sys2Proof.Machine

/-! ### The lane with the most credit (R176) -/

/-- `n` stands in `l` with the greatest value of `c`, as the lowest of those that have it. -/
def IsMost (c : Nat → Nat) (l : List Nat) (n : Nat) : Prop := n ∈ l ∧ ∀ m ∈ l, c m ≤ c n ∧ (m < n → c m < c n)

/-- The better of a choice so far and a later candidate: a tie keeps the choice. -/
def betterOf (c : Nat → Nat) (b : Option Nat) (n : Nat) : Option Nat :=
  match b with
  | none => some n
  | some m => if c m < c n then some n else some m

/-- The fold of `betterOf` over a rising list finds its most, if the list has an element. -/
theorem foldl_betterOf (c : Nat → Nat) (l : List Nat) (hrising : l.Pairwise (· < ·)) :
    (l = [] ∧ l.foldl (betterOf c) none = none) ∨ ∃ n, l.foldl (betterOf c) none = some n ∧ IsMost c l n := by
  induction l using List.reverseRecOn with
  | nil => exact .inl ⟨rfl, rfl⟩
  | append_singleton l a ih =>
    obtain ⟨hl, -, hlast⟩ := List.pairwise_append.mp hrising
    have hbelow : ∀ m ∈ l, m < a := fun m hm => hlast m hm a (List.mem_singleton_self a)
    rw [List.foldl_append, List.foldl_cons, List.foldl_nil]
    rcases ih hl with ⟨rfl, hnone⟩ | ⟨n, hsome, hn, hmost⟩
    · exact .inr ⟨a, by rw [hnone]; rfl, by simp [IsMost]⟩
    · rw [hsome]
      by_cases hbetter : c n < c a
      · refine .inr ⟨a, if_pos hbetter, by simp, fun m hm => ?_⟩
        rcases List.mem_append.mp hm with hm | hm
        · have := (hmost m hm).1
          omega
        · simp [List.mem_singleton.mp hm]
      · refine .inr ⟨n, if_neg hbetter, by simp [hn], fun m hm => ?_⟩
        rcases List.mem_append.mp hm with hm | hm
        · exact hmost m hm
        · have hlater := hbelow n hn
          rw [List.mem_singleton.mp hm]
          omega

theorem State.pickLane_eq (s : State) (sp blocks : Nat) :
    s.pickLane sp blocks = ((sprueLanes sp).filter (s.laneFree blocks)).foldl (betterOf s.credit) none := rfl

theorem mem_sprueLanes (sp m : Nat) : m ∈ sprueLanes sp ↔ m / 8 = sp := by
  rw [sprueLanes, mem_rangeFrom]
  omega

theorem rangeFrom_rising (lo n : Nat) : (rangeFrom lo n).Pairwise (· < ·) :=
  List.pairwise_lt_range.map _ fun _ _ h => Nat.add_lt_add_left h lo

/-- The lane picked is a free lane of the sprue, none of which has more credit and every one before it less. -/
theorem State.pickLane_most {s : State} {sp blocks n : Nat} (h : s.pickLane sp blocks = some n) :
    n / 8 = sp ∧ s.laneFree blocks n = true ∧ ∀ m, m / 8 = sp → s.laneFree blocks m = true →
      s.credit m ≤ s.credit n ∧ (m < n → s.credit m < s.credit n) := by
  rw [State.pickLane_eq] at h
  have hrising := (rangeFrom_rising (8 * sp) 8).filter (s.laneFree blocks)
  rcases foldl_betterOf s.credit _ hrising with ⟨-, hnone⟩ | ⟨m, hsome, hm, hmost⟩
  · exact absurd (hnone.symm.trans h) (by simp)
  · obtain rfl : m = n := Option.some.inj (hsome.symm.trans h)
    obtain ⟨hsprue, hfree⟩ := List.mem_filter.mp hm
    exact ⟨(mem_sprueLanes sp m).mp hsprue, hfree, fun i hi hifree =>
      hmost i (List.mem_filter.mpr ⟨(mem_sprueLanes sp i).mpr hi, hifree⟩)⟩

/-! ### A packet starts (R163, R174 to R177) -/

/-- A flask after a packet of pour `pour` took its counts (R174). -/
def Flask.dispatched (pour : Nat) (f : Flask) : Flask :=
  { f with seq := (f.seq + 1) % 2 ^ 32, slag := 0, ospd := 0, lostn := false
           areaOspd := f.areaOspd.filter fun x => !decide (x.1 ≤ pour) }

/-- The state after the marker of a lane on which one is due. -/
def State.markedFirst (n : Nat) (s : State) : State := if s.markerDue n then s.sendMarker n else s

/-- The packet that starts on a lane with the fields of dispatch, and the state after its flask gave them. -/
def State.filled (sp n : Nat) (p : Packet) (s : State) : Sending × State :=
  ((s.markedFirst n).popHead sp).fillPacket p ((s.markedFirst n).now + if s.markerDue n then blocksTime 1 else 0)

/-- The state after the packet left its queue with its flask's counts, its pour marked as dispatched. -/
def State.departed (sp n : Nat) (p : Packet) (s : State) : State := (s.filled sp n p).2.noteDispatch (s.filled sp n p).1

/-- The state after the lane paid the packet's blocks and counted it. -/
def State.paid (sp n : Nat) (p : Packet) (s : State) : State :=
  ((s.departed sp n p).wr (0x901101 + n) (((s.departed sp n p).rd (0x901101 + n) + p.blocks) % 2 ^ 32)).inc (0x901201 + n)

section
variable (s : State) (sp n : Nat) (p : Packet)

theorem State.markedFirst_frame :
    s.markedFirst n = { s with lanes := { s.lanes with lanes := (s.markedFirst n).lanes.lanes } } := by
  unfold State.markedFirst
  split <;> rfl

theorem State.markedFirst_length : (s.markedFirst n).lanes.lanes.length = s.lanes.lanes.length := by
  unfold State.markedFirst
  split
  · exact length_modifyNth ..
  · rfl

theorem State.popHead_frame : s.popHead sp = { s with lanes := { s.lanes with
    queues := (s.popHead sp).lanes.queues, notices := (s.popHead sp).lanes.notices } } := by
  rw [State.popHead, State.onLanes]
  split <;> rfl

theorem State.noteDispatch_frame (q : Sending) :
    s.noteDispatch q = { s with lanes := { s.lanes with tundish := (s.noteDispatch q).lanes.tundish } } := by
  unfold State.noteDispatch
  split <;> rfl

theorem State.filled_state : (s.filled sp n p).2 = ((s.markedFirst n).popHead sp).onFlask p.flask (Flask.dispatched p.pour) := rfl

/-- The packet that starts carries the counts of its flask. -/
theorem State.filled_sending : (s.filled sp n p).1.pkt = p ∧ (s.filled sp n p).1.seq = (s.flask p.flask).seq ∧
    (s.filled sp n p).1.slag = (s.flask p.flask).slag ∧ (s.filled sp n p).1.lostn = (s.flask p.flask).lostn := by
  have himage : ((s.markedFirst n).popHead sp).image = s.image := by rw [State.popHead_frame, State.markedFirst_frame]
  have hflask : ((s.markedFirst n).popHead sp).flask p.flask = s.flask p.flask := by rw [State.flask, himage, State.flask]
  exact ⟨rfl, congrArg Flask.seq hflask, congrArg Flask.slag hflask, congrArg Flask.lostn hflask⟩

/-- Before its lane pays for it, a packet that starts changes the flask, the lanes' markers, the queues and the tundish. -/
theorem State.departed_frame : s.departed sp n p = { s.onFlask p.flask (Flask.dispatched p.pour) with lanes :=
    { s.lanes with lanes := (s.markedFirst n).lanes.lanes, queues := (s.departed sp n p).lanes.queues
                   notices := (s.departed sp n p).lanes.notices, tundish := (s.departed sp n p).lanes.tundish } } := by
  rw [State.departed, State.noteDispatch_frame, State.filled_state, State.popHead_frame, State.markedFirst_frame]
  rfl

/-- The lane sends the packet that it paid for, the packets of the last 1 ms hold it, and the next head waits. -/
theorem State.startPacket_eq : s.startPacket sp n p =
    (((s.paid sp n p).onLane n fun l => { l with sending := some (s.filled sp n p).1 }).onLanes fun l => { l with
      recent := (l.recent.filter fun x => decide ((s.paid sp n p).now ≤ x.2.1 + blocksTime x.2.2 + ms 1)) ++
        [(sp, (s.filled sp n p).1.at_, p.blocks)] }).headLeaves sp := rfl

theorem State.paid_frame : s.paid sp n p = { s.departed sp n p with dict := (s.paid sp n p).dict } := rfl

theorem State.rd_paid (k : Nat) : (s.paid sp n p).rd k =
    if k = 0x901201 + n then countUp (s.rd k) else if k = 0x901101 + n then (s.rd k + p.blocks) % 2 ^ 32 else s.rd k := by
  have hdeparted (j : Nat) : (s.departed sp n p).rd j = s.rd j := by rw [State.departed_frame]; rfl
  rw [State.paid, State.rd_inc, State.rd_wr, State.rd_wr, hdeparted, hdeparted, hdeparted,
    if_neg (c := 0x901201 + n = 0x901101 + n) (by omega)]
  exact ite_congr rfl (fun hcount => by rw [hcount, countUp]) fun _ => ite_congr rfl (fun hused => by rw [hused]) fun _ => rfl

theorem State.headLeaves_frame : s.headLeaves sp = { s with
    dict := Dict.set s.dict 0x901403 (andNot (s.rd 0x901403) (255 * 2 ^ (8 * sp)))
    lanes := { s.lanes with headSince := (s.headLeaves sp).lanes.headSince, stalled := setNth s.lanes.stalled sp false } } := rfl

theorem State.rd_headLeaves (k : Nat) : (s.headLeaves sp).rd k =
    if k = 0x901403 then andNot (s.rd 0x901403) (255 * 2 ^ (8 * sp)) else s.rd k := s.rd_wr ..

theorem State.rd_startPacket {n : Nat} (hn : n < 32) (k : Nat) : (s.startPacket sp n p).rd k =
    if k = 0x901403 then andNot (s.rd 0x901403) (255 * 2 ^ (8 * sp))
    else if k = 0x901201 + n then countUp (s.rd k)
    else if k = 0x901101 + n then (s.rd k + p.blocks) % 2 ^ 32 else s.rd k := by
  rw [State.startPacket_eq, State.rd_headLeaves]
  refine congrArg₂ (ite _) (congrArg (andNot · _) ?_) (s.rd_paid sp n p k)
  exact (s.rd_paid sp n p 0x901403).trans (by rw [if_neg (by omega), if_neg (by omega)])

theorem State.startPacket_same {n : Nat} (hn : n < 32) :
    sameObjects [0x901101 + n, 0x901201 + n, 0x901403] s (s.startPacket sp n p) := fun k hk => by
  simp only [List.mem_cons, List.not_mem_nil, or_false, not_or] at hk
  obtain ⟨hused, hcount, hstall⟩ := hk
  rw [State.rd_startPacket s sp p hn, if_neg hstall, if_neg hcount, if_neg hused]

theorem State.flask_startPacket {f : Nat} (hf : f < s.image.flasks.length) : (s.startPacket sp n p).flask f =
    if f = p.flask then (s.flask f).dispatched p.pour else s.flask f := by
  have himage : (s.startPacket sp n p).image = (s.onFlask p.flask (Flask.dispatched p.pour)).image := by
    rw [State.startPacket_eq, State.headLeaves_frame]
    change (s.paid sp n p).image = _
    rw [State.paid_frame, State.departed_frame]
  rw [State.flask, himage]
  exact s.flask_onFlask _ _ _ hf

theorem State.startPacket_sends {n : Nat} (hn : n < s.lanes.lanes.length) :
    (nth (s.startPacket sp n p).lanes.lanes n Lane.reset).sending = some (s.filled sp n p).1 := by
  have hlength : (s.paid sp n p).lanes.lanes.length = s.lanes.lanes.length := by
    rw [State.paid_frame, State.departed_frame]
    exact s.markedFirst_length n
  rw [State.startPacket_eq, State.headLeaves_frame]
  exact congrArg Lane.sending ((State.lane_onLane ..).trans (if_pos ⟨rfl, hlength ▸ hn⟩))

theorem State.startPacket_ends_stall {sp : Nat} (hsp : sp < s.lanes.stalled.length) :
    nth (s.startPacket sp n p).lanes.stalled sp true = false := by
  have hstalled : (s.paid sp n p).lanes.stalled = s.lanes.stalled := by rw [State.paid_frame, State.departed_frame]
  rw [State.startPacket_eq, State.headLeaves_frame]
  exact (nth_setNth ..).trans (if_pos ⟨rfl, hstalled ▸ hsp⟩)

end

section
variable {s : State}

theorem State.packetDispatch_starts {sp n : Nat} {p : Packet} (hhead : s.headOf sp = some p)
    (hpick : s.pickLane sp p.blocks = some n) : exec (.packetDispatch sp) s = .next (s.startPacket sp n p) := by
  change execPacketDispatch sp s = _
  simp only [execPacketDispatch, hhead, hpick]

/-! ### A packet was sent (R183) -/

theorem State.freePacket_frame (s : State) (p : Packet) :
    s.freePacket p = { s with lanes := { s.lanes with tundish := (s.freePacket p).lanes.tundish } } := by
  unfold State.freePacket
  split <;> rfl

theorem State.packetSent_frees {n : Nat} {q : Sending} (hn : n < s.lanes.lanes.length)
    (hsending : (nth s.lanes.lanes n Lane.reset).sending = some q) (hdue : q.endsAt ≤ s.now) :
    ∃ t, exec (.packetSent n) s = .next t ∧
      nth t.lanes.lanes n Lane.reset = { nth s.lanes.lanes n Lane.reset with sending := none } ∧
      t.lanes.queues = s.lanes.queues ∧ t = { s with lanes := t.lanes } := by
  refine ⟨((s.onLane n fun l => { l with sending := none }).freePacket q.pkt).watchHeads, ?_, ?_, ?_, ?_⟩
  · change execPacketSent n s = _
    simp only [execPacketSent, hsending, if_neg (Nat.not_lt.mpr hdue)]
  · rw [State.watchHeads_frame, State.freePacket_frame]
    exact (s.lane_onLane n n _).trans (if_pos ⟨rfl, hn⟩)
  · rw [State.watchHeads_frame, State.freePacket_frame]; rfl
  · rw [State.watchHeads_frame, State.freePacket_frame]; rfl

/-! ### Lane markers (R163) -/

theorem State.laneMarker_sends {n : Nat} (hn : n < s.lanes.lanes.length) (hdue : s.markerDue n = true)
    (hidle : (nth s.lanes.lanes n Lane.reset).sending = none) : ∃ t, exec (.laneMarker n) s = .next t ∧
      nth t.lanes.lanes n Lane.reset = { nth s.lanes.lanes n Lane.reset with
        since := s.now, markers := (nth s.lanes.lanes n Lane.reset).markers + 1
        lastMarker := some (s.markerOctets n (nth s.lanes.lanes n Lane.reset).markers) } ∧
      t = { s with lanes := { s.lanes with lanes := t.lanes.lanes } } := by
  refine ⟨s.sendMarker n, ?_, (s.lane_onLane n n _).trans (if_pos ⟨rfl, hn⟩), rfl⟩
  change execLaneMarker n s = _
  rw [execLaneMarker, if_pos ⟨hdue, by rw [hidle]; rfl⟩]

/-! ### Credit stalls (R178) -/

theorem State.creditStall_begins {sp : Nat} {x : Instant} (hsp : sp < s.lanes.stalled.length)
    (hsince : nth s.lanes.headSince sp none = some x) (hstalled : nth s.lanes.stalled sp false = false)
    (hdue : x + us (s.rd 0x901401) < s.now) : ∃ t, exec (.creditStall sp) s = .next t ∧
      nth t.lanes.stalled sp false = true ∧ t.rd 0x901402 = countUp (s.rd 0x901402) ∧
      t.rd 0x901403 = s.rd 0x901403 ||| (255 * 2 ^ (8 * sp)) ∧ t.mram = s.mram := by
  let counted := (s.inc 0x901402).wr 0x901403 (s.rd 0x901403 ||| 255 * 2 ^ (8 * sp))
  let stalled := counted.onLanes fun l => { l with stalled := setNth l.stalled sp true }
  have hbegins : ¬(nth s.lanes.stalled sp false = true ∨ s.now ≤ x + us (s.rd 0x901401)) := by simp [hstalled, hdue]
  have hsame := stalled.logEvent_same 0x0401 (leBytes 1 sp)
  refine ⟨stalled.logEvent 0x0401 (leBytes 1 sp), ?_, ?_, (hsame _ (by decide)).trans ?_, (hsame _ (by decide)).trans ?_, ?_⟩
  · change execCreditStall sp s = _
    simp only [execCreditStall, hsince]
    exact if_neg hbegins
  · rw [State.logEvent_lanes]
    exact (nth_setNth ..).trans (if_pos ⟨rfl, hsp⟩)
  · simp [stalled, counted, countUp]
  · simp [stalled, counted]
  · simp [stalled, counted]

end

/-- Settles O37, clause by clause: dispatch, the end of a packet, markers, credit stalls. -/
theorem packetsLeaveOnTheLaneWithTheMostCredit : Obligations.PacketsLeaveOnTheLaneWithTheMostCredit := by
  unfold Obligations.PacketsLeaveOnTheLaneWithTheMostCredit
  intro sp s hsp hlanes hstalls hflasks
  refine ⟨fun p n hhead hflask hpick => ?_, fun n q hn hsending hdue => State.packetSent_frees (by omega) hsending hdue,
    fun n hn hdue hidle => ?_, fun x hsince hstalled hdue => State.creditStall_begins (by omega) hsince hstalled hdue⟩
  · obtain ⟨hsprue, hfree, hmost⟩ := State.pickLane_most hpick
    obtain ⟨hpkt, hseq, hslag, hlostn⟩ := s.filled_sending sp n p
    have hn : n < 32 := by omega
    have hsent := s.flask_startPacket sp n p (hflasks ▸ hflask)
    rw [if_pos rfl] at hsent
    refine ⟨hsprue, hfree, hmost, s.startPacket sp n p, (s.filled sp n p).1, State.packetDispatch_starts hhead hpick,
      s.startPacket_sends sp p (hlanes ▸ hn), hpkt, hseq, hslag, hlostn, congrArg Flask.seq hsent, congrArg Flask.slag hsent,
      ?_, ?_, s.startPacket_same sp p hn, s.startPacket_ends_stall n p (hstalls ▸ hsp)⟩
    · rw [s.rd_startPacket sp p hn, if_neg (by omega), if_neg (by omega), if_pos rfl]
    · rw [s.rd_startPacket sp p hn, if_neg (by omega), if_pos rfl]
  · obtain ⟨t, hnext, hlane, hframe⟩ := State.laneMarker_sends (hlanes ▸ hn) hdue hidle
    exact ⟨t, hnext, congrArg Lane.since hlane, congrArg Lane.markers hlane, congrArg Lane.lastMarker hlane, hframe⟩

end Sys2Proof.Machine
end

section
/-!
PROOFS. Age drops (R174, R184, R185): a pour that goes takes its queued packets with it, its drop is counted and told, and every
flask's slag count rises.
-/
namespace Sys2Proof.Machine

/-! ### The record of a drop (R174, R175, R184) -/

section
variable (s : State)

theorem State.headDropped_frame (sp : Nat) :
    s.headDropped sp = { s with lanes := { s.lanes with headSince := (s.headDropped sp).lanes.headSince } } := by
  unfold State.headDropped
  split <;> rfl

/-- What a notice of a drop leaves: tundish, queues, MRAM, slag counts and every object but the count of notices lost. -/
structure State.NoticeKeeps (s t : State) : Prop where
  tundish : t.lanes.tundish = s.lanes.tundish
  queues : t.lanes.queues = s.lanes.queues
  mram : t.mram = s.mram
  flasks : t.image.flasks.length = s.image.flasks.length
  slags : ∀ f, (t.flask f).slag = (s.flask f).slag
  objects : sameObjects [0x902204] s t

theorem State.NoticeKeeps.refl : s.NoticeKeeps s := ⟨rfl, rfl, rfl, rfl, fun _ => rfl, sameObjects.refl _ s⟩

theorem State.NoticeKeeps.trans {s t u : State} (h1 : s.NoticeKeeps t) (h2 : t.NoticeKeeps u) : s.NoticeKeeps u :=
  ⟨h2.tundish.trans h1.tundish, h2.queues.trans h1.queues, h2.mram.trans h1.mram, h2.flasks.trans h1.flasks,
    fun f => (h2.slags f).trans (h1.slags f),
    h1.objects.trans h2.objects (List.Subset.refl _) (List.Subset.refl _)⟩

theorem State.notice_keeps (stamps : Packet) (f : Nat) : s.NoticeKeeps (s.notice stamps f) := by
  unfold State.notice
  extract_lets q n
  split
  · refine ⟨rfl, rfl, rfl, length_modifyNth .., fun g => ?_, sameObjects_wr s 0x902204 _⟩
    simp only [State.flask, State.onFlask_image, State.inc_image, nth_modifyNth, apply_ite Flask.slag, ite_self]
  · exact ⟨rfl, rfl, rfl, rfl, fun _ => rfl, sameObjects.refl _ s⟩

theorem State.notices_keep (stamps : Packet) (flasks : List Nat) : s.NoticeKeeps (flasks.foldl (State.notice stamps) s) := by
  induction flasks generalizing s with
  | nil => exact State.NoticeKeeps.refl s
  | cons f flasks ih => exact (s.notice_keeps stamps f).trans (ih _)

/-- Count and index of a drop are written, and a hold that waits for the pour finds it gone (R184, R316). -/
def State.dropCounted (key pour : Nat) : State :=
  let s := (s.inc key).wr 0x902203 pour
  if s.rd 0x704001 = pour ∧ s.rd 0x704002 = 1 then s.wr 0x704002 3 else s

theorem State.recordDrop_eq (key : Nat) (stamps : Packet) (flasks : List Nat) : s.recordDrop key stamps flasks =
    (flasks.foldl (State.notice stamps) (s.dropCounted key stamps.pour)).bookSlagAll 1 := rfl

theorem State.rd_dropCounted (key pour : Nat) {k : Nat} (hk : k ≠ 0x704002) : (s.dropCounted key pour).rd k =
    if k = 0x902203 then pour else if k = key then countUp (s.rd key) else s.rd k := by
  unfold State.dropCounted
  extract_lets counted
  have hcounted : counted.rd k = if k = 0x902203 then pour else if k = key then countUp (s.rd key) else s.rd k := by
    rw [State.rd_wr, State.rd_inc, countUp]
  split
  · rw [State.rd_wr, if_neg hk, hcounted]
  · exact hcounted

theorem State.dropCounted_frame (key pour : Nat) : s.dropCounted key pour = { s with dict := (s.dropCounted key pour).dict } := by
  unfold State.dropCounted
  extract_lets counted
  split <;> rfl

theorem State.slag_bookSlagAll (n : Nat) {f : Nat} (hf : f < s.image.flasks.length) :
    ((s.bookSlagAll n).flask f).slag = min 0xFFFF ((s.flask f).slag + n) := by
  simp [State.flask, State.bookSlagAll, nth, satAdd, hf]

/-- A drop leaves tundish, queues and MRAM; it is counted with its index, and every flask's slag count rises (R174, R184). -/
theorem State.recordDrop_records {key : Nat} (hkey : key ≠ 0x704002 ∧ key ≠ 0x902203 ∧ key ≠ 0x902204) (stamps : Packet)
    (flasks : List Nat) :
    (s.recordDrop key stamps flasks).rd key = countUp (s.rd key) ∧
      (s.recordDrop key stamps flasks).rd 0x902203 = stamps.pour ∧
      (s.recordDrop key stamps flasks).lanes.tundish = s.lanes.tundish ∧
      (s.recordDrop key stamps flasks).lanes.queues = s.lanes.queues ∧ (s.recordDrop key stamps flasks).mram = s.mram ∧
      ∀ f < s.image.flasks.length,
        ((s.recordDrop key stamps flasks).flask f).slag = min 0xFFFF ((s.flask f).slag + 1) := by
  obtain ⟨hhold, hindex, hlost⟩ := hkey
  have hframe := s.dropCounted_frame key stamps.pour
  have himage : (s.dropCounted key stamps.pour).image = s.image := by rw [hframe]
  obtain ⟨htundish, hqueues, hmram, hflasks, hslags, hobjects⟩ := (s.dropCounted key stamps.pour).notices_keep stamps flasks
  rw [State.recordDrop_eq]
  refine ⟨(hobjects key (by simpa using hlost)).trans ?_, (hobjects _ (by decide)).trans ?_, htundish.trans (by rw [hframe]),
    hqueues.trans (by rw [hframe]), hmram.trans (by rw [hframe]), fun f hf => ?_⟩
  · rw [State.rd_dropCounted _ _ _ hhold, if_neg hindex, if_pos rfl]
  · rw [State.rd_dropCounted _ _ _ (by decide), if_pos rfl]
  · rw [State.slag_bookSlagAll _ _ (by rw [hflasks, himage]; exact hf), hslags, State.flask, himage, State.flask]

/-! ### A pour of the tundish goes (R184, R316) -/

/-- The state without a pour of the tundish: its booking, its queued packets and its hold are gone. -/
def State.withoutPour (t : TPour) : State :=
  let heads := (List.range 4).filter fun sp => (s.headOf sp).any fun p => p.typ != 4 && p.ofPour t
  let s := s.onLanes fun l => { l with
    tundish := l.tundish.filter fun u => u.idx != t.idx
    queues := l.queues.map fun q => q.filter fun p => !p.ofPour t }
  let s := heads.foldl (fun s sp => s.headDropped sp) s
  let s := if s.held t then s.wr 0x704002 3 else s
  if s.held t then s.onDma fun d => { d with heldIdx := none } else s

theorem State.dropPour_eq (key : Nat) (t : TPour) :
    s.dropPour key t = ((s.withoutPour t).recordDrop key t.stamps (flasksOf t.cells)).watchHeads := rfl

theorem State.headsDropped_frame (heads : List Nat) : heads.foldl (fun s sp => s.headDropped sp) s = { s with lanes :=
    { s.lanes with headSince := (heads.foldl (fun s sp => s.headDropped sp) s).lanes.headSince } } := by
  induction heads generalizing s with
  | nil => rfl
  | cons sp heads ih => rw [List.foldl_cons, ih, State.headDropped_frame]

/-- The pour and its packets leave the tundish and the queues; MRAM, flasks and all objects but the hold's state stay. -/
theorem State.withoutPour_leaves (t : TPour) :
    (s.withoutPour t).lanes.tundish = s.lanes.tundish.filter (fun u => u.idx != t.idx) ∧
      (s.withoutPour t).lanes.queues = s.lanes.queues.map (fun q => q.filter fun p => !p.ofPour t) ∧
      (s.withoutPour t).mram = s.mram ∧ (s.withoutPour t).image = s.image ∧ sameObjects [0x704002] s (s.withoutPour t) := by
  unfold State.withoutPour
  extract_lets heads kept dropped lost
  have hdropped : dropped = { kept with lanes := { kept.lanes with headSince := dropped.lanes.headSince } } :=
    kept.headsDropped_frame heads
  have hkept : sameObjects [0x704002] s dropped := by rw [hdropped]; exact sameObjects.refl _ s
  have hlost : lost = { dropped with dict := lost.dict } ∧ sameObjects [0x704002] s lost := by
    by_cases hheld : dropped.held t = true
    · rw [show lost = dropped.wr 0x704002 3 from if_pos hheld]
      exact ⟨rfl, hkept.trans (sameObjects_wr dropped 0x704002 3) (List.Subset.refl _) (List.Subset.refl _)⟩
    · rw [show lost = dropped from if_neg hheld]
      exact ⟨rfl, hkept⟩
  obtain ⟨hframe, hsame⟩ := hlost
  generalize hfreed : (if lost.held t then lost.onDma fun d => { d with heldIdx := none } else lost) = freed
  have hdma : freed = { lost with dma := freed.dma } := by rw [← hfreed]; split <;> rfl
  refine ⟨?_, ?_, ?_, ?_, hsame.of_dict (by rw [hdma])⟩ <;> rw [hdma, hframe, hdropped] <;> rfl

end

/-- Settles O38: the pour leaves the tundish with its packets, then its drop is recorded. -/
theorem agedPoursAreDroppedWhole : Obligations.AgedPoursAreDroppedWhole := by
  unfold Obligations.AgedPoursAreDroppedWhole
  refine fun s => ⟨fun hoff => ?_, fun u hdrop hon hdue => ?_⟩
  · change execPourAgeDrop s = _
    rw [execPourAgeDrop, hoff]
    rfl
  · have hexec : exec .pourAgeDrop s = .next (s.dropPour 0x902202 u) := by
      change execPourAgeDrop s = _
      simp only [execPourAgeDrop, hdrop, if_neg hon, if_pos hdue]
    obtain ⟨htundish, hqueues, hmram, himage, hobjects⟩ := s.withoutPour_leaves u
    obtain ⟨hcount, hindex, htundish', hqueues', hmram', hslags⟩ :=
      (s.withoutPour u).recordDrop_records (key := 0x902202) (by decide) u.stamps (flasksOf u.cells)
    rw [State.dropPour_eq] at hexec
    refine ⟨_, hexec, ?_, hindex, fun v hv => ?_, fun hlength f hf => ?_, fun q hq p hp => ?_, hmram'.trans hmram⟩
    · exact hcount.trans (congrArg countUp (hobjects 0x902202 (by decide)))
    · have hv : v ∈ s.lanes.tundish.filter fun w => w.idx != u.idx := by rw [← htundish, ← htundish']; exact hv
      simpa using hv
    · refine (hslags f (by rw [himage]; omega)).trans ?_
      rw [State.flask, himage, State.flask]
    · have hq : q ∈ s.lanes.queues.map fun q => q.filter fun p => !p.ofPour u := by rw [← hqueues, ← hqueues']; exact hq
      obtain ⟨r, -, rfl⟩ := List.mem_map.mp hq
      simpa using (List.mem_filter.mp hp).2

end Sys2Proof.Machine
end

section
/-!
PROOFS. A staged write over the ring (O42; R191, R192, R197, R231, R232): how a write request comes to be served, what a loose
write leaves, and the reply.
-/
namespace Sys2Proof.Machine

/-! ### A loose write (R192, R197) -/

/-- The object in which a transport's last accepted version is reported (R197). -/
def versionObject : Transport → Nat
  | .ring => 0x110004
  | .twi => 0x110005

theorem State.reportVersion_eq (s : State) (tr : Transport) (v : Nat) :
    s.reportVersion tr v = (s.wr (versionObject tr) v).acceptVersion v := by
  cases tr <;> rfl

/-- A change of the staged values changes the staging state, and may begin a cache load. -/
theorem State.watchCache_stage (f : Stage → Stage) (s : State) :
    let t := s.watchCache fun s => s.onStage f
    t.stage = f s.stage ∧ sameObjects [0x400106] s t ∧ t = { s with dict := t.dict, stage := t.stage, corr := t.corr } := by
  unfold State.watchCache
  dsimp only
  split
  · exact ⟨rfl, sameObjects_wr (s.onStage f) 0x400106 1, rfl⟩
  · exact ⟨rfl, sameObjects.refl _ _, rfl⟩

/-- `t` is `s` with `vals` as its loose set, answered with `version`; a cache load may have begun. -/
structure State.Loosened (tr : Transport) (vals : Dict) (version : Nat) (s t : State) : Prop where
  answer : t.answer = ⟨0, version, [], false⟩
  stage : t.stage = { s.stage with loose := vals }
  same : sameObjects [versionObject tr, 0x400106] s t
  frame : t = { s with dict := t.dict, answer := t.answer, stage := t.stage, corr := t.corr }

/-- A loose write that fits joins the loose set and is answered with the version after the last accepted one. -/
theorem State.looseWrite_loosens {s : State} {w : Txn} (hfit : Dict.bytes (Dict.insert s.stage.loose w.key w.val) ≤ 65536) :
    s.Loosened w.tr (Dict.insert s.stage.loose w.key w.val) (s.rd 0x110002 + 1) (s.looseWrite w) := by
  unfold State.looseWrite
  dsimp only
  rw [if_neg (Nat.not_lt.mpr hfit), State.reportVersion_eq]
  obtain ⟨hstage, hsame, hframe⟩ := s.watchCache_stage fun g => { g with loose := Dict.insert s.stage.loose w.key w.val }
  generalize s.watchCache _ = u at hstage hsame hframe
  refine ⟨rfl, hstage, fun k hk => ?_, by rw [hframe]; rfl⟩
  obtain ⟨hversion, hload⟩ : k ≠ versionObject w.tr ∧ k ≠ 0x400106 := by simpa using hk
  calc ((u.wr (versionObject w.tr) _).acceptVersion _).rd k = u.rd k := (State.rd_wr ..).trans (if_neg hversion)
    _ = s.rd k := hsame k (by simpa using hload)

/-- A write of a staged object with no group open is a loose one. -/
theorem State.effect_of_staged {s : State} {w : Txn} {r : ObjRow} (hrow : objRow w.key = some r) (hacc : r.acc = .rws)
    (hgroup : s.stage.group = none) : State.effect w s = s.looseWrite w := by
  simp [State.effect, hrow, hacc, State.stageWrite, hgroup]

/-- An access that succeeded is counted in one object. -/
theorem State.counted1_same_of_success {s : State} (h : s.answer.abort = 0) (tr : Transport) (key : Nat) :
    sameObjects [(transportKeys tr).1] s (s.counted1 tr key) := fun k hk => by
  unfold State.counted1
  split
  · rfl
  · rw [State.rd_counted, if_neg (by simpa using hk), if_pos h]

/-! ### A write request that is served at once (R231, R235) -/

/-- A request that nothing turns away is served. -/
theorem State.request_served {s : State} {f : Frame} (hserves : s.serves = true) (hbusy : s.busy = false)
    (hform : malformed f = false) (hkept : ∀ k ∈ s.ring.kept, k.seq ≠ f.seq) (hheld : s.requestsHeld < 8)
    (htyp : f.typ = 0x02) : s.request f = s.serveWrite f s.now := by
  have hfind : (s.ring.kept.find? fun k => k.seq == f.seq) = none := List.find?_eq_none.mpr (by simpa using hkept)
  simp [State.request, State.serveFrame, hserves, hbusy, hform, hfind, Nat.not_le.mpr hheld, htyp]

/-- The write that a request without segment flags is (R231). -/
def reqTxn (f : Frame) : Txn := ⟨.ring, reqKey f.payload, reqLen f.payload, leNat (f.payload.drop 8)⟩

/-- A write request of a listed object of at most 240 bytes, without segment flags, is one write. -/
theorem State.serveWrite_whole {s : State} {f : Frame} {r : ObjRow} (hrow : objRow (reqKey f.payload) = some r)
    (hseg : reqFlag f.payload 1 = false) (hsize : objSize (reqKey f.payload) ≤ 240) (x : Instant) :
    s.serveWrite f x = (s.writeNow (reqTxn f) (State.effect (reqTxn f))).frameServed f := by
  simp [State.serveWrite, reqTxn, hrow, hseg, Nat.not_lt.mpr hsize]

/-- The reply to a write that succeeded: status 0, abort 0 and the version of its answer; the state is else as it was. -/
theorem State.frameServed_of_write {s : State} {f : Frame} {version : Nat} (htyp : f.typ = 0x02)
    (hanswer : s.answer = ⟨0, version, [], false⟩) :
    ∃ r, (s.frameServed f).ring.tx = s.ring.tx ++ [r] ∧ r.typ = 0x82 ∧ r.seq = f.seq ∧
      r.payload = [0, 0, 0, 0] ++ leBytes 4 0 ++ leBytes 8 version ∧ (s.frameServed f).dict = s.dict ∧
      (s.frameServed f).stage = s.stage ∧ (s.frameServed f).mram = s.mram := by
  have hend : s.frameServed f = s.endFrame f := by simp [State.frameServed, hanswer]
  rw [hend]
  refine ⟨s.replyFrame f 0 0 version [], ?_, ?_, rfl, ?_, rfl, rfl, rfl⟩
  · simp [State.endFrame, State.sendFrame, hanswer]
  · simp [State.replyFrame, Machine.ownFrame, withCrc, htyp]
  · simp [State.replyFrame, Machine.ownFrame, withCrc, leBytes]

/-! ### The write request of a staged object -/

/-- No access counter, and no object that a loose write reports in, is staged. -/
theorem countersAndReports_not_staged : ∀ k ∈ [0x102001, 0x110004, 0x400106, 0x120103, 0x102009], (objRow k).map ObjRow.acc ≠ some .rws := by
  decide +kernel

/-- An active part takes a good write request of its own as a request, once the violations of the frame are counted. -/
theorem State.writeRequest_taken {s : State} {f : Frame} (hactive : s.ringActive = true) (hhops : f.hops < 31)
    (hgood : goodFrame f = true) (hown : s.ownFrame f = true) (htyp : f.typ = 0x02) :
    exec (.writeRequest f) s = .next ((s.hearFrame f).request f) := by
  have hown' : (s.hearFrame f).ownFrame f = true := by
    unfold State.ownFrame
    rwa [State.hearFrame_same hactive f _ (by decide)]
  change Host.Outcome.next (s.frameArrives f _) = _
  rw [State.frameArrives_good hactive hhops hgood, if_pos ⟨hown', htyp⟩]

/-- A write that the checks let pass, of an object other than 0x1020:09. -/
theorem State.writeNow_passed {s : State} {w : Txn} (h : s.writeAbort w = none) (hk : w.key ≠ 0x102009)
    (eff : State → State) : s.writeNow w eff = (eff s.accept).counted1 w.tr w.key := by
  simp [State.writeNow, h, State.clearedTransport_id _ _ hk]

/-- Counting the violations of a frame does not change the checks of a write. -/
theorem State.hearFrame_writeAbort {s : State} (hactive : s.ringActive = true) (f : Frame) (w : Txn) :
    (s.hearFrame f).writeAbort w = s.writeAbort w := by
  have hpermit : (s.hearFrame f).permitAbort w.tr w.key = s.permitAbort w.tr w.key := by rw [State.hearFrame_frame]; rfl
  have hlife : (s.hearFrame f).life = s.life := by rw [State.hearFrame_frame]; rfl
  have hinhibit := State.hearFrame_same hactive f 0x6A0003 (by decide)
  simp only [State.writeAbort, State.stateAbort, hpermit, hlife, hinhibit]

/-- A good write request of the part's own, of a listed object and without segment flags, is served at once as one write. -/
theorem State.writeRequest_served {s : State} {f : Frame} {r : ObjRow} (hactive : s.ringActive = true) (hhops : f.hops < 31)
    (hgood : goodFrame f = true) (hown : s.ownFrame f = true) (htyp : f.typ = 0x02) (hserves : s.serves = true)
    (hbusy : s.busy = false) (hform : malformed f = false) (hseg : reqFlag f.payload 1 = false)
    (hkept : ∀ k ∈ s.ring.kept, k.seq ≠ f.seq) (hheld : s.requestsHeld < 8)
    (hrow : objRow (reqKey f.payload) = some r) (hsize : objSize (reqKey f.payload) ≤ 240) :
    exec (.writeRequest f) s =
      .next (((s.hearFrame f).writeNow (reqTxn f) (State.effect (reqTxn f))).frameServed f) := by
  have hframe := s.hearFrame_frame f
  rw [State.writeRequest_taken hactive hhops hgood hown htyp,
    State.request_served (by rw [hframe]; exact hserves) (by rw [hframe]; exact hbusy) hform
      (by rw [hframe]; exact hkept) (by rw [hframe]; exact hheld) htyp,
    State.serveWrite_whole hrow hseg hsize]

/-- Once a frame is heard, a write of a staged object with no group open is a loose one. -/
theorem State.hearFrame_loosens {s : State} {w : Txn} {r : ObjRow} (hactive : s.ringActive = true) (f : Frame)
    (hrow : objRow w.key = some r) (hacc : r.acc = .rws) (hgroup : s.stage.group = none)
    (hfit : Dict.bytes (Dict.insert s.stage.loose w.key w.val) ≤ 65536) :
    (s.hearFrame f).accept.Loosened w.tr (Dict.insert s.stage.loose w.key w.val) (s.rd 0x110002 + 1)
      (State.effect w (s.hearFrame f).accept) := by
  have hstage : (s.hearFrame f).accept.stage = s.stage := by rw [State.hearFrame_frame]; rfl
  have hversion : (s.hearFrame f).accept.rd 0x110002 = s.rd 0x110002 := State.hearFrame_same hactive f _ (by decide)
  rw [State.effect_of_staged hrow hacc (by rw [hstage, hgroup]), ← hversion, ← hstage]
  exact State.looseWrite_loosens (by rw [hstage]; exact hfit)

/-- Settles O42: the request is one loose write, counted and answered at once. -/
theorem writeRequestsStageAndAnswer : Obligations.WriteRequestsStageAndAnswer := by
  unfold Obligations.WriteRequestsStageAndAnswer
  intro f s hactive hhops hgood hown htyp hserves hbusy hform hseg hkept hheld hgroup key v habort ⟨r, hrow, hacc⟩ hsize hfit
  have hstaged : ∀ k ∈ [0x102001, 0x110004, 0x400106, 0x120103, 0x102009], key ≠ k := fun k hk e =>
    countersAndReports_not_staged k hk (by rw [← e, hrow, Option.map_some, hacc])
  have hexec := State.writeRequest_served hactive hhops hgood hown htyp hserves hbusy hform hseg hkept hheld hrow hsize
  rw [State.writeNow_passed ((State.hearFrame_writeAbort hactive f (reqTxn f)).trans habort) (hstaged _ (by decide))] at hexec
  have hheard := State.hearFrame_same hactive f
  obtain ⟨hanswer, hstage, hsame, hframe⟩ := State.hearFrame_loosens (w := reqTxn f) hactive f hrow hacc hgroup hfit
  generalize State.effect (reqTxn f) (s.hearFrame f).accept = u at hexec hanswer hstage hsame hframe
  obtain ⟨reply, htx, htype, hseq, hpayload, hdict, hstage', hmram⟩ :=
    State.frameServed_of_write (s := u.counted1 (reqTxn f).tr (reqTxn f).key) htyp (by rw [State.counted1_answer, hanswer])
  have hobjects : sameObjects [0x102001, 0x110004, 0x400106, 0x120103] s
      ((u.counted1 (reqTxn f).tr (reqTxn f).key).frameServed f) := by
    have hwritten : sameObjects [0x110004, 0x400106, 0x120103] s u :=
      hheard.trans hsame (by simp) (by simp [reqTxn, versionObject])
    have hcounted := State.counted1_same_of_success (s := u) (by rw [hanswer]) (reqTxn f).tr (reqTxn f).key
    exact (hwritten.trans hcounted (by simp) (by simp [reqTxn, transportKeys])).of_dict hdict
  have hkey : key ∉ [0x102001, 0x110004, 0x400106, 0x120103] := fun hmem =>
    hstaged key (List.mem_append_left [0x102009] hmem) rfl
  refine ⟨_, reply, hexec, ?_, htype, hseq, hpayload, ?_, hobjects key hkey, hobjects, ?_⟩
  · rw [htx, State.counted1_ring, hframe, State.hearFrame_frame]; rfl
  · rw [hstage', State.counted1_stage, hstage]; rfl
  · rw [hmram, State.counted1_mram, hframe, State.hearFrame_frame]; rfl

end Sys2Proof.Machine
end

section
/-!
PROOFS. A staged write over a loose set that lists its object twice (O45; R191, R192): the write replaces the first listing and
the staged view goes on reading the second.
-/
namespace Sys2Proof.Machine

/-- A part in service whose loose set lists object 0x2100:01 twice, as 0. -/
def modeTwice : State :=
  { State.reset with
    power := { State.reset.power with phase := .service }
    stage := { State.reset.stage with loose := [(0x210001, 0), (0x210001, 0)] } }

/-- A write of 1 to that object over the ring. -/
def modeWrite : Txn := txnOf .ring 0x2100 1 [1]

theorem modeTwice_admits : modeTwice.admits modeWrite := by
  unfold State.admits
  decide +kernel

/-- The staged view reads the second listing after the write. -/
theorem modeTwice_staged : (modeTwice.write modeWrite).staged 0x210001 = 0 := by decide +kernel

/-- Refutes O45: the last clause on staged writes does not ask that the loose set list an object once, and where it lists the
object twice the staged view does not show the value written. -/
theorem not_stagedAndRegisterWritesLandWhereTheirObjectBelongs :
    ¬ Obligations.StagedAndRegisterWritesLandWhereTheirObjectBelongs := by
  unfold Obligations.StagedAndRegisterWritesLandWhereTheirObjectBelongs
  rintro ⟨hwrites, -⟩
  obtain ⟨-, -, -, hshown⟩ := hwrites .ring 0x2100 1 [1] modeTwice
  obtain ⟨t, hnext, -, hstaged⟩ := hshown modeTwice_admits
    ⟨0x210001, 0x210001, 1, .rws, true, true, false, .range 0 1, .value 0⟩ (by decide +kernel) rfl rfl (by decide +kernel)
  obtain rfl : modeTwice.write modeWrite = t := Host.Outcome.next.inj hnext
  exact absurd (modeTwice_staged.symm.trans hstaged) (by decide)

end Sys2Proof.Machine
end

section
/-!
PROOFS. The close of a commit group over the two-wire interface (O46): the checks of R198 are made once the write has been counted
as a committed transaction (object 0xA004:01). A number of row ranges beyond 8, which the statement does not rule out, may make
that count a range's row count.
-/
namespace Sys2Proof.Machine

/-! ### Row ranges that reach the count of committed transactions -/

/-- The number of row ranges for which the last one has its row count in object 0xA004:01. -/
def countRows : Nat := 0xA00401 - 0x212201 + 1

/-- Every object below 0xA004:01 reads 0, but for the number of row ranges; that object reads `c`. -/
def Dict.rowsThenCount (d : Dict) (c : Nat) : Prop :=
  (∀ k < 0xA00401, Dict.get d k = if k = 0x212001 then countRows else 0) ∧ Dict.get d 0xA00401 = c

section
variable {d : Dict} {c : Nat} (h : d.rowsThenCount c)
include h

theorem Dict.rowsThenCount.get_eq_zero {k : Nat} (hk : k < 0xA00401) (hn : k ≠ 0x212001) : Dict.get d k = 0 := by
  rw [h.1 k hk, if_neg hn]

/-- Only the last range has rows: the count. -/
theorem Dict.rowsThenCount.nth_rangesOf (i : Nat) :
    nth (rangesOf d) i (0, 0) = (0, if i = countRows - 1 then c else 0) := by
  rw [rangesOf, h.1 0x212001 (by decide), if_pos rfl, nth, List.getD_eq_getElem?_getD, List.getElem?_map]
  by_cases hi : i < countRows
  · have hlt : i < 0xA00401 - 0x212201 + 1 := hi
    have hfirst : Dict.get d (0x212101 + i) = 0 := h.get_eq_zero (by omega) (by omega)
    have hcount : Dict.get d (0x212201 + i) = if i = countRows - 1 then c else 0 := by
      split
      case isTrue hlast => subst hlast; exact h.2
      case isFalse hlast =>
        have hne : i ≠ 0xA00401 - 0x212201 + 1 - 1 := hlast
        exact h.get_eq_zero (by omega) (by omega)
    rw [List.getElem?_range hi, Option.map_some, Option.getD_some, hfirst, hcount]
  · have hne : i ≠ countRows - 1 := by unfold countRows at hi ⊢; omega
    rw [List.getElem?_eq_none (by rw [List.length_range]; exact Nat.not_lt.mp hi), if_neg hne]
    rfl

theorem Dict.rowsThenCount.firstSharing_eq_none : firstSharing rowsShare (rangesOf d) = none := by
  have hapart : ∀ i j, i ≠ j → rowsShare (nth (rangesOf d) i (0, 0)) (nth (rangesOf d) j (0, 0)) = false := by
    intro i j hij
    rw [h.nth_rangesOf, h.nth_rangesOf]
    by_cases hi : i = countRows - 1
    · simp [rowsShare, show j ≠ countRows - 1 from fun hj => hij (hi.trans hj.symm)]
    · simp [rowsShare, hi]
  simp only [firstSharing, List.find?_eq_none, List.any_eq_true, not_exists, not_and]
  intro i _ j _
  by_cases hij : i = j <;> simp [hij, hapart]

theorem Dict.rowsThenCount.spansOf_eq : spansOf d = [] := by
  rw [spansOf, h.get_eq_zero (by decide) (by decide)]; rfl

/-- While the count is at most 1,024, no row of R79 fails. -/
theorem Dict.rowsThenCount.areaFault_eq_none (hc : c ≤ 1024) : areaFault d = none := by
  have hends : (firstIndex (rangesOf d) fun r => 1024 < r.1 + r.2) = none := by
    simp only [firstIndex, List.find?_eq_none, h.nth_rangesOf]
    intro i _
    split <;> simp [hc]
  have hrow : rowFactor d = 1 := by rw [rowFactor, h.get_eq_zero (by decide) (by decide)]; rfl
  have hdig : digFactor d = 1 := by rw [digFactor, h.get_eq_zero (by decide) (by decide)]; rfl
  have hfused : fusedOut d = false := by rw [fusedOut, h.get_eq_zero (by decide) (by decide)]; rfl
  refine (firstSome_eq_none_iff _).mpr ?_
  simp only [h.firstSharing_eq_none, hends, h.spansOf_eq, hrow, hdig, hfused]
  simp [failIf, firstSharing, firstIndex]

/-- Beyond 1,024 the last range ends beyond the array. -/
theorem Dict.rowsThenCount.areaFault_ne_none (hc : 1024 < c) : areaFault d ≠ none := by
  intro hnone
  have hthird := (firstSome_eq_none_iff _).mp hnone _ (.tail _ (.tail _ (.head _)))
  have hends := List.find?_eq_none.mp (Option.map_eq_none_iff.mp hthird) (countRows - 1)
  rw [h.nth_rangesOf, if_pos rfl] at hends
  refine hends ?_ (by simpa using hc)
  rw [rangesOf, h.1 0x212001 (by decide), if_pos rfl, List.length_map, List.length_range]
  exact List.mem_range.mpr (by decide)

end

/-- A pour with no plane is not too large. -/
theorem tooLarge_of_no_planes {d : Dict} (hmode : Dict.get d 0x210001 = 0) (hplanes : pourPlanes d = 0) :
    tooLarge d = false := by
  have hflask : flaskSize d = fun _ => 0 := funext fun f => by rw [flaskSize, hplanes, Nat.zero_mul, Nat.zero_mul]
  have hreserve : reserveOf d = 0 := by rw [reserveOf, hmode]; rfl
  rw [tooLarge, hreserve, pourSize, sprueSizes, hflask]
  rfl

theorem Dict.rowsThenCount.tooLarge_eq_false {d : Dict} {c : Nat} (h : d.rowsThenCount c) : tooLarge d = false := by
  have hmode : Dict.get d 0x210001 = 0 := h.get_eq_zero (by decide) (by decide)
  refine tooLarge_of_no_planes hmode ?_
  have hfused : fusedOut d = false := by rw [fusedOut, h.get_eq_zero (by decide) (by decide)]; rfl
  rw [pourPlanes, hmode, planesOf, hfused, subCount, h.get_eq_zero (by decide) (by decide)]
  rfl

/-! ### The counterexample -/

/-- A part in service with the live store `d`; the two-wire interface owns an open group without a write. -/
def groupOpen (d : Dict) : State :=
  { State.reset with
    dict := d
    power := { State.reset.power with phase := .service }
    stage := { State.reset.stage with group := some ⟨.twi, [], none, 0⟩ } }

/-- The state in which that group closes: the write is counted as committed, and the group is gone. -/
def groupClosing (d : Dict) : State := ((groupOpen d).onServe .twi).dropGroup

theorem groupOpen_admits (d : Dict) : (groupOpen d).admits ⟨.twi, 0x800005, 1, 1⟩ := by
  have hpermit : (groupOpen d).permitAbort .twi 0x800005 = (groupOpen []).permitAbort .twi 0x800005 := rfl
  have hlife : (groupOpen d).life = (groupOpen []).life := rfl
  have hnone : (groupOpen []).permitAbort .twi 0x800005 = none := by decide +kernel
  have hservice : (groupOpen []).life = 0 := by decide +kernel
  have hrow : (objRow 0x800005).any ObjRow.mram = false := by decide +kernel
  have hvalue : ((objRow 0x800005).any fun r => valueOk r.check 1) = true := by decide +kernel
  have hsize : objSize 0x800005 = 1 := by decide +kernel
  refine ⟨rfl, rfl, ?_⟩
  simp [State.writeAbort, State.stateAbort, hpermit, hnone, hlife, hservice, hrow, hvalue, hsize]

/-- With 1,024 committed transactions the checks find nothing. -/
theorem entryFault_groupOpen {d : Dict} (h : d.rowsThenCount 1024) : (groupOpen d).entryFault false [] = none := by
  have hd : (groupOpen d).combined [] = d := rfl
  have hversion : (groupOpen d).rd 0x110002 ≠ 2 ^ 64 - 1 := by
    rw [show (groupOpen d).rd 0x110002 = 0 from h.get_eq_zero (by decide) (by decide)]
    decide
  have hqueue : ¬ 4 ≤ (groupOpen d).stage.queue.length := by
    rw [show (groupOpen d).stage.queue = [] from rfl]
    decide
  have hempty : (groupOpen d).setEmpty 0 = false := by
    rw [show (groupOpen d).setEmpty 0 = (groupOpen []).setEmpty 0 from rfl]
    decide +kernel
  have hbank : (groupOpen d).bankFault [] = none := rfl
  have hsource (d' : Dict) : (groupOpen d).sourceFault d' = none := by
    rw [State.sourceFault, show (groupOpen d).calibrating = false from rfl]
    rfl
  have hmode : Dict.get d 0x210001 = 0 := h.get_eq_zero (by decide) (by decide)
  have hset : Dict.get d 0x400101 = 0 := h.get_eq_zero (by decide) (by decide)
  unfold State.entryFault
  simp only [hd, hmode, hset, h.areaFault_eq_none (by decide), h.tooLarge_eq_false, hbank, hsource, hempty, if_neg hversion,
    if_neg hqueue]
  rfl

/-- The close counts one more committed transaction. -/
theorem groupClosing_rows {d : Dict} (h : d.rowsThenCount 1024) : (groupClosing d).dict.rowsThenCount 1025 := by
  have hrd (k : Nat) : Dict.get (groupClosing d).dict k = if k = 0xA00401 then 1025 else Dict.get d k := by
    refine (State.rd_committed (groupOpen d) .twi k).trans ?_
    by_cases hk : k = 0xA00401
    · rw [if_pos ⟨rfl, hk⟩, if_pos hk, hk, show (groupOpen d).rd 0xA00401 = 1024 from h.2]
      rfl
    · rw [if_neg fun e => hk e.2, if_neg hk]
      rfl
  refine ⟨fun k hk => ?_, by rw [hrd, if_pos rfl]⟩
  rw [hrd, if_neg hk.ne, h.1 k hk]

/-- Then a check finds the last range. -/
theorem entryFault_groupClosing {d : Dict} (h : d.rowsThenCount 1024) : ∃ f, (groupClosing d).entryFault false [] = some f := by
  have hrows := groupClosing_rows h
  obtain ⟨k, hk⟩ := Option.ne_none_iff_exists'.mp (hrows.areaFault_ne_none (by decide))
  have hd : (groupClosing d).combined [] = (groupClosing d).dict := rfl
  have hversion : (groupClosing d).rd 0x110002 ≠ 2 ^ 64 - 1 := by
    rw [State.rd, hrows.get_eq_zero (by decide) (by decide)]
    decide
  have hqueue : ¬ 4 ≤ (groupClosing d).stage.queue.length := by
    rw [show (groupClosing d).stage.queue = [] from rfl]
    decide
  have hmode : Dict.get (groupClosing d).dict 0x210001 = 0 := hrows.get_eq_zero (by decide) (by decide)
  unfold State.entryFault
  simp only [hd, hmode, hk, if_neg hversion, if_neg hqueue]
  exact ⟨_, rfl⟩

/-- The close is refused. -/
theorem groupOpen_refused {d : Dict} (h : d.rowsThenCount 1024) :
    ∃ t, exec (.closeCommitGroup .twi 1) (groupOpen d) = .next t ∧ t.answer.abort = abortHandOver := by
  obtain ⟨f, hf⟩ := entryFault_groupClosing h
  have hclose : ((groupOpen d).onServe .twi).closeGroup .twi 1 = State.answerEntry .twi
      ((groupClosing d).requestEntry [] ((groupOpen d).onServe .twi).closeBoundary .host none 0 none false) := rfl
  refine ⟨(groupOpen d).hostWrite ⟨.twi, 0x800005, 1, 1⟩ (State.closeGroup .twi 1), rfl, ?_⟩
  rw [State.hostWrite_answer (groupOpen_admits d) (by simp), hclose, State.answerEntry_of_entryFault .twi hf]
  rfl

/-- A live store with those ranges and 1,024 committed transactions. -/
def countedDict : Dict := Dict.set (Dict.setAll [] (cexTail 0xA00401 countRows)) 0xA00401 1024

theorem countedDict_rows : countedDict.rowsThenCount 1024 := by
  refine ⟨fun k hk => ?_, Dict.get_set_self ..⟩
  rw [countedDict, Dict.get_set, if_neg hk.ne, get_setAll_cexTail _ _ _ _ (by decide), if_pos hk]

/-- Refutes O46: the checks of R198 are made once the close has been counted as a committed transaction, and with a number of row
ranges beyond 8 a check may find that count. -/
theorem not_commitGroupsOpenCloseAndAreAbandoned : ¬ Obligations.CommitGroupsOpenCloseAndAreAbandoned := by
  unfold Obligations.CommitGroupsOpenCloseAndAreAbandoned
  rintro ⟨hgroups, -⟩
  obtain ⟨d, hd⟩ : ∃ d : Dict, d.rowsThenCount 1024 := ⟨countedDict, countedDict_rows⟩
  obtain ⟨-, -, -, -, howner⟩ := hgroups .twi (groupOpen d)
  obtain ⟨-, hclose⟩ := howner ⟨.twi, [], none, 0⟩ rfl rfl
  obtain ⟨haccepted, -⟩ := hclose (groupOpen_admits d)
  obtain ⟨t, e, hnext, hanswer, -⟩ := haccepted (entryFault_groupOpen hd)
  obtain ⟨u, hu, habort⟩ := groupOpen_refused hd
  obtain rfl : u = t := Host.Outcome.next.inj (hu.symm.trans hnext)
  rw [hanswer] at habort
  exact absurd habort (show 0 ≠ abortHandOver by decide)

end Sys2Proof.Machine
end

section
/-!
PROOFS. Mould stores and erases (O49; R206, R211 to R213, R218): how a command is turned away or begins an operation, and what the
end of an operation leaves in the slots.
-/
namespace Sys2Proof.Machine

/-! ### An admitted write (R254) -/

theorem State.hostWrite_stage {s : State} {w : Txn} (h : s.admits w) (hk : w.key ≠ 0x102009) (eff : State → State) :
    (s.hostWrite w eff).stage = (eff (s.onServe w.tr)).stage := by
  rw [State.hostWrite_eq_counted1 h hk, State.counted1_stage]

/-- An event without an alert bit changes the objects of the log alone. -/
theorem State.logEvent_same_of_noAlert {code : Nat} {data : List Byte} (h : alertBit code data = none) (s : State) :
    sameObjects [0xC00007, 0xC00008] s (s.logEvent code data) := fun k hk => by
  by_cases ha : k = 0x100101
  · rw [ha, State.logEvent_alerts, h]
  · exact s.logEvent_same code data k (by simpa [ha] using hk)

/-! ### The values and the image of a store (R205, R211) -/

/-- Values listed for the keys of a list are found there. -/
theorem Dict.find_putAll_map (f : Nat → Nat) (ks : List Nat) (d : Dict) (k : Nat) :
    Dict.find (Dict.putAll d (ks.map fun j => (j, f j))) k = if k ∈ ks then some (f k) else Dict.find d k := by
  induction ks generalizing d with
  | nil => simp [Dict.putAll]
  | cons j ks ih =>
    have h := ih (Dict.insert d j (f j))
    rw [Dict.find_insert] at h
    rw [List.map_cons, Dict.putAll, List.foldl_cons, ← Dict.putAll, h]
    by_cases hk : k = j <;> simp [hk]

/-- The value that a store takes for an object: the staged view's or the live one (R211). -/
def State.storedValue (s : State) (k : Nat) : Nat := if s.rd 0x801004 = 1 then s.staged k else s.rd k

/-- The values of every mould-carried object that a store takes. -/
def State.storedValues (s : State) : Dict := Dict.putAll [] (mouldKeys.map fun k => (k, s.storedValue k))

theorem State.find_storedValues (s : State) {k : Nat} (hk : k ∈ mouldKeys) :
    Dict.find s.storedValues k = some (s.storedValue k) := by
  rw [State.storedValues, Dict.find_putAll_map, if_pos hk]

/-- No mould carries an access counter. -/
theorem mouldKeys_not_counters : ∀ k ∈ mouldKeys, k / 256 ≠ 0x1020 ∧ k ≠ 0xA00401 := by decide +kernel

section
variable (s : State) (tr : Transport) (n : Nat)

theorem State.onServe_storedValue {k : Nat} (hk : k ∈ mouldKeys) : (s.onServe tr).storedValue k = s.storedValue k := by
  obtain ⟨h1, h2⟩ := mouldKeys_not_counters k hk
  have hstaged : (s.onServe tr).stagedWrites = s.stagedWrites := by simp [State.stagedWrites]
  simp only [State.storedValue, State.staged, hstaged, State.onServe_rd s tr h1 h2,
    State.onServe_rd s tr (j := 0x801004) (by decide) (by decide)]

theorem State.onServe_nextGen : (s.onServe tr).nextGen n = s.nextGen n := by rw [State.onServe_frame]; rfl

theorem State.onServe_oldName : (s.onServe tr).oldName n = s.oldName n := by rw [State.onServe_frame]; rfl

end

/-! ### How a command is taken (R211, R213) -/

section
variable {s : State} {n : Nat}

theorem State.mouldCommand_of_running (h : s.stage.op.isSome = true) (op : Nat) :
    s.mouldCommand op n = (s.mouldBusy op n).refuse abortState := if_pos h

theorem State.mouldCommand_of_protected (h : s.stage.op = none) (hn : (s.rd 0x801101).testBit n = true) (op : Nat) :
    s.mouldCommand op n = (s.mouldFail op n 0x02).refuse abortState := by
  simp [State.mouldCommand, h, State.protected, bitAt, hn]

theorem State.mouldCommand_store (h : s.stage.op = none) (hn : (s.rd 0x801101).testBit n = false) :
    s.mouldCommand 1 n = s.startMouldOp 1 n (buildImage n (s.nextGen n) (s.oldName n) s.storedValues) := by
  have hvalue : (if s.rd 0x801004 = 1 then s.staged else s.rd) = s.storedValue := by
    funext k
    unfold State.storedValue
    split <;> rfl
  simp [State.mouldCommand, h, State.protected, bitAt, hn, hvalue, State.storedValues]

theorem State.mouldCommand_erase (h : s.stage.op = none) (hn : (s.rd 0x801101).testBit n = false) :
    s.mouldCommand 3 n = s.startMouldOp 3 n [] := by
  simp [State.mouldCommand, h, State.protected, bitAt, hn]

end

section
variable (s : State) (op n cause : Nat)

theorem State.mouldBusy_same : sameObjects [0xC00007, 0xC00008] s (s.mouldBusy op n) := s.logEvent_same_of_noAlert rfl

theorem State.mouldFail_same :
    sameObjects [0xC00007, 0xC00008] ((s.wr 0x801006 3).wr 0x801007 cause) (s.mouldFail op n cause) :=
  State.logEvent_same_of_noAlert rfl _

theorem State.mouldFail_status : (s.mouldFail op n cause).rd 0x801006 = 3 := by
  rw [s.mouldFail_same op n cause _ (by decide)]
  simp

theorem State.mouldFail_cause : (s.mouldFail op n cause).rd 0x801007 = cause := by
  rw [s.mouldFail_same op n cause _ (by decide)]
  simp

/-- A failed operation reports its status and cause, and is logged. -/
theorem State.mouldFail_sameObjects :
    sameObjects [0x801006, 0x801007, 0xC00007, 0xC00008] s (s.mouldFail op n cause) := fun k hk => by
  simp only [List.mem_cons, List.not_mem_nil, or_false, not_or] at hk
  obtain ⟨h1, h2, h3, h4⟩ := hk
  rw [s.mouldFail_same op n cause k (by simp [h3, h4])]
  simp [h1, h2]

@[simp] theorem State.mouldFail_stage : (s.mouldFail op n cause).stage = s.stage := by
  rw [State.mouldFail, State.logEvent_stage]; rfl

@[simp] theorem State.mouldFail_mram : (s.mouldFail op n cause).mram = s.mram := by
  rw [State.mouldFail, State.logEvent_mram]; rfl

end

/-! ### Stores and erases of the host -/

section
variable {s : State} {tr : Transport} {key n : Nat} (h : s.admits ⟨tr, key, 1, n⟩) (hk : key ≠ 0x102009) (op : Nat)
include h hk

/-- A command is refused while an operation runs, whose report stands. -/
theorem State.mouldWrite_of_running (hop : s.stage.op.isSome = true) :
    let t := s.hostWrite ⟨tr, key, 1, n⟩ (State.mouldCommand op n)
    t.answer.abort = abortState ∧ t.stage = s.stage ∧ t.mram = s.mram ∧
      sameObjects ([0xC00007, 0xC00008] ++ accessCounters tr) s t := by
  have he := State.mouldCommand_of_running (s := s.onServe tr) (n := n) (by rwa [State.onServe_stage]) op
  refine ⟨?_, ?_, ?_, State.hostWrite_same h hk _ ?_⟩
  · rw [State.hostWrite_answer h hk, he]; rfl
  · rw [State.hostWrite_stage h hk, he]; exact (State.logEvent_stage ..).trans (s.onServe_stage tr)
  · rw [State.hostWrite_mram h hk, he]; exact (State.logEvent_mram ..).trans (s.onServe_mram tr)
  · rw [he]; exact (s.onServe tr).mouldBusy_same op n

/-- A command for a protected slot is refused and reported. -/
theorem State.mouldWrite_of_protected (hop : s.stage.op = none) (hn : (s.rd 0x801101).testBit n = true) :
    let t := s.hostWrite ⟨tr, key, 1, n⟩ (State.mouldCommand op n)
    t.answer.abort = abortState ∧ t.rd 0x801006 = 3 ∧ t.rd 0x801007 = 2 ∧ t.stage = s.stage ∧ t.mram = s.mram ∧
      sameObjects ([0x801006, 0x801007, 0xC00007, 0xC00008] ++ accessCounters tr) s t := by
  have he := State.mouldCommand_of_protected (s := s.onServe tr) (n := n) (by rwa [State.onServe_stage])
    (by rwa [State.onServe_rd _ _ (by decide) (by decide)]) op
  refine ⟨?_, ?_, ?_, ?_, ?_, State.hostWrite_same h hk _ ?_⟩
  · rw [State.hostWrite_answer h hk, he]; rfl
  · rw [State.rd_hostWrite h hk _ (by decide) (by decide), he]; exact State.mouldFail_status ..
  · rw [State.rd_hostWrite h hk _ (by decide) (by decide), he]; exact State.mouldFail_cause ..
  · rw [State.hostWrite_stage h hk, he]; exact (State.mouldFail_stage ..).trans (s.onServe_stage tr)
  · rw [State.hostWrite_mram h hk, he]; exact (State.mouldFail_mram ..).trans (s.onServe_mram tr)
  · rw [he]; exact (s.onServe tr).mouldFail_sameObjects op n 2

/-- A command that begins an operation reports status 1 and changes nothing else. -/
theorem State.mouldWrite_of_start {img : List Byte}
    (he : (s.onServe tr).mouldCommand op n = (s.onServe tr).startMouldOp op n img) :
    let t := s.hostWrite ⟨tr, key, 1, n⟩ (State.mouldCommand op n)
    t.answer.abort = 0 ∧ t.rd 0x801006 = 1 ∧ t.stage = { s.stage with op := some ⟨op, n, img, 1⟩ } ∧
      sameObjects (0x801006 :: accessCounters tr) s t ∧ t = { s with dict := t.dict, answer := t.answer, stage := t.stage } := by
  refine ⟨?_, ?_, ?_, State.hostWrite_same h hk (ks := [0x801006]) _ ?_, ?_⟩
  · rw [State.hostWrite_answer h hk, he]; rfl
  · rw [State.rd_hostWrite h hk _ (by decide) (by decide), he, State.startMouldOp, State.rd_wr, if_pos rfl]
  · rw [State.hostWrite_stage h hk, he, ← s.onServe_stage tr]; rfl
  · rw [he]; exact sameObjects_wr ((s.onServe tr).onStage _) 0x801006 1
  · rw [State.hostWrite_eq_counted1 h hk, he, State.counted1_frame, State.startMouldOp, State.wr, State.onStage,
      State.onServe_frame]

end

/-- A store or erase is turned away while an operation runs, and where its slot is protected. -/
theorem mouldCommand_turnedAway {c : Instr} {op key n : Nat} {tr : Transport} {s : State}
    (hc : exec c s = .next (s.hostWrite ⟨tr, key, 1, n⟩ (State.mouldCommand op n))) (hk : key ≠ 0x102009)
    (h : s.admits ⟨tr, key, 1, n⟩) :
    (s.stage.op.isSome = true → ∃ t, exec c s = .next t ∧ t.answer.abort = 0x05010000 ∧ t.stage = s.stage ∧
      t.mram = s.mram ∧ sameObjects ([0xC00007, 0xC00008] ++ accessCounters tr) s t) ∧
    (s.stage.op = none → (s.rd 0x801101).testBit n = true → ∃ t, exec c s = .next t ∧ t.answer.abort = 0x05010000 ∧
      t.rd 0x801006 = 3 ∧ t.rd 0x801007 = 2 ∧ t.stage = s.stage ∧ t.mram = s.mram ∧
      sameObjects ([0x801006, 0x801007, 0xC00007, 0xC00008] ++ accessCounters tr) s t) :=
  ⟨fun hop => ⟨_, hc, State.mouldWrite_of_running h hk op hop⟩,
    fun hop hn => ⟨_, hc, State.mouldWrite_of_protected h hk op hop hn⟩⟩

/-- A store of a slot that is not protected begins, with an image of every mould-carried object. -/
theorem storeMould_begins {tr : Transport} {n : Nat} {s : State} (h : s.admits ⟨tr, 0x801003, 1, n⟩)
    (hop : s.stage.op = none) (hn : (s.rd 0x801101).testBit n = false) :
    ∃ t vals, exec (.storeMould tr n) s = .next t ∧ t.answer.abort = 0 ∧ t.rd 0x801006 = 1 ∧
      t.stage = { s.stage with op := some ⟨1, n, buildImage n (s.nextGen n) (s.oldName n) vals, 1⟩ } ∧
      (∀ k ∈ mouldKeys, Dict.find vals k = some (if s.rd 0x801004 = 1 then s.staged k else s.rd k)) ∧
      sameObjects (0x801006 :: accessCounters tr) s t ∧ t = { s with dict := t.dict, answer := t.answer, stage := t.stage } := by
  have he := State.mouldCommand_store (s := s.onServe tr) (n := n) (by rwa [State.onServe_stage])
    (by rwa [State.onServe_rd _ _ (by decide) (by decide)])
  rw [State.onServe_nextGen, State.onServe_oldName] at he
  obtain ⟨habort, hstatus, hstage, hsame, hframe⟩ := State.mouldWrite_of_start h (by decide) 1 he
  refine ⟨_, (s.onServe tr).storedValues, rfl, habort, hstatus, hstage, fun k hk => ?_, hsame, hframe⟩
  rw [State.find_storedValues _ hk, State.onServe_storedValue s tr hk, State.storedValue]

/-- An erase of a slot that is not protected begins. -/
theorem eraseMould_begins {tr : Transport} {n : Nat} {s : State} (h : s.admits ⟨tr, 0x801005, 1, n⟩)
    (hop : s.stage.op = none) (hn : (s.rd 0x801101).testBit n = false) :
    ∃ t, exec (.eraseMould tr n) s = .next t ∧ t.answer.abort = 0 ∧ t.rd 0x801006 = 1 ∧
      t.stage = { s.stage with op := some ⟨3, n, [], 1⟩ } ∧ sameObjects (0x801006 :: accessCounters tr) s t ∧
      t = { s with dict := t.dict, answer := t.answer, stage := t.stage } :=
  ⟨_, rfl, State.mouldWrite_of_start h (by decide) 3 (State.mouldCommand_erase (by rwa [State.onServe_stage])
    (by rwa [State.onServe_rd _ _ (by decide) (by decide)]))⟩

/-! ### The bytes of a slot (R206) -/

theorem assocD_filter_ne {α : Type} (l : List (Nat × α)) {j n : Nat} (h : j ≠ n) (d : α) :
    assocD (l.filter fun x => x.1 != n) j d = assocD l j d := by
  induction l with
  | nil => rfl
  | cons p l ih =>
    obtain ⟨i, a⟩ := p
    by_cases hi : i = n
    · have hj : i ≠ j := fun e => h (e.symm.trans hi)
      simpa [hi, assocD, hi ▸ hj] using ih
    · simp [hi, assocD, ih]

/-- One slot holds a new image, every other slot its bytes. -/
theorem Mram.mould_of_moulds {m u : Mram} {n : Nat} {img : List Byte}
    (h : u.moulds = (n, img) :: m.moulds.filter fun x => x.1 != n) (j : Nat) :
    u.mould j = if j = n then pad 16384 img else m.mould j := by
  unfold Mram.mould
  rw [h]
  split
  case isTrue hj => rw [hj, assocD, if_pos rfl]
  case isFalse hj => rw [assocD, if_neg (Ne.symm hj), assocD_filter_ne _ hj]

/-- An image with TAG at 0 has no correct header. -/
theorem readImage_untagged (n : Nat) (img : List Byte) : readImage n (pad 16384 (untagged img)) = .inr 1 := by
  have htag : imageField (pad 16384 (untagged img)) 0 4 = 0 := by
    have htake : (pad 16384 (untagged img)).take 4 = [0, 0, 0, 0] := by
      rw [pad, untagged, List.append_assoc, List.take_take]
      rfl
    rw [imageField, List.drop_zero, htake]
    rfl
  have hheader : headerOk n (pad 16384 (untagged img)) = false := by
    simp [headerOk, htag, mouldTag]
  simp [readImage, hheader]

/-! ### The end of an operation (R211 to R213) -/

section
variable (o : MouldOp) (s : State)

/-- An operation that ends is running no more; an upload's staging may be free. -/
theorem State.endMouldOp_frame :
    s.endMouldOp o = { s with stage := { s.stage with op := none }, dma := (s.endMouldOp o).dma } := by
  unfold State.endMouldOp State.releaseStaging
  dsimp only
  split
  · split <;> rfl
  · rfl

@[simp] theorem State.endMouldOp_stage : (s.endMouldOp o).stage = { s.stage with op := none } := by
  rw [State.endMouldOp_frame]

@[simp] theorem State.endMouldOp_mram : (s.endMouldOp o).mram = s.mram := by rw [State.endMouldOp_frame]

@[simp] theorem State.endMouldOp_rd (k : Nat) : (s.endMouldOp o).rd k = s.rd k := by rw [State.endMouldOp_frame]; rfl

/-- What an operation that passed wrote: MRAM alone. -/
def State.mouldWritten : State :=
  let u := if o.op = 3 then s.eraseMould o.slot else (s.writeMould o.slot o.image).writeShadow o.image
  if o.op = 3 ∧ u.mram.journal ≠ some o.slot then u else u.writeJournal none

theorem State.passMould_eq : s.passMould o = ((s.mouldWritten o).endMouldOp o).wr 0x801006 2 := rfl

/-- A store or upload leaves its image in the slot and in the shadow slot, and the journal cleared. -/
theorem State.mouldWritten_of_image (h : o.op ≠ 3) :
    s.mouldWritten o = ((s.writeMould o.slot o.image).writeShadow o.image).writeJournal none := by
  unfold State.mouldWritten
  dsimp only
  rw [if_neg h, if_neg fun hj => h hj.1]

/-- An erase clears the journal where that names its slot. -/
theorem State.mouldWritten_of_erase (h : o.op = 3) :
    s.mouldWritten o = s.eraseMould o.slot ∨ s.mouldWritten o = (s.eraseMould o.slot).writeJournal none := by
  unfold State.mouldWritten
  dsimp only
  rw [if_pos h]
  split
  · exact .inl rfl
  · exact .inr rfl

theorem State.mouldWritten_frame : s.mouldWritten o = { s with mram := (s.mouldWritten o).mram } := by
  by_cases h : o.op = 3
  · obtain he | he := s.mouldWritten_of_erase o h <;> rw [he] <;>
      simp only [State.eraseMould, State.writeJournal, State.wroteWords, State.onMram]
  · rw [s.mouldWritten_of_image o h]
    simp only [State.writeMould, State.writeShadow, State.writeJournal, State.wroteWords, State.onMram]

theorem State.mouldWritten_moulds : (s.mouldWritten o).mram.moulds =
    (o.slot, if o.op = 3 then untagged (s.mram.mould o.slot) else o.image) ::
      s.mram.moulds.filter fun x => x.1 != o.slot := by
  by_cases h : o.op = 3
  · obtain he | he := s.mouldWritten_of_erase o h <;>
      simp [he, h, State.eraseMould, State.writeJournal, State.wroteWords]
  · simp [s.mouldWritten_of_image o h, h, State.writeMould, State.writeShadow, State.writeJournal, State.wroteWords]

theorem State.mouldWritten_journal (h : o.op ≠ 3) : (s.mouldWritten o).mram.journal = none := by
  simp [s.mouldWritten_of_image o h, State.writeJournal, State.wroteWords]

theorem State.mouldWritten_mould (n : Nat) : (s.mouldWritten o).mram.mould n =
    if n = o.slot then pad 16384 (if o.op = 3 then untagged (s.mram.mould o.slot) else o.image) else s.mram.mould n :=
  Mram.mould_of_moulds (s.mouldWritten_moulds o) n

theorem State.passMould_stage : (s.passMould o).stage = { s.stage with op := none } := by
  rw [State.passMould_eq, State.wr_stage, State.endMouldOp_stage, State.mouldWritten_frame]

theorem State.passMould_mram : (s.passMould o).mram = (s.mouldWritten o).mram := by
  rw [State.passMould_eq, State.wr_mram, State.endMouldOp_mram]

theorem State.passMould_rd (k : Nat) : (s.passMould o).rd k = if k = 0x801006 then 2 else s.rd k := by
  rw [State.passMould_eq, State.rd_wr, State.endMouldOp_rd, State.mouldWritten_frame]
  rfl

/-- While the journal names a slot, its image is the shadow's. -/
theorem State.journalMould_slotImage : (s.journalMould o).slotImage o.slot = o.image := if_pos rfl

theorem State.journalMould_dict : (s.journalMould o).dict = s.dict := by
  simp [State.journalMould, State.writeShadow, State.writeJournal, State.wroteWords]

theorem State.journalMould_moulds : (s.journalMould o).mram.moulds = s.mram.moulds := by
  simp [State.journalMould, State.writeShadow, State.writeJournal, State.wroteWords]

theorem State.journalMould_stage : (s.journalMould o).stage = { s.stage with op := some { o with step := 3 } } := by
  simp [State.journalMould, State.writeShadow, State.writeJournal, State.wroteWords]

/-- A word that read uncorrectable is counted and reported. -/
theorem State.readWords_bad (w : Nat) :
    (s.noteErrors (w, 1) [w] []).readWords (w, 1) = (s.noteErrors (w, 1) [w] []).countError (w, true) := by
  rw [State.readWords, State.errorsIn_noteErrors, namedErrors_bad (by simp [inWords])]
  rfl

end

section
variable {o : MouldOp} {s : State} (ho : s.stage.op = some o)
include ho

theorem State.mouldOperation_waits (h : s.inhibited = true) (how : MouldEnd) :
    exec (.mouldOperationComplete how) s = .next s := by
  change execMouldOperationComplete how s = _
  simp [execMouldOperationComplete, ho, h]

variable (h : s.inhibited = false)
include h

/-- An operation that passed changes its own slot alone. -/
theorem State.mouldOperation_passed :
    ∃ t, exec (.mouldOperationComplete .passed) s = .next t ∧ t.stage = { s.stage with op := none } ∧
      t.rd 0x801006 = 2 ∧ sameObjects [0x801006] s t ∧ (∀ n, n ≠ o.slot → t.mram.mould n = s.mram.mould n) ∧
      (o.op ≠ 3 → t.mram.mould o.slot = pad 16384 o.image ∧ t.mram.journal = none) ∧
      (o.op = 3 → readImage o.slot (t.mram.mould o.slot) = .inr 1) := by
  have hexec : exec (.mouldOperationComplete .passed) s = .next (s.passMould o) := by
    change execMouldOperationComplete .passed s = _
    simp [execMouldOperationComplete, ho, h]
  refine ⟨_, hexec, s.passMould_stage o, by rw [State.passMould_rd, if_pos rfl], fun k hk => ?_, ?_⟩
  · rw [State.passMould_rd, if_neg (by simpa using hk)]
  rw [State.passMould_mram]
  refine ⟨fun n hn => ?other, fun hop => ⟨?own, s.mouldWritten_journal o hop⟩, fun hop => ?erased⟩ <;>
    rw [State.mouldWritten_mould]
  case other => rw [if_neg hn]
  case own => rw [if_pos rfl, if_neg hop]
  case erased => rw [if_pos rfl, if_pos hop, readImage_untagged]

/-- A failed read-back of the shadow slot leaves MRAM as it is. -/
theorem State.mouldOperation_shadowFailed :
    ∃ t, exec (.mouldOperationComplete .shadowFailed) s = .next t ∧ t.stage = { s.stage with op := none } ∧
      t.rd 0x801006 = 3 ∧ t.rd 0x801007 = 4 ∧ t.mram = s.mram := by
  have hexec : exec (.mouldOperationComplete .shadowFailed) s = .next ((s.endMouldOp o).mouldFail o.op o.slot 4) := by
    change execMouldOperationComplete .shadowFailed s = _
    simp [execMouldOperationComplete, ho, h]
  exact ⟨_, hexec, by simp, State.mouldFail_status .., State.mouldFail_cause .., by simp⟩

/-- An uncorrectable word ends the operation, is counted, and changes no slot. -/
theorem State.mouldOperation_unreadable (w : Nat) :
    ∃ t, exec (.mouldOperationComplete (.unreadable w)) s = .next t ∧ t.stage = { s.stage with op := none } ∧
      t.rd 0x801006 = 3 ∧ t.rd 0x801007 = 3 ∧ t.rd 0xC10002 = countUp (s.rd 0xC10002) ∧ t.rd 0xC10004 = w ∧
      t.mram = { s.mram with errs := t.mram.errs } := by
  let u := (s.noteErrors (w, 1) [w] []).countError (w, true)
  have hexec : exec (.mouldOperationComplete (.unreadable w)) s = .next ((u.endMouldOp o).mouldFail o.op o.slot 3) := by
    change execMouldOperationComplete (.unreadable w) s = _
    simp [execMouldOperationComplete, ho, h, State.readWords_bad, u]
  have hrd (k : Nat) (hk : k ∉ [0x801006, 0x801007, 0xC00007, 0xC00008]) :
      ((u.endMouldOp o).mouldFail o.op o.slot 3).rd k = u.rd k := by
    rw [State.mouldFail_sameObjects _ _ _ _ k hk, State.endMouldOp_rd]
  refine ⟨_, hexec, ?_, State.mouldFail_status .., State.mouldFail_cause .., ?_, ?_, ?_⟩
  · rw [State.mouldFail_stage, State.endMouldOp_stage]; rfl
  · rw [hrd _ (by decide)]
    simp [u, State.countError, State.noteErrors, countUp]
  · rw [hrd _ (by decide)]
    simp [u, State.countError]
  · rw [State.mouldFail_mram, State.endMouldOp_mram]; rfl

/-- When the slot's own read-back fails, the journal leads to the shadow slot's copy. -/
theorem State.mouldOperation_slotFailed (hop : o.op ≠ 3) :
    ∃ t u, exec (.mouldOperationComplete .journalled) s = .next u ∧ u.slotImage o.slot = o.image ∧
      u.dict = s.dict ∧ u.mram.moulds = s.mram.moulds ∧
      exec (.mouldOperationComplete .slotFailed) s = .next t ∧ t.stage = { s.stage with op := none } ∧
      t.rd 0x801006 = 3 ∧ t.rd 0x801007 = 4 ∧ t.slotImage o.slot = o.image ∧ t.mram.moulds = s.mram.moulds := by
  have hjournal : exec (.mouldOperationComplete .journalled) s = .next (s.journalMould o) := by
    change execMouldOperationComplete .journalled s = _
    simp [execMouldOperationComplete, ho, h, hop]
  have hfail : exec (.mouldOperationComplete .slotFailed) s =
      .next (((s.journalMould o).endMouldOp o).mouldFail o.op o.slot 4) := by
    change execMouldOperationComplete .slotFailed s = _
    simp [execMouldOperationComplete, ho, h, hop]
  have hmram : (((s.journalMould o).endMouldOp o).mouldFail o.op o.slot 4).mram = (s.journalMould o).mram := by
    rw [State.mouldFail_mram, State.endMouldOp_mram]
  refine ⟨_, _, hjournal, s.journalMould_slotImage o, s.journalMould_dict o, s.journalMould_moulds o, hfail, ?_,
    State.mouldFail_status .., State.mouldFail_cause .., ?_, by rw [hmram, State.journalMould_moulds]⟩
  · rw [State.mouldFail_stage, State.endMouldOp_stage, State.journalMould_stage]
  · rw [State.slotImage, hmram]; exact s.journalMould_slotImage o

end

/-- Settles O49: how a command is taken, and how the operation it begins ends. -/
theorem mouldSlotsChangeOnlyWhenAnOperationPasses : Obligations.MouldSlotsChangeOnlyWhenAnOperationPasses := by
  unfold Obligations.MouldSlotsChangeOnlyWhenAnOperationPasses
  refine ⟨fun tr n s => ?commands, fun o s ho => ⟨fun how hi => State.mouldOperation_waits ho hi how, fun hi => ?ends⟩⟩
  case commands =>
    exact ⟨mouldCommand_turnedAway (op := 1) rfl (by decide), mouldCommand_turnedAway (op := 3) rfl (by decide),
      storeMould_begins, eraseMould_begins⟩
  case ends =>
    exact ⟨State.mouldOperation_passed ho hi, State.mouldOperation_shadowFailed ho hi,
      State.mouldOperation_unreadable ho hi, State.mouldOperation_slotFailed ho hi⟩

end Sys2Proof.Machine
end

section
/-!
PROOFS. Frames on the ring (O40; R226, R228, R229, R233, R247): what a part hears of a frame, and how the frame goes on, is
discarded or is answered.
-/
namespace Sys2Proof.Machine

/-! ### What the receiver hears (R247) -/

/-- `t` is left with the code violations of `f` added to those of `s`, if the receiver of `s` listens. -/
def violationsHeard (f : Frame) (s t : State) : Prop :=
  t.rd 0x120103 = if s.ringUp = true then min 0xFFFFFFFF (s.rd 0x120103 + f.viol) else s.rd 0x120103

/-- A frame that is heard adds its violations, and is the signal that a part without one notes. -/
theorem State.rd_hearFrame (s : State) (f : Frame) (k : Nat) :
    (s.hearFrame f).rd k =
      if s.ringUp = true ∧ k = 0x120103 then min 0xFFFFFFFF (s.rd 0x120103 + f.viol)
      else if s.ringUp = true ∧ k = 0x120002 ∧ s.rd 0x120002 = 0 then 1 else s.rd k := by
  unfold State.hearFrame
  cases s.ringUp with
  | false => simp
  | true =>
    by_cases hlink : s.rd 0x120002 = 0
    · by_cases hk : k = 0x120002 <;> simp [hlink, hk]
    · simp [hlink]

theorem State.hearFrame_violations (s : State) (f : Frame) : violationsHeard f s (s.hearFrame f) := by
  unfold violationsHeard
  rw [State.rd_hearFrame]
  simp

/-- Hearing a frame leaves a part as active on the ring as it was. -/
theorem State.hearFrame_ringActive (s : State) (f : Frame) : (s.hearFrame f).ringActive = s.ringActive := by
  unfold State.ringActive
  rw [State.rd_hearFrame, if_neg (by simp)]
  split
  case isTrue h => simp [h.2.2]
  case isFalse => rfl

theorem State.hearFrame_ownFrame (s : State) (f g : Frame) : (s.hearFrame f).ownFrame g = s.ownFrame g := by
  unfold State.ownFrame
  rw [State.rd_hearFrame, if_neg (by simp), if_neg (by simp)]

/-! ### Frames that are not acted on (R229) -/

theorem goodFrame_withCrc {f : Frame} (h : f.fin = .eof) : goodFrame (withCrc f) = true := by
  simp [goodFrame, withCrc, frameBytes, h]

theorem fin_of_goodFrame {f : Frame} (h : goodFrame f = true) : f.fin = .eof := by
  simp only [goodFrame, Bool.and_eq_true, beq_iff_eq] at h
  exact h.1

/-- A passive part does no more than hear a frame. -/
theorem State.frameArrives_passive {s : State} (h : s.ringActive = false) (f : Frame) (act : State → State) :
    s.frameArrives f act = s.hearFrame f := by
  simp [State.frameArrives, State.hearFrame_ringActive, h]

/-- A good frame whose HOPS is spent ends at an active part, and is counted. -/
theorem State.frameArrives_spent {s : State} {f : Frame} (hactive : s.ringActive = true) (hhops : 31 ≤ f.hops)
    (hgood : goodFrame f = true) (act : State → State) : s.frameArrives f act = (s.hearFrame f).inc 0x120105 := by
  simp [State.frameArrives, State.hearFrame_ringActive, hactive, hhops, State.countBad, fin_of_goodFrame hgood, hgood]

/-- A bad frame is counted by an active part, and goes on as bad. -/
theorem State.frameArrives_bad {s : State} {f : Frame} (hactive : s.ringActive = true) (hhops : f.hops < 31)
    (hgood : goodFrame f = false) (act : State → State) :
    s.frameArrives f act = ((s.hearFrame f).countBad f).forwardBad f := by
  simp [State.frameArrives, State.hearFrame_ringActive, hactive, Nat.not_le.mpr hhops, hgood]

/-- A bad frame is counted by how it ended, one that was cut nowhere. -/
theorem State.rd_countBad {f : Frame} (hgood : goodFrame f = false) (s : State) (k : Nat) :
    (s.countBad f).rd k =
      if f.fin = .eof ∧ k = 0x120101 ∨ f.fin = .eofe ∧ k = 0x120102 then countUp (s.rd k) else s.rd k := by
  unfold State.countBad
  cases f.fin with
  | eof => by_cases hk : k = 0x120101 <;> simp [hgood, hk, countUp]
  | eofe => by_cases hk : k = 0x120102 <;> simp [hk, countUp]
  | cut => simp

theorem State.countBad_frame (s : State) (f : Frame) : s.countBad f = { s with dict := (s.countBad f).dict } := by
  unfold State.countBad
  split
  · split <;> rfl
  · rfl
  · rfl

/-- A frame sent out leaves or waits in the insertion buffer; nothing else changes. -/
theorem State.sendOut_leaves {s u : State} (g : Frame) (hframe : u = { s with dict := u.dict }) :
    frameLeaves s (u.sendOut g) g ∧ (u.sendOut g).dict = u.dict ∧ u.sendOut g = { s with
      dict := (u.sendOut g).dict
      ring := { s.ring with out := (u.sendOut g).ring.out, ins := (u.sendOut g).ring.ins } } := by
  rw [hframe]
  unfold frameLeaves State.sendOut State.onRing
  dsimp only
  split
  case isTrue h => exact ⟨⟨rfl, h.2⟩, rfl, rfl⟩
  case isFalse => exact ⟨⟨rfl, rfl⟩, rfl, rfl⟩

/-- The commands by which a frame reaches the part. -/
def frameCommands (f : Frame) : List Instr :=
  [.readRequest f, .writeRequest f, .enumerate f, .sync f 0, .tap f, .rollCall f, .unknownFrameType f, .frameForward f]

/-- They differ only in what an active part does with a good frame. -/
theorem Instr.exec_of_frameCommands {c : Instr} {f : Frame} (h : c ∈ frameCommands f) (s : State) :
    ∃ act, exec c s = .next (s.frameArrives f act) := by
  simp only [frameCommands, List.mem_cons, List.not_mem_nil, or_false] at h
  rcases h with rfl | rfl | rfl | rfl | rfl | rfl | rfl | rfl <;> exact ⟨_, rfl⟩

section
variable {c : Instr} {f : Frame} (hc : c ∈ frameCommands f) {s : State}
include hc

theorem State.frame_passive (hpassive : s.ringActive = false) :
    ∃ t, exec c s = .next t ∧ violationsHeard f s t ∧
      t.rd 0x120002 = (if s.ringUp = true ∧ s.rd 0x120002 = 0 then 1 else s.rd 0x120002) ∧
      sameObjects [0x120103, 0x120002] s t ∧ t = { s with dict := t.dict } := by
  obtain ⟨act, hexec⟩ := Instr.exec_of_frameCommands hc s
  rw [State.frameArrives_passive hpassive] at hexec
  refine ⟨_, hexec, s.hearFrame_violations f, ?_, fun k hk => ?_, s.hearFrame_frame f⟩
  · rw [State.rd_hearFrame]
    simp
  · obtain ⟨hviol, hlink⟩ : k ≠ 0x120103 ∧ k ≠ 0x120002 := by simpa using hk
    rw [State.rd_hearFrame, if_neg fun h => hviol h.2, if_neg fun h => hlink h.2.1]

variable (hactive : s.ringActive = true)
include hactive

theorem State.frame_spent (hhops : 31 ≤ f.hops) (hgood : goodFrame f = true) :
    ∃ t, exec c s = .next t ∧ violationsHeard f s t ∧ t.rd 0x120105 = countUp (s.rd 0x120105) ∧
      sameObjects [0x120103, 0x120105] s t ∧ t = { s with dict := t.dict } := by
  obtain ⟨act, hexec⟩ := Instr.exec_of_frameCommands hc s
  rw [State.frameArrives_spent hactive hhops hgood] at hexec
  have hcounted : sameObjects [0x120105] (s.hearFrame f) ((s.hearFrame f).inc 0x120105) := sameObjects_wr _ 0x120105 _
  refine ⟨_, hexec, ?_, ?_, (State.hearFrame_same hactive f).trans hcounted (by simp) (by simp), ?_⟩
  · exact (hcounted _ (by decide)).trans (s.hearFrame_violations f)
  · rw [State.rd_inc, if_pos rfl, State.hearFrame_same hactive f _ (by decide)]
    rfl
  · rw [State.hearFrame_frame]
    rfl

theorem State.frame_bad (hhops : f.hops < 31) (hgood : goodFrame f = false) :
    ∃ t, exec c s = .next t ∧ violationsHeard f s t ∧
      frameLeaves s t { f with hops := f.hops + 1, fin := .eofe, viol := 0 } ∧
      t.rd 0x120101 = (if f.fin = .eof then countUp (s.rd 0x120101) else s.rd 0x120101) ∧
      t.rd 0x120102 = (if f.fin = .eofe then countUp (s.rd 0x120102) else s.rd 0x120102) ∧
      sameObjects [0x120101, 0x120102, 0x120103] s t ∧
      t = { s with dict := t.dict, ring := { s.ring with out := t.ring.out, ins := t.ring.ins } } := by
  obtain ⟨act, hexec⟩ := Instr.exec_of_frameCommands hc s
  rw [State.frameArrives_bad hactive hhops hgood] at hexec
  obtain ⟨hleaves, hdict, hframe⟩ := State.sendOut_leaves (s := s) (u := (s.hearFrame f).countBad f)
    { f with hops := f.hops + 1, fin := .eofe, viol := 0 } (by rw [State.countBad_frame, State.hearFrame_frame])
  have hrd (k : Nat) : (((s.hearFrame f).countBad f).forwardBad f).rd k = ((s.hearFrame f).countBad f).rd k :=
    congrArg (Dict.get · k) hdict
  have hheard := State.hearFrame_same hactive f
  refine ⟨_, hexec, ?_, hleaves, ?_, ?_, fun k hk => ?_, hframe⟩
  · unfold violationsHeard
    rw [hrd, State.rd_countBad hgood, if_neg (by simp)]
    exact s.hearFrame_violations f
  · rw [hrd, State.rd_countBad hgood, hheard _ (by decide)]
    simp
  · rw [hrd, State.rd_countBad hgood, hheard _ (by decide)]
    simp
  · simp only [List.mem_cons, List.not_mem_nil, or_false, not_or] at hk
    obtain ⟨heof, heofe, hviol⟩ := hk
    rw [hrd, State.rd_countBad hgood, if_neg (by simp [heof, heofe]), hheard k (by simpa using hviol)]

end

/-! ### Good frames (R226, R229, R233) -/

section
variable {f : Frame} {s : State} (hactive : s.ringActive = true) (hhops : f.hops < 31) (hgood : goodFrame f = true)
include hactive hgood

/-- A good frame that is forwarded goes on with HOPS one higher and a right CRC, else as it came. -/
theorem State.goesOn_of_forward {c : Instr} (hexec : exec c s = .next ((s.hearFrame f).forward f)) :
    ∃ t g, exec c s = .next t ∧ frameLeaves s t g ∧ violationsHeard f s t ∧
      g.hops = f.hops + 1 ∧ g.dst = f.dst ∧ g.src = f.src ∧ g.typ = f.typ ∧ g.seq = f.seq ∧ g.payload = f.payload ∧
      goodFrame g = true ∧ sameObjects [0x120103] s t ∧
      t = { s with dict := t.dict, ring := { s.ring with out := t.ring.out, ins := t.ring.ins } } := by
  obtain ⟨hleaves, hdict, hframe⟩ := State.sendOut_leaves (withCrc { f with hops := f.hops + 1, viol := 0 })
    (s.hearFrame_frame f)
  exact ⟨_, _, hexec, hleaves, (congrArg (Dict.get · 0x120103) hdict).trans (s.hearFrame_violations f), rfl, rfl, rfl, rfl,
    rfl, rfl, goodFrame_withCrc (fin_of_goodFrame (f := f) hgood), (State.hearFrame_same hactive f).of_dict hdict, hframe⟩

include hhops

/-- A request, a frame of a reserved type or any other frame that is not the part's own is forwarded. -/
theorem State.frame_forwarded (hown : s.ownFrame f = false) {c : Instr}
    (hc : c ∈ [.readRequest f, .writeRequest f, .unknownFrameType f, .frameForward f]) :
    exec c s = .next ((s.hearFrame f).forward f) := by
  have hact : ∃ act, exec c s = .next (s.frameArrives f act) ∧
      ∀ u : State, u.ownFrame f = false → act u = u.forward f := by
    simp only [List.mem_cons, List.not_mem_nil, or_false] at hc
    rcases hc with rfl | rfl | rfl | rfl <;> exact ⟨_, rfl, fun u hu => by simp [hu]⟩
  obtain ⟨act, hexec, hforward⟩ := hact
  rw [hexec, State.frameArrives_good hactive hhops hgood, hforward _ (by rw [State.hearFrame_ownFrame, hown])]

/-- A frame of a reserved type for the part is answered with status 4. -/
theorem State.unknownFrameType_answered (hown : s.ownFrame f = true) (hserves : s.serves = true) :
    ∃ t r, exec (.unknownFrameType f) s = .next t ∧ t.ring = { s.ring with tx := s.ring.tx ++ [r] } ∧
      r.seq = f.seq ∧ r.dst = 0 ∧ r.src = s.rd 0x120001 ∧ r.payload.head? = some 4 ∧ violationsHeard f s t ∧
      sameObjects [0x120103] s t ∧ t = { s with dict := t.dict, ring := t.ring } := by
  have hown' : (s.hearFrame f).ownFrame f = true := by rw [State.hearFrame_ownFrame, hown]
  have hserves' : (s.hearFrame f).serves = true := by rw [State.hearFrame_frame]; exact hserves
  have hexec : exec (.unknownFrameType f) s = .next ((s.hearFrame f).replyStatus f 0x04) := by
    change Host.Outcome.next (s.frameArrives f _) = _
    simp [State.frameArrives_good hactive hhops hgood, hown', hserves']
  have hheard := State.hearFrame_same hactive f
  refine ⟨_, (s.hearFrame f).replyFrame f 0x04 0 0 [], hexec, ?_, rfl, rfl, hheard _ (by decide), rfl,
    s.hearFrame_violations f, hheard.of_dict rfl, ?_⟩
  · rw [State.hearFrame_frame]
    rfl
  · rw [State.hearFrame_frame]
    rfl

end

/-- The oldest frame of the part's own leaves when nothing else does, and takes the transmitter for its characters. -/
theorem State.frameInsert_leaves {s : State} {f : Frame} {l : List Frame} (hactive : s.ringActive = true)
    (htx : s.ring.tx = f :: l) (hins : s.ring.ins = []) (hfree : s.ring.txFree ≤ s.now) :
    exec .frameInsert s = .next { s with ring :=
      { s.ring with tx := l, out := some f, txFree := s.now + 2280 * (16 + f.payload.length) } } := by
  have htime : frameTime f = 2280 * (16 + f.payload.length) := (Nat.mul_assoc 57 40 _).symm
  change execFrameInsert s = _
  simp [execFrameInsert, State.mayInsert, State.onRing, htx, hactive, hins, hfree, htime]

/-- Settles O40: what a frame does to a passive part and to an active one, bad, spent or good. -/
theorem framesAreForwardedCountedOrDiscarded : Obligations.FramesAreForwardedCountedOrDiscarded := by
  unfold Obligations.FramesAreForwardedCountedOrDiscarded
  refine ⟨fun f s c hc => ⟨State.frame_passive hc, State.frame_spent hc, State.frame_bad hc⟩,
    fun f s hactive hhops hgood hown => ?_, fun f s => State.unknownFrameType_answered,
    fun f l s => State.frameInsert_leaves⟩
  have hexec {c : Instr} := State.frame_forwarded (c := c) hactive hhops hgood hown
  have hgoes {c : Instr} := State.goesOn_of_forward (c := c) hactive hgood
  obtain ⟨t, g, hnext, hleaves, -, hops, -, -, -, -, hpayload, -⟩ := hgoes (hexec (c := .frameForward f) (by simp))
  exact ⟨hgoes (hexec (by simp)), hgoes (hexec (by simp)), hgoes (hexec (by simp)), ⟨t, g, hnext, hleaves, hops, hpayload⟩,
    hgoes (hexec (by simp))⟩

end Sys2Proof.Machine
end

section
/-!
PROOFS. Broadcast frames and ring time (O43; R235, R237 to R241): what a byte put into a payload reads back as, what a sync frame
leaves of the transmitter, and the events of ring time.
-/
namespace Sys2Proof.Machine

/-! ### Bytes of a payload -/

theorem leNat_leBytes_one (v : Nat) : leNat (leBytes 1 v) = v % 256 := by simp [leBytes, leNat]

/-- A field reads back as the bytes that were put there. -/
theorem payloadField_patch {p : List Byte} {off : Nat} (h : off ≤ p.length) (bs : List Byte) :
    payloadField (patch p off bs) off bs.length = leNat bs := by
  have hdrop : (patch p off bs).drop off = bs ++ p.drop (off + bs.length) := by
    unfold patch
    rw [List.append_assoc, List.drop_append_of_le_length (by simp [h]), List.drop_eq_nil_of_le (by simp), List.nil_append]
  rw [payloadField, hdrop, List.take_left]

/-- One byte put into a payload replaces the byte that stood there. -/
theorem patch_byte {p : List Byte} {off : Nat} (h : off < p.length) (v : Nat) :
    patch p off (leBytes 1 v) = p.set off (BitVec.ofNat 8 v) := by
  rw [List.set_eq_take_append_cons_drop, if_pos h]
  simp [patch, leBytes]

theorem nth_set_ne {α : Type} (l : List α) {i j : Nat} (h : j ≠ i) (a d : α) : nth (l.set i a) j d = nth l j d := by
  simp [nth, List.getD_eq_getElem?_getD, List.getElem?_set_ne h.symm]

/-! ### Enumeration and roll call (R235, R237, R238) -/

theorem State.rd_takeAddress (s : State) (a n k : Nat) :
    (s.takeAddress a n).rd k = if k = 0x120004 then n else if k = 0x120001 then a else s.rd k := by
  change ((s.wr 0x120001 a).wr 0x120004 n).rd k = _
  rw [State.rd_wr, State.rd_wr]

/-- The part that takes an address forgets the kept replies; what else is on the ring stays. -/
theorem State.takeAddress_ring (s : State) (a n : Nat) : (s.takeAddress a n).ring = { s.ring with kept := [] } := rfl

theorem State.takeAddress_mram (s : State) (a n : Nat) : (s.takeAddress a n).mram = s.mram := rfl

theorem State.rollByte_odd (s : State) : s.rollByte.testBit 0 = true := by
  rw [Nat.testBit_zero, decide_eq_true_eq]
  unfold State.rollByte
  omega

/-- The frame with another payload, as it goes on. -/
def goneOn (f : Frame) (p : List Byte) : Frame := withCrc { f with payload := p, hops := f.hops + 1, viol := 0 }

/-- A frame that an active part heard goes on with another payload, and nothing else changes. -/
theorem State.forward_goneOn {s : State} (hactive : s.ringActive = true) (f : Frame) (p : List Byte) :
    frameLeaves s ((s.hearFrame f).forward { f with payload := p }) (goneOn f p) ∧
      sameObjects [0x120103] s ((s.hearFrame f).forward { f with payload := p }) ∧
      (s.hearFrame f).forward { f with payload := p } = { s with
        dict := ((s.hearFrame f).forward { f with payload := p }).dict
        ring := { s.ring with
          out := ((s.hearFrame f).forward { f with payload := p }).ring.out
          ins := ((s.hearFrame f).forward { f with payload := p }).ring.ins } } := by
  obtain ⟨hleaves, hdict, hframe⟩ := State.sendOut_leaves (goneOn f p) (s.hearFrame_frame f)
  exact ⟨hleaves, (State.hearFrame_same hactive f).of_dict hdict, hframe⟩

section
variable {f : Frame} {s : State} (hactive : s.ringActive = true) (hhops : f.hops < 31) (hgood : goodFrame f = true)
include hactive hhops hgood

section
variable (hdst : f.dst = 0xFE) (htyp : f.typ = 0x10) (hlen : f.payload.length = 250)
  (hlow : 1 ≤ payloadField f.payload 0 1) (hhigh : payloadField f.payload 0 1 ≤ 31)
include hdst htyp hlen hlow hhigh

/-- An enumeration with a position to give goes on with the next one, and the part takes this one. -/
theorem State.enumerate_taken :
    ∃ p, exec (.enumerate f) s = .next
      (((s.hearFrame f).forward { f with payload := patch p 0 (leBytes 1 (payloadField f.payload 0 1 + 1)) }).takeAddress
        (payloadField f.payload 0 1) (payloadField f.payload 0 1)) := by
  have hexec : exec (.enumerate f) s = .next (s.frameArrives f _) := rfl
  rw [hexec, State.frameArrives_good hactive hhops hgood, if_neg (by simp [hdst, htyp, hlen])]
  dsimp only
  rw [if_pos ⟨hlow, hhigh⟩]
  exact ⟨_, rfl⟩

theorem State.enumerate_numbers :
    ∃ t g, exec (.enumerate f) s = .next t ∧ t.rd 0x120001 = payloadField f.payload 0 1 ∧
      t.rd 0x120004 = payloadField f.payload 0 1 ∧ t.ring.kept = [] ∧ frameLeaves s t g ∧ g.hops = f.hops + 1 ∧
      payloadField g.payload 0 1 = payloadField f.payload 0 1 + 1 ∧ sameObjects [0x120001, 0x120004, 0x120103] s t ∧
      t.mram = s.mram := by
  obtain ⟨p, hexec⟩ := State.enumerate_taken hactive hhops hgood hdst htyp hlen hlow hhigh
  generalize payloadField f.payload 0 1 = n at hlow hhigh hexec ⊢
  have hnext : payloadField (patch p 0 (leBytes 1 (n + 1))) 0 1 = n + 1 := by
    have hfield := payloadField_patch (Nat.zero_le p.length) (leBytes 1 (n + 1))
    rw [length_leBytes, leNat_leBytes_one] at hfield
    omega
  generalize patch p 0 (leBytes 1 (n + 1)) = q at hexec hnext
  obtain ⟨hleaves, hsame, hframe⟩ := State.forward_goneOn hactive f q
  refine ⟨_, goneOn f q, hexec, ?_, ?_, rfl, ?_, rfl, hnext, fun k hk => ?_, ?_⟩
  · rw [State.rd_takeAddress, if_neg (by decide), if_pos rfl]
  · rw [State.rd_takeAddress, if_pos rfl]
  · unfold frameLeaves at hleaves ⊢
    rw [State.takeAddress_ring]
    exact hleaves
  · simp only [List.mem_cons, List.not_mem_nil, or_false, not_or] at hk
    obtain ⟨haddress, hcount, hviol⟩ := hk
    rw [State.rd_takeAddress, if_neg hcount, if_neg haddress, hsame k (by simpa using hviol)]
  · rw [State.takeAddress_mram, hframe]

end

/-- The roll call goes on with the part's status byte at its position, whose bit 0 says that the part is there. -/
theorem State.rollCall_marks (hdst : f.dst = 0xFF) (htyp : f.typ = 0x13) (hlen : f.payload.length = 32)
    (hpos : s.rd 0x120001 < 32) :
    ∃ t g, exec (.rollCall f) s = .next t ∧ frameLeaves s t g ∧ g.hops = f.hops + 1 ∧ g.payload.length = 32 ∧
      (payloadField g.payload (s.rd 0x120001) 1).testBit 0 = true ∧
      (∀ i < 32, i ≠ s.rd 0x120001 → nth g.payload i 0 = nth f.payload i 0) ∧ sameObjects [0x120103] s t ∧
      t = { s with dict := t.dict, ring := { s.ring with out := t.ring.out, ins := t.ring.ins } } := by
  have hheard := State.hearFrame_same hactive f
  have hexec : exec (.rollCall f) s = .next ((s.hearFrame f).forward
      { f with payload := patch f.payload (s.rd 0x120001) (leBytes 1 (s.hearFrame f).rollByte) }) := by
    change Host.Outcome.next (s.frameArrives f _) = _
    rw [State.frameArrives_good hactive hhops hgood]
    dsimp only
    rw [hheard 0x120001 (by decide), if_neg (by simp [hdst, htyp, hlen]; omega)]
  generalize s.rd 0x120001 = a at hpos hexec ⊢
  have hbyte := (s.hearFrame f).rollByte_odd
  generalize (s.hearFrame f).rollByte = b at hexec hbyte
  have hset : patch f.payload a (leBytes 1 b) = f.payload.set a (BitVec.ofNat 8 b) := patch_byte (by omega) b
  have hfield : payloadField (patch f.payload a (leBytes 1 b)) a 1 = b % 256 := by
    rw [← leNat_leBytes_one, ← payloadField_patch (show a ≤ f.payload.length by omega), length_leBytes]
  generalize patch f.payload a (leBytes 1 b) = q at hexec hset hfield
  obtain ⟨hleaves, hsame, hframe⟩ := State.forward_goneOn hactive f q
  refine ⟨_, goneOn f q, hexec, hleaves, rfl, ?_, ?_, fun i _ hi => ?_, hsame, hframe⟩
  · change q.length = 32
    rw [hset, List.length_set, hlen]
  · change (payloadField q a 1).testBit 0 = true
    rw [hfield, Nat.testBit_mod_two_pow b 8 0, hbyte]
    rfl
  · change nth q i 0 = _
    rw [hset, nth_set_ne f.payload hi]

end

/-! ### Ring time (R239 to R241) -/

/-- `t` is `s` but for objects, the log and the ring, whose transmitter is as it was. -/
structure State.KeepsTransmitter (s t : State) : Prop where
  frame  : t = { s with dict := t.dict, log := t.log, ring := t.ring }
  txFree : t.ring.txFree = s.ring.txFree
  ins    : t.ring.ins = s.ring.ins
  out    : t.ring.out = s.ring.out

theorem State.KeepsTransmitter.trans {s t u : State} (h1 : s.KeepsTransmitter t) (h2 : t.KeepsTransmitter u) :
    s.KeepsTransmitter u :=
  ⟨by rw [h2.frame, h1.frame], h2.txFree.trans h1.txFree, h2.ins.trans h1.ins, h2.out.trans h1.out⟩

theorem State.logEvent_keepsTransmitter (s : State) (code : Nat) (data : List Byte) :
    s.KeepsTransmitter (s.logEvent code data) := by
  have hring := s.logEvent_sends code data
  exact ⟨s.logEvent_frame code data, by rw [hring], by rw [hring], by rw [hring]⟩

/-- Ring time steps or slews to `ra`, unless it reached all ones. -/
def State.moveTime (ra : Nat) (e : Int) (s : State) : State :=
  if s.ring.nanos = 2 ^ 64 - 1 then s
  else if s.rd 0x120203 = 0 ∨ 10000 < e.natAbs then s.stepTime ra e
  else s.slewTime e

theorem State.moveTime_keepsTransmitter (s : State) (ra : Nat) (e : Int) : s.KeepsTransmitter (s.moveTime ra e) := by
  unfold State.moveTime State.stepTime
  split_ifs
  · exact ⟨rfl, rfl, rfl, rfl⟩
  · refine .trans ?_ (State.logEvent_keepsTransmitter ..)
    exact ⟨rfl, rfl, rfl, rfl⟩
  · exact ⟨rfl, rfl, rfl, rfl⟩

/-- The error of ring time is reported. -/
def State.errorNoted (ra : Nat) (s : State) : State := s.wr 0x120204 (ofSigned 32 ((ra : Int) - s.ring.nanos))

/-- The part is locked, by a sync frame that came now. -/
def State.synced (s : State) : State := (s.wr 0x120203 1).onRing fun x => { x with lastSync := some s.now }

/-- A sync frame reports the error of ring time, moves it and locks the part. -/
theorem State.discipline_eq (ra : Nat) (s : State) :
    s.discipline ra = ((s.errorNoted ra).moveTime ra ((ra : Int) - s.ring.nanos)).synced := rfl

theorem State.errorNoted_moves (s : State) (ra : Nat) (e : Int) : s.KeepsTransmitter ((s.errorNoted ra).moveTime ra e) := by
  have hnoted : s.KeepsTransmitter (s.errorNoted ra) := ⟨rfl, rfl, rfl, rfl⟩
  exact hnoted.trans ((s.errorNoted ra).moveTime_keepsTransmitter ra e)

theorem State.discipline_keepsTransmitter (s : State) (ra : Nat) : s.KeepsTransmitter (s.discipline ra) := by
  rw [State.discipline_eq]
  have hmoved := s.errorNoted_moves ra ((ra : Int) - s.ring.nanos)
  generalize State.moveTime .. = u at hmoved
  have hsynced : u.KeepsTransmitter u.synced := ⟨rfl, rfl, rfl, rfl⟩
  exact hmoved.trans hsynced

theorem State.discipline_locks (s : State) (ra : Nat) :
    (s.discipline ra).rd 0x120203 = 1 ∧ (s.discipline ra).ring.lastSync = some s.now := by
  rw [State.discipline_eq]
  have hmoved := s.errorNoted_moves ra ((ra : Int) - s.ring.nanos)
  generalize State.moveTime .. = u at hmoved
  refine ⟨by simp [State.synced], ?_⟩
  rw [hmoved.frame]
  rfl

/-- Ring time that reached all ones stays there. -/
theorem State.discipline_saturated {s : State} (h : s.ring.nanos = 2 ^ 64 - 1) (ra : Nat) :
    (s.discipline ra).ring.nanos = 2 ^ 64 - 1 := by
  have hnoted : (s.errorNoted ra).ring.nanos = 2 ^ 64 - 1 := h
  rw [State.discipline_eq, State.moveTime, if_pos hnoted]
  exact h

theorem State.stepTime_nanos (s : State) (ra : Nat) (e : Int) : (s.stepTime ra e).ring.nanos = min (2 ^ 64 - 1) ra := by
  unfold State.stepTime
  dsimp only
  rw [State.logEvent_sends]
  rfl

/-- A free-running part takes the time that a sync frame brings. -/
theorem State.discipline_free {s : State} (h : s.ring.nanos ≠ 2 ^ 64 - 1) (hfree : s.rd 0x120203 = 0) (ra : Nat) :
    (s.discipline ra).ring.nanos = min (2 ^ 64 - 1) ra := by
  have hnoted : (s.errorNoted ra).ring.nanos ≠ 2 ^ 64 - 1 := h
  have hstate : (s.errorNoted ra).rd 0x120203 = 0 := by simpa [State.errorNoted] using hfree
  rw [State.discipline_eq, State.moveTime, if_neg hnoted, if_pos (.inl hstate)]
  exact State.stepTime_nanos ..

/-- The ring time that a sync frame brings: T0, the correction field and the delay of the part's own link (R240). -/
def State.syncTime (f : Frame) (s : State) : Nat :=
  payloadField f.payload 0 8 + payloadField f.payload 8 4 + s.rd 0x120202

/-- A good sync frame at an active part disciplines its time and goes on. -/
theorem State.sync_disciplines {f : Frame} {s : State} (hactive : s.ringActive = true) (hhops : f.hops < 31)
    (hgood : goodFrame f = true) (residence : Nat) (hdst : f.dst = 0xFF) (htyp : f.typ = 0x11)
    (hlen : f.payload.length = 16) :
    ∃ t g, exec (.sync f residence) s = .next t ∧ t.rd 0x120203 = 1 ∧ t.ring.lastSync = some s.now ∧
      frameLeaves s t g ∧ g.hops = f.hops + 1 ∧ t.mram = s.mram ∧
      (s.ring.nanos = 2 ^ 64 - 1 → t.ring.nanos = 2 ^ 64 - 1) ∧
      (s.ring.nanos ≠ 2 ^ 64 - 1 → s.rd 0x120203 = 0 → t.ring.nanos = min (2 ^ 64 - 1) (s.syncTime f)) := by
  have hheard := State.hearFrame_same hactive f
  have hframe := s.hearFrame_frame f
  have hexec : ∃ p, exec (.sync f residence) s =
      .next (((s.hearFrame f).discipline (s.syncTime f)).forward { f with payload := p }) := by
    have hexec : exec (.sync f residence) s = .next (s.frameArrives f _) := rfl
    rw [hexec, State.frameArrives_good hactive hhops hgood, if_neg (by simp [hdst, htyp, hlen])]
    dsimp only
    rw [hheard 0x120202 (by decide), ← Nat.add_assoc]
    exact ⟨_, rfl⟩
  obtain ⟨p, hexec⟩ := hexec
  have hkeeps : s.KeepsTransmitter ((s.hearFrame f).discipline (s.syncTime f)) := by
    refine .trans ?_ (State.discipline_keepsTransmitter ..)
    rw [hframe]
    exact ⟨rfl, rfl, rfl, rfl⟩
  obtain ⟨hlocked, hlast⟩ := (s.hearFrame f).discipline_locks (s.syncTime f)
  have hsaturated := State.discipline_saturated (s := s.hearFrame f) (ra := s.syncTime f)
  have hfree := State.discipline_free (s := s.hearFrame f) (ra := s.syncTime f)
  rw [hheard _ (by decide)] at hfree
  have hring : (s.hearFrame f).ring = s.ring := by rw [hframe]
  have hnow : (s.hearFrame f).now = s.now := by rw [hframe]
  rw [hring] at hsaturated hfree
  rw [hnow] at hlast
  generalize (s.hearFrame f).discipline (s.syncTime f) = u at *
  have hforward := u.forward_frame { f with payload := p }
  refine ⟨_, _, hexec, ?_, ?_, State.forward_leaves _ (by rw [hkeeps.frame]) hkeeps.txFree hkeeps.ins hkeeps.out, rfl, ?_,
    fun h => ?_, fun h h0 => ?_⟩
  · rw [State.forward_rd, hlocked]
  · rw [hforward, hlast]
  · rw [hforward, hkeeps.frame]
  · rw [hforward, hsaturated h]
  · rw [hforward, hfree h h0]

/-- Without a sync frame for the time-out a locked part enters holdover, at the rate that the frequency gives. -/
theorem State.syncTimeout_holds {s : State} {x : Instant} (hlast : s.ring.lastSync = some x) (hlocked : s.rd 0x120203 = 1)
    (hdue : x + ms (s.rd 0x120206) ≤ s.now) :
    ∃ t, exec .syncTimeout s = .next t ∧ t.rd 0x120203 = 2 ∧ t.ring.rate = s.ring.freq ∧ t.ring.nanos = s.ring.nanos ∧
      t.mram = s.mram := by
  have hexec : exec .syncTimeout s = .next (((s.wr 0x120203 2).setRate s.ring.freq).logEvent 0x0605 []) := by
    change execSyncTimeout s = _
    simp [execSyncTimeout, hlast, hlocked, hdue]
  refine ⟨_, hexec, ?_, ?_, ?_, ?_⟩
  · rw [State.logEvent_same _ _ _ _ (by decide), State.setRate, State.rd_wr, if_neg (by decide), State.onRing_rd,
      State.rd_wr, if_pos rfl]
  · rw [State.logEvent_sends]
    rfl
  · rw [State.logEvent_sends]
    rfl
  · rw [State.logEvent_mram]
    rfl

/-- Ring time that reached all ones is logged once. -/
theorem State.ringTimeSaturated_logs {s : State} (h : s.ring.nanos = 2 ^ 64 - 1) :
    (s.ring.satLogged = false → ∃ t, exec .ringTimeSaturated s = .next t ∧ t.ring.satLogged = true ∧
      t.ring.nanos = 2 ^ 64 - 1 ∧ (s.log.queue.length < 64 → t.log.queue.length = s.log.queue.length + 1)) ∧
    (s.ring.satLogged = true → exec .ringTimeSaturated s = .next s) := by
  constructor
  · intro hlogged
    have hexec : exec .ringTimeSaturated s =
        .next ((s.onRing fun r => { r with satLogged := true }).logEvent 0x0606 []) := by
      change execRingTimeSaturated s = _
      rw [execRingTimeSaturated, if_pos ⟨h, by simp [hlogged]⟩]
    have hsends := (s.onRing fun r => { r with satLogged := true }).logEvent_sends 0x0606 []
    refine ⟨_, hexec, by rw [hsends]; rfl, by rw [hsends]; exact h, fun hroom => ?_⟩
    obtain ⟨e, hlog, -⟩ := State.logEvent_of_room (s := s.onRing fun r => { r with satLogged := true }) hroom 0x0606 []
    rw [hlog]
    simp
  · intro hlogged
    change execRingTimeSaturated s = _
    rw [execRingTimeSaturated, if_neg (by simp [hlogged])]

/-- Settles O43: what each broadcast frame does, and the events of ring time. -/
theorem broadcastFramesActAndGoOn : Obligations.BroadcastFramesActAndGoOn := by
  unfold Obligations.BroadcastFramesActAndGoOn
  exact ⟨fun f s hactive hhops hgood => ⟨State.enumerate_numbers hactive hhops hgood,
    State.rollCall_marks hactive hhops hgood, State.sync_disciplines hactive hhops hgood⟩,
    fun x s => State.syncTimeout_holds, fun s => State.ringTimeSaturated_logs⟩

end Sys2Proof.Machine
end

section
/-!
PROOFS. The ring link (O39; R222 to R224, R247): training, joining, and what the closing of the bypass switch loses.
-/
namespace Sys2Proof.Machine

/-! ### An event at a passive part (R244) -/

/-- A part that is not active on the ring sends no emergency frame. -/
theorem State.logEvent_ring_of_passive {s : State} (h : s.ringActive = false) (code : Nat) (data : List Byte) :
    (s.logEvent code data).ring = s.ring := by
  have hentry (u : State) (bit : Option Nat) (hu : u.ringActive = false) : (u.logEntry code data bit).ring = u.ring := by
    simp [State.logEntry, hu]
  unfold State.logEvent
  extract_lets bit raised
  have hraised : raised.ring = s.ring ∧ raised.ringActive = false := by
    clear_value bit
    cases bit with
    | none => exact ⟨rfl, h⟩
    | some b => exact ⟨rfl, by simpa [State.ringActive, raised, State.raise] using h⟩
  split
  · exact hraised.1
  · rw [hentry raised bit hraised.2, hraised.1]

/-! ### Training and joining (R222, R223) -/

theorem State.trainingAchieved_trains {s : State} (hup : s.ringUp = true) (hlink : s.rd 0x120002 < 2) :
    ∃ t, exec .trainingAchieved s = .next t ∧ t.rd 0x120002 = 2 ∧
      t.ring = { s.ring with trainedAt := some s.now } ∧ sameObjects [0x120002] s t := by
  have hexec : exec .trainingAchieved s =
      .next ((s.wr 0x120002 2).onRing fun r => { r with trainedAt := some s.now }) := by
    change execTrainingAchieved s = _
    rw [execTrainingAchieved, if_pos ⟨hup, hlink⟩]
  exact ⟨_, hexec, by simp, rfl, (sameObjects_wr s 0x120002 2).of_dict rfl⟩

/-- The switch is open and the part active, but the event is not yet logged. -/
def State.openSwitch (s : State) : State := (s.wr 0x120002 3).wr 0x120003 0

theorem State.openSwitch_same (s : State) : sameObjects [0x120002, 0x120003] s s.openSwitch :=
  (sameObjects_wr s 0x120002 3).trans (sameObjects_wr _ 0x120003 0) (by simp) (by simp)

/-- 100 µs after training a part without a bypass hold joins the ring. -/
theorem State.ringJoin_joins {x : Instant} {s : State} (htrained : s.ring.trainedAt = some x) (hlink : s.rd 0x120002 = 2)
    (hhold : s.rd 0x120005 = 0) (hdue : x + us 100 ≤ s.now) :
    ∃ t, exec .ringJoin s = .next t ∧ t.rd 0x120002 = 3 ∧ t.rd 0x120003 = 0 ∧ t.ringActive = true ∧
      sameObjects [0x120002, 0x120003, 0x100101, 0xC00007, 0xC00008] s t ∧ t.mram = s.mram := by
  have hexec : exec .ringJoin s =
      .next ((s.openSwitch.logEvent 0x0602 []).onRing fun r => { r with txFree := s.now + us 1 }) := by
    change execRingJoin s = _
    simp [execRingJoin, State.openSwitch, htrained, hlink, hhold, hdue]
  have hlogged := s.openSwitch.logEvent_same 0x0602 []
  have hactive : (s.openSwitch.logEvent 0x0602 []).rd 0x120002 = 3 := by
    rw [hlogged _ (by decide)]
    simp [State.openSwitch]
  refine ⟨_, hexec, hactive, ?_, ?_, (s.openSwitch_same.trans hlogged (by simp) (by simp)).of_dict rfl, ?_⟩
  · rw [State.onRing_rd, hlogged _ (by decide)]
    simp [State.openSwitch]
  · simp [State.ringActive, hactive]
  · rw [State.onRing_mram, State.logEvent_mram]
    rfl

/-! ### The switch closes (R222, R224, R247) -/

theorem State.rd_closeSwitch (s : State) (link k : Nat) :
    (s.closeSwitch link).rd k = if k = 0x120003 then 1 else if k = 0x120002 then link else s.rd k := by
  unfold State.closeSwitch
  rw [State.onRing_rd, State.rd_wr, State.rd_wr]

theorem State.closeSwitch_same (s : State) (link : Nat) : sameObjects [0x120002, 0x120003] s (s.closeSwitch link) :=
  fun k hk => by
    obtain ⟨hlink, hswitch⟩ : k ≠ 0x120002 ∧ k ≠ 0x120003 := by simpa using hk
    rw [State.rd_closeSwitch, if_neg hswitch, if_neg hlink]

/-- The frames not yet sent are lost; training goes on only in state 2. -/
theorem State.closeSwitch_ring (s : State) (link : Nat) : (s.closeSwitch link).ring =
    { s.ring with tx := [], ins := [], trainedAt := if link = 2 then s.ring.trainedAt else none } := rfl

/-- The state after a loss of training, before it is counted and logged. -/
def State.trainingLost (errors : Nat) (signal : Bool) (s : State) : State :=
  (s.add 0x120103 errors).closeSwitch (if signal then 1 else 0)

theorem State.lossOfTraining_eq {s : State} (hup : s.ringUp = true) (errors : Nat) (signal : Bool) :
    exec (.lossOfTraining errors signal) s = .next (if s.ringActive then
      ((s.trainingLost errors signal).inc 0x120104).logEvent 0x0601
        (leBytes 4 (((s.trainingLost errors signal).inc 0x120104).rd 0x120104))
      else s.trainingLost errors signal) := by
  change execLossOfTraining errors signal s = _
  simp [execLossOfTraining, hup, State.trainingLost]

section
variable (s : State) (errors : Nat) (signal : Bool)

theorem State.rd_trainingLost (k : Nat) : (s.trainingLost errors signal).rd k =
    if k = 0x120003 then 1 else if k = 0x120002 then (if signal then 1 else 0)
    else if k = 0x120103 then min 0xFFFFFFFF (s.rd 0x120103 + errors) else s.rd k := by
  unfold State.trainingLost
  rw [State.rd_closeSwitch, State.rd_add]

theorem State.trainingLost_passive : (s.trainingLost errors signal).ringActive = false := by
  unfold State.ringActive
  rw [State.rd_trainingLost]
  cases signal <;> rfl

theorem State.trainingLost_ring :
    (s.trainingLost errors signal).ring = { s.ring with tx := [], ins := [], trainedAt := none } := by
  unfold State.trainingLost
  rw [State.closeSwitch_ring]
  cases signal <;> rfl

theorem State.trainingLost_same : sameObjects [0x120002, 0x120003, 0x120103] s (s.trainingLost errors signal) :=
  (sameObjects_wr s 0x120103 _).trans ((s.add 0x120103 errors).closeSwitch_same _) (by simp) (by simp)

end

/-- The loss is counted and logged of an active part, which is passive by then and sends no emergency. -/
theorem State.lossOfTraining_counts {s : State} (hup : s.ringUp = true) (errors : Nat) (signal : Bool) :
    ∃ t, exec (.lossOfTraining errors signal) s = .next t ∧ t.ring = (s.trainingLost errors signal).ring ∧
      t.rd 0x120104 = (if s.rd 0x120002 = 3 then countUp (s.rd 0x120104) else s.rd 0x120104) ∧
      sameObjects [0x120104, 0x100101, 0xC00007, 0xC00008] (s.trainingLost errors signal) t := by
  have hexec := State.lossOfTraining_eq hup errors signal
  have hpassive := s.trainingLost_passive errors signal
  have hbefore := s.trainingLost_same errors signal 0x120104 (by decide)
  generalize s.trainingLost errors signal = u at hexec hpassive hbefore ⊢
  by_cases hactive : s.rd 0x120002 = 3
  · rw [if_pos (by simp [State.ringActive, hactive])] at hexec
    have hpassive' : (u.inc 0x120104).ringActive = false := by simpa [State.ringActive] using hpassive
    have hcounted : sameObjects [0x120104] u (u.inc 0x120104) := sameObjects_wr u 0x120104 _
    have hlogged := (u.inc 0x120104).logEvent_same 0x0601 (leBytes 4 ((u.inc 0x120104).rd 0x120104))
    refine ⟨_, hexec, State.logEvent_ring_of_passive hpassive' .., ?_, hcounted.trans hlogged (by simp) (by simp)⟩
    rw [hlogged _ (by decide), State.rd_inc, if_pos rfl, hbefore, if_pos hactive, countUp]
  · rw [if_neg (by simp [State.ringActive, hactive])] at hexec
    exact ⟨u, hexec, rfl, by rw [hbefore, if_neg hactive], sameObjects.refl _ u⟩

/-- A loss of training closes the switch, and loses the frames not yet sent. -/
theorem State.lossOfTraining_leaves (errors : Nat) (signal : Bool) (s : State) (hup : s.ringUp = true) :
    ∃ t, exec (.lossOfTraining errors signal) s = .next t ∧ t.rd 0x120002 = (if signal then 1 else 0) ∧
      t.rd 0x120003 = 1 ∧ t.rd 0x120103 = min 0xFFFFFFFF (s.rd 0x120103 + errors) ∧ t.ring.tx = [] ∧ t.ring.ins = [] ∧
      t.rd 0x120104 = (if s.rd 0x120002 = 3 then countUp (s.rd 0x120104) else s.rd 0x120104) ∧ t.ring.trainedAt = none ∧
      sameObjects [0x120002, 0x120003, 0x120103, 0x120104, 0x100101, 0xC00007, 0xC00008] s t := by
  obtain ⟨t, hexec, hring, hcount, hsame⟩ := State.lossOfTraining_counts hup errors signal
  rw [State.trainingLost_ring] at hring
  refine ⟨t, hexec, ?_, ?_, ?_, by rw [hring], by rw [hring], hcount, by rw [hring],
    (s.trainingLost_same errors signal).trans hsame (by simp) (by simp)⟩
  · rw [hsame _ (by decide), State.rd_trainingLost]
    simp
  · rw [hsame _ (by decide), State.rd_trainingLost]
    simp
  · rw [hsame _ (by decide), State.rd_trainingLost]
    simp

/-- A bypass hold closes the switch of an active part; any other write only stores the value. -/
theorem State.bypassHold_cases (v : Nat) (s : State) :
    (v = 1 ∧ s.rd 0x120002 = 3 ∧ State.bypassHold v s = (s.wr 0x120005 v).closeSwitch 2) ∨
      (¬(v = 1 ∧ s.rd 0x120002 = 3) ∧ State.bypassHold v s = s.wr 0x120005 v) := by
  have hactive : (s.wr 0x120005 v).ringActive = true ↔ s.rd 0x120002 = 3 := by simp [State.ringActive]
  unfold State.bypassHold
  dsimp only
  by_cases h : v = 1 ∧ s.rd 0x120002 = 3
  · exact .inl ⟨h.1, h.2, if_pos ⟨h.1, hactive.mpr h.2⟩⟩
  · exact .inr ⟨h, if_neg fun hc => h ⟨hc.1, hactive.mp hc.2⟩⟩

theorem State.bypassHold_same (v : Nat) (s : State) :
    sameObjects [0x120005, 0x120002, 0x120003] s (State.bypassHold v s) := by
  have hstored := sameObjects_wr s 0x120005 v
  rcases s.bypassHold_cases v with ⟨-, -, heq⟩ | ⟨-, heq⟩
  · rw [heq]
    exact hstored.trans (State.closeSwitch_same _ 2) (by simp) (by simp)
  · rw [heq]
    exact hstored.trans (sameObjects.refl [] _) (by simp) (by simp)

theorem State.bypassHoldWrite_holds {tr : Transport} {v : Nat} {s : State} (h : s.admits ⟨tr, 0x120005, 1, v⟩) :
    ∃ t, exec (.bypassHoldWrite tr v) s = .next t ∧ t.answer.abort = 0 ∧ t.rd 0x120005 = v ∧
      (v = 1 → s.rd 0x120002 = 3 → t.rd 0x120002 = 2 ∧ t.rd 0x120003 = 1 ∧ t.ring.tx = []) ∧
      (v = 0 → t.ring = s.ring ∧ t.rd 0x120002 = s.rd 0x120002) ∧
      sameObjects ([0x120005, 0x120002, 0x120003] ++ accessCounters tr) s t := by
  have hkey : (⟨tr, 0x120005, 1, v⟩ : Txn).key ≠ 0x102009 := by simp
  have hsame := State.hostWrite_same h hkey (State.bypassHold v) (State.bypassHold_same v _)
  have hrd {k : Nat} := State.rd_hostWrite h hkey (State.bypassHold v) (j := k)
  have hanswer := State.hostWrite_answer h hkey (State.bypassHold v)
  have hring : (s.hostWrite ⟨tr, 0x120005, 1, v⟩ (State.bypassHold v)).ring = (State.bypassHold v (s.onServe tr)).ring := by
    rw [State.hostWrite_eq_counted1 h hkey, State.counted1_ring]
  have hlink : (s.onServe tr).rd 0x120002 = s.rd 0x120002 := s.onServe_rd tr (by decide) (by decide)
  have hserved : (s.onServe tr).ring = s.ring := by rw [State.onServe_frame]
  have hexec : exec (.bypassHoldWrite tr v) s = .next (s.hostWrite ⟨tr, 0x120005, 1, v⟩ (State.bypassHold v)) := rfl
  generalize s.hostWrite ⟨tr, 0x120005, 1, v⟩ (State.bypassHold v) = t at hexec hsame hrd hanswer hring
  rcases (s.onServe tr).bypassHold_cases v with ⟨hv, hactive, heq⟩ | ⟨hpassive, heq⟩
  · rw [heq] at hanswer hring hrd
    refine ⟨t, hexec, by rw [hanswer]; rfl, ?_, fun _ _ => ⟨?_, ?_, by rw [hring]; rfl⟩, fun h0 => absurd (hv.symm.trans h0)
      (by decide), hsame⟩
    · rw [hrd (by decide) (by decide), State.rd_closeSwitch]
      simp
    · rw [hrd (by decide) (by decide), State.rd_closeSwitch]
      simp
    · rw [hrd (by decide) (by decide), State.rd_closeSwitch]
      simp
  · rw [heq] at hanswer hring hrd
    refine ⟨t, hexec, by rw [hanswer]; rfl, ?_, fun hv h3 => absurd ⟨hv, hlink.trans h3⟩ hpassive, fun _ => ⟨?_, ?_⟩, hsame⟩
    · rw [hrd (by decide) (by decide)]
      simp
    · rw [hring, State.wr_ring, hserved]
    · rw [hrd (by decide) (by decide), State.rd_wr, if_neg (by decide), hlink]

/-- Settles O39: the link trains and joins, and leaves on a loss of training or a bypass hold. -/
theorem ringLinkJoinsAndLeaves : Obligations.RingLinkJoinsAndLeaves := by
  unfold Obligations.RingLinkJoinsAndLeaves
  exact ⟨fun s => State.trainingAchieved_trains, fun x s => State.ringJoin_joins, State.lossOfTraining_leaves,
    fun tr v s => State.bypassHoldWrite_holds⟩

end Sys2Proof.Machine
end

section
/-!
PROOFS. What a read presents (O41; R191, R249): beside its own value in the store, every object reads by the values of objects
from index 0x2000 on, so that a count of the ring changes no read but its own.
-/
namespace Sys2Proof.Machine

/-! ### The geometry of the live state -/

section
variable {d e : Dict} (h : ∀ k, 0x200000 ≤ k → e.get k = d.get k)
include h

theorem bandOn_congr : bandOn e = bandOn d := by
  funext b
  unfold bandOn
  rw [h _ (by decide)]

theorem stages_congr : stages e = stages d := by
  funext b
  exact h _ (by omega)

theorem rawOffset_congr : rawOffset e = rawOffset d := by
  funext b
  unfold rawOffset stageRow firstBand bandsOn
  simp (disch := omega) only [firstRow, bandOn_congr h, stages_congr h, h]

theorem offsetOf_congr : offsetOf e = offsetOf d := by
  funext b
  unfold offsetOf minOffset bandsOn
  rw [bandOn_congr h, rawOffset_congr h]

theorem bandReady_congr : bandReady e = bandReady d := by
  funext b
  unfold bandReady offsetLines offsetEighths
  rw [offsetOf_congr h, stages_congr h]

theorem stageRows_congr : stageRows e = stageRows d := by
  unfold stageRows bandsOn
  rw [bandOn_congr h, stages_congr h]

theorem fullStageInterval_congr (k : Nat) : fullStageInterval e k = fullStageInterval d k := by
  unfold fullStageInterval tdiExpo
  rw [stageRows_congr h, h 0x340107 (by decide), h 0x341001 (by decide)]

theorem spansOf_congr : spansOf e = spansOf d := by
  simp (disch := omega) only [spansOf, h]

theorem groupLive_congr : groupLive e = groupLive d := by
  funext g
  unfold groupLive
  rw [spansOf_congr h]

theorem rowReads_congr : rowReads e = rowReads d := by
  simp (disch := omega) only [rowReads, rangesOf, rowFactor, h]

theorem colFactor_congr : colFactor e = colFactor d := by
  unfold colFactor
  rw [h _ (by decide)]

theorem digFactor_congr : digFactor e = digFactor d := by
  unfold digFactor
  rw [h _ (by decide)]

theorem fusedOut_congr : fusedOut e = fusedOut d := by
  unfold fusedOut
  rw [h _ (by decide)]

theorem subCount_congr : subCount e = subCount d := h _ (by decide)

theorem interleave_congr : interleave e = interleave d := h _ (by decide)

theorem areaPixels_congr : areaPixels e = areaPixels d := by
  unfold areaPixels spanGroups
  rw [rowReads_congr h, spansOf_congr h, colFactor_congr h, digFactor_congr h]

theorem gainOf_congr : gainOf e = gainOf d := by
  funext j
  simp (disch := omega) only [gainOf, expoMax, subCount_congr h, h]

theorem tMinSlots_congr (k : Nat) : tMinSlots e k = tMinSlots d k := by
  simp (disch := omega) only [tMinSlots, expoUnits, subCount_congr h, rowReads_congr h, h]

theorem freeRunSlots_congr (k : Nat) : freeRunSlots e k = freeRunSlots d k := by
  unfold freeRunSlots
  rw [tMinSlots_congr h, h _ (by decide)]

theorem formatOf_congr : formatOf e = formatOf d := by
  unfold formatOf
  rw [fusedOut_congr h, h 0x210001 (by decide), h 0x344001 (by decide), h 0x902003 (by decide), h 0x213002 (by decide)]

theorem reserveOf_congr : reserveOf e = reserveOf d := by
  unfold reserveOf lineReady tdiColumns spanGroups bandsOn
  rw [interleave_congr h, bandOn_congr h, bandReady_congr h, spansOf_congr h, colFactor_congr h, formatOf_congr h,
    h 0x210001 (by decide)]

theorem flaskSize_congr : flaskSize e = flaskSize d := by
  funext f
  unfold flaskSize pourPlanes planesOf pourRows packetSize flaskLive flaskPixels flaskGroups packetRuns bandsOn
  rw [interleave_congr h, fusedOut_congr h, subCount_congr h, rowReads_congr h, digFactor_congr h, groupLive_congr h,
    bandOn_congr h, colFactor_congr h, formatOf_congr h, h 0x210001 (by decide)]

end

/-! ### The objects that are not in the live store -/

/-- Nothing but the alert pin's level and the objects' own values makes a read of range 1. -/
theorem State.view1_congr (s : State) {e : Dict} (hstatus : e.get 0x100101 = s.dict.get 0x100101)
    (hmask : e.get 0x100102 = s.dict.get 0x100102) (key : Nat) : ({ s with dict := e } : State).view1 key = s.view1 key := by
  have hpin : ({ s with dict := e } : State).alertLow = s.alertLow := by
    unfold State.alertLow State.rd
    rw [hstatus, hmask]
  unfold State.view1
  rw [hpin]
  rfl

theorem State.view4_congr (s : State) {e : Dict} (hbank : e.get 0x401001 = s.dict.get 0x401001) (key : Nat) :
    ({ s with dict := e } : State).view4 key = s.view4 key := by
  have hlive : ({ s with dict := e } : State).liveBank = s.liveBank := hbank
  unfold State.view4
  rw [hlive]
  rfl

theorem State.view6_congr (s : State) (e : Dict) (key : Nat) : ({ s with dict := e } : State).view6 key = s.view6 key := rfl

theorem State.view8_congr (s : State) {e : Dict} (hslot : e.get 0x801301 = s.dict.get 0x801301) (key : Nat) :
    ({ s with dict := e } : State).view8 key = s.view8 key := by
  have hslot' : ({ s with dict := e } : State).rd 0x801301 = s.rd 0x801301 := hslot
  unfold State.view8
  rw [hslot']
  rfl

theorem State.viewB_congr (s : State) {e : Dict} (hselected : e.get 0xC00004 = s.dict.get 0xC00004) (tr : Transport)
    (key : Nat) : ({ s with dict := e } : State).viewB tr key = s.viewB tr key := by
  have hselection : ({ s with dict := e } : State).selection tr = s.selection tr := by
    cases tr with
    | ring => exact hselected
    | twi => rfl
  unfold State.viewB
  rw [hselection]
  rfl

section
variable (s : State) {e : Dict} (h : ∀ k, 0x200000 ≤ k → e.get k = s.dict.get k)
include h

theorem State.view2_congr (key : Nat) : ({ s with dict := e } : State).view2 key = s.view2 key := by
  unfold State.view2 State.rd
  dsimp only
  rw [tMinSlots_congr h, freeRunSlots_congr h, fusedOut_congr h, subCount_congr h, gainOf_congr h, rowReads_congr h,
    areaPixels_congr h, h 0x6A0005 (by decide), h 0x210001 (by decide), h 0x210002 (by decide)]

theorem State.reserve_congr : ({ s with dict := e } : State).reserve = s.reserve := by
  unfold State.reserve
  dsimp only
  rw [reserveOf_congr h]

theorem State.view3_congr (key : Nat) : ({ s with dict := e } : State).view3 key = s.view3 key := by
  have hmode : ({ s with dict := e } : State).tdiMode = s.tdiMode := congrArg (· == 1) (h 0x210001 (by decide))
  have hstep : ({ s with dict := e } : State).rd 0x6A0005 = s.rd 0x6A0005 := h _ (by decide)
  unfold State.view3
  rw [State.reserve_congr s h, hmode, hstep]
  dsimp only
  rw [fullStageInterval_congr h, stageRows_congr h, offsetOf_congr h, interleave_congr h]

theorem State.timerBit_congr (ch n : Nat) : ({ s with dict := e } : State).timerBit ch n = s.timerBit ch n :=
  congrArg (bitAt · n) (h (0x500801 + ch) (by omega))

theorem State.timerCount_congr : ({ s with dict := e } : State).timerCount = s.timerCount := by
  funext ch
  unfold State.timerCount
  rw [s.timerBit_congr h]
  rfl

theorem State.timerStatus_congr : ({ s with dict := e } : State).timerStatus = s.timerStatus := by
  funext ch
  have hstatus : ({ s with dict := e } : State).rd (0x500801 + ch) = s.rd (0x500801 + ch) := h _ (by omega)
  unfold State.timerStatus
  rw [s.timerBit_congr h, hstatus]
  rfl

theorem State.view5_congr (tr : Transport) (key : Nat) : ({ s with dict := e } : State).view5 tr key = s.view5 tr key := by
  have hposition : ({ s with dict := e } : State).position = s.position := h 0x520001 (by decide)
  have hwraps : ({ s with dict := e } : State).rd 0x520004 = s.rd 0x520004 := h _ (by decide)
  unfold State.view5
  rw [s.timerCount_congr h, s.timerStatus_congr h, hposition, hwraps]
  rfl

theorem State.view9_congr (key : Nat) : ({ s with dict := e } : State).view9 key = s.view9 key := by
  have hlanes : ({ s with dict := e } : State).rd 0x900101 = s.rd 0x900101 := h _ (by decide)
  unfold State.view9 State.occupancy State.sendArea pourSize
  rw [State.reserve_congr s h, hlanes]
  dsimp only
  rw [flaskSize_congr h]
  rfl

end

/-! ### Presented values -/

/-- A change of the object of code violations changes no value that is made when it is read. -/
theorem State.view_of_violations {s : State} {e : Dict} (h : ∀ k, k ≠ 0x120103 → e.get k = s.dict.get k) (tr : Transport)
    (key : Nat) : ({ s with dict := e } : State).view tr key = s.view tr key := by
  have habove : ∀ k, 0x200000 ≤ k → e.get k = s.dict.get k := fun k hk => h k (by omega)
  unfold State.view
  split
  · exact s.view1_congr (h _ (by decide)) (h _ (by decide)) key
  · exact s.view2_congr habove key
  · exact s.view3_congr habove key
  · exact s.view4_congr (h _ (by decide)) key
  · exact s.view5_congr habove tr key
  · exact s.view6_congr e key
  · exact s.view6_congr e key
  · exact s.view8_congr (h _ (by decide)) key
  · exact s.view9_congr habove key
  · exact s.viewB_congr (h _ (by decide)) tr key
  · exact s.viewB_congr (h _ (by decide)) tr key
  · rfl

/-- It changes what a read presents of no other object. -/
theorem State.present_of_violations {s : State} {e : Dict} (h : ∀ k, k ≠ 0x120103 → e.get k = s.dict.get k) (tr : Transport)
    {key : Nat} (hkey : key ≠ 0x120103) : ({ s with dict := e } : State).present tr key = s.present tr key := by
  unfold State.present State.rd
  rw [State.view_of_violations h, h key hkey]

/-! ### Reads that need MRAM words (R34, R254) -/

/-- The ranges of the objects whose reads need MRAM words. -/
def wordRanges : List Nat := [4, 6, 8, 10, 11]

theorem mramKeys_wordRanges : ∀ key ∈ mramKeys, key / 0x100000 ∈ wordRanges := by
  decide +kernel

theorem State.mem_wordRanges {s : State} {key : Nat} (h : s.wordsOf key ≠ []) : key / 0x100000 ∈ wordRanges := by
  unfold State.wordsOf at h
  dsimp only at h
  split_ifs at h with hmram hset hempty htable hmould
  · exact mramKeys_wordRanges key (mem_mramKeys_of_isMramKey hmram)
  · contradiction
  · rw [show key / 0x100000 = 4 by omega]
    decide
  · rw [show key / 0x100000 = 4 by omega]
    decide
  · rw [hmould]
    decide
  · contradiction

/-- Counting corrected words changes no read that needs words. -/
theorem State.present_of_diagnostics {s : State} {e : Dict}
    (h : ∀ k, k ∉ [0xC10001, 0xC10003] → e.get k = s.dict.get k) (tr : Transport) {key : Nat}
    (hrange : key / 0x100000 ∈ wordRanges) : ({ s with dict := e } : State).present tr key = s.present tr key := by
  have hvalue : e.get key = s.dict.get key := h key fun hmem => by
    simp only [List.mem_cons, List.not_mem_nil, or_false] at hmem
    rcases hmem with rfl | rfl <;> exact absurd hrange (by decide)
  have hview : ({ s with dict := e } : State).view tr key = s.view tr key := by
    simp only [wordRanges, List.mem_cons, List.not_mem_nil, or_false] at hrange
    unfold State.view
    rcases hrange with hr | hr | hr | hr | hr <;> rw [hr]
    · exact s.view4_congr (h _ (by decide)) key
    · exact s.view6_congr e key
    · exact s.view8_congr (h _ (by decide)) key
    · rfl
    · exact s.viewB_congr (h _ (by decide)) tr key
  unfold State.present State.rd
  rw [hview, hvalue]

end Sys2Proof.Machine
end

section
/-!
PROOFS. A read request for the part (O41; R231, R232, R235, R253, R254, R259): how it comes to be served, the words that it reads,
and the reply.
-/
namespace Sys2Proof.Machine

/-! ### The words that a read needs (R34, R254) -/

/-- Ranges without an uncorrectable word are read with corrected errors only. -/
theorem State.foldl_readWords {s : State} {rs : List WordRange} (h : ∀ r ∈ rs, s.readable r = true) :
    sameObjects [0xC10001, 0xC10003] s (rs.foldl (fun u r => u.readWords r) s) ∧
      rs.foldl (fun u r => u.readWords r) s = { s with dict := (rs.foldl (fun u r => u.readWords r) s).dict } := by
  induction rs generalizing s with
  | nil => exact ⟨sameObjects.refl _ s, rfl⟩
  | cons r rs ih =>
    have hread := State.readWords_same_of_readable (h r List.mem_cons_self)
    have hframe := s.readWords_frame r
    obtain ⟨hsame, hrest⟩ := ih (s := s.readWords r) fun x hx => by
      rw [hframe]
      exact h x (List.mem_cons_of_mem _ hx)
    refine ⟨hread.trans hsame (List.Subset.refl _) (List.Subset.refl _), ?_⟩
    rw [List.foldl_cons, hrest, hframe]

/-- The words that a read needs rest on MRAM and the selected slot. -/
theorem State.wordsOf_congr (s : State) {e : Dict} (hslot : e.get 0x801301 = s.dict.get 0x801301) (key : Nat) :
    ({ s with dict := e } : State).wordsOf key = s.wordsOf key := by
  have hslot' : ({ s with dict := e } : State).rd 0x801301 = s.rd 0x801301 := hslot
  unfold State.wordsOf
  rw [hslot']
  rfl

/-- A read that changes nothing and whose words can be read answers what the object presents; corrected words are counted. -/
theorem State.readValue_presents {s : State} {key : Nat} (hwords : ∀ x ∈ s.wordsOf key, s.readable x = true)
    (hindex : key / 256 ∉ [0x5105, 0x5109]) (hkey : key ∉ [0x520002, 0x600405, 0xC00005]) (tr : Transport) :
    ∃ u : State, State.readValue tr key false s = u.acceptData (s.present tr key) ∧
      sameObjects [0xC10001, 0xC10003] s u ∧ u = { s with dict := u.dict } := by
  simp only [List.mem_cons, List.not_mem_nil, or_false, not_or] at hindex hkey
  obtain ⟨hcapture, hcompatible⟩ := hindex
  obtain ⟨hlow, hinjected, hlog⟩ := hkey
  obtain ⟨hsame, hframe⟩ := State.foldl_readWords hwords
  have hpresent : ((s.wordsOf key).foldl (fun u r => u.readWords r) s).present tr key = s.present tr key := by
    by_cases hnone : s.wordsOf key = []
    · rw [hnone]
      rfl
    · rw [hframe]
      exact State.present_of_diagnostics hsame tr (State.mem_wordRanges hnone)
  refine ⟨_, ?_, hsame, hframe⟩
  simp [State.readValue, State.needWords, hcapture, hcompatible, hlow, hinjected, hlog, List.all_eq_true.mpr hwords, hpresent]

/-! ### A read request that is served at once (R231, R235) -/

/-- A good, well-formed frame for the part, which nothing turns away as a request (R229, R233, R235). -/
structure State.TakesRequest (f : Frame) (s : State) : Prop where
  active : s.ringActive = true
  hops   : f.hops < 31
  good   : goodFrame f = true
  own    : s.ownFrame f = true
  serves : s.serves = true
  idle   : s.busy = false
  form   : malformed f = false
  kept   : ∀ k ∈ s.ring.kept, k.seq ≠ f.seq
  held   : s.requestsHeld < 8

/-- Such a read request is served at once, when the violations of the frame are counted. -/
theorem State.TakesRequest.read_served {f : Frame} {s : State} (h : s.TakesRequest f) (htyp : f.typ = 0x01) :
    exec (.readRequest f) s = .next ((s.hearFrame f).serveRead f) := by
  have hframe := s.hearFrame_frame f
  have hserves : (s.hearFrame f).serves = true := by rw [hframe]; exact h.serves
  have hidle : (s.hearFrame f).busy = false := by rw [hframe]; exact h.idle
  have hheld : ¬8 ≤ (s.hearFrame f).requestsHeld := by rw [hframe]; exact Nat.not_le.mpr h.held
  have hfind : ((s.hearFrame f).ring.kept.find? fun k => k.seq == f.seq) = none := by
    rw [hframe]
    exact List.find?_eq_none.mpr (by simpa using h.kept)
  have harrives : exec (.readRequest f) s = .next ((s.hearFrame f).request f) := by
    change Host.Outcome.next (s.frameArrives f _) = _
    rw [State.frameArrives_good h.active h.hops h.good, if_pos ⟨by rw [State.hearFrame_ownFrame, h.own], htyp⟩]
  rw [harrives]
  simp [State.request, State.serveFrame, hserves, hidle, h.form, hfind, hheld, htyp]

/-- A read request of a listed object without flags, of the length of a value that fits one frame, is one read. -/
theorem State.serveRead_whole {s : State} {f : Frame} (hflags : payloadField f.payload 3 1 = 0)
    (hlisted : readAbort (reqKey f.payload) = none) (hsize : (s.present .ring (reqKey f.payload)).length ≤ 240)
    (hlen : reqLen f.payload = 0 ∨ reqLen f.payload = (s.present .ring (reqKey f.payload)).length) :
    s.serveRead f =
      ((State.readValue .ring (reqKey f.payload) false s).counted .ring (reqKey f.payload)).frameServed f := by
  have hflag (n : Nat) : reqFlag f.payload n = false := by simp [reqFlag, bitAt, hflags]
  have hlen' : readLengthOk (reqLen f.payload) (s.present .ring (reqKey f.payload)).length = true := by
    simpa [readLengthOk] using hlen
  simp [State.serveRead, State.readNow, hlisted, hflag, Nat.not_lt.mpr hsize, hlen']

/-- The reply to a read that succeeded, with the live version and the value. -/
def State.readReply (f : Frame) (data : List Byte) (s : State) : Frame := s.replyFrame f 0x00 0 (s.rd 0x110001) data

/-- It joins the frames to send and is kept with its request; the state is else as it was. -/
theorem State.frameServed_of_read {s : State} {f : Frame} {data : List Byte} (htyp : f.typ = 0x01)
    (hanswer : s.answer = ⟨0, s.rd 0x110001, data, false⟩) :
    ∃ kept, s.frameServed f = { s with ring := { s.ring with tx := s.ring.tx ++ [s.readReply f data], kept := kept } } ∧
      ⟨f.seq, f, s.readReply f data⟩ ∈ kept := by
  refine ⟨(s.ring.kept ++ [(⟨f.seq, f, s.readReply f data⟩ : Kept)]).drop (s.ring.kept.length - 15), ?_, ?_⟩
  · simp [State.frameServed, State.endFrame, State.sendFrame, State.onRing, State.readReply, hanswer, htyp]
  · rw [List.drop_append_of_le_length (by omega)]
    simp

/-- A read that succeeded is counted, and its answer stands. -/
theorem State.acceptData_counted (u : State) (data : List Byte) (key : Nat) :
    let v := (u.acceptData data).counted .ring key
    v.answer = ⟨0, v.rd 0x110001, data, false⟩ ∧ v.rd 0x102001 = countUp (u.rd 0x102001) ∧ sameObjects [0x102001] u v ∧
      v = { u with dict := v.dict, answer := v.answer } := by
  have hsame : sameObjects [0x102001] u ((u.acceptData data).counted .ring key) := fun k hk => by
    simp [State.rd_counted, transportKeys, show k ≠ 0x102001 by simpa using hk]
  refine ⟨?_, ?_, hsame, ?_⟩
  · rw [State.counted_answer, hsame _ (by decide), State.acceptData_answer]
  · simp [State.rd_counted, transportKeys, countUp]
  · rw [State.counted_frame]
    rfl

/-- Once a frame is heard, a read that changes nothing answers what the object presented before. -/
theorem State.hearFrame_presents {s : State} {key : Nat} (hactive : s.ringActive = true) (f : Frame)
    (hwords : ∀ x ∈ s.wordsOf key, s.readable x = true) (hviol : key ≠ 0x120103)
    (hindex : key / 256 ∉ [0x5105, 0x5109]) (hkey : key ∉ [0x520002, 0x600405, 0xC00005]) (tr : Transport) :
    (s.hearFrame f).present tr key = s.present tr key ∧
      ∃ u : State, State.readValue tr key false (s.hearFrame f) = u.acceptData (s.present tr key) ∧
        sameObjects [0x120103, 0xC10001, 0xC10003] s u ∧ u = { s with dict := u.dict } := by
  have hheard := State.hearFrame_same hactive f
  have hframe := s.hearFrame_frame f
  generalize s.hearFrame f = h at hheard hframe
  have hpresent : h.present tr key = s.present tr key := by
    rw [hframe]
    exact State.present_of_violations (fun k hk => hheard k (by simpa using hk)) tr hviol
  have hwords' : ∀ x ∈ h.wordsOf key, h.readable x = true := by
    rw [hframe, s.wordsOf_congr (hheard _ (by decide))]
    exact hwords
  obtain ⟨u, hread, hcorrected, hframe'⟩ := State.readValue_presents hwords' hindex hkey tr
  rw [hpresent] at hread
  exact ⟨hpresent, u, hread, hheard.trans hcorrected (by simp) (by simp), by rw [hframe', hframe]⟩

/-- Settles O41: the request is one read, counted, answered at once and kept. -/
theorem readRequestsAreAnswered : Obligations.ReadRequestsAreAnswered := by
  unfold Obligations.ReadRequestsAreAnswered
  intro f s hactive hhops hgood hown htyp hserves hbusy hform hflags hkept hheld key hlisted hsize hlen hwords hviol hindex hkey
  obtain ⟨hpresent, u, hread, hsame, hframe⟩ := State.hearFrame_presents hactive f hwords hviol hindex hkey .ring
  rw [← hpresent] at hsize hlen
  have htakes : s.TakesRequest f := ⟨hactive, hhops, hgood, hown, hserves, hbusy, hform, hkept, hheld⟩
  have hexec := htakes.read_served htyp
  rw [State.serveRead_whole hflags hlisted hsize hlen, hread] at hexec
  obtain ⟨hanswer, hcount, hcounted, hcframe⟩ := u.acceptData_counted (s.present .ring key) key
  rw [hsame _ (by decide)] at hcount
  have hobjects := hsame.trans hcounted (ms := [0x102001, 0x120103, 0xC10001, 0xC10003]) (by simp) (by simp)
  generalize (u.acceptData (s.present .ring key)).counted .ring key = v at hexec hanswer hcount hcframe hobjects
  obtain ⟨kept, hserved, hmem⟩ := State.frameServed_of_read htyp hanswer
  have hframe' : v = { s with dict := v.dict, answer := v.answer } := by rw [hcframe, hframe]
  have hring : v.ring = s.ring := by rw [hframe']
  rw [hserved, hring] at hexec
  refine ⟨_, _, hexec, rfl, rfl, hobjects 0x120001 (by decide), ?_, rfl, goodFrame_withCrc rfl, ?_, ⟨_, hmem, rfl, rfl, rfl⟩,
    hcount, hobjects.of_dict rfl, ?_⟩
  · simp [State.readReply, State.replyFrame, Machine.ownFrame, withCrc, htyp]
  · rw [← hobjects 0x110001 (by decide)]
    rfl
  · rw [hframe']

end Sys2Proof.Machine
end

section
/-!
PROOFS. Commands as writes (O7; R249, R254): what a general write does is said once for each kind of object, a register, a command
that looks at its value, and a command whose value 0 does nothing; each command of the host is then the write of its object.
-/
namespace Sys2Proof.Machine

/-- A register: read and written, and not backed by MRAM. -/
def isRegister (key : Nat) : Bool := (objRow key).any fun r => r.acc == .rw && !r.mram

/-- A command whose value 0 does nothing (R249). -/
def isFlagCommand (key : Nat) : Bool := (objRow key).any ObjRow.isFlag && !ownsZero key

/-- A command that looks at its value itself, 0 among them. -/
def isValueCommand (key : Nat) : Bool := (objRow key).any fun r => r.acc == .wo && (!r.isFlag || ownsZero key)

section kind
variable {tr : Transport} {key len v : Nat} {eff : State → State} (s : State)

/-- The write of a register is the host write with its own effect. That effect is asked of every write of `v` to the object, as it
rests on nothing else. -/
theorem State.hostWrite_register (h : isRegister key = true)
    (he : ∀ (t : Txn) (u : State), t.key = key → t.val = v → eff u = u.register t) :
    s.hostWrite ⟨tr, key, len, v⟩ eff = s.write ⟨tr, key, len, v⟩ := by
  unfold State.write
  congr 1
  funext u
  obtain ⟨r, hrow, hr⟩ := (Option.any_eq_true ..).mp h
  obtain ⟨hacc, hmram⟩ : r.acc = .rw ∧ r.mram = false := by simpa using hr
  simp [State.effect, hrow, hacc, hmram, he ⟨tr, key, len, v⟩ u rfl rfl]

/-- The write of a command that looks at its value is the host write with its own effect. -/
theorem State.hostWrite_valueCommand (h : isValueCommand key = true) (he : ∀ u, eff u = State.command ⟨tr, key, len, v⟩ u) :
    s.hostWrite ⟨tr, key, len, v⟩ eff = s.write ⟨tr, key, len, v⟩ := by
  unfold State.write
  congr 1
  funext u
  obtain ⟨r, hrow, hr⟩ := (Option.any_eq_true ..).mp h
  obtain ⟨hacc, hzero⟩ : r.acc = .wo ∧ (r.isFlag = false ∨ ownsZero key = true) := by simpa using hr
  rcases hzero with hzero | hzero <;> simp [State.effect, hrow, hacc, hzero, he]

/-- The write of a command whose value 0 does nothing is the host command with its own effect. -/
theorem State.hostCommand_flagCommand (h : isFlagCommand key = true)
    (he : ∀ u, eff u = State.command ⟨tr, key, 1, v⟩ u) : s.hostCommand tr key v eff = s.write ⟨tr, key, 1, v⟩ := by
  unfold State.write State.hostCommand
  congr 1
  funext u
  obtain ⟨hflag, howns⟩ : (objRow key).any ObjRow.isFlag = true ∧ ownsZero key = false := by simpa [isFlagCommand] using h
  obtain ⟨r, hrow, hr⟩ := (Option.any_eq_true ..).mp hflag
  obtain ⟨hacc, -⟩ : r.acc = .wo ∧ r.check = .range 0 1 := by simpa [ObjRow.isFlag] using hr
  simp [State.effect, hrow, hacc, hr, howns, he]

end kind

/-- Settles O7: by the kind of the object that the command writes. The staged and the register write are the general write
themselves; of object 0x6802 the well-formed commands write the subindices that are registers. -/
theorem commandsAreTheWritesOfTheirObjects : Obligations.CommandsAreTheWritesOfTheirObjects := by
  unfold Obligations.CommandsAreTheWritesOfTheirObjects
  intro c w s hwf hw
  cases c <;> simp only [Instr.txn, Option.some.injEq, reduceCtorEq] at hw <;> subst hw
  case stagedWrite | registerWrite => rfl
  case vcoreLoopConfigWrite tr sub v =>
    obtain ⟨hwritable, -⟩ := Bool.and_eq_true_iff.mp hwf
    have hsub : ((sub = 1 ∨ sub = 2) ∨ sub = 4) ∨ sub = 5 := by simpa using hwritable
    refine congrArg Host.Outcome.next (s.hostWrite_register ?_ fun t u hk hv => ?_)
    · rcases hsub with ((rfl | rfl) | rfl) | rfl <;> decide +kernel
    · rcases hsub with ((rfl | rfl) | rfl) | rfl <;> simp [State.register, State.register6, hk, hv]
  case positionPreset | mapSwitchModeWrite | downlinkEnableWrite | testPatternWrite | bypassHoldWrite | alertStatusWrite |
      heldPourWrite | sequenceStart | sequenceStop | holdRequest =>
    refine congrArg Host.Outcome.next (s.hostWrite_register ?_ fun t u hk hv => ?_)
    · decide +kernel
    · simp [State.register, State.register6, State.registerC, hk, hv]
  case startOnePour | makeOneLine | darkRun | columnRun | flatRun | fullMapRun | seedRun | startMapUpload | startSetUpload |
      closeCommitGroup | abandonCommitGroup | pourMould | loadMould | storeMould | eraseMould | restartChannels |
      resetPrescalers | startChannels | stopChannels | injectedRequest | acknowledgeQuench | fuseKeyWrite |
      blowRingWriteDisable | blowTwoWireWriteDisable | lifeCycleKeyWrite | toReturn | toScrap =>
    refine congrArg Host.Outcome.next (s.hostWrite_valueCommand ?_ fun u => ?_)
    · decide +kernel
    · simp [State.command, State.command3, State.command5, State.command7, State.command9, State.commandC]
  case clearLowestMargin | clearHighWaterMarks | clearLadleSlagCounts | restartTdi | foregroundSelfCalibration |
      clearConverterCounts | finishUpload | abortUpload | clearCorrectionCounts | clearLaneCounts | openCommitGroup |
      clearRingCounts | clearTransportCounts | clearMramDiagnostics | sendListNow | clearTwiCounts | clearCaptureCounts |
      clearQuadratureCounts | releaseHold | clearDmaCounts | clearHousekeepingCounts | housekeepingSelfCalibration |
      clearThermalCounts | blowFactoryCalibrationLock =>
    refine congrArg Host.Outcome.next (s.hostCommand_flagCommand ?_ fun u => ?_)
    · decide +kernel
    · simp [State.command, State.command3, State.command5, State.command7, State.command9, State.commandC]

end Sys2Proof.Machine
end

section
/-!
PROOFS. Every operation of the model keeps the object store and the addressed buffers in canonical form (O5): one lemma for
each operation, in the order of the model. `h.op` is the lemma of operation `op`.
-/
namespace Sys2Proof.Machine

/-- The index-table area and staging are in canonical form. -/
def Dma.Canon (d : Dma) : Prop := Mem.wf d.index = true ∧ Mem.wf d.staging = true

/-- `State.canonical` as a proposition. -/
def State.Canon (s : State) : Prop := Dict.wf s.dict = true ∧ s.dma.Canon

/-- The next state, if a command answers one, is in canonical form. -/
def CanonOutcome : Host.Outcome State Fault Refusal → Prop
  | .next t => t.Canon
  | .fault _ => True
  | .refused _ => True

theorem State.canonical_iff (s : State) : s.canonical = true ↔ s.Canon := by
  simp [State.canonical, State.Canon, Dma.Canon, and_assoc]

namespace State.Canon

theorem ite {c : Prop} [Decidable c] {s t : State} (hs : s.Canon) (ht : t.Canon) : (if c then s else t).Canon := by
  split <;> assumption

theorem outcome {c : Prop} [Decidable c] {o p : Host.Outcome State Fault Refusal} (ho : CanonOutcome o)
    (hp : CanonOutcome p) : CanonOutcome (if c then o else p) := by
  split <;> assumption

theorem foldl {α : Type} {f : State → α → State} {l : List α} {s : State} (h : s.Canon)
    (hf : ∀ s a, s.Canon → (f s a).Canon) : (l.foldl f s).Canon := by
  induction l generalizing s with
  | nil => exact h
  | cons a l ih => exact ih (hf s a h)

theorem foldl_fst {α β : Type} {f : State × β → α → State × β} {l : List α} {r : State × β}
    (h : r.1.Canon) (hf : ∀ r a, r.1.Canon → (f r a).1.Canon) : (l.foldl f r).1.Canon := by
  induction l generalizing r with
  | nil => exact h
  | cons a l ih => exact ih (hf r a h)

variable {s : State} (h : s.Canon)
include h

theorem next : CanonOutcome (.next s) := h

theorem onImage {f : Image → Image} : (s.onImage f).Canon := h
theorem onTdi {f : Tdi → Tdi} : (s.onTdi f).Canon := h
theorem onConv {f : Conv → Conv} : (s.onConv f).Canon := h
theorem onCorr {f : Corr → Corr} : (s.onCorr f).Canon := h
theorem onLanes {f : Lanes → Lanes} : (s.onLanes f).Canon := h
theorem onStage {f : Stage → Stage} : (s.onStage f).Canon := h
theorem onRing {f : Ring → Ring} : (s.onRing f).Canon := h
theorem onLog {f : Log → Log} : (s.onLog f).Canon := h
theorem onTwi {f : Twi → Twi} : (s.onTwi f).Canon := h
theorem onTiming {f : Timing → Timing} : (s.onTiming f).Canon := h
theorem onHk {f : Hk → Hk} : (s.onHk f).Canon := h
theorem onTherm {f : Therm → Therm} : (s.onTherm f).Canon := h
theorem onPace {f : Pace → Pace} : (s.onPace f).Canon := h
theorem onMram {f : Mram → Mram} : (s.onMram f).Canon := h
theorem onPower {f : Power → Power} : (s.onPower f).Canon := h
theorem onJtag {f : Jtag → Jtag} : (s.onJtag f).Canon := h
theorem onFlask {n : Nat} {f : Flask → Flask} : (s.onFlask n f).Canon := h
theorem onFlasks {f : Flask → Flask} : (s.onFlasks f).Canon := h
theorem withPending {l : List Instr} : { s with pending := l }.Canon := h
theorem withFree {n : Nat} : { s with free := n }.Canon := h
theorem accept : s.accept.Canon := h
theorem acceptVersion {v : Nat} : (s.acceptVersion v).Canon := h
theorem acceptData {b : List Byte} : (s.acceptData b).Canon := h
theorem defer : s.defer.Canon := h
theorem refuse {code : Nat} : (s.refuse code).Canon := h
theorem onDma {f : Dma → Dma} (hf : s.dma.Canon → (f s.dma).Canon) : (s.onDma f).Canon := ⟨h.1, hf h.2⟩
theorem wr {k v : Nat} : (s.wr k v).Canon := ⟨Dict.wf_set k v h.1, h.2⟩
theorem add {k n : Nat} : (s.add k n).Canon := h.wr
theorem inc {k : Nat} : (s.inc k).Canon := h.wr
theorem zero {ks : List Nat} : (s.zero ks).Canon := h.foldl fun _ _ h => h.wr
theorem toDefault {ks : List Nat} : (s.toDefault ks).Canon := h.foldl fun _ _ h => h.wr
theorem onBank {n : Nat} {f : Bank → Bank} : (s.onBank n f).Canon := .ite h h

/-! ### Ops -/

theorem takeFree : s.takeFree.2.Canon := h.withFree

/-! ### Jtag -/

theorem tapInstr {i : JtagInstr} : (s.tapInstr i).Canon := h.onJtag
theorem execSamplePreload {pins cells : Nat} : CanonOutcome (execSamplePreload pins cells s) := h.tapInstr.onJtag.next
theorem execIdcode : CanonOutcome (execIdcode s) := h.tapInstr.onJtag.next

/-! ### Flags -/

theorem sendFrame {f : Frame} : (s.sendFrame f).Canon := h.onRing
theorem raise {bit : Nat} : (s.raise bit).Canon := h.wr

theorem logEntry {code : Nat} {data : List Byte} {bit : Option Nat} : (s.logEntry code data bit).Canon :=
  ite h.onLog.wr.sendFrame.onRing h.onLog.wr

theorem logEvent {code : Nat} {data : List Byte} : (s.logEvent code data).Canon := by
  unfold State.logEvent
  dsimp only
  split
  · exact ite h.raise.inc.onLog h.raise.logEntry
  · exact ite h.inc.onLog h.logEntry

/-! ### Mram -/

theorem countError {e : Nat × Bool} : (s.countError e).Canon := ite h.inc.wr.wr h.inc.wr
theorem readWords {r : WordRange} : (s.readWords r).Canon := h.foldl fun _ _ h => h.countError
theorem noteErrors {r : WordRange} {bad corrected : List Nat} : (s.noteErrors r bad corrected).Canon := h.onMram
theorem wroteWords {r : WordRange} : (s.wroteWords r).Canon := h.onMram

theorem needWords {rs : List WordRange} {act : State → State} (hact : ∀ s : State, s.Canon → (act s).Canon) :
    (s.needWords rs act).Canon :=
  ite (hact _ (h.foldl fun _ _ h => h.readWords)) (h.foldl fun _ _ h => h.readWords).refuse

theorem writeHeader {n : Nat} {f : Bank → Bank} : (s.writeHeader n f).Canon := h.onBank.wroteWords

/-! ### Operands -/

theorem counted {tr : Transport} {key : Nat} : (s.counted tr key).Canon := ite h.inc h.inc.inc.wr.wr
theorem counted1 {tr : Transport} {key : Nat} : (s.counted1 tr key).Canon := ite h h.counted
theorem heldInWindow : s.heldInWindow.Canon := ite h.inc h
theorem wait {j : Job} : (s.wait j).Canon := (ite h.heldInWindow h).onStage
theorem committed {tr : Transport} : (s.committed tr).Canon := ite h.inc h
theorem clearedTransport {t : Txn} : (s.clearedTransport t).Canon := ite h.zero h

theorem writeNow {t : Txn} {eff : State → State} (heff : ∀ s : State, s.Canon → (eff s).Canon) :
    (s.writeNow t eff).Canon := by
  unfold State.writeNow
  split
  · exact h.refuse.counted
  · exact (heff _ h.accept).counted1.clearedTransport

theorem hostWrite {t : Txn} {eff : State → State} (heff : ∀ s : State, s.Canon → (eff s).Canon) :
    (s.hostWrite t eff).Canon :=
  ite h (ite h.committed.wait (h.committed.writeNow heff))

theorem hostCommand {tr : Transport} {key v : Nat} {eff : State → State} (heff : ∀ s : State, s.Canon → (eff s).Canon) :
    (s.hostCommand tr key v eff).Canon :=
  h.hostWrite (fun _ h => ite h (heff _ h))

theorem readNow {tr : Transport} {key : Nat} {eff : State → State} (heff : ∀ s : State, s.Canon → (eff s).Canon) :
    (s.readNow tr key eff).Canon := by
  unfold State.readNow
  split
  · exact h.refuse.counted
  · exact (heff _ h).counted

theorem hostRead {tr : Transport} {key : Nat} {eff : State → State} (heff : ∀ s : State, s.Canon → (eff s).Canon) :
    (s.hostRead tr key eff).Canon :=
  ite h (ite h.committed.wait (h.committed.readNow heff))

theorem startMramWrite {t : Txn} : (s.startMramWrite t).Canon := h.onStage.defer

/-! ### Converters -/

theorem countSamples {f : Nat} {x : Nat → Int} {l : List Sample} : (s.countSamples f x l).Canon := h.add.add

theorem darkUpdate {key k : Nat} {fresh : Bool} {m : Option Nat} : (s.darkUpdate key k fresh m).Canon := by
  unfold State.darkUpdate
  split
  · exact h.inc
  · exact h.wr

theorem darkTracking {p : Pour} {dark : List (Nat × Int)} : (s.darkTracking p dark).Canon :=
  h.add.darkUpdate.darkUpdate.onConv

theorem darkRestart : s.darkRestart.Canon := h.onConv
theorem dropTrims : s.dropTrims.Canon := h.onConv

theorem trimSlot {refs : List (Nat × Int × Int)} {out : List Nat} : (s.trimSlot refs out).Canon :=
  ite h.dropTrims (ite h h.add.onConv)

theorem driftCheck {i : Nat} {p : Option (Int × Int)} : (s.driftCheck i p).Canon := by
  unfold State.driftCheck
  split
  · exact h
  · exact ite h.wr.logEvent h

theorem execTrimPeriodEnd : CanonOutcome (execTrimPeriodEnd s) :=
  outcome h.next (h.withFree.wr.wr.onConv.foldl fun _ _ h => h.driftCheck).next

theorem takeTrims : s.takeTrims.Canon := (ite h.dropTrims h.onConv).inc
theorem startSelfCal {startup : Bool} : (s.startSelfCal startup).Canon := h.wr.onConv
theorem hostSelfCal : s.hostSelfCal.Canon := ite h.refuse h.startSelfCal
theorem abandonSelfCal : s.abandonSelfCal.Canon := ite h h.wr.onConv
theorem startLoop : s.startLoop.Canon := (ite h.wr h).onPace

theorem execSelfCalibrationResult {measured : List ConvMeasure} :
    CanonOutcome (execSelfCalibrationResult measured s) := by
  unfold Sys2Proof.Machine.execSelfCalibrationResult
  split
  · exact h
  · extract_lets failed startup placed dark marked retried told done
    have ht : told.Canon := ite h.onConv.darkRestart.wr.wr.wr.wr h.onConv.darkRestart.wr.wr.wr.wr.logEvent
    have hd : done.Canon := ht
    exact outcome h (ite hd.startLoop hd)

theorem clearConverterCounts : s.clearConverterCounts.Canon := h.zero

/-! ### Maps -/

theorem bankState {n st : Nat} : (s.bankState n st).Canon := h.writeHeader
theorem beginBank {n : Nat} : (s.beginBank n).Canon := h.writeHeader.onCorr

theorem writeSegment {n g : Nat} {data : List (Nat × Nat)} : (s.writeSegment n g data).Canon :=
  h.onBank.wroteWords.onCorr

theorem verifyBank {n : Nat} : (s.verifyBank n).Canon := h.writeHeader.wroteWords

theorem generationWrite {n : Nat} : (s.generationWrite n).Canon :=
  (ite (ite (ite h.writeHeader.wr.wr h.writeHeader.wr).wr (ite h.writeHeader.wr.wr h.writeHeader.wr)).onCorr
    h.writeHeader.wr).logEvent

theorem setBecomes {n : Nat} {words : List (Nat × Nat)} : (s.setBecomes n words).Canon := h.onMram.wroteWords
theorem fixTemp : s.fixTemp.1.Canon := (ite (ite h.wr.wr.wr.inc h.wr.wr.wr.inc.logEvent) h.wr.wr.wr).onCorr
theorem startCacheLoad : s.startCacheLoad.Canon := h.wr.onCorr

theorem watchCache {f : State → State} (hf : ∀ s : State, s.Canon → (f s).Canon) : (s.watchCache f).Canon :=
  ite (hf _ h).startCacheLoad (hf _ h)

/-! ### Packets -/

theorem markBooked : s.markBooked.Canon := h.wr
theorem watchHeads : s.watchHeads.Canon := h.onLanes
theorem headLeaves {sp : Nat} : (s.headLeaves sp).Canon := h.wr.onLanes.watchHeads
theorem headDropped {sp : Nat} : (s.headDropped sp).Canon := ite h h.onLanes.watchHeads
theorem bookSlag {f n : Nat} : (s.bookSlag f n).Canon := h.onFlask
theorem bookSlagAll {n : Nat} : (s.bookSlagAll n).Canon := h.onFlasks
theorem bookOverspeed : s.bookOverspeed.Canon := h.onFlasks
theorem notice {stamps : Packet} {f : Nat} : (s.notice stamps f).Canon := ite h.inc.onFlask h.onLanes

theorem recordDrop {key : Nat} {stamps : Packet} {flasks : List Nat} : (s.recordDrop key stamps flasks).Canon :=
  ((ite h.inc.wr.wr h.inc.wr).foldl fun _ _ h => h.notice).bookSlagAll

theorem dropPour {key : Nat} {t : TPour} : (s.dropPour key t).Canon := by
  unfold State.dropPour
  extract_lets heads taken dropped gone ended
  have hd : dropped.Canon := h.onLanes.foldl fun _ _ h => h.headDropped
  have hg : gone.Canon := ite hd.wr hd
  have he : ended.Canon := ite (hg.onDma id) hg
  exact he.recordDrop.watchHeads

theorem makeRoom {sizes : List Nat} {n : Nat} : (s.makeRoom sizes n).Canon := by
  induction n generalizing s with
  | zero => exact h
  | succ n ih =>
    unfold State.makeRoom
    split
    · exact h
    · split
      · exact h
      · exact ih h.dropPour

theorem beginHold {idx : Nat} : (s.beginHold idx).Canon := ite (h.wr.onDma id) h

theorem admitPour {stamps : Packet} {planes rows : Nat} {cells : List Nat} :
    (s.admitPour stamps planes rows cells).1.Canon := by
  unfold State.admitPour
  dsimp only
  split
  · split
    · exact h.makeRoom.onLanes.beginHold.markBooked
    · exact h.makeRoom.recordDrop
  · split
    · exact h.onLanes.beginHold.markBooked
    · exact h.recordDrop

theorem complete {p : Packet} : (s.complete p).Canon := by
  unfold State.complete
  split
  · exact h
  · exact h.onLanes.watchHeads

theorem freePacket {p : Packet} : (s.freePacket p).Canon := ite h h.onLanes.onLanes
theorem endHold : s.endHold.Canon := (h.onDma id).onLanes

/-! ### Tdi -/

theorem setGrid {t : Nat} : (s.setGrid t).Canon := h.onTdi.wr
theorem gridReset : s.gridReset.Canon := h.setGrid

theorem onAcc {b m ph : Nat} {sver : Option Nat} {f : Nat} {g : AccFlask → AccFlask} :
    (s.onAcc b m ph sver f g).Canon :=
  h.onTdi

omit h in
theorem offerWeb {rstrt : Bool} {r : State × List Packet} {w : WebLine} (hr : r.1.Canon) :
    (State.offerWeb rstrt r w).1.Canon := by
  unfold State.offerWeb
  dsimp only
  split
  · exact hr
  · split
    · exact hr.admitPour
    · exact hr.admitPour.onTdi

theorem sendWebs {ws : List WebLine} {rstrt : Bool} : (s.sendWebs ws rstrt).Canon :=
  h.foldl_fst (fun _ _ h => offerWeb h) |>.foldl fun _ _ h => h.complete

theorem dropWeb {w : WebLine} : (s.dropWeb w).Canon := h.recordDrop.onTdi

theorem bookBand {n b : Nat} : (s.bookBand n b).Canon := by
  unfold State.bookBand
  dsimp only
  split
  · exact h
  · exact ite h.dropWeb h.onTdi

theorem finishLine {n : Nat} : (s.finishLine n).Canon := by
  unfold State.finishLine
  dsimp only
  split
  · exact h
  · split
    · exact h.foldl fun _ _ h => h.bookBand
    · exact (h.foldl fun _ _ h => h.bookBand).onTdi.sendWebs.onTdi

theorem tdiRestart {nr : Option Nat} : (s.tdiRestart nr).Canon :=
  (ite h (ite h.add.onTdi.sendWebs h.add.bookSlagAll)).onTdi.gridReset

/-! ### Handover -/

theorem recordRefusal {cause at_ obj : Nat} {part : Bool} : (s.recordRefusal cause at_ obj part).Canon :=
  h.wr.wr.inc.logEvent

theorem markIdle : s.markIdle.Canon := h.onStage
theorem markBoundary {idx enc rt : Nat} : (s.markBoundary idx enc rt).Canon := (ite h.markIdle h).onStage

theorem requestEntry {own : Dict} {bound : Boundary} {by_ : Requester} {mould : Option Nat} {gen : Nat} {reading :
    Option Nat} {bad : Bool} :
    (s.requestEntry own bound by_ mould gen reading bad).1.Canon := by
  unfold State.requestEntry
  dsimp only
  split
  · exact h.recordRefusal
  · exact (h.watchCache (fun _ h => h.onStage.wr)).onImage

theorem reportVersion {tr : Transport} {v : Nat} : (s.reportVersion tr v).Canon := by
  unfold State.reportVersion
  split
  · exact h.wr
  · exact h.wr

omit h in
theorem answerEntry {tr : Transport} {r : State × Bool} (hr : r.1.Canon) : (State.answerEntry tr r).Canon :=
  ite hr.reportVersion hr.refuse

theorem ownEntry {vals : Dict} : (s.ownEntry vals).Canon := h.requestEntry

theorem setMould {e : Entry} {changed : Dict} : (s.setMould e changed).Canon := by
  unfold State.setMould
  split
  · exact h.wr
  · exact h.wr.wr
  · exact ite h.wr h

theorem takeCache : s.takeCache.Canon := h.onCorr
theorem noteLate {e : Entry} {idx enc : Nat} : (s.noteLate e idx enc).Canon := ite h h.inc.wr.logEvent

theorem tdiHandOver {old changed : Dict} {nr : Option Nat} : (State.tdiHandOver old changed nr s).Canon :=
  ite h (ite h.onTdi (ite h.tdiRestart h))

theorem grantGrid {old : Dict} : (State.grantGrid old s).Canon := ite h.gridReset h

theorem sourceHandOver {changed : Dict} : (s.sourceHandOver changed).Canon :=
  ite (ite (ite h.onImage h) (ite h.onImage h).onImage) (ite (ite h.onImage h) (ite h.onImage h).onImage).onTdi

theorem handOver {e : Entry} {idx enc : Nat} {nr : Option Nat} : (s.handOver e idx enc nr).Canon := by
  unfold State.handOver
  extract_lets taken fault refused vals old changed bank live mould late cached written restarted sourced
  clear_value fault
  have hr : refused.Canon := by
    dsimp only [refused]
    split
    · exact h.onStage.recordRefusal.wr
    · exact h.onStage
  have hl : live.Canon := (hr.foldl fun _ _ h => h.wr).wr
  have hm : mould.Canon := ite hl hl.setMould
  clear_value bank
  have hw : written.Canon := by
    dsimp only [written]
    split
    · exact hm.noteLate.takeCache.generationWrite
    · exact hm.noteLate.takeCache
  exact hw.tdiHandOver.sourceHandOver.onStage

theorem boundaryHandOver {idx enc rt : Nat} {nr : Option Nat} : (s.boundaryHandOver idx enc rt nr).Canon := by
  unfold State.boundaryHandOver
  dsimp only
  split
  · exact h.markBoundary
  · exact h.markBoundary.handOver.onStage

theorem advanceIndex : s.advanceIndex.Canon := ite h.wr.logEvent.onStage h.wr

/-! ### Timers -/

theorem onTimer {ch : Nat} {f : Timer → Timer} : (s.onTimer ch f).Canon := h.onTiming
theorem onTimers {f : Timer → Timer} : (s.onTimers f).Canon := h.onTiming
theorem setTimerBit {ch n : Nat} {b : Bool} : (s.setTimerBit ch n b).Canon := h.wr
theorem driveTimer {ch : Nat} : (s.driveTimer ch).Canon := h.onTimer

theorem eachTimer {f : Nat → State → State} (hf : ∀ ch (s : State), s.Canon → (f ch s).Canon) : (s.eachTimer f).Canon :=
  h.foldl fun s ch h => hf ch s h

theorem releaseLevels : s.releaseLevels.Canon := h.eachTimer (fun _ _ h => ite h.driveTimer h)

theorem runLf {pos ch : Nat} : (s.runLf pos ch).Canon :=
  ite h.setTimerBit.setTimerBit.driveTimer <| ite h.setTimerBit.setTimerBit.driveTimer
    h.onTimer.setTimerBit.setTimerBit.driveTimer

theorem rescaleLf {ch : Nat} : (s.rescaleLf ch).Canon := h.runLf
theorem timerToLf {ch : Nat} : (s.timerToLf ch).Canon := h.onTimer.rescaleLf
theorem updateLf {ch : Nat} : (s.updateLf ch).Canon := ite h.onTimer.runLf.setTimerBit h.onTimer.runLf

theorem timerFromLf {ch : Nat} : (s.timerFromLf ch).Canon :=
  (ite h.onTimer h.onTimer).setTimerBit.setTimerBit.driveTimer

theorem tickLfTimer {ch : Nat} : (s.tickLfTimer ch).Canon := ite h.updateLf (ite h.onTimer h)
theorem tickLf : s.tickLf.Canon := ite h (h.eachTimer (fun _ _ h => h.tickLfTimer))
theorem stopTimerClock : s.stopTimerClock.Canon := h.onTiming
theorem takePins : s.takePins.Canon := h.onTiming
theorem clockReturn : s.clockReturn.Canon := (h.eachTimer (fun _ _ h => h.timerFromLf)).onTiming.takePins.wr.wr.inc
theorem restartTimer {ch : Nat} : (s.restartTimer ch).Canon := ite h.onTimer.rescaleLf h.onTimer.driveTimer

theorem grantTimer {old : Dict} {ch : Nat} : (State.grantTimer old ch s).Canon :=
  ite (ite h.onTimer.rescaleLf h.onTimer.driveTimer) <| ite h.onTimer.rescaleLf h.onTimer.driveTimer

theorem grantTimers {old : Dict} : (State.grantTimers old s).Canon := h.eachTimer (fun _ _ h => h.grantTimer)

theorem openWindow {cfg : Dict} {bank : Nat} {tx : Instant} : (s.openWindow cfg bank tx).Canon :=
  h.eachTimer (fun _ _ h => ite h (ite h.onTimer.onTimer (ite h.onTimer.onTimer h.onTimer)).driveTimer)

theorem closeWindow : s.closeWindow.Canon := h.eachTimer (fun _ _ h => h.onTimer.driveTimer)
theorem forceTimers : s.forceTimers.Canon := h.eachTimer (fun _ _ h => h.setTimerBit.driveTimer)
theorem unforceTimers : s.unforceTimers.Canon := h.eachTimer (fun _ _ h => h.setTimerBit.driveTimer)
theorem tickTimers : s.tickTimers.Canon := h.eachTimer (fun _ _ h => ite h.onTimer.setTimerBit h.onTimer)

theorem execTimerValley {ch : Nat} : CanonOutcome (execTimerValley ch s) :=
  outcome (outcome h.onTimer.runLf.next h.next) (outcome h.onTimer.driveTimer.next h.next)

theorem execStrobePulseStart {ch : Nat} : CanonOutcome (execStrobePulseStart ch s) :=
  outcome h.onTimer.driveTimer.next h.next

theorem execStrobePulseEnd {ch : Nat} : CanonOutcome (execStrobePulseEnd ch s) :=
  outcome h.onTimer.driveTimer.next h.next

theorem restartTimers {mask : Nat} : (s.restartTimers mask).Canon := h.eachTimer (fun _ _ h => ite h.restartTimer h)

theorem execLfClockSwitch : CanonOutcome (execLfClockSwitch s) :=
  outcome (h.eachTimer (fun _ _ h => h.timerToLf)).onTiming.wr.next h.next

/-! ### Pours -/

theorem replan : s.replan.Canon := h.onImage

theorem newPour {area : Bool} {t : Instant} {enc phase : Nat} : (s.newPour area t enc phase).1.Canon :=
  (ite (ite h.wr.wr.wr.inc h.wr.wr.wr.inc.logEvent) h.wr.wr.wr).onCorr

theorem bookRefused {idx : Nat} : (s.bookRefused idx).Canon := ite h h.onFlasks.onImage

theorem acceptPour {t : Instant} : (s.acceptPour t).Canon := by
  unfold State.acceptPour
  extract_lets st enc handed advanced boundary d
  have hb : boundary.Canon := h.boundaryHandOver.onImage.takeTrims.advanceIndex.onStage
  clear_value boundary
  have hn : (boundary.newPour true t enc 0).1.Canon := hb.newPour
  generalize boundary.newPour true t enc 0 = r at hn ⊢
  obtain ⟨s1, p⟩ := r
  have h1 : s1.Canon := hn
  dsimp only
  exact h1.bookRefused.admitPour.onImage

theorem countOff : s.countOff.Canon := ite (ite h.inc h).inc (ite h.inc h)

theorem startEvent {t : Instant} : (s.startEvent t).Canon :=
  ite h <| ite h.countOff <| ite h.inc.onImage (ite h.markBoundary.inc (ite h.acceptPour h.inc.onImage))

theorem execHeldStartEventAccept : CanonOutcome (execHeldStartEventAccept s) := by
  unfold Sys2Proof.Machine.execHeldStartEventAccept
  split
  · exact h.next
  · exact outcome h.markBoundary.inc.onImage.next (outcome h.wr.acceptPour.next h.next)

theorem execFreeRunStartEvent : CanonOutcome (execFreeRunStartEvent s) := by
  unfold Sys2Proof.Machine.execFreeRunStartEvent
  split
  · exact h.next
  · exact outcome h.next <| outcome h.countOff.onImage.next <| outcome h.markBoundary.inc.onImage.next
        h.acceptPour.next

theorem startOnePour {v : Nat} : (s.startOnePour v).Canon := ite h.refuse (ite h h.startEvent)

theorem noteInterval {t : Instant} : (s.noteInterval t).Canon := by
  unfold State.noteInterval
  split
  · exact h.wr.onTdi
  · exact h.onTdi

theorem lineBoundary {t : Instant} {enc : Nat} : (s.lineBoundary t enc).Canon := by
  unfold State.lineBoundary
  extract_lets idx handed reserved restarted placed boundary d
  have hp : placed.Canon := by
    have hh : handed.Canon := h.boundaryHandOver
    have hr : reserved.Canon := ite hh hh.onTdi
    have ht : restarted.Canon := ite hr.tdiRestart hr
    exact ite ht.onTdi ht
  have hn : (boundary.newPour false t enc ((idx - boundary.tdi.origin.getD idx) % interleave d)).1.Canon :=
    hp.takeTrims.advanceIndex.noteInterval.onStage.newPour
  generalize boundary.newPour false t enc ((idx - boundary.tdi.origin.getD idx) % interleave d) = r at hn ⊢
  exact ite hn.onTdi.onImage hn.onTdi.inc.inc.bookOverspeed.onImage

theorem finishPours {n : Nat} : (s.finishPours n).Canon := by
  induction n generalizing s with
  | zero => exact h
  | succ n ih =>
    unfold State.finishPours
    split
    · exact h
    · split
      · exact h
      · exact ih (ite h.onImage h.onImage.finishLine)

theorem settlePours : s.settlePours.Canon := h.finishPours

theorem lineTrigger {t : Instant} {enc : Nat} : (s.lineTrigger t enc).Canon :=
  ite h (ite h.countOff (ite h.markBoundary.inc h.lineBoundary.settlePours))

theorem execFreeRunLineTrigger : CanonOutcome (execFreeRunLineTrigger s) := by
  unfold Sys2Proof.Machine.execFreeRunLineTrigger
  split
  · exact h.next
  · exact outcome h.next (outcome h.lineTrigger.onTdi.next h.lineTrigger.next)

theorem makeOneLine {v : Nat} : (s.makeOneLine v).Canon := ite h.refuse (ite h h.lineTrigger)
theorem askRestart : s.askRestart.Canon := ite h (ite h.tdiRestart h.onTdi)
theorem onExposure {idx j : Nat} {g : Exposure → Exposure} : (s.onExposure idx j g).Canon := h.onImage

theorem execExposureStart : CanonOutcome (execExposureStart s) := by
  unfold Sys2Proof.Machine.execExposureStart
  split
  · exact h.next
  · exact outcome h.next h.onExposure.openWindow.next

theorem execTransferSequence : CanonOutcome (execTransferSequence s) := by
  unfold Sys2Proof.Machine.execTransferSequence
  split
  · exact h.next
  · exact outcome h.next h.onImage.onExposure.closeWindow.settlePours.next

theorem closePour {p : Pour} : (s.closePour p).Canon := h.foldl fun _ _ h => h.bookSlag.onFlask

theorem quenchImage : s.quenchImage.Canon := by
  unfold State.quenchImage
  extract_lets freed kept closed emptied restarted
  have hf : freed.Canon := ite h.inc.onImage h
  have he : emptied.Canon := (hf.onImage.foldl fun _ _ h => h.closePour).onImage
  have hr : restarted.Canon := ite he.tdiRestart he
  exact hr.settlePours

/-! ### Capture -/

theorem sourceEvent {src n : Nat} {t : Instant} : (s.sourceEvent src n t).Canon :=
  ite (ite h.lineTrigger h) (ite h.startEvent h)

theorem seePin {input : Nat} {level : Bool} : (s.seePin input level).Canon := h.onTiming

theorem execTrigPinEdge {pin : Nat} {level : Bool} : CanonOutcome (execTrigPinEdge pin level s) :=
  outcome h.seePin.next (outcome h.seePin.onTiming.sourceEvent.next h.seePin.onTiming.next)

theorem onCapture {ch : Nat} {f : Capture → Capture} : (s.onCapture ch f).Canon := h.onTiming

theorem captureEvent {ch : Nat} {level : Bool} : (s.captureEvent ch level).Canon :=
  (ite (ite h.inc.wr.wr h.inc.wr).wr (ite h.inc.inc h.inc.onCapture)).sourceEvent

theorem execCaptureInputEdge {ch : Nat} {level : Bool} : CanonOutcome (execCaptureInputEdge ch level s) :=
  outcome h.seePin.next <| outcome h.seePin.onCapture.next <| outcome h.seePin.onCapture.onCapture.captureEvent.next
    h.seePin.onCapture.onCapture.next

theorem resetPrescalers {v : Nat} : (s.resetPrescalers v).Canon := h.foldl fun _ _ h => ite h.onCapture h
theorem readCapture {ch : Nat} : (s.readCapture ch).Canon := h
theorem readCompatible {ch : Nat} : (s.readCompatible ch).Canon := h.wr
theorem clearCaptureCounts : s.clearCaptureCounts.Canon := h.zero
theorem grantCapture {old : Dict} {ch : Nat} : (State.grantCapture old s ch).Canon := ite h h.onCapture
theorem grantQuadrature {old : Dict} : (State.grantQuadrature old s).Canon := ite h h.onTiming
theorem gridCheck : s.gridCheck.Canon := ite h (ite h.setGrid.lineTrigger (ite (ite h h.inc.onTdi) h.onTdi))
theorem wrapped {up : Bool} : (s.wrapped up).Canon := h.wr.logEvent
theorem countEdge {up : Bool} : (s.countEdge up).Canon := (ite h.wr.wrapped h.wr).gridCheck

theorem execQuadratureEdge {a b : Bool} : CanonOutcome (execQuadratureEdge a b s) := by
  unfold Sys2Proof.Machine.execQuadratureEdge
  dsimp only
  split
  · exact h.seePin.seePin.next
  · split
    · exact h.seePin.seePin.onTiming.inc.next
    · split
      · exact h.seePin.seePin.onTiming.countEdge.next
      · exact h.seePin.seePin.onTiming.next

theorem execEncZEdge {level : Bool} : CanonOutcome (execEncZEdge s level) :=
  outcome h.seePin.wr.inc.next h.seePin.next

theorem execPositionChangeSample : CanonOutcome (execPositionChangeSample s) := outcome h.next h.wr.onTiming.next
theorem presetPosition {v : Nat} : (s.presetPosition v).Canon := ite h.refuse h.wr

theorem readLowWord {tr : Transport} : (s.readLowWord tr).Canon := by
  unfold State.readLowWord
  split
  · exact h.onTiming.acceptData
  · exact h.onTwi.acceptData

theorem clearQuadratureCounts : s.clearQuadratureCounts.Canon := h.zero

/-! ### Rows -/

theorem sendRow {p : Pour} {f plane orow arow : Nat} {c : Option RowOut} : (s.sendRow p f plane orow arow c).Canon :=
  h.complete

theorem fuseRow {p : Pour} {f sub orow arow : Nat} {c : Option RowOut} {unread : Bool} :
    (s.fuseRow p f sub orow arow c unread).Canon :=
  ite h.onFlask.sendRow h.onFlask

theorem outputRow {p : Pour} {f sub orow arow : Nat} {c : Option RowOut} {unread : Bool} :
    (s.outputRow p f sub orow arow c unread).Canon :=
  ite h.fuseRow h.sendRow

theorem binRow {p : Pour} {f : Nat} {r : RowRef} {c : Option RowOut} {unread : Bool} :
    (s.binRow p f r c unread).Canon :=
  ite h.onFlask.outputRow h.onFlask

theorem areaRow {p : Pour} {f : Nat} {r : RowRef} {c : Option RowOut} {unread : Bool} :
    (s.areaRow p f r c unread).Canon :=
  ite h.binRow h.outputRow

theorem stageRowOut {p : Pour} {f : Nat} {r : RowRef} {c : Option RowOut} : (s.stageRowOut p f r c).Canon := by
  unfold State.stageRowOut
  split
  · exact h
  · split
    · exact h.onAcc
    · exact h.onAcc

theorem onCal {f : Cal → Cal} : (s.onCal f).Canon := h.onCorr
theorem acqRow {p : Pour} {r : LadleRow} {l : List (Sample × Nat × Bool × Bool)} : (s.acqRow p r l).Canon := h.onCal
theorem acqDark {p : Pour} {dark : List (Nat × Int)} : (s.acqDark p dark).Canon := h.onCal

theorem coreOut {p : Pour} {f : Nat} {r : RowRef} {c : Option RowOut} {unread : Bool} :
    (s.coreOut p f r c unread).Canon :=
  ite (ite h h.onCal) (ite h.areaRow h.stageRowOut)

theorem onPaceRun {f : Nat} {g : PaceRun → PaceRun} : (s.onPaceRun f g).Canon := h.onPace
theorem countPixels {f n : Nat} : (s.countPixels f n).Canon := h.onPaceRun
theorem rowDone {f idx : Nat} : (s.rowDone f idx).Canon := h.onFlask.onImage

theorem flushSlag {f n : Nat} : (s.flushSlag f n).Canon := by
  induction n generalizing s with
  | zero => exact h
  | succ n ih =>
    unfold State.flushSlag
    split
    · exact h
    · dsimp only
      split
      · exact h
      · split
        · exact ih h.coreOut.rowDone
        · exact ih h.rowDone

theorem settleFlasks : s.settleFlasks.Canon := (h.foldl fun _ _ h => h.flushSlag).settlePours

theorem coreRow {p : Pour} {f : Nat} {prev next : Option LadleRow} {r : LadleRow} :
    (s.coreRow p f prev next r).1.Canon :=
  h.add.add.add.add.add

theorem execCoreRow {flask : Nat} : CanonOutcome (execCoreRow flask s) := by
  unfold Sys2Proof.Machine.execCoreRow
  dsimp only
  split
  · exact h.flushSlag.settlePours.next
  · split
    · exact h.flushSlag.rowDone.next
    · exact outcome h.flushSlag.next (ite h.flushSlag.countPixels.acqRow
          h.flushSlag.countPixels).coreRow.coreOut.rowDone.onFlask.flushSlag.settlePours.next

theorem badMapWord {w : Nat} : (s.badMapWord w).Canon := h.inc.wr.logEvent
theorem onPour {idx : Nat} {g : Pour → Pour} : (s.onPour idx g).Canon := h.onImage

theorem execMapWindowFetch {flask : Nat} {bad corrected : List Nat} :
    CanonOutcome (execMapWindowFetch flask bad corrected s) := by
  unfold Sys2Proof.Machine.execMapWindowFetch
  split
  · exact h.next
  · split
    · exact h.next
    · exact outcome h.next (h.noteErrors.foldl fun _ _ h => h.badMapWord).readWords.onPour.onFlask.next

theorem ladleRow {p : Pour} {x : Nat → Int} {r : RowRef} {f : Nat} : (s.ladleRow p x r f).Canon :=
  ite h.inc.bookSlag.onFlask h.countSamples.onFlask.wr

theorem convertRow {p : Pour} {levels dark : List (Nat × Int)} {refs : List (Nat × Int × Int)} {r : RowRef} :
    (s.convertRow p levels dark refs r).Canon :=
  (ite h.darkTracking.acqDark h.darkTracking).trimSlot.foldl fun _ _ h => h.ladleRow

theorem inc64 {k : Nat} : (s.inc64 k).Canon := h.wr
theorem nextSlot : s.nextSlot.Canon := ite (ite h.onImage.inc64 h.onImage) (ite h.onImage.inc64 h.onImage).replan
theorem cutLine {idx n : Nat} : (s.cutLine idx n).Canon := (ite h.add.inc.bookOverspeed h.add).onImage

theorem sampleRow {t : Instant} {n : Nat} : (s.sampleRow t n).Canon := by
  induction n generalizing s with
  | zero => exact h
  | succ n ih =>
    unfold State.sampleRow
    split
    · exact h
    · exact ite h (ite (ih h.cutLine) (ite h (ite h h.onExposure.onImage)))

theorem execRowSlot {levels dark : List (Nat × Int)} {refs : List (Nat × Int × Int)} :
    CanonOutcome (execRowSlot levels dark refs s) := by
  unfold Sys2Proof.Machine.execRowSlot
  split
  · exact outcome h.next (ite h h.trimSlot).nextSlot.sampleRow.settleFlasks.next
  · split
    · exact outcome h.next h.convertRow.nextSlot.sampleRow.settleFlasks.next
    · exact outcome h.next h.nextSlot.sampleRow.settleFlasks.next

theorem setMargin {f margin left : Nat} {replica : Bool} : (s.setMargin f margin left replica).Canon :=
  ite h.onPaceRun.wr.wr.wr.wr h.onPaceRun.wr.wr

theorem execPaceMeasurement {flask busy : Nat} : CanonOutcome (execPaceMeasurement flask busy s) :=
  (ite h.setMargin h).next

theorem execReplicaMeasurement {flask margin : Nat} : CanonOutcome (execReplicaMeasurement flask margin s) :=
  (ite h.setMargin h).next

theorem setVid {code : Nat} {t : Instant} : (s.setVid code t).Canon := ite h h.wr.onPace
theorem paceEvent {code : Nat} : (s.paceEvent code).Canon := h.logEvent

theorem evaluate {t : Instant} : (s.evaluate t).Canon :=
  ite h <| ite h.onPace.setVid <| ite h.onPace.setVid <| ite h.onPace.paceEvent <| ite h.onPace.setVid.paceEvent <|
    ite h.onPace.setVid (ite h.onPace (ite h.onPace.setVid h.onPace))

theorem execPaceEvaluation : CanonOutcome (execPaceEvaluation s) :=
  outcome h.next (outcome h.onPace.next h.onPace.evaluate.next)

theorem writeVcore {sub v : Nat} : (s.writeVcore sub v).Canon := ite h.refuse (ite h.wr.setVid h.wr)
theorem clearLowestMargin : s.clearLowestMargin.Canon := h.toDefault
theorem clearHighWater : s.clearHighWater.Canon := h.zero
theorem clearLadleSlag : s.clearLadleSlag.Canon := h.zero

/-! ### Calibrate -/

theorem calFail {cause : Nat} : (s.calFail cause).Canon := by
  unfold State.calFail
  split
  · exact h
  · exact h.onCorr.onImage.wr.logEvent

theorem calPass : s.calPass.Canon := h.onCorr.wr
theorem calPhase {status : Nat} {f : Cal → Cal} : (s.calPhase status f).Canon := h.onCorr.wr
theorem tryAcquire : s.tryAcquire.Canon := ite h.calPhase h

theorem beginCal {run : Nat} : (s.beginCal run).Canon :=
  ite h.onCorr.wr.wr (ite h.onCorr.wr.wr.tdiRestart.onTdi h.onCorr.wr.wr).tryAcquire

theorem beginCommit {set : Nat} {words : List (Nat × Nat)} {cal : Bool} : (s.beginCommit set words cal).Canon :=
  h.onCorr

theorem startCal {run : Nat} : (s.startCal run).Canon := by
  unfold State.startCal
  split
  · exact h.refuse
  · split
    · split
      · exact h.refuse
      · exact h.needWords (fun _ h => h.beginCal.calPhase.beginCommit)
    · exact h.beginCal

theorem calCommand {tr : Transport} {run : Nat} : (s.calCommand tr run).Canon := h.hostWrite (fun _ h => h.startCal)

theorem execCalibrationWaitTundish : CanonOutcome (execCalibrationWaitTundish s) := by
  unfold Sys2Proof.Machine.execCalibrationWaitTundish
  split
  · exact h.next
  · exact outcome h.next (outcome h.tryAcquire.next (outcome h.calFail.next h.next))

theorem startAcquisition {c : Cal} {t : Instant} : (s.startAcquisition c t).Canon :=
  h.boundaryHandOver.takeTrims.onStage.newPour.wr.wr.onImage.onCal

theorem execAcquisitionStart : CanonOutcome (execAcquisitionStart s) := by
  unfold Sys2Proof.Machine.execAcquisitionStart
  split
  · exact h.next
  · exact outcome h.next h.startAcquisition.next

theorem execAcquisitionPour {_temp : Int} {_samples _darkRaw : List (Nat × Int)} {_dl _dr : Int} {_slag : Bool} :
    CanonOutcome (execAcquisitionPour _temp _samples _darkRaw _dl _dr _slag s) :=
  h.execAcquisitionStart

theorem ownStaged {k v : Nat} : (s.ownStaged k v).Canon := h.watchCache (fun _ h => h.onStage)

theorem execAcquisitionComplete : CanonOutcome (execAcquisitionComplete s) := by
  unfold Sys2Proof.Machine.execAcquisitionComplete
  dsimp only
  split
  · exact h.next
  · split
    · exact h.next
    · split
      · exact h.calFail.next
      · split
        · split
          · exact h.calFail.next
          · split
            · exact h.readWords.calFail.next
            · split
              · exact h.readWords.calFail.next
              · exact h.readWords.calPhase.beginCommit.next
        · split
          · exact h.calFail.next
          · split
            · exact h.readWords.calFail.next
            · split
              · exact h.readWords.calFail.next
              · exact h.readWords.calPhase.beginCommit.next
        · split
          · exact h.calFail.next
          · exact h.ownStaged.calPass.next
        · exact h.calPhase.next

theorem execMapEntriesComputed : CanonOutcome (execMapEntriesComputed s) := by
  unfold Sys2Proof.Machine.execMapEntriesComputed
  split
  · exact h
  · extract_lets b new computed
    generalize s.defectsOk new = ok
    exact outcome h (outcome h.calFail h.beginBank.calPhase.onCorr)

theorem bankVerified {b : Nat} : (s.bankVerified b).Canon := ite h.verifyBank.onCorr.ownEntry h.verifyBank.onCorr
theorem releaseStaging : s.releaseStaging.Canon := ite h (h.onDma id)
theorem spoilBank {b : Nat} : (s.spoilBank b).Canon := ite h.onCorr h.bankState

theorem uploadFail : s.uploadFail.Canon := by
  unfold State.uploadFail
  split
  · exact h
  · exact (ite (ite h.spoilBank h).releaseStaging (ite h.spoilBank h)).onCorr.wr.logEvent

theorem commitSegment {c : Cal} {b : Nat} {ok : Bool} : (s.commitSegment c b ok).Canon :=
  ite (ite h.bankState.calFail h.calPhase) <| ite h.writeSegment.calPhase.onCorr.wr
    h.writeSegment.calPhase.onCorr.wr.onCorr.wr.bankVerified

theorem settleUpload : s.settleUpload.Canon := by
  unfold State.settleUpload
  split
  · exact h
  · exact ite h (ite (ite h h.beginBank.onCorr) (ite h.onCorr.wr.bankVerified h))

theorem settleBanks : s.settleBanks.Canon := ite h (h.foldl fun _ _ h => h.bankState).onCorr.settleUpload

theorem uploadSegment {u : Upload} {g : Nat} {ok : Bool} : (s.uploadSegment u g ok).Canon :=
  ite (ite h.uploadFail h.onCorr) h.writeSegment.onCorr.wr.releaseStaging.settleUpload

theorem execMapSegmentWritten {ok : Bool} : CanonOutcome (execMapSegmentWritten ok s) := by
  unfold Sys2Proof.Machine.execMapSegmentWritten
  split
  · exact h.next
  · split
    · exact outcome h.next h.commitSegment.next
    · split
      · exact h.next
      · split
        · exact h.next
        · exact outcome h.uploadSegment.next h.next

theorem mapSwitchMode {v : Nat} : (s.mapSwitchMode v).Canon := by
  unfold State.mapSwitchMode
  dsimp only
  split
  · exact h.wr
  · exact ite h.wr h.wr.ownEntry

theorem setChanged {n : Nat} : (s.setChanged n).Canon :=
  ite (ite h.startCacheLoad h).ownEntry (ite h.startCacheLoad h)

theorem execSetCommitComplete {ok : Bool} : CanonOutcome (execSetCommitComplete ok s) := by
  unfold Sys2Proof.Machine.execSetCommitComplete
  split
  · exact h.next
  · exact outcome h.next <| outcome (ite h.calFail h.uploadFail).next (ite h.setBecomes.onCorr.calPass
        h.setBecomes.onCorr.onCorr.wr.releaseStaging).setChanged.next

theorem execSetCacheLoadComplete {bad corrected : List Nat} :
    CanonOutcome (execSetCacheLoadComplete s bad corrected) :=
  outcome h.next (ite h.markIdle h).noteErrors.readWords.onCorr.wr.next

theorem openUpload {what : Nat} : (s.openUpload what).Canon := h.onCorr.wr.wr.settleUpload
theorem startMapUpload : s.startMapUpload.Canon := ite h.refuse h.openUpload
theorem startSetUpload {v : Nat} : (s.startSetUpload v).Canon := ite h.refuse h.openUpload
theorem startUpload {v : Nat} : (s.startUpload v).Canon := ite h.startMapUpload h.startSetUpload

theorem finishUpload : s.finishUpload.Canon := by
  unfold State.finishUpload
  split
  · exact h.refuse
  · split
    · exact h.refuse
    · split
      · exact ite h.onCorr.settleUpload h.uploadFail
      · split
        · exact h.uploadFail
        · exact ite h.refuse h.beginCommit

theorem resumeUpload : s.resumeUpload.Canon := h.onCorr

theorem execUploadTimeout : CanonOutcome (execUploadTimeout s) := by
  unfold Sys2Proof.Machine.execUploadTimeout
  split
  · exact h.next
  · exact outcome h.uploadFail.next h.next

theorem clearCorrectionCounts : s.clearCorrectionCounts.Canon := h.zero

theorem quenchMram : s.quenchMram.Canon := by
  unfold State.quenchMram
  split
  · exact h.spoilBank.calFail.uploadFail
  · exact h.calFail.uploadFail

/-! ### Staging -/

theorem groupWrite {t : Txn} {g : Group} : (s.groupWrite t g).Canon := ite h.refuse h.onStage.reportVersion

theorem looseWrite {t : Txn} : (s.looseWrite t).Canon :=
  ite h.refuse (h.watchCache (fun _ h => h.onStage)).reportVersion

theorem stageWrite {t : Txn} : (s.stageWrite t).Canon := by
  unfold State.stageWrite
  split
  · exact ite h.groupWrite h.looseWrite
  · exact h.looseWrite

theorem dropGroup : s.dropGroup.Canon := h.onStage
theorem openGroup {tr : Transport} : (s.openGroup tr).Canon := ite h.refuse h.onStage

theorem requestGroup {g : Group} {bound : Boundary} {by_ : Requester} : (s.requestGroup g bound by_).1.Canon :=
  h.dropGroup.requestEntry

theorem closeGroup {tr : Transport} {v : Nat} : (s.closeGroup tr v).Canon := by
  unfold State.closeGroup
  split
  · exact h.refuse
  · split
    · exact h
    · split
      · exact h.refuse
      · exact answerEntry h.requestGroup

theorem abandonGroup {tr : Transport} {v : Nat} : (s.abandonGroup tr v).Canon :=
  ite h.refuse (ite h (ite h.dropGroup h.refuse))

theorem groupRegister {t : Txn} : (s.groupRegister t).Canon := ite h.refuse h.wr

theorem execGroupIdleTimeout : CanonOutcome (execGroupIdleTimeout s) := by
  unfold Sys2Proof.Machine.execGroupIdleTimeout
  split
  · exact h.next
  · exact outcome h.next h.dropGroup.inc.logEvent.next

theorem writeMould {n : Nat} {img : List Byte} : (s.writeMould n img).Canon := h.onMram.wroteWords
theorem eraseMould {n : Nat} : (s.eraseMould n).Canon := h.onMram.wroteWords
theorem writeShadow {img : List Byte} : (s.writeShadow img).Canon := h.onMram.wroteWords
theorem writeJournal {n : Option Nat} : (s.writeJournal n).Canon := h.onMram.wroteWords
theorem beginRead {load : Bool} {t : Txn} : (s.beginRead load t).Canon := h.onStage.defer
theorem pourMould {t : Txn} : (s.pourMould t).Canon := h.beginRead
theorem loadMould {t : Txn} : (s.loadMould t).Canon := ite h.beginRead h.refuse
theorem refusePour {ok : Bool} : (s.refusePour ok).Canon := h.requestEntry.refuse

theorem endPour {t : Txn} {ok : Bool} : (s.endPour t ok).Canon := by
  unfold State.endPour
  dsimp only
  split
  · exact h.refusePour
  · exact ite h.refusePour (answerEntry h.requestEntry)

theorem refuseLoad {ok : Bool} : (s.refuseLoad ok).Canon := h.recordRefusal.refuse

theorem endLoad {t : Txn} {ok : Bool} : (s.endLoad t ok).Canon := by
  unfold State.endLoad
  dsimp only
  split
  · exact h.refuse
  · exact ite h.refuseLoad h.onStage.accept
  · exact h.refuseLoad

theorem endTapRead {version : Nat} {ok : Bool} : (s.endTapRead version ok).Canon :=
  ite (ite h.markIdle h).onStage (ite h.markIdle h).onStage.recordRefusal.wr

theorem endRead {r : MouldRead} {bad corrected : List Nat} : (s.endRead r bad corrected).Canon := by
  unfold State.endRead
  split
  · exact ite h.onStage.noteErrors.readWords.endLoad h.onStage.noteErrors.readWords.endPour
  · exact h.onStage.noteErrors.readWords.endTapRead

theorem mouldFail {op slot cause : Nat} : (s.mouldFail op slot cause).Canon := h.wr.wr.logEvent
theorem mouldBusy {op slot : Nat} : (s.mouldBusy op slot).Canon := h.logEvent
theorem startMouldOp {op slot : Nat} {img : List Byte} : (s.startMouldOp op slot img).Canon := h.onStage.wr

theorem mouldCommand {op n : Nat} : (s.mouldCommand op n).Canon :=
  ite h.mouldBusy.refuse (ite h.mouldFail.refuse (ite h.startMouldOp h.startMouldOp))

theorem uploadMould {n : Nat} {img : List Byte} : (s.uploadMould n img).1.Canon := by
  unfold State.uploadMould
  split
  · exact h.mouldBusy
  · split
    · exact h.mouldFail
    · split
      · exact h.mouldFail
      · exact h.startMouldOp

theorem endMouldOp {o : MouldOp} : (s.endMouldOp o).Canon := ite h.onStage.releaseStaging h.onStage
theorem journalMould {o : MouldOp} : (s.journalMould o).Canon := h.writeShadow.writeJournal.onStage

theorem passMould {o : MouldOp} : (s.passMould o).Canon :=
  (ite (ite h.eraseMould h.writeMould.writeShadow) (ite h.eraseMould
    h.writeMould.writeShadow).writeJournal).endMouldOp.wr

theorem execMouldOperationComplete {how : MouldEnd} : CanonOutcome (execMouldOperationComplete how s) := by
  unfold Sys2Proof.Machine.execMouldOperationComplete
  split
  · exact h.next
  · split
    · exact h.next
    · split
      · exact h.passMould.next
      · exact (ite h h.journalMould).next
      · exact h.endMouldOp.mouldFail.next
      · exact (ite h h.journalMould).endMouldOp.mouldFail.next
      · exact h.noteErrors.readWords.endMouldOp.mouldFail.next

/-! ### Lanes -/

theorem discardUplink {ul : Nat} : (s.discardUplink ul).Canon := h.inc

theorem uplinkPacket {ul : Nat} {eff : State → State} (heff : ∀ s : State, s.Canon → (eff s).Canon) :
    (s.uplinkPacket ul eff).Canon := by
  unfold State.uplinkPacket
  split
  · exact heff _ h
  · exact h.discardUplink
  · exact h

theorem execUplinkBlockLock {ul : Nat} : CanonOutcome (execUplinkBlockLock ul s) := (ite h.wr h).next
theorem prbsErrors {ul n : Nat} : (s.prbsErrors ul n).Canon := ite h.add h

theorem execUplinkLossOfLock {ul : Nat} {signal : Bool} {errors : Nat} :
    CanonOutcome (execUplinkLossOfLock ul s signal errors) :=
  outcome h.next (ite h.prbsErrors h.prbsErrors.inc).wr.next

theorem execUplinkHighBer {ul : Nat} {high : Bool} : CanonOutcome (execUplinkHighBer ul high s) := (ite h h.wr).next

theorem grantCredit {mask : Nat} {limits : List Nat} : (s.grantCredit mask limits).Canon :=
  (h.foldl fun _ _ h => ite h.wr h).watchHeads

theorem rejectBulk {cause target segment useq : Nat} : (s.rejectBulk cause target segment useq).Canon :=
  h.inc.wr.logEvent

theorem bulkChunk {ul useq target segment offset : Nat} {data : List Byte} :
    (s.bulkChunk ul useq target segment offset data).Canon := by
  unfold State.bulkChunk
  split
  · exact h.discardUplink
  · split
    · exact h.rejectBulk
    · exact (h.onDma fun hd => ⟨hd.1, Mem.wf_writeAll _ _ hd.2⟩).inc

theorem handSegment {target segment : Nat} {bytes : List Byte} : (s.handSegment target segment bytes).1.Canon := by
  unfold State.handSegment
  split
  · split
    · exact h.onCorr.onDma id
    · exact h
  · split
    · exact h.onCorr.onDma id
    · exact h
  · exact ite (h.uploadMould.onDma id) h.uploadMould
  · exact h

theorem segmentCrcFail {target segment useq : Nat} : (s.segmentCrcFail target segment useq).Canon :=
  (ite (h.onDma id).wr.logEvent (h.onDma id).wr).rejectBulk

theorem segmentEnd {useq target segment length crc : Nat} : (s.segmentEnd useq target segment length crc).Canon := by
  unfold State.segmentEnd
  split
  · exact h.rejectBulk
  · exact ite h.rejectBulk <| ite h.rejectBulk <| ite h.rejectBulk <| ite h.segmentCrcFail (ite h.wr.handSegment
        (h.wr.handSegment.onDma id).rejectBulk)

theorem execStagingAbandon : CanonOutcome (execStagingAbandon s) := by
  unfold Sys2Proof.Machine.execStagingAbandon
  split
  · exact outcome (h.onDma id).next h.next
  · exact h.next

theorem onLane {n : Nat} {f : Lane → Lane} : (s.onLane n f).Canon := h.onLanes
theorem setEnable {v : Nat} : (s.setEnable v).Canon := (h.foldl fun _ _ h => ite h.onLane h).wr.watchHeads

theorem laneCommand {ul lane : Nat} {eff : List Nat → State → State}
    (heff : ∀ l (s : State), s.Canon → (eff l s).Canon) : (s.laneCommand ul lane eff).Canon := by
  refine h.uplinkPacket fun s h => ?_
  split
  · exact heff _ s h
  · exact h.discardUplink

theorem quiesceLanes {l : List Nat} : (s.quiesceLanes l).Canon := h.setEnable
theorem resumeLanes {l : List Nat} : (s.resumeLanes l).Canon := h.setEnable

theorem execQuiesce {ul lane : Nat} : CanonOutcome (execQuiesce ul lane s) :=
  (h.laneCommand (fun _ _ h => h.quiesceLanes)).next

theorem execResume {ul lane : Nat} : CanonOutcome (execResume ul lane s) :=
  (h.laneCommand (fun _ _ h => h.resumeLanes)).next

theorem retrainLane {n : Nat} : (s.retrainLane n).Canon := h.onLane
theorem retrainLanes {l : List Nat} : (s.retrainLanes l).Canon := (h.foldl fun _ _ h => h.retrainLane).watchHeads

theorem execRetrain {ul lane : Nat} : CanonOutcome (execRetrain ul lane s) :=
  (h.laneCommand (fun _ _ h => h.retrainLanes)).next

omit h in
theorem effectOfLane {command : Nat} {eff : List Nat → State → State} (he : laneEffect command = some eff) (l : List Nat)
    (s : State) (h : s.Canon) : (eff l s).Canon := by
  unfold laneEffect at he
  split at he <;> cases he
  · exact h.quiesceLanes
  · exact h.resumeLanes
  · exact h.retrainLanes

theorem uplinkBody {ul useq : Nat} {b : UplinkBody} : (b.effect ul useq s).Canon := by
  unfold UplinkBody.effect
  split
  · exact h.grantCredit
  · exact h.bulkChunk
  · exact h.segmentEnd
  · split
    · exact effectOfLane ‹_› _ s h
    · exact h.discardUplink

theorem execUplinkPacketDiscard {ul : Nat} {packet : List Byte} :
    CanonOutcome (Sys2Proof.Machine.execUplinkPacketDiscard ul s packet) := by
  refine (h.uplinkPacket fun s h => ?_).next
  split
  · exact h.discardUplink
  · exact h.uplinkBody

theorem execRetrainEnd {lane : Nat} : CanonOutcome (execRetrainEnd lane s) := by
  unfold Sys2Proof.Machine.execRetrainEnd
  split
  · exact outcome h.onLane.watchHeads.next h.next
  · exact h.next

theorem laneSetting {key v : Nat} : (s.laneSetting key v).Canon := h.wr.watchHeads
theorem clearLaneCounts : s.clearLaneCounts.Canon := h.zero.wr
theorem sendMarker {n : Nat} : (s.sendMarker n).Canon := h.onLane
theorem execLaneMarker {lane : Nat} : CanonOutcome (execLaneMarker lane s) := (ite h.sendMarker h).next
theorem popHead {sp : Nat} : (s.popHead sp).Canon := h.onLanes
theorem fillPacket {p : Packet} {at_ : Instant} : (s.fillPacket p at_).2.Canon := h.onFlask
theorem noteDispatch {q : Sending} : (s.noteDispatch q).Canon := ite h h.onLanes

theorem startPacket {sp n : Nat} {p : Packet} : (s.startPacket sp n p).Canon :=
  (ite h.sendMarker h).popHead.fillPacket.noteDispatch.wr.inc.onLane.onLanes.headLeaves

theorem execPacketDispatch {sprue : Nat} : CanonOutcome (execPacketDispatch sprue s) := by
  unfold Sys2Proof.Machine.execPacketDispatch
  split
  · exact h.next
  · split
    · exact h.next
    · exact h.startPacket.next

theorem execPacketSent {lane : Nat} : CanonOutcome (execPacketSent lane s) := by
  unfold Sys2Proof.Machine.execPacketSent
  split
  · exact h.next
  · exact outcome h.next h.onLane.freePacket.watchHeads.next

theorem execCreditStall {sprue : Nat} : CanonOutcome (execCreditStall sprue s) := by
  unfold Sys2Proof.Machine.execCreditStall
  split
  · exact h.next
  · exact outcome h.next h.inc.wr.onLanes.logEvent.next

theorem execPourAgeDrop : CanonOutcome (execPourAgeDrop s) := by
  unfold Sys2Proof.Machine.execPourAgeDrop
  split
  · exact outcome h.next h.next
  · exact outcome h.next (outcome h.dropPour.next h.next)

/-! ### Ring -/

theorem execTrainingAchieved : CanonOutcome (execTrainingAchieved s) := (ite h.wr.onRing h).next

theorem execRingJoin : CanonOutcome (execRingJoin s) := by
  unfold Sys2Proof.Machine.execRingJoin
  split
  · exact h.next
  · exact outcome h.wr.wr.logEvent.onRing.next h.next

theorem closeSwitch {link : Nat} : (s.closeSwitch link).Canon := h.wr.wr.onRing

theorem execLossOfTraining {errors : Nat} {signal : Bool} : CanonOutcome (execLossOfTraining errors signal s) :=
  outcome h.next (ite h.add.closeSwitch.inc.logEvent h.add.closeSwitch).next

theorem bypassHold {v : Nat} : (s.bypassHold v).Canon := ite h.wr.closeSwitch h.wr
theorem clearRingCounts : s.clearRingCounts.Canon := h.zero
theorem sendOut {f : Frame} : (s.sendOut f).Canon := h.onRing

theorem drainIns : s.drainIns.Canon := by
  unfold State.drainIns
  split
  · exact h
  · exact ite h.onRing h

theorem forward {f : Frame} : (s.forward f).Canon := h.sendOut
theorem forwardBad {f : Frame} : (s.forwardBad f).Canon := h.sendOut

theorem countBad {f : Frame} : (s.countBad f).Canon := by
  unfold State.countBad
  split
  · exact ite h h.inc
  · exact h.inc
  · exact h

theorem hearFrame {f : Frame} : (s.hearFrame f).Canon := ite h (ite h.add.wr h.add)

theorem frameArrives {f : Frame} {act : State → State} (hact : ∀ s : State, s.Canon → (act s).Canon) :
    (s.frameArrives f act).Canon :=
  ite h.hearFrame <| ite h.hearFrame.countBad.inc <| ite h.hearFrame.countBad.forwardBad (hact _ h.hearFrame.countBad)

theorem execFrameForward {f : Frame} : CanonOutcome (execFrameForward f s) :=
  (h.frameArrives (fun _ h => ite h h.forward)).next

theorem execFrameInsert : CanonOutcome (execFrameInsert s) := by
  unfold Sys2Proof.Machine.execFrameInsert
  split
  · exact h.next
  · exact outcome h.onRing.next h.next

theorem replyStatus {f : Frame} {status : Nat} : (s.replyStatus f status).Canon := h.sendFrame

theorem execUnknownFrameType {f : Frame} : CanonOutcome (execUnknownFrameType f s) :=
  (h.frameArrives (fun _ h => ite h.forward (ite h.replyStatus h.replyStatus))).next

theorem clearRequests : s.clearRequests.Canon := h.onRing.onStage
theorem takeAddress {a n : Nat} : (s.takeAddress a n).Canon := h.wr.wr.clearRequests

theorem execEnumerate {f : Frame} : CanonOutcome (execEnumerate f s) :=
  (h.frameArrives (fun _ h => ite h.forward (ite h.forward.takeAddress h.forward.takeAddress.logEvent))).next

theorem execRollCall {f : Frame} : CanonOutcome (execRollCall f s) :=
  (h.frameArrives (fun _ h => ite h.forward h.forward)).next

theorem setRate {r : Int} : (s.setRate r).Canon := h.onRing.wr
theorem stepTime {ra : Nat} {e : Int} : (s.stepTime ra e).Canon := h.onRing.inc.setRate.logEvent
theorem slewTime {e : Int} : (s.slewTime e).Canon := h.onRing.setRate
theorem discipline {ra : Nat} : (s.discipline ra).Canon := (ite h.wr (ite h.wr.stepTime h.wr.slewTime)).wr.onRing

theorem execSync {f : Frame} {residence : Nat} : CanonOutcome (execSync f residence s) :=
  (h.frameArrives (fun _ h => ite h.forward h.discipline.forward)).next

theorem execSyncTimeout : CanonOutcome (execSyncTimeout s) := by
  unfold Sys2Proof.Machine.execSyncTimeout
  split
  · exact h.next
  · exact outcome h.wr.setRate.logEvent.next h.next

theorem execRingTimeSaturated : CanonOutcome (execRingTimeSaturated s) := outcome h.onRing.logEvent.next h.next

theorem tapPour {n : Nat} {bound : Boundary} : (s.tapPour n bound).Canon := by
  unfold State.tapPour
  dsimp only
  split
  · exact h.requestEntry
  · exact ite h.requestEntry.onStage h.requestEntry

theorem tapOperation {act arg a i : Nat} : (s.tapOperation act arg a i).Canon := by
  unfold State.tapOperation
  dsimp only
  split
  · exact h
  · split
    · exact h.tapPour.inc
    · split
      · exact h.inc
      · exact h.requestGroup.inc
    · exact h

theorem carryTap {act arg a : Nat} : (s.carryTap act arg a).Canon := h.wr.onRing.foldl fun _ _ h => h.tapOperation

theorem tapArrives {act arg a : Nat} : (s.tapArrives act arg a).Canon :=
  ite h.inc.wr.inc.logEvent (ite h.inc.wr.inc.logEvent h.inc.wr).carryTap

theorem execTap {f : Frame} : CanonOutcome (execTap f s) :=
  (h.frameArrives (fun _ h => ite h.forward h.tapArrives.forward)).next

theorem tapFires {t : PendingTap} : (s.tapFires t).Canon := ite (ite h.startEvent h).lineTrigger (ite h.startEvent h)

theorem execTapActionTime : CanonOutcome (execTapActionTime s) := by
  unfold Sys2Proof.Machine.execTapActionTime
  split
  · exact h.next
  · exact (ite h.onRing.tapFires h.onRing).next

/-! ### Log -/

theorem clearAlerts {v : Nat} : (s.clearAlerts v).Canon := h.wr

theorem execEventLogged {code : Nat} {data : List Byte} : CanonOutcome (execEventLogged code data s) :=
  (ite h.logEvent h).next

theorem execClearTransportCounts {tr : Transport} {v : Nat} : CanonOutcome (execClearTransportCounts tr v s) :=
  (h.hostCommand (fun _ h => h)).next

theorem clearMramDiagnostics : s.clearMramDiagnostics.Canon := h.toDefault

theorem execLogEntryWrite : CanonOutcome (execLogEntryWrite s) := by
  unfold Sys2Proof.Machine.execLogEntryWrite
  split
  · exact h.next
  · exact outcome h.next <| outcome h.onMram.wroteWords.onLog.next h.onMram.wroteWords.onLog.onLog.logEvent.next

theorem select {tr : Transport} {v : Nat} : (s.select tr v).Canon := by
  unfold State.select
  split
  · exact h.wr
  · exact h.onTwi

theorem readLog {tr : Transport} : (s.readLog tr).Canon := by
  unfold State.readLog
  split
  · exact h.refuse
  · exact ite h.readWords.refuse (ite h.readWords.acceptData.select h.readWords.acceptData)

/-! ### TwoWire -/

theorem addressWrite {t : Txn} : (s.addressWrite t).Canon := ite h.refuse h.wr.onTwi
theorem applyAddresses : s.applyAddresses.Canon := h.onTwi
theorem stopSeen : s.stopSeen.Canon := h.applyAddresses.onTwi
theorem stopIf {stop : Bool} : (s.stopIf stop).Canon := ite h.stopSeen h
theorem noteStretch {t : Instant} : (s.noteStretch t).Canon := h.wr

theorem dropBusTxn : s.dropBusTxn.Canon := by
  unfold State.dropBusTxn
  split
  · exact h
  · exact h.noteStretch.onTwi

theorem busError {cause : Nat} : (s.busError cause).Canon := h.dropBusTxn.inc.wr.logEvent
theorem execTwiBusError {cause : Nat} : CanonOutcome (execTwiBusError cause s) := (ite h h.busError).next

theorem beginList {list : Nat} : (s.beginList list).Canon := by
  unfold State.beginList
  split
  · exact h.onTwi
  · exact h.wr.wr

theorem sendList : s.sendList.Canon := ite h.onTwi h.beginList

theorem nextSend {n : Nat} : (s.nextSend n).Canon := by
  induction n generalizing s with
  | zero => exact h
  | succ n ih =>
    unfold State.nextSend
    split
    · exact h
    · exact ite h.onTwi.beginList (ih h.onTwi.beginList)

theorem nextSends : s.nextSends.Canon := ite h h.nextSend

theorem endTransfer {x : Transfer} {code : Nat} : (s.endTransfer x code).Canon :=
  (ite (ite h.onTwi.wr h.onTwi.wr.wr) (ite h.onTwi.wr h.onTwi.wr.wr).inc.logEvent).nextSends

theorem bootEnds {image : Option (List Byte)} : (s.bootEnds image).Canon := h.onPower

theorem failTransfer {x : Transfer} {code : Nat} : (s.failTransfer x code).Canon :=
  ite h.endTransfer.bootEnds h.endTransfer

theorem attemptFails {x : Transfer} {code : Nat} : (s.attemptFails x code).Canon :=
  ite (ite (ite h.inc.logEvent h).failTransfer (ite h.inc.logEvent h).onTwi) (ite h.inc.logEvent h).failTransfer

theorem sendListNow : s.sendListNow.Canon := ite h.refuse h.sendList

theorem execControllerTransferEnd {status : Nat} : CanonOutcome (execControllerTransferEnd status s) := by
  unfold Sys2Proof.Machine.execControllerTransferEnd
  split
  · exact h.next
  · split
    · exact h.next
    · split
      · exact h.attemptFails.next
      · split
        · exact h.onTwi.next
        · exact h.endTransfer.next

theorem execBootMouldFetch {status : Nat} {image : List Byte} : CanonOutcome (execBootMouldFetch status image s) := by
  unfold Sys2Proof.Machine.execBootMouldFetch
  dsimp only
  split
  · exact h.next
  · split
    · exact h.next
    · split
      · exact h.attemptFails.next
      · split
        · exact h.endTransfer.bootEnds.next
        · exact h.failTransfer.next

theorem execControllerRetry : CanonOutcome (execControllerRetry s) := by
  unfold Sys2Proof.Machine.execControllerRetry
  split
  · exact h.next
  · exact outcome h.next h.onTwi.next

theorem execBusNotFreeTimeout : CanonOutcome (execBusNotFreeTimeout s) := by
  unfold Sys2Proof.Machine.execBusNotFreeTimeout
  split
  · exact h.next
  · exact outcome h.failTransfer.next h.next

theorem clearTwiCounts : s.clearTwiCounts.Canon := h.zero

theorem execTwiRstNAssert : CanonOutcome (execTwiRstNAssert s) := by
  unfold Sys2Proof.Machine.execTwiRstNAssert
  dsimp only
  split
  · exact (ite h h.busError).onTwi.failTransfer.next
  · exact (ite h h.busError).onTwi.next

theorem execTwiRstNRelease : CanonOutcome (execTwiRstNRelease s) := outcome h.onTwi.nextSends.next h.next

/-! ### Dma -/

theorem drew {n : Nat} : (s.drew n).Canon := h.withFree

theorem readRegion {r : DmaRegion} {off n : Nat} : (s.readRegion r off n).Canon := by
  unfold State.readRegion
  split
  · exact h
  · exact h.readWords.foldl fun _ _ h => h.inc.wr

theorem onChan {n : Nat} {f : DmaChan → DmaChan} : (s.onChan n f).Canon := h.onDma id
theorem chanStop {n status : Nat} : (s.chanStop n status).Canon := h.wr.onChan
theorem startChan {n : Nat} : (s.startChan n).Canon := h.wr.wr.onChan
theorem startChans {mask : Nat} : (s.startChans mask).Canon := ite h.refuse (h.foldl fun _ _ h => h.startChan)
theorem aimChan {n a : Nat} : (s.aimChan n a).Canon := h.wr.wr

theorem stopChan {n : Nat} : (s.stopChan n).Canon := by
  unfold State.stopChan
  split
  · exact h
  · split
    · exact h.onChan
    · exact h.aimChan.chanStop
    · exact h.chanStop

theorem stopChans {mask : Nat} : (s.stopChans mask).Canon := h.foldl fun _ _ h => h.stopChan
theorem dmaRegister {t : Txn} : (s.dmaRegister t).Canon := ite h.refuse h.wr
theorem clearDmaCounts : s.clearDmaCounts.Canon := h.zero

theorem submit {n : Nat} {d : Desc} : (s.submit n d).Canon := by
  unfold State.submit
  dsimp only
  split
  · exact (h.onDma id).rejectBulk.chanStop
  · exact ite (h.onDma id).rejectBulk.chanStop <| ite (h.onDma id).rejectBulk.chanStop <| ite ((h.onDma
        id).wr.handSegment.onDma id).onChan (h.onDma id).wr.handSegment.rejectBulk.chanStop

theorem execDescriptorFetch {ch : Nat} : CanonOutcome (execDescriptorFetch ch s) := by
  unfold Sys2Proof.Machine.execDescriptorFetch
  dsimp only
  split
  · exact h.next
  · split
    · exact h.next
    · split
      · exact h.aimChan.chanStop.next
      · exact outcome h.aimChan.drew.chanStop.next <| outcome h.aimChan.drew.submit.next h.aimChan.drew.onChan.next

theorem dmaWrite {r : DmaRegion} {off : Nat} {bs : List Byte} : (s.dmaWrite r off bs).Canon := by
  unfold State.dmaWrite
  split
  · exact h.onDma fun hd => ⟨Mem.wf_writeAll _ _ hd.1, hd.2⟩
  · exact h.onDma fun hd => ⟨hd.1, Mem.wf_writeAll _ _ hd.2⟩
  · exact h

theorem descComplete {n : Nat} {d : Desc} : (s.descComplete n d).Canon :=
  ite h.wr.inc.chanStop <| ite h.wr.inc.chanStop (ite h.wr.inc.chanStop.logEvent h.wr.inc.wr.onChan)

theorem elementDone {n : Nat} {d : Desc} : (s.elementDone n d).Canon :=
  ite h.wr.onChan.descComplete (ite h.wr.onChan.chanStop h.wr.onChan)

theorem moveFill {d : Desc} {src dst : DmaRegion × Nat} {j : Nat} : (s.moveFill d src dst j).Canon :=
  ite h.drew.dmaWrite h.drew.dmaWrite

theorem moveElement {d : Desc} {src dst : DmaRegion × Nat} : (s.moveElement d src dst).Canon :=
  h.foldl fun _ _ h => h.moveFill

theorem issueLast {d : Desc} {dst : DmaRegion × Nat} : (s.issueLast d dst).Canon := ite h (h.takeFree.onDma id)

theorem execDmaElementComplete {ch : Nat} : CanonOutcome (execDmaElementComplete ch s) := by
  unfold Sys2Proof.Machine.execDmaElementComplete
  dsimp only
  split
  · exact h.next
  · split
    · exact h.next
    · split
      · exact h.chanStop.next
      · split
        · exact h.drew.chanStop.next
        · exact h.drew.chanStop.next
        · exact h.drew.readRegion.moveElement.issueLast.elementDone.next

theorem spoilElement {d : Desc} {k : Nat} : (s.spoilElement d k).Canon := by
  unfold State.spoilElement
  split
  · exact h
  · split
    · exact h
    · exact ite h.takeFree h.takeFree.dmaWrite.drew

theorem execDmaNoResponse {ch : Nat} : CanonOutcome (execDmaNoResponse ch s) := by
  unfold Sys2Proof.Machine.execDmaNoResponse
  dsimp only
  split
  · exact h.next
  · exact outcome h.next h.spoilElement.chanStop.logEvent.next

theorem refillStaging : s.refillStaging.Canon := h.onDma id

theorem submitDone {ch : Nat} : (s.submitDone ch).Canon := by
  unfold State.submitDone
  dsimp only
  split
  · exact (h.onDma id).descComplete
  · exact h.onDma id

theorem execSubmitRelease : CanonOutcome (execSubmitRelease s) := by
  unfold Sys2Proof.Machine.execSubmitRelease
  split
  · exact h.next
  · split
    · exact outcome h.next (outcome h.refillStaging.submitDone.next h.refillStaging.next)
    · exact outcome h.submitDone.next h.next

theorem holdPour {v : Nat} : (s.holdPour v).Canon :=
  ite h (ite h.endHold.wr.wr (ite (h.endHold.wr.wr.onDma id) h.endHold.wr.wr))

theorem releaseHold : s.releaseHold.Canon := h.endHold.wr

/-! ### Housekeeping -/

theorem freeResult {r : Option Int} : (s.freeResult r).2.Canon := by
  unfold State.freeResult
  split
  · exact h
  · exact h.takeFree

theorem markValid {ch : Nat} : (s.markValid ch).Canon := h.wr
theorem placeCode {ch code : Nat} : (s.placeCode ch code).Canon := h.wr
theorem placeResult {ch : Nat} {v : Int} : (s.placeResult ch v).Canon := ite h h.wr.markValid

theorem clampSample {ch : Nat} {low : Bool} : (s.clampSample ch low).Canon :=
  ite h.placeCode.wr h.placeCode.wr.logEvent

theorem beginPass : s.beginPass.Canon := h.wr.onHk
theorem beginHkCal : s.beginHkCal.Canon := h.wr.onHk

theorem takeRequest : s.takeRequest.Canon := by
  unfold State.takeRequest
  split
  · exact h.onHk
  · exact h

theorem hkNext : s.hkNext.Canon := by
  unfold State.hkNext
  dsimp only
  split
  · exact h
  · split
    · exact h.beginHkCal
    · exact h.onHk
    · split
      · exact h.takeRequest.onHk
      · exact ite h.takeRequest.onHk h.takeRequest

theorem nextEntry : s.nextEntry.Canon := ite h.inc.beginPass h.wr.onHk
theorem entryDone {e : Nat} : (s.entryDone e).Canon := ite h.nextEntry h.onHk

theorem sequenceSample {e : Nat} {r : Option Int} : (s.sequenceSample e r).Canon :=
  ite h.onHk (ite (ite h h.placeResult).onHk.entryDone (ite h h.placeResult).onHk)

theorem sequenceEnd {e : Nat} {r : Option Int} : (s.sequenceEnd e r).Canon :=
  ite h.sequenceSample.onHk (ite h.sequenceSample.beginPass h.sequenceSample)

theorem queueResult {req code : Nat} {r : Int} {oor : Bool} : (s.queueResult req code r oor).Canon := h.onHk

theorem injectedDone {req code : Nat} {a : HkSum} : (s.injectedDone req code a).Canon :=
  ite h.onHk.freeResult.queueResult h.onHk.placeResult.queueResult

theorem injectedSample {req code : Nat} {r : Option Int} : (s.injectedSample req code r).Canon :=
  ite h.onHk h.injectedDone

theorem goodSample {ch code : Nat} {dv : Int} : (s.goodSample ch code dv).2.Canon := h.freeResult

theorem takeSample {ch code : Nat} {dv : Int} {clamped : Bool} {k : Option Int → State → State}
    (hk : ∀ r (s : State), s.Canon → (k r s).Canon) : (s.takeSample ch code dv clamped k).Canon :=
  ite (hk _ _ h.clampSample) (hk _ _ (goodSample h).placeCode)

theorem writeSequence {v : Nat} : (s.writeSequence v).Canon :=
  ite h.wr.onHk (ite h.wr.onHk.onHk h.wr.onHk.beginPass.hkNext)

theorem execSequencePostDelayEnd : CanonOutcome (execSequencePostDelayEnd s) := by
  unfold Sys2Proof.Machine.execSequencePostDelayEnd
  split
  · exact h.next
  · exact outcome h.nextEntry.hkNext.next h.next

theorem inject {v : Nat} : (s.inject v).Canon := ite h.wr.inc.logEvent.refuse h.onHk.hkNext
theorem readInjected : s.readInjected.Canon := h
theorem clearHkCounts : s.clearHkCounts.Canon := h.zero
theorem channelStatus {t : Txn} : (s.channelStatus t).Canon := ite h.wr h
theorem askHkCal : s.askHkCal.Canon := ite h.refuse h.onHk.hkNext

theorem hkCalResult {offset gain : Int} {weights : List Int} {vbg inl : Nat} :
    (s.hkCalResult offset gain weights vbg inl).Canon := by
  unfold State.hkCalResult
  split
  · exact h.onHk.wr.wr.logEvent
  · exact h.onHk.wr.onHk

theorem execHousekeepingCalibrationEnd {offset gain : Int} {vbg inl : Nat} {weights : List Int} :
    CanonOutcome (execHousekeepingCalibrationEnd offset gain vbg inl s weights) := by
  unfold Sys2Proof.Machine.execHousekeepingCalibrationEnd
  split
  · exact h.next
  · exact outcome (ite h.hkCalResult h.hkCalResult.onTherm).hkNext.next h.next

theorem hkClockReturn : s.hkClockReturn.Canon := (ite h.onHk.beginPass h.onHk).hkNext

/-! ### Thermal -/

theorem onSource {i : Nat} {f : Source → Source} : (s.onSource i f).Canon := h.onTherm
theorem refreshLevel : s.refreshLevel.Canon := h.wr
theorem refreshStep : s.refreshStep.Canon := ite h (ite h.inc h).wr.onImage
theorem setLevel {i new : Nat} {v : Int} : (s.setLevel i new v).Canon := ite h h.wr.refreshLevel.logEvent
theorem quenchBit {n : Nat} {b : Bool} : (s.quenchBit n b).Canon := h.wr

theorem moveStep {i k : Nat} {was : Bool} {v : Option Int} : (s.moveStep i k was v).Canon := by
  unfold State.moveStep
  split
  · exact h
  · exact h.onSource

theorem throttleWrite {t : Txn} : (s.throttleWrite t).Canon := ite h.refuse h.wr
theorem enterQuench : s.enterQuench.Canon := h.inc.onTherm.quenchImage.forceTimers.abandonSelfCal.quenchMram

theorem dieQuench {i : Nat} : (s.dieQuench i).Canon :=
  ite h.quenchBit.quenchBit.quenchBit.onTherm h.quenchBit.quenchBit.quenchBit.onTherm.enterQuench

theorem leaveQuench : s.leaveQuench.Canon :=
  ite h.onTherm.unforceTimers.darkRestart.quenchBit.startSelfCal h.onTherm.unforceTimers.darkRestart.quenchBit

theorem dieLeaves {i : Nat} : (s.dieLeaves i).Canon :=
  ite h.onSource.quenchBit.setLevel.leaveQuench h.onSource.quenchBit.setLevel

theorem acknowledge {i : Nat} : (s.acknowledge i).Canon :=
  ite h (ite h.quenchBit.logEvent.dieLeaves h.quenchBit.logEvent)

theorem acknowledgeQuench {v : Nat} : (s.acknowledgeQuench v).Canon :=
  (h.foldl fun _ _ h => h.acknowledge).refreshStep

theorem execReArmEnd : CanonOutcome (execReArmEnd s) := by
  unfold Sys2Proof.Machine.execReArmEnd
  split
  · exact h.next
  · exact outcome h.onTherm.quenchBit.next h.next

theorem comparatorQuench : s.comparatorQuench.Canon :=
  ite h.takeFree h.takeFree.onSource.setLevel.dieQuench.refreshStep

theorem sampleLimits {i : Nat} {v : Option Int} : (s.sampleLimits i v).Canon := h.onSource

theorem sampleDie {i : Nat} {v : Option Int} {f : Int} : (s.sampleDie i v f).Canon :=
  ite h.sampleLimits.dieLeaves <| ite h.sampleLimits.moveStep.setLevel.dieQuench h.sampleLimits.moveStep.setLevel

theorem sampleMramDie {v : Option Int} : (s.sampleMramDie v).Canon :=
  ite h.sampleLimits (ite h.sampleLimits.wr.resumeUpload.onPower.inc h.sampleLimits.wr.resumeUpload.onPower).logEvent

theorem crossing {n d : Nat} {was : Bool} {f : Int} : (s.crossing n d was f).Canon := ite h.wr.logEvent h.wr

theorem sampleExternal {n : Nat} {f : Int} : (s.sampleExternal n f).Canon :=
  (ite h.sampleLimits.moveStep h.sampleLimits.onSource).refreshLevel.crossing.crossing

theorem placeFiltered {i : Nat} {formed : Bool} {f : Int} : (s.placeFiltered i formed f).Canon :=
  (ite h.wr.wr.markValid h.wr).wr

theorem filteredSample {i : Nat} {v : Option Int} : (s.filteredSample i v).Canon :=
  ite (ite h.freeResult.onSource.placeFiltered.sampleMramDie h.freeResult.onSource.placeFiltered.sampleDie)
    h.freeResult.onSource.sampleExternal

theorem externalClamp {n : Nat} : (s.externalClamp n).Canon := h.takeFree.onSource.logEvent

theorem rawSample {i : Nat} {r : Option Int} : (s.rawSample i r).Canon :=
  ite h.externalClamp (ite h.onSource.filteredSample h.onSource)

theorem onRail {n : Nat} {f : Source → Source} : (s.onRail n f).Canon := h.onTherm
theorem filteredRail {n : Nat} {v : Int} : (s.filteredRail n v).Canon := ite h.onRail.wr.logEvent h.onRail.wr

theorem rawRail {n : Nat} {r : Option Int} : (s.rawRail n r).Canon := by
  unfold State.rawRail
  dsimp only
  split
  · exact h.onRail
  · split
    · exact h.onRail.filteredRail
    · exact h.onRail

theorem addDue {l : List Nat} : (s.addDue l).Canon := h.onHk
theorem beginScan : s.beginScan.Canon := ite h h.addDue.onTherm
theorem beginFill : s.beginFill.Canon := ite h h.addDue.onTherm
theorem tickMonitor : s.tickMonitor.Canon := ite h.beginScan.beginFill.hkNext h
theorem endScan : s.endScan.Canon := h.wr.onTherm

theorem monitored {ch : Nat} {r : Option Int} : (s.monitored ch r).Canon := by
  unfold State.monitored
  split
  · exact h.rawRail
  · split
    · exact ite h.rawSample h
    · exact h

theorem monitorSample {ch : Nat} {r : Option Int} : (s.monitorSample ch r).Canon := by
  unfold State.monitorSample
  split
  · exact h.placeResult.onHk.onTherm
  · exact h.onHk.onTherm

theorem useSamples : s.useSamples.Canon := (h.onTherm.foldl fun _ _ h => h.monitored).refreshStep

theorem execMonitorPeriod : CanonOutcome (execMonitorPeriod s) :=
  outcome h.next (ite h.useSamples.onTherm.endScan h.useSamples.onTherm).next

theorem execMonitorScan {_raws : List (Nat × Int)} : CanonOutcome (execMonitorScan _raws s) := h.execMonitorPeriod

theorem execHousekeepingSampleEnd {code : Nat} {dv : Int} {clamped : Bool} :
    CanonOutcome (execHousekeepingSampleEnd code dv clamped s) := by
  unfold Sys2Proof.Machine.execHousekeepingSampleEnd
  split
  · exact h.next
  · exact (h.onHk.takeSample (fun _ _ h => h.monitorSample)).hkNext.next
  · exact (h.onHk.takeSample (fun _ _ h => h.injectedSample)).hkNext.next
  · exact (h.onHk.takeSample (fun _ _ h => h.sequenceEnd)).hkNext.next

theorem thresholdWritten {n : Nat} : (s.thresholdWritten n).Canon :=
  (ite h.onSource.wr.onTherm h.onSource.wr).refreshLevel.refreshStep

theorem thermClockReturn : s.thermClockReturn.Canon := h.onTherm
theorem clearThermalCounts : s.clearThermalCounts.Canon := h.toDefault

/-! ### Power -/

theorem startedWrite : s.startedWrite.Canon := by
  unfold State.startedWrite
  split
  · exact h.wr
  · exact h

/-- What a reset keeps of the store is in canonical form, and every buffer is empty after it (R365, R366). -/
theorem assertReset {code : Nat} : (State.assertReset code s).Canon :=
  ⟨Dict.wf_setAll _ (Dict.wf_filter _ h.startedWrite.1), rfl, rfl⟩

theorem execPorstNPulse {width : Nat} : CanonOutcome (execPorstNPulse width s) :=
  outcome h.assertReset.next (outcome h.next (ite h.takeFree.assertReset h.takeFree).next)

theorem execBrownOut : CanonOutcome (execBrownOut s) := h.assertReset.onPower.next
theorem resetWrite {v : Nat} : (s.resetWrite v).Canon := ite h.onPower h.refuse

theorem execResetCommand {tr : Transport} {v : Nat} : CanonOutcome (execResetCommand tr v s) :=
  (ite (h.hostWrite (fun _ h => h.resetWrite)) (h.hostWrite (fun _ h => h.resetWrite)).assertReset).next

theorem toPhase {ph : Phase} : (s.toPhase ph).Canon := h.onPower
theorem strapObjects {straps : Nat} : (s.strapObjects straps).Canon := h.wr.wr.wr
theorem findLog : s.findLog.Canon := h.wr.onTwi.onLog

theorem execResetRelease {testen : Bool} {straps : Nat} : CanonOutcome (execResetRelease testen straps s) :=
  outcome h.next h.onPower.strapObjects.onTwi.findLog.next

theorem execFuseRead : CanonOutcome (execFuseRead s) :=
  outcome h.next (ite h.toPhase.onPower.logEvent h.toPhase.onPower).next

theorem alignSlots : s.alignSlots.Canon := h.onImage
theorem paceRestart : s.paceRestart.Canon := h.onPace

theorem execPllLock : CanonOutcome (execPllLock s) :=
  outcome h.next h.toPhase.onTiming.takePins.alignSlots.paceRestart.beginHkCal.next

theorem execLfxiDetection {hz : Nat} : CanonOutcome (execLfxiDetection hz s) := outcome h.next h.wr.next
theorem releaseLanes : s.releaseLanes.Canon := h.onLanes

theorem execShakeoutComplete : CanonOutcome (execShakeoutComplete s) :=
  outcome h.next (h.toPhase.onTiming.eachTimer (fun _ _ h => h.driveTimer)).releaseLanes.next

theorem wipe {target : Nat} : (s.wipe target).Canon := (h.onMram.foldl fun _ _ h => h.wroteWords).toDefault
theorem lifeFail {cmd cause : Nat} : (s.lifeFail cmd cause).Canon := h.wr.wr.logEvent

theorem resolveTransition : s.resolveTransition.Canon := by
  unfold State.resolveTransition
  split
  · exact h
  · exact ite h.onMram.wipe.logEvent h.onMram.lifeFail

theorem repairBank {n : Nat} : (s.repairBank n).Canon := ite h.bankState h
theorem scanBanks : s.scanBanks.Canon := ite h.repairBank.repairBank.wr.wr.logEvent h.repairBank.repairBank.wr.wr
theorem scanSets : s.scanSets.Canon := h.onMram.foldl fun _ _ h => ite h h.wroteWords

theorem repairMould : s.repairMould.Canon := by
  unfold State.repairMould
  split
  · exact ite h.writeMould.writeJournal h.writeMould
  · exact ite h.writeJournal h

theorem startCache : s.startCache.Canon := h.onCorr
theorem startupSelfCal : s.startupSelfCal.Canon := ite h.wr.onConv h.startSelfCal
theorem readStart {n : Nat} : (s.readStart n).Canon := h.readWords.bootEnds
theorem fetchStart : s.fetchStart.Canon := ite h.onTwi (ite h.readStart h.bootEnds)

theorem execMramScan {bad corrected : List Nat} : CanonOutcome (execMramScan s bad corrected) := by
  unfold Sys2Proof.Machine.execMramScan
  split
  · exact h
  · extract_lets counted held mended
    have hc : counted.Canon := h.noteErrors.readWords
    have hh : held.Canon := ite hc.onPower hc
    have hm : mended.Canon := hh.resolveTransition.scanBanks.scanSets.repairMould.startCache.findLog
    exact hm.inc.toPhase.onPower.startupSelfCal.fetchStart

theorem startRefused {cause : Nat} : (s.startRefused cause).Canon := h.wr.logEvent

theorem pourStart {n : Nat} {img : List Byte} : (s.pourStart n img).Canon := by
  unfold State.pourStart
  split
  · exact ite h.requestEntry h.requestEntry.startRefused
  · exact ite h.requestEntry h.requestEntry.startRefused

theorem execStartMouldPour : CanonOutcome (execStartMouldPour s) := by
  unfold Sys2Proof.Machine.execStartMouldPour
  split
  · exact h.next
  · split
    · exact h.next
    · split
      · exact (ite h.toPhase.pourStart h.toPhase.pourStart.startCacheLoad).next
      · exact (ite (ite h.toPhase h.toPhase.startRefused) (ite h.toPhase h.toPhase.startRefused).startCacheLoad).next

theorem execStartComplete : CanonOutcome (execStartComplete s) := outcome h.startCache.toPhase.logEvent.next h.next

theorem clocksReturn : s.clocksReturn.Canon :=
  h.clockReturn.hkClockReturn.thermClockReturn.alignSlots.paceRestart.onDma id

theorem leaveHold : s.leaveHold.Canon := ite h.wr.wr.clocksReturn h.wr.wr
theorem holdWrite {v : Nat} : (s.holdWrite v).Canon := ite h.leaveHold (ite h.refuse (ite h.wr.wr h))
theorem execHoldEntered : CanonOutcome (execHoldEntered s) := outcome h.wr.stopTimerClock.next h.next
theorem testenLevel {b : Bool} : (s.testenLevel b).Canon := h.onPower

theorem execHoldExit {tr : Transport} {v : Nat} {testen : Bool} : CanonOutcome (execHoldExit tr v testen s) :=
  outcome h.testenLevel.leaveHold.next (h.testenLevel.hostWrite (fun _ h => h.holdWrite)).next

theorem sleepWrite : s.sleepWrite.Canon := ite h.onPower h.refuse
theorem enterSleep : s.enterSleep.Canon := h.closeSwitch.wr.onRing.wr.wr.onLanes.onPower.stopTimerClock

theorem execSleepRequest {tr : Transport} {v : Nat} : CanonOutcome (execSleepRequest tr v s) :=
  (ite (h.hostCommand (fun _ h => h.sleepWrite)) (h.hostCommand (fun _ h => h.sleepWrite)).enterSleep).next

theorem startWake {src : Nat} : (s.startWake src).Canon := h.wr.onPower
theorem execTrig0Wake {width : Nat} : CanonOutcome (execTrig0Wake width s) := (ite h.startWake h).next

theorem execTwiWake {addr : Nat} : CanonOutcome (execTwiWake addr s) := by
  unfold Sys2Proof.Machine.execTwiWake
  split
  · exact h.next
  · split
    · exact h.startWake.onTwi.next
    · exact h.onTwi.next
    · exact h.next

theorem execThermalComparatorTrip : CanonOutcome (execThermalComparatorTrip s) :=
  outcome h.next <| outcome h.startWake.next <| outcome h.onPower.next (outcome h.wr.leaveHold.comparatorQuench.next
    h.next)

theorem fuseKey {v : Nat} : (s.fuseKey v).Canon := h.onPower

theorem blow {cmd bits : Nat} : (s.blow cmd bits).Canon := by
  unfold State.blow
  dsimp only
  split
  · exact h.onPower.lifeFail.refuse
  · exact h.onPower.wr.onPower

theorem fusesDone {cmd bits : Nat} {ok : Bool} : (s.fusesDone cmd bits ok).Canon :=
  ite h.onPower.wr.onPower h.onPower.takeFree.onPower.lifeFail

theorem lifeFuse {target : Nat} {ok : Bool} : (s.lifeFuse target ok).Canon := ite h.onPower h.onMram.onPower.lifeFail

theorem execFuseBlowComplete {ok : Bool} : CanonOutcome (execFuseBlowComplete ok s) := by
  unfold Sys2Proof.Machine.execFuseBlowComplete
  split
  · exact h.fusesDone.next
  · exact (ite h h.lifeFuse).next
  · exact h.next

theorem lifeKey {tr : Transport} {v : Nat} : (s.lifeKey tr v).Canon := h.onPower

theorem lifeCommand {tr : Transport} {target : Nat} : (s.lifeCommand tr target).Canon := by
  unfold State.lifeCommand
  dsimp only
  split
  · exact h.onPower.lifeFail.refuse
  · exact h.onPower.wr.wr.onMram.onPower

theorem execWipeComplete : CanonOutcome (execWipeComplete s) := by
  unfold Sys2Proof.Machine.execWipeComplete
  split
  · exact outcome h.next h.wipe.onMram.assertReset.next
  · exact h.next

theorem execMakerTestModeEntry : CanonOutcome (execMakerTestModeEntry s) := outcome h.onMram.onPower.next h.next
theorem execMakerTestModeExit : CanonOutcome (execMakerTestModeExit s) := (ite h.assertReset h).next

/-! ### Access -/

theorem readValue {tr : Transport} {key : Nat} {staged : Bool} : (s.readValue tr key staged).Canon :=
  ite h.acceptData <| h.needWords (fun _ h => ite h.readCapture (ite h.readCompatible (ite h.readLowWord (ite
    h.readInjected (ite h.readLog h.acceptData)))))

theorem clearFlag {t : Txn} {bit : Nat} : (s.clearFlag t bit).Canon := ite h.wr h
theorem clearPourCounts : s.clearPourCounts.Canon := h.zero
theorem clearTdiCounts : s.clearTdiCounts.Canon := h.toDefault
theorem clearHandOverCounts : s.clearHandOverCounts.Canon := h.zero
theorem selectMould {t : Txn} : (s.selectMould t).Canon := h.wr.onStage

theorem command3 {t : Txn} : (s.command3 t).Canon := by
  unfold State.command3
  split
  · exact h.clearRingCounts
  · exact h.startOnePour
  · exact h.clearPourCounts
  · exact h.clearHighWater
  · exact h.clearLadleSlag
  · exact h.makeOneLine
  · exact h.askRestart
  · exact h.clearTdiCounts
  · exact h.hostSelfCal
  · exact h.clearConverterCounts
  · exact h

theorem command5 {t : Txn} : (s.command5 t).Canon := by
  unfold State.command5
  split
  · exact h.clearCorrectionCounts
  · exact h.startCal
  · exact h.startUpload
  · exact h.finishUpload
  · exact h.uploadFail
  · exact h.restartTimers
  · exact h.clearCaptureCounts
  · exact h.resetPrescalers
  · exact h.clearQuadratureCounts
  · exact h

theorem command7 {t : Txn} : (s.command7 t).Canon := by
  unfold State.command7
  split
  · exact h.clearLowestMargin
  · exact h.askHkCal
  · exact h.inject
  · exact h.clearHkCounts
  · exact h.acknowledgeQuench
  · exact h.clearThermalCounts
  · exact h.startChans
  · exact h.stopChans
  · exact h.clearDmaCounts
  · exact h.releaseHold
  · exact h

theorem command9 {t : Txn} : (s.command9 t).Canon := by
  unfold State.command9
  split
  · exact h.openGroup
  · exact h.closeGroup
  · exact h.abandonGroup
  · exact h.clearHandOverCounts
  · exact h.pourMould
  · exact h.loadMould
  · exact h.mouldCommand
  · exact h.mouldCommand
  · exact h.clearLaneCounts
  · exact h

theorem commandC {t : Txn} : (s.commandC t).Canon := by
  unfold State.commandC
  split
  · exact h.clearTwiCounts
  · exact h.sendListNow
  · exact h.lifeCommand
  · exact h.lifeKey
  · exact h.fuseKey
  · exact h.blow
  · exact h.blow
  · exact h.blow
  · exact h.sleepWrite
  · exact h.resetWrite
  · exact h.clearMramDiagnostics
  · exact h

theorem command {t : Txn} : (s.command t).Canon := by
  unfold State.command
  split
  · exact h.command3
  · exact h.command3
  · exact h.command3
  · exact h.command5
  · exact h.command5
  · exact h.command7
  · exact h.command7
  · exact h.command9
  · exact h.command9
  · exact h.commandC

theorem register6 {t : Txn} : (s.register6 t).Canon :=
  ite h.bypassHold <| ite h.clearAlerts <| ite h.mapSwitchMode <| ite h.clearFlag <| ite h.clearFlag <| ite
    h.presetPosition <| ite h.clearFlag <| ite h.writeVcore <| ite h.writeSequence (ite h.clearFlag (ite
    h.channelStatus (ite h.throttleWrite h.wr)))

theorem registerC {t : Txn} : (s.registerC t).Canon :=
  ite h.dmaRegister <| ite h.holdPour <| ite h.groupRegister <| ite h.clearFlag <| ite h.selectMould <| ite
    h.setEnable <| ite h.laneSetting (ite h.addressWrite (ite h.holdWrite (ite h.select h.wr)))

theorem register {t : Txn} : (s.register t).Canon := ite h.register6 h.registerC

theorem effect {t : Txn} : (s.effect t).Canon := by
  unfold State.effect
  split
  · exact h
  · exact ite h.stageWrite (ite (ite h h.command) (ite h.startMramWrite h.register))

theorem write {t : Txn} : (s.write t).Canon := h.hostWrite (fun _ h => h.effect)

/-! ### Serve -/

theorem repeated {k : Kept} {f : Frame} : (s.repeated k f).Canon := ite h.sendFrame.inc h.replyStatus
theorem endFrame {f : Frame} : (s.endFrame f).Canon := h.sendFrame.onRing
theorem frameServed {f : Frame} : (s.frameServed f).Canon := ite h.onStage h.endFrame
theorem cutData {off n : Nat} : (s.cutData off n).Canon := h

theorem serveRead {f : Frame} : (s.serveRead f).Canon :=
  ite (h.readNow (fun _ h => h)).frameServed <| ite (ite h.replyStatus (h.readNow (fun _ h =>
    h.readValue)).cutData.frameServed) <| ite h.replyStatus <| ite h.refuse.counted.endFrame (h.readNow (fun _ h =>
    h.readValue)).frameServed

theorem ringSeg {b : Option SegBuf} : (s.ringSeg b).Canon := h.onRing

theorem serveSegment {f : Frame} {at_ : Instant} {key : Nat} : (s.serveSegment f at_ key).Canon := by
  unfold State.serveSegment
  dsimp only
  split
  · exact h.refuse.counted.endFrame
  · split
    · exact h.ringSeg.replyStatus
    · split
      · exact h.refuse.counted.endFrame
      · exact h.ringSeg.accept.counted.endFrame
    · exact (h.ringSeg.writeNow (fun _ h => h.effect)).frameServed

theorem serveWrite {f : Frame} {at_ : Instant} : (s.serveWrite f at_).Canon :=
  ite (h.writeNow (fun _ h => h)).frameServed <| ite h.serveSegment (ite h.replyStatus (h.writeNow (fun _ h =>
    h.effect)).frameServed)

theorem serveFrame {f : Frame} {at_ : Instant} : (s.serveFrame f at_).Canon := by
  unfold State.serveFrame
  split
  · exact h.repeated
  · exact ite h.serveRead h.serveWrite

theorem request {f : Frame} : (s.request f).Canon := by
  unfold State.request
  split
  · exact h.replyStatus
  · split
    · exact h.replyStatus
    · split
      · exact h.repeated
      · exact ite h.replyStatus.inc (ite h.wait h.serveFrame)

theorem requestFrame {typ : Nat} {f : Frame} : (s.requestFrame typ f).Canon :=
  h.frameArrives (fun _ h => ite h.request h.forward)

theorem withData {b : List Byte} : (s.withData b).Canon := h
theorem setLink {key v : Nat} : (s.setLink key v).Canon := h.onTwi

theorem readHalf {key half : Nat} {staged : Bool} : (s.readHalf key half staged).Canon :=
  ite h.readValue.setLink.withData h.readValue.withData

theorem twiSeg {b : Option SegBuf} : (s.twiSeg b).Canon := h.onTwi

theorem twiRead {bs : List Byte} : (s.twiRead bs).Canon :=
  ite (h.readNow (fun _ h => h.readHalf)) <| ite (ite h.refuse.counted (h.readNow (fun _ h => h.readValue)).cutData)
    <| h.readNow (fun _ h => h.readValue)

theorem twiWrite {bs : List Byte} {at_ : Instant} : (s.twiWrite bs at_).Canon := by
  unfold State.twiWrite
  dsimp only
  split
  · exact h.setLink.accept.counted
  · split
    · exact h.writeNow (fun _ h => h.effect)
    · split
      · split
        · exact h.twiSeg.refuse.counted
        · split
          · exact h.refuse.counted
          · exact h.twiSeg.accept.counted
        · exact h.twiSeg.writeNow (fun _ h => h.effect)
      · exact h.writeNow (fun _ h => h.effect)

theorem endTwi {bs : List Byte} : (s.endTwi bs).Canon := ite h.onTwi h
theorem twiRefuse {bs : List Byte} {c : Nat} : (s.twiRefuse bs c).Canon := (ite h.twiSeg h).refuse.counted

theorem serveTwi {bs : List Byte} {at_ : Instant} : (s.serveTwi bs at_).Canon := by
  unfold State.serveTwi
  split
  · exact ite h.twiRefuse.onStage h.twiRefuse.endTwi
  · exact ite (ite h.twiRead h.twiWrite).onStage (ite h.twiRead h.twiWrite).endTwi

theorem readPhase {count : Nat} : (s.readPhase count).Canon := by
  unfold State.readPhase
  split
  · exact h
  · exact h

theorem twiDiscard : s.twiDiscard.Canon := h.wr.wr

theorem commitTwi {later : Bool} {bs : List Byte} : (s.commitTwi later bs).Canon :=
  ite h.committed.wait h.committed.serveTwi

theorem writePhase {later : Bool} {bs : List Byte} {stop : Bool} : (s.writePhase later bs stop).Canon :=
  ite (ite h.twiDiscard h) (ite h.inc (ite h.twiDiscard h.commitTwi))

theorem runPhase {later : Bool} {ph : BusPhase} {stop : Bool} : (s.runPhase later ph stop).Canon := by
  unfold State.runPhase
  split
  · exact h.stopIf.writePhase
  · exact h.stopIf.readPhase

theorem releaseScl {n : Nat} : (s.releaseScl n).Canon := by
  induction n generalizing s with
  | zero => exact h
  | succ n ih =>
    unfold State.releaseScl
    split
    · exact h
    · split
      · exact h
      · exact ih h.dropBusTxn.runPhase

theorem serveJob {j : Job} : (s.serveJob j).Canon := by
  unfold State.serveJob
  split
  · exact h.writeNow (fun _ h => h.effect)
  · exact h.readNow (fun _ h => h.readValue)
  · exact h.serveFrame
  · exact h.serveTwi

theorem lateAddresses {j : Job} {old : State} : (State.lateAddresses j old s).Canon := ite h.applyAddresses h

theorem drain {n : Nat} : (s.drain n).Canon := by
  induction n generalizing s with
  | zero => exact h
  | succ n ih =>
    unfold State.drain
    split
    · exact h
    · split
      · exact h
      · exact ih (h.onStage.serveJob.lateAddresses).releaseScl

theorem drainAll : s.drainAll.Canon := h.drain

theorem endServing : s.endServing.Canon := by
  unfold State.endServing
  dsimp only
  split
  · exact (ite h.onStage.counted h.onStage.counted.heldInWindow).drainAll
  · exact (ite h.onStage.counted.endFrame h.onStage.counted.endFrame.heldInWindow).drainAll
  · exact (ite h.onStage.counted.endTwi h.onStage.counted.endTwi.heldInWindow).drainAll
  · exact (ite h.onStage h.onStage.heldInWindow).drainAll

theorem execMramObjectWriteComplete : CanonOutcome (execMramObjectWriteComplete s) := by
  unfold Sys2Proof.Machine.execMramObjectWriteComplete
  split
  · exact h.next
  · exact (ite h.onStage.accept.wr.wroteWords.thresholdWritten h.onStage.accept.wr.wroteWords).endServing.next

theorem execMouldReadComplete {bad corrected : List Nat} : CanonOutcome (execMouldReadComplete bad s corrected) := by
  unfold Sys2Proof.Machine.execMouldReadComplete
  split
  · exact h.next
  · exact outcome h.endRead.endServing.next h.endRead.next

theorem holdScl {ph : BusPhase} {stop : Bool} : (s.holdScl ph stop).Canon := h.onTwi

theorem addressed {addr : Nat} {ph : BusPhase} {stop : Bool} : (s.addressed addr ph stop).Canon := by
  unfold State.addressed
  split
  · exact h
  · split
    · exact h.stopIf
    · exact ite h.holdScl <| ite h.stopIf (ite h.stopIf.inc (ite h.stopIf.acceptData (ite h.holdScl h.runPhase)))

theorem wake : s.wake.Canon :=
  ite h.onPower.clocksReturn.darkRestart.zero.releaseLanes.comparatorQuench
    h.onPower.clocksReturn.darkRestart.zero.releaseLanes

theorem execWakeComplete : CanonOutcome (execWakeComplete s) := by
  unfold Sys2Proof.Machine.execWakeComplete
  dsimp only
  split
  · exact h.next
  · split
    · exact h.next
    · split
      · exact h.wake.noteStretch.onTwi.releaseScl.drainAll.next
      · exact h.wake.releaseScl.drainAll.next

theorem grant : s.grant.Canon :=
  (ite (h.grantTimers.grantGrid.grantQuadrature.foldl fun _ _ h => h.grantCapture).sendList
    (h.grantTimers.grantGrid.grantQuadrature.foldl fun _ _ h => h.grantCapture)).onStage

theorem execHandOverGrant : CanonOutcome (execHandOverGrant s) := by
  unfold Sys2Proof.Machine.execHandOverGrant
  split
  · exact h.next
  · exact outcome h.grant.drainAll.next h.next

theorem freeRunBegins {old : Dict} : (State.freeRunBegins old s).Canon :=
  ite (ite h.onImage h).onTdi (ite h.onImage h)

theorem idleHandOver {e : Entry} : (s.idleHandOver e).Canon := h.handOver.grant.freeRunBegins

theorem execHandOverAtIdle : CanonOutcome (execHandOverAtIdle s) := by
  unfold Sys2Proof.Machine.execHandOverAtIdle
  dsimp only
  split
  · exact h.next
  · split
    · exact outcome h.markIdle.idleHandOver.next h.markIdle.next
    · exact h.markIdle.next

/-! ### Dispatch -/

/-! ### Tick -/

theorem tickHistory : s.tickHistory.Canon := ite h.onTiming h
theorem tickTime : s.tickTime.Canon := h
theorem tickRing : s.tickRing.Canon := ite h h.onRing.drainIns
theorem tickClocks : s.tickClocks.Canon := (ite h.tickTimers h.tickLf).releaseLevels
theorem tickPower : s.tickPower.Canon := ite h.assertReset (ite h.enterSleep h)
theorem tick : s.tick.Canon := h.tickHistory.tickTime.tickRing.tickClocks.tickMonitor.watchHeads.settleBanks.tickPower

theorem exec (i : Instr) : CanonOutcome (Sys2Proof.Machine.exec i s) := by
  cases i with
  | rowSlot => exact h.execRowSlot
  | coreRow => exact h.execCoreRow
  | mapWindowFetch => exact h.execMapWindowFetch
  | paceMeasurement => exact h.execPaceMeasurement
  | replicaMeasurement => exact h.execReplicaMeasurement
  | paceEvaluation => exact h.execPaceEvaluation
  | vcoreLoopConfigWrite => exact (h.hostWrite (fun _ h => h.writeVcore)).next
  | clearLowestMargin => exact (h.hostCommand (fun _ h => h.clearLowestMargin)).next
  | clearHighWaterMarks => exact (h.hostCommand (fun _ h => h.clearHighWater)).next
  | clearLadleSlagCounts => exact (h.hostCommand (fun _ h => h.clearLadleSlag)).next
  | captureInputEdge => exact h.execCaptureInputEdge
  | trigPinEdge => exact h.execTrigPinEdge
  | heldStartEventAccept => exact h.execHeldStartEventAccept
  | freeRunStartEvent => exact h.execFreeRunStartEvent
  | startOnePour => exact (h.hostWrite (fun _ h => h.startOnePour)).next
  | exposureStart => exact h.execExposureStart
  | transferSequence => exact h.execTransferSequence
  | freeRunLineTrigger => exact h.execFreeRunLineTrigger
  | makeOneLine => exact (h.hostWrite (fun _ h => h.makeOneLine)).next
  | restartTdi => exact (h.hostCommand (fun _ h => h.askRestart)).next
  | quadratureEdge => exact h.execQuadratureEdge
  | encZEdge => exact h.execEncZEdge
  | positionChangeSample => exact h.execPositionChangeSample
  | positionPreset => exact (h.hostWrite (fun _ h => h.presetPosition)).next
  | positionLowWordRead => exact (h.hostRead (fun _ h => h.readLowWord)).next
  | foregroundSelfCalibration => exact (h.hostCommand (fun _ h => h.hostSelfCal)).next
  | selfCalibrationResult => exact h.execSelfCalibrationResult
  | trimPeriodEnd => exact h.execTrimPeriodEnd
  | clearConverterCounts => exact (h.hostCommand (fun _ h => h.clearConverterCounts)).next
  | darkRun => exact h.calCommand.next
  | columnRun => exact h.calCommand.next
  | flatRun => exact h.calCommand.next
  | fullMapRun => exact h.calCommand.next
  | seedRun => exact h.calCommand.next
  | acquisitionStart => exact h.execAcquisitionStart
  | acquisitionComplete => exact h.execAcquisitionComplete
  | calibrationWaitTundish => exact h.execCalibrationWaitTundish
  | mapEntriesComputed => exact h.execMapEntriesComputed
  | mapSegmentWritten => exact h.execMapSegmentWritten
  | setCommitComplete => exact h.execSetCommitComplete
  | setCacheLoadComplete => exact h.execSetCacheLoadComplete
  | mapSwitchModeWrite => exact (h.hostWrite (fun _ h => h.mapSwitchMode)).next
  | startMapUpload => exact (h.hostWrite (fun _ h => h.startUpload)).next
  | startSetUpload => exact (h.hostWrite (fun _ h => h.startUpload)).next
  | finishUpload => exact (h.hostCommand (fun _ h => h.finishUpload)).next
  | abortUpload => exact (h.hostCommand (fun _ h => h.uploadFail)).next
  | uploadTimeout => exact h.execUploadTimeout
  | clearCorrectionCounts => exact (h.hostCommand (fun _ h => h.clearCorrectionCounts)).next
  | uplinkBlockLock => exact h.execUplinkBlockLock
  | uplinkLossOfLock => exact h.execUplinkLossOfLock
  | uplinkHighBer => exact h.execUplinkHighBer
  | creditGrant => exact (h.uplinkPacket (fun _ h => h.grantCredit)).next
  | bulkChunk => exact (h.uplinkPacket (fun _ h => h.bulkChunk)).next
  | segmentEnd => exact (h.uplinkPacket (fun _ h => h.segmentEnd)).next
  | quiesce => exact h.execQuiesce
  | resume => exact h.execResume
  | retrain => exact h.execRetrain
  | retrainEnd => exact h.execRetrainEnd
  | uplinkPacketDiscard => exact h.execUplinkPacketDiscard
  | stagingAbandon => exact h.execStagingAbandon
  | packetDispatch => exact h.execPacketDispatch
  | packetSent => exact h.execPacketSent
  | laneMarker => exact h.execLaneMarker
  | creditStall => exact h.execCreditStall
  | pourAgeDrop => exact h.execPourAgeDrop
  | downlinkEnableWrite => exact (h.hostWrite (fun _ h => h.setEnable)).next
  | testPatternWrite => exact (h.hostWrite (fun _ h => h.laneSetting)).next
  | clearLaneCounts => exact (h.hostCommand (fun _ h => h.clearLaneCounts)).next
  | stagedWrite => exact h.write.next
  | registerWrite => exact h.write.next
  | mramObjectWriteComplete => exact h.execMramObjectWriteComplete
  | openCommitGroup => exact (h.hostCommand (fun _ h => h.openGroup)).next
  | closeCommitGroup => exact (h.hostWrite (fun _ h => h.closeGroup)).next
  | abandonCommitGroup => exact (h.hostWrite (fun _ h => h.abandonGroup)).next
  | groupIdleTimeout => exact h.execGroupIdleTimeout
  | handOverAtIdle => exact h.execHandOverAtIdle
  | handOverGrant => exact h.execHandOverGrant
  | pourMould => exact (h.hostWrite (fun _ h => h.pourMould)).next
  | loadMould => exact (h.hostWrite (fun _ h => h.loadMould)).next
  | mouldReadComplete => exact h.execMouldReadComplete
  | storeMould => exact (h.hostWrite (fun _ h => h.mouldCommand)).next
  | eraseMould => exact (h.hostWrite (fun _ h => h.mouldCommand)).next
  | mouldOperationComplete => exact h.execMouldOperationComplete
  | trainingAchieved => exact h.execTrainingAchieved
  | ringJoin => exact h.execRingJoin
  | lossOfTraining => exact h.execLossOfTraining
  | bypassHoldWrite => exact (h.hostWrite (fun _ h => h.bypassHold)).next
  | readRequest => exact h.requestFrame.next
  | writeRequest => exact h.requestFrame.next
  | enumerate => exact h.execEnumerate
  | sync => exact h.execSync
  | syncTimeout => exact h.execSyncTimeout
  | ringTimeSaturated => exact h.execRingTimeSaturated
  | tap => exact h.execTap
  | tapActionTime => exact h.execTapActionTime
  | rollCall => exact h.execRollCall
  | unknownFrameType => exact h.execUnknownFrameType
  | frameForward => exact h.execFrameForward
  | frameInsert => exact h.execFrameInsert
  | clearRingCounts => exact (h.hostCommand (fun _ h => h.clearRingCounts)).next
  | alertStatusWrite => exact (h.hostWrite (fun _ h => h.clearAlerts)).next
  | clearTransportCounts => exact h.execClearTransportCounts
  | eventLogged => exact h.execEventLogged
  | logEntryWrite => exact h.execLogEntryWrite
  | logEntryRead => exact (h.hostRead (fun _ h => h.readLog)).next
  | clearMramDiagnostics => exact (h.hostCommand (fun _ h => h.clearMramDiagnostics)).next
  | twiWriteTransaction => exact h.addressed.next
  | twiReadHeader => exact h.addressed.next
  | twiReadPhase => exact h.addressed.next
  | twiWriteDiscarded => exact h.addressed.next
  | twiBusError => exact h.execTwiBusError
  | twiRstNAssert => exact h.execTwiRstNAssert
  | twiWake => exact h.execTwiWake
  | bootMouldFetch => exact h.execBootMouldFetch
  | sendListNow => exact (h.hostCommand (fun _ h => h.sendListNow)).next
  | controllerTransferEnd => exact h.execControllerTransferEnd
  | controllerRetry => exact h.execControllerRetry
  | busNotFreeTimeout => exact h.execBusNotFreeTimeout
  | clearTwiCounts => exact (h.hostCommand (fun _ h => h.clearTwiCounts)).next
  | timerValley => exact h.execTimerValley
  | restartChannels => exact (h.hostWrite (fun _ h => h.restartTimers)).next
  | strobePulseStart => exact h.execStrobePulseStart
  | strobePulseEnd => exact h.execStrobePulseEnd
  | lfClockSwitch => exact h.execLfClockSwitch
  | resetPrescalers => exact (h.hostWrite (fun _ h => h.resetPrescalers)).next
  | captureEntryRead => exact (h.hostRead (fun _ h => h.readCapture)).next
  | compatibleCaptureRead => exact (h.hostRead (fun _ h => h.readCompatible)).next
  | clearCaptureCounts => exact (h.hostCommand (fun _ h => h.clearCaptureCounts)).next
  | clearQuadratureCounts => exact (h.hostCommand (fun _ h => h.clearQuadratureCounts)).next
  | startChannels => exact (h.hostWrite (fun _ h => h.startChans)).next
  | stopChannels => exact (h.hostWrite (fun _ h => h.stopChans)).next
  | descriptorFetch => exact h.execDescriptorFetch
  | dmaElementComplete => exact h.execDmaElementComplete
  | dmaNoResponse => exact h.execDmaNoResponse
  | submitRelease => exact h.execSubmitRelease
  | heldPourWrite => exact (h.hostWrite (fun _ h => h.holdPour)).next
  | releaseHold => exact (h.hostCommand (fun _ h => h.releaseHold)).next
  | clearDmaCounts => exact (h.hostCommand (fun _ h => h.clearDmaCounts)).next
  | housekeepingSampleEnd => exact h.execHousekeepingSampleEnd
  | sequenceStart => exact (h.hostWrite (fun _ h => h.writeSequence)).next
  | sequenceStop => exact (h.hostWrite (fun _ h => h.writeSequence)).next
  | sequencePostDelayEnd => exact h.execSequencePostDelayEnd
  | injectedRequest => exact (h.hostWrite (fun _ h => h.inject)).next
  | injectedResultRead => exact (h.hostRead (fun _ h => h.readInjected)).next
  | clearHousekeepingCounts => exact (h.hostCommand (fun _ h => h.clearHkCounts)).next
  | housekeepingSelfCalibration => exact (h.hostCommand (fun _ h => h.askHkCal)).next
  | housekeepingCalibrationEnd => exact h.execHousekeepingCalibrationEnd
  | monitorPeriod => exact h.execMonitorPeriod
  | thermalComparatorTrip => exact h.execThermalComparatorTrip
  | acknowledgeQuench => exact (h.hostWrite (fun _ h => h.acknowledgeQuench)).next
  | reArmEnd => exact h.execReArmEnd
  | clearThermalCounts => exact (h.hostCommand (fun _ h => h.clearThermalCounts)).next
  | powerOn => exact h.assertReset.next
  | porstNPulse => exact h.execPorstNPulse
  | brownOut => exact h.execBrownOut
  | resetCommand => exact h.execResetCommand
  | sequencerWatchdog => exact h.assertReset.next
  | fuseRead => exact h.execFuseRead
  | pllLock => exact h.execPllLock
  | lfxiDetection => exact h.execLfxiDetection
  | shakeoutComplete => exact h.execShakeoutComplete
  | mramScan => exact h.execMramScan
  | startMouldPour => exact h.execStartMouldPour
  | startComplete => exact h.execStartComplete
  | holdRequest => exact (h.hostWrite (fun _ h => h.holdWrite)).next
  | holdEntered => exact h.execHoldEntered
  | holdExit => exact h.execHoldExit
  | sleepRequest => exact h.execSleepRequest
  | trig0Wake => exact h.execTrig0Wake
  | wakeComplete => exact h.execWakeComplete
  | fuseKeyWrite => exact (h.hostWrite (fun _ h => h.fuseKey)).next
  | blowRingWriteDisable => exact (h.hostWrite (fun _ h => h.blow)).next
  | blowTwoWireWriteDisable => exact (h.hostWrite (fun _ h => h.blow)).next
  | blowFactoryCalibrationLock => exact (h.hostCommand (fun _ h => h.blow)).next
  | lifeCycleKeyWrite => exact (h.hostWrite (fun _ h => h.lifeKey)).next
  | toReturn => exact (h.hostWrite (fun _ h => h.lifeCommand)).next
  | toScrap => exact (h.hostWrite (fun _ h => h.lifeCommand)).next
  | makerTestModeEntry => exact h.execMakerTestModeEntry
  | trstNAssert => exact h.tapInstr.next
  | extest => exact h.tapInstr.next
  | samplePreload => exact h.execSamplePreload
  | idcode => exact h.execIdcode
  | highz => exact h.tapInstr.next
  | clamp => exact h.tapInstr.next
  | bypass => exact h.tapInstr.next
  | timerCompareMatch => exact h.driveTimer.next
  | resetRelease => exact h.execResetRelease
  | wipeComplete => exact h.execWipeComplete
  | fuseBlowComplete => exact h.execFuseBlowComplete
  | makerTestModeExit => exact h.execMakerTestModeExit
  | twiRstNRelease => exact h.execTwiRstNRelease

theorem step : CanonOutcome (Sys2Proof.Machine.step s) := by
  unfold Sys2Proof.Machine.step
  split
  · exact h.tick
  · exact h.withPending.exec _

end State.Canon

/-- Settles O5: every operation keeps the form, so every command and the tick do. -/
theorem everyStepKeepsTheCanonicalForm : Obligations.EveryStepKeepsTheCanonicalForm := by
  intro s t hs ht
  have h := ((State.canonical_iff s).mp hs).step
  rw [ht] at h
  exact (State.canonical_iff t).mpr h

end Sys2Proof.Machine
end

section
/-!
PROOFS. One step: the command at the front of the queue, or one tick of 10 ns (O1, O2). What the timer operations leave
unchanged (R283 to R297), said once for each: a channel's operation changes that channel and its status object only.
-/
namespace Sys2Proof.Machine

/-- Settles O1: by the definition of a step. -/
theorem stepRunsTheFrontCommand : Obligations.StepRunsTheFrontCommand := by
  unfold Obligations.StepRunsTheFrontCommand
  intro c rest s h
  simp only [step, h]

/-! ### One timer channel -/

theorem State.onTimer_timer (s : State) (ch : Nat) (f : Timer → Timer) (c : Nat) :
    (s.onTimer ch f).timer c = if c = ch ∧ c < s.timing.timers.length then f (s.timer c) else s.timer c :=
  nth_modifyNth ..

theorem State.onTimer_timer_self {s : State} {ch : Nat} (h : ch < s.timing.timers.length) (f : Timer → Timer) :
    (s.onTimer ch f).timer ch = f (s.timer ch) := by
  simp [State.onTimer_timer, h]

/-- `t` is `s` but for timer channel `ch` and its status object. -/
structure State.ChannelOnly (ch : Nat) (s t : State) : Prop where
  others : ∀ c, c ≠ ch → t.timer c = s.timer c
  objects : sameObjects [0x500801 + ch] s t
  channels : t.timing.timers.length = s.timing.timers.length
  frame : t = { s with dict := t.dict, timing := { s.timing with timers := t.timing.timers } }

namespace State.ChannelOnly

variable {ch : Nat} {s t u : State}

theorem refl (ch : Nat) (s : State) : ChannelOnly ch s s := ⟨fun _ _ => rfl, sameObjects.refl _ _, rfl, rfl⟩

theorem trans (h1 : ChannelOnly ch s t) (h2 : ChannelOnly ch t u) : ChannelOnly ch s u where
  others c hc := (h2.others c hc).trans (h1.others c hc)
  objects := h1.objects.trans h2.objects (List.Subset.refl _) (List.Subset.refl _)
  channels := h2.channels.trans h1.channels
  frame := by rw [h2.frame, h1.frame]

theorem ite {c : Prop} [Decidable c] (ht : ChannelOnly ch s t) (hu : ChannelOnly ch s u) :
    ChannelOnly ch s (if c then t else u) := by
  split <;> assumption

theorem now (h : ChannelOnly ch s t) : t.now = s.now := by rw [h.frame]

theorem onTimer (h : ChannelOnly ch s t) {f : Timer → Timer} : ChannelOnly ch s (t.onTimer ch f) :=
  h.trans ⟨fun c hc => by simp [State.onTimer_timer, hc], sameObjects.refl _ _, length_modifyNth .., rfl⟩

theorem setTimerBit (h : ChannelOnly ch s t) {n : Nat} {b : Bool} : ChannelOnly ch s (t.setTimerBit ch n b) :=
  h.trans ⟨fun _ _ => rfl, sameObjects_wr _ _ _, rfl, rfl⟩

theorem driveTimer (h : ChannelOnly ch s t) : ChannelOnly ch s (t.driveTimer ch) := h.onTimer

theorem runLf (h : ChannelOnly ch s t) {pos : Nat} : ChannelOnly ch s (t.runLf pos ch) :=
  ite h.setTimerBit.setTimerBit.driveTimer
    (ite h.setTimerBit.setTimerBit.driveTimer h.onTimer.setTimerBit.setTimerBit.driveTimer)

theorem rescaleLf (h : ChannelOnly ch s t) : ChannelOnly ch s (t.rescaleLf ch) := h.runLf
theorem timerToLf (h : ChannelOnly ch s t) : ChannelOnly ch s (t.timerToLf ch) := h.onTimer.rescaleLf
theorem updateLf (h : ChannelOnly ch s t) : ChannelOnly ch s (t.updateLf ch) :=
  ite h.onTimer.runLf.setTimerBit h.onTimer.runLf

theorem tickLfTimer (h : ChannelOnly ch s t) : ChannelOnly ch s (t.tickLfTimer ch) :=
  ite h.updateLf (ite h.onTimer h)

theorem restartTimer (h : ChannelOnly ch s t) : ChannelOnly ch s (t.restartTimer ch) :=
  ite h.onTimer.rescaleLf h.onTimer.driveTimer

end State.ChannelOnly

/-! ### The eight channels -/

/-- `t` is `s` but for timer channels, of which channel `ch` and its status object are as in `s`. -/
structure State.AgreesAt (ch : Nat) (s t : State) : Prop where
  timer : t.timer ch = s.timer ch
  status : t.rd (0x500801 + ch) = s.rd (0x500801 + ch)
  channels : t.timing.timers.length = s.timing.timers.length
  frame : t = { s with dict := t.dict, timing := { s.timing with timers := t.timing.timers } }

theorem State.AgreesAt.trans {ch : Nat} {s t u : State} (h1 : s.AgreesAt ch t) (h2 : t.AgreesAt ch u) : s.AgreesAt ch u where
  timer := h2.timer.trans h1.timer
  status := h2.status.trans h1.status
  channels := h2.channels.trans h1.channels
  frame := by rw [h2.frame, h1.frame]

theorem State.ChannelOnly.agreesAt {c ch : Nat} {s t : State} (h : s.ChannelOnly c t) (hc : ch ≠ c) : s.AgreesAt ch t :=
  ⟨h.others ch hc, h.objects _ (by simpa using hc), h.channels, h.frame⟩

theorem State.AgreesAt.foldl {f : Nat → State → State} (hf : ∀ ch s, State.ChannelOnly ch s (f ch s)) {ch : Nat} {l : List Nat}
    (hl : ch ∉ l) (s : State) : s.AgreesAt ch (l.foldl (fun s ch => f ch s) s) := by
  induction l generalizing s with
  | nil => exact ⟨rfl, rfl, rfl, rfl⟩
  | cons c l ih =>
    obtain ⟨hc, hl⟩ : ch ≠ c ∧ ch ∉ l := by simpa using hl
    exact ((hf c s).agreesAt hc).trans (ih hl _)

/-- What is done to each of the eight channels reaches channel `ch` in a state that has that channel as before, and leaves it as
it then is. -/
theorem State.eachTimer_at {f : Nat → State → State} (hf : ∀ ch s, State.ChannelOnly ch s (f ch s)) {ch : Nat} (hch : ch < 8)
    (s : State) : ∃ u, s.AgreesAt ch u ∧ (f ch u).AgreesAt ch (s.eachTimer f) := by
  have hsplit : List.range 8 = List.range ch ++ ch :: (List.range (7 - ch)).map (ch + 1 + ·) := by
    interval_cases ch <;> rfl
  refine ⟨_, State.AgreesAt.foldl hf (l := List.range ch) (by simp) s, ?_⟩
  unfold State.eachTimer
  rw [hsplit, List.foldl_append, List.foldl_cons]
  exact State.AgreesAt.foldl hf (by simp; omega) _

/-- `t` is `s` but for the timer channels and their status objects. -/
def State.TimersOnly (s t : State) : Prop :=
  sameObjects (rangeFrom 0x500801 8) s t ∧
    t = { s with dict := t.dict, timing := { s.timing with timers := t.timing.timers } }

theorem State.TimersOnly.exists_eq {s t : State} (h : s.TimersOnly t) :
    ∃ d ts, t = { s with dict := d, timing := { s.timing with timers := ts } } := ⟨_, _, h.2⟩

theorem State.TimersOnly.trans {s t u : State} (h1 : s.TimersOnly t) (h2 : t.TimersOnly u) : s.TimersOnly u :=
  ⟨h1.1.trans h2.1 (List.Subset.refl _) (List.Subset.refl _), by rw [h2.2, h1.2]⟩

theorem State.ChannelOnly.timersOnly {ch : Nat} {s t : State} (h : s.ChannelOnly ch t) (hch : ch < 8) : s.TimersOnly t :=
  ⟨fun k hk => h.objects k fun hm => hk ((mem_rangeFrom ..).mpr (by simp at hm; omega)), h.frame⟩

/-- What changes one channel at a time changes timer channels and their status objects only. -/
theorem State.eachTimer_timersOnly {f : Nat → State → State} (hf : ∀ ch s, State.ChannelOnly ch s (f ch s)) (s : State) :
    s.TimersOnly (s.eachTimer f) := by
  have hfold : ∀ (l : List Nat), (∀ ch ∈ l, ch < 8) → ∀ s, State.TimersOnly s (l.foldl (fun s ch => f ch s) s) := by
    intro l hl
    induction l with
    | nil => exact fun s => ⟨sameObjects.refl _ _, rfl⟩
    | cons c l ih =>
      obtain ⟨hc, hl⟩ := List.forall_mem_cons.mp hl
      exact fun s => ((hf c s).timersOnly hc).trans (ih hl _)
  exact hfold _ (fun ch hch => List.mem_range.mp hch) s

/-! ### The tick -/

theorem State.releaseLevels_timersOnly (s : State) : s.TimersOnly s.releaseLevels :=
  State.eachTimer_timersOnly (fun ch s => .ite (State.ChannelOnly.refl ch s).driveTimer (.refl ch s)) s

theorem State.tickTimers_timersOnly (s : State) : s.TimersOnly s.tickTimers :=
  State.eachTimer_timersOnly (fun ch s =>
    .ite (State.ChannelOnly.refl ch s).onTimer.setTimerBit (State.ChannelOnly.refl ch s).onTimer) s

theorem State.tickLf_timersOnly (s : State) : s.TimersOnly s.tickLf := by
  unfold State.tickLf
  split
  · exact ⟨sameObjects.refl _ _, rfl⟩
  · exact State.eachTimer_timersOnly (fun ch s => (State.ChannelOnly.refl ch s).tickLfTimer) s

theorem State.tickClocks_timersOnly (s : State) : s.TimersOnly s.tickClocks := by
  refine State.TimersOnly.trans ?_ (State.releaseLevels_timersOnly _)
  split
  · exact s.tickTimers_timersOnly
  · exact s.tickLf_timersOnly

theorem State.tickRing_of_ins_nil {s : State} (h : s.ring.ins = []) :
    s.tickRing = { s with ring := if s.power.phase = .inReset then s.ring else s.ring.tick } := by
  have hi : s.ring.tick.ins = [] := by
    unfold Ring.tick
    dsimp only
    split <;> exact h
  unfold State.tickRing
  split
  · rfl
  · simp [State.drainIns, hi, State.onRing]

/-- With no header and no upload that waits for the write inhibit, the banks stay as they are (R157, R158). -/
theorem State.settleBanks_of_none {s : State} (h1 : s.corr.spoil = []) (h2 : s.corr.upload = none) : s.settleBanks = s := by
  unfold State.settleBanks
  split
  · rfl
  · have hs : (s.onCorr fun c => { c with spoil := [] }) = s := by
      rw [State.onCorr, ← h1]
    simp [h1, hs, State.settleUpload, h2]

theorem State.tickMonitor_of_not_due {s : State}
    (h : s.monitorOn = true → s.now < s.therm.scanAt ∧ s.now < s.therm.fillAt) : s.tickMonitor = s := by
  unfold State.tickMonitor
  split
  case isTrue hdue =>
    simp only [Bool.and_eq_true, Bool.or_eq_true, decide_eq_true_eq] at hdue
    obtain ⟨h1, h2⟩ := h hdue.1
    rcases hdue.2 with hscan | hfill
    · exact absurd hscan (Nat.not_le.mpr h1)
    · exact absurd hfill (Nat.not_le.mpr h2)
  case isFalse => rfl

theorem State.tickPower_of_none {s : State} (h1 : s.power.resetAt = none) (h2 : s.power.sleepAt = none) :
    s.tickPower = s := by
  simp [State.tickPower, h1, h2]

theorem State.tickHistory_frame (s : State) :
    s.tickHistory = { s with timing := { s.timing with hist := s.tickHistory.timing.hist } } := by
  unfold State.tickHistory
  split <;> rfl

/-- The state in which the clocks of a tick count: history, time and ring time have gone on. -/
def State.beforeClocks (s : State) : State :=
  { s with
    now := s.now + 570
    ring := if s.power.phase = .inReset then s.ring else s.ring.tick
    timing := { s.timing with hist := s.tickHistory.timing.hist } }

theorem State.tickRing_eq_beforeClocks {s : State} (h : s.ring.ins = []) : s.tickHistory.tickTime.tickRing = s.beforeClocks := by
  rw [State.tickRing_of_ins_nil (by rw [s.tickHistory_frame]; exact h), s.tickHistory_frame]
  rfl

/-- With nothing that waits for the monitor, the banks or the power control, a tick is the clocks and the heads that wait. -/
theorem State.tick_eq {s : State} (hreset : s.power.resetAt = none) (hsleep : s.power.sleepAt = none) (hins : s.ring.ins = [])
    (hspoil : s.corr.spoil = []) (hup : s.corr.upload = none)
    (hmon : s.monitorOn = true → s.now + 570 < s.therm.scanAt ∧ s.now + 570 < s.therm.fillAt) :
    s.tick = s.beforeClocks.tickClocks.watchHeads := by
  have hclocks := s.beforeClocks.tickClocks_timersOnly
  unfold State.tick
  rw [State.tickRing_eq_beforeClocks hins]
  generalize s.beforeClocks.tickClocks = u at hclocks ⊢
  have hrd : u.rd 0x600102 = s.rd 0x600102 := hclocks.1 _ (by simp [mem_rangeFrom])
  obtain ⟨d, ts, rfl⟩ := hclocks.exists_eq
  rw [State.tickMonitor_of_not_due, State.settleBanks_of_none, State.tickPower_of_none]
  · exact hreset
  · exact hsleep
  · exact hspoil
  · exact hup
  · intro hon
    refine hmon ?_
    rw [State.monitorOn, hrd] at hon
    exact hon

/-- Settles O2: the tick is the history, the time, the ring, the clocks and the head entries that wait for credit. -/
theorem emptyQueueStepIsOneTick : Obligations.EmptyQueueStepIsOneTick := by
  unfold Obligations.EmptyQueueStepIsOneTick
  intro s hp hreset hsleep hins hspoil hup hmon
  have hstep : step s = .next s.beforeClocks.tickClocks.watchHeads := by
    simp only [step, hp, State.tick_eq hreset hsleep hins hspoil hup hmon]
  have hclocks := s.beforeClocks.tickClocks_timersOnly
  generalize s.beforeClocks.tickClocks = u at hstep hclocks
  have hobjects := hclocks.1
  obtain ⟨d, ts, rfl⟩ := hclocks.exists_eq
  refine ⟨_, hstep, rfl, rfl, fun hclk => ?_, hobjects, rfl, rfl, rfl⟩
  have hhist : s.tickHistory.timing.hist = ((s.ring.nanos, s.position, s.rd 0x520004) :: s.timing.hist).take 31 := by
    simp [State.tickHistory, hclk, State.ringTime]
  exact hhist

end Sys2Proof.Machine
end

section
/-!
PROOFS. The commands of the timers (R284 to R297): a channel's command acts on its channel alone, a restart on the channels of
its mask (O25 to O27).
-/
namespace Sys2Proof.Machine

/-! ### One channel's own operations -/

/-- Driving the output changes the level, its polarity, its instant and the mark only (R289). -/
theorem Timer.drive_frame (now : Instant) (b : Bool) (t : Timer) :
    t.drive now b = { t with level := (t.drive now b).level, pol := (t.drive now b).pol, since := (t.drive now b).since,
                             pend := (t.drive now b).pend } := by
  unfold Timer.drive
  dsimp only
  split
  · rfl
  · split <;> rfl

section drive
variable (now : Instant) (b : Bool) (t : Timer)

@[simp] theorem Timer.drive_mode : (t.drive now b).mode = t.mode := by rw [Timer.drive_frame]
@[simp] theorem Timer.drive_pos : (t.drive now b).pos = t.pos := by rw [Timer.drive_frame]
@[simp] theorem Timer.drive_per : (t.drive now b).per = t.per := by rw [Timer.drive_frame]
@[simp] theorem Timer.drive_cmp : (t.drive now b).cmp = t.cmp := by rw [Timer.drive_frame]
@[simp] theorem Timer.drive_upd : (t.drive now b).upd = t.upd := by rw [Timer.drive_frame]
@[simp] theorem Timer.drive_lfPos : (t.drive now b).lfPos = t.lfPos := by rw [Timer.drive_frame]
@[simp] theorem Timer.drive_lfPer : (t.drive now b).lfPer = t.lfPer := by rw [Timer.drive_frame]
@[simp] theorem Timer.drive_value : (t.drive now b).value = t.value := by rw [Timer.drive_frame]; rfl

end drive

/-- What the shadow values become, and what stays (R286). -/
theorem Timer.load_frame (t : Timer) :
    t.load = { t with per := t.shPer, cmp := t.shCmp, upd := false, stopCount := t.load.stopCount,
                      stopDown := t.load.stopDown, stopLevel := t.load.stopLevel } := by
  unfold Timer.load
  dsimp only
  split <;> rfl

@[simp] theorem Timer.load_mode (t : Timer) : t.load.mode = t.mode := by rw [Timer.load_frame]
@[simp] theorem Timer.load_pos (t : Timer) : t.load.pos = t.pos := by rw [Timer.load_frame]
@[simp] theorem Timer.load_per (t : Timer) : t.load.per = t.shPer := by rw [Timer.load_frame]
@[simp] theorem Timer.load_cmp (t : Timer) : t.load.cmp = t.shCmp := by rw [Timer.load_frame]
@[simp] theorem Timer.load_upd (t : Timer) : t.load.upd = false := by rw [Timer.load_frame]
@[simp] theorem Timer.load_cycles (t : Timer) : t.load.cycles = t.cycles := by simp [Timer.cycles]

theorem Timer.cycles_iff (t : Timer) : t.cycles = true ↔ t.mode = 1 ∨ t.mode = 2 := by simp [Timer.cycles]

/-- At a valley the count stays 0 with the shadow period (R287). -/
theorem Timer.load_value_of_valley {t : Timer} (hc : t.cycles = true) (hper : t.per ≠ 0) (hpos : t.pos = 0) :
    t.load.value = 0 := by
  have h0 : ∀ per, cycleCount per 0 = 0 := by
    intro per
    unfold cycleCount
    split <;> omega
  by_cases hs : t.shPer = 0
  · have hstop : t.load.stopCount = t.value := by simp [Timer.load, hs]
    simp [Timer.value, hc, hs, hstop, hper, hpos, h0]
  · simp [Timer.value, hc, hs, hpos, h0]

theorem State.driveTimer_timer {s : State} {ch : Nat} (h : ch < s.timing.timers.length) :
    (s.driveTimer ch).timer ch = (s.timer ch).drive s.now (s.targetLevel ch) := State.onTimer_timer_self h _

/-! ### Status bits (R311) -/

theorem State.timerBit_setTimerBit (s : State) (ch n : Nat) (b : Bool) (m : Nat) :
    (s.setTimerBit ch n b).timerBit ch m = if m = n then b else s.timerBit ch m := by
  unfold State.setTimerBit State.timerBit bitAt
  rw [State.rd_wr, if_pos rfl]
  cases b <;> by_cases h : m = n <;> simp [testBit_setBit, testBit_clearBit, h]

@[simp] theorem State.timerBit_onTimer (s : State) (c : Nat) (f : Timer → Timer) (ch n : Nat) :
    (s.onTimer c f).timerBit ch n = s.timerBit ch n := rfl

@[simp] theorem State.timerBit_driveTimer (s : State) (c ch n : Nat) : (s.driveTimer c).timerBit ch n = s.timerBit ch n := rfl

/-- A channel in a cycle runs on the LF clock, or is suspended where its period rounds to no LF tick (R296). -/
theorem State.runLf_bits {s : State} {ch : Nat} (h : (s.timer ch).cycles = true) (pos : Nat) :
    (s.runLf pos ch).timerBit ch 2 = (toLf (s.timer ch).per != 0) ∧
      (s.runLf pos ch).timerBit ch 3 = (toLf (s.timer ch).per == 0) := by
  unfold State.runLf
  by_cases hp : toLf (s.timer ch).per = 0 <;> simp [h, hp, State.timerBit_setTimerBit]

@[simp] theorem State.timer_setTimerBit (s : State) (c n : Nat) (b : Bool) (ch : Nat) :
    (s.setTimerBit c n b).timer ch = s.timer ch := rfl

/-- On the LF clock a channel keeps its state but for its output; one that runs there has its position given and its period in LF
ticks (R296). -/
theorem State.runLf_timer {s : State} {ch : Nat} (hch : ch < s.timing.timers.length) (pos : Nat) :
    ∃ b, (s.runLf pos ch).timer ch =
      (if (s.timer ch).cycles = true ∧ toLf (s.timer ch).per ≠ 0 then
        { s.timer ch with lfPer := toLf (s.timer ch).per, lfCmp := min (toLf (s.timer ch).cmp) (toLf (s.timer ch).per),
                          lfPos := pos }
      else s.timer ch).drive s.now b := by
  unfold State.runLf
  dsimp only
  by_cases hrun : (s.timer ch).cycles = true ∧ toLf (s.timer ch).per ≠ 0
  · rw [if_pos hrun, if_neg (by simp [hrun.1]), if_neg hrun.2]
    exact ⟨_, (State.driveTimer_timer
      ((State.ChannelOnly.refl ch s).onTimer.setTimerBit.setTimerBit.channels ▸ hch)).trans
      (congrArg _ (State.onTimer_timer_self hch _))⟩
  · rw [if_neg hrun]
    split
    · exact ⟨_, State.driveTimer_timer hch⟩
    · rename_i hc
      rw [if_pos (not_not.mp fun hp => hrun ⟨by simpa using hc, hp⟩)]
      exact ⟨_, State.driveTimer_timer hch⟩

theorem State.onTimer_driveTimer_timer {s : State} {ch : Nat} (h : ch < s.timing.timers.length) (f : Timer → Timer) :
    ∃ b, ((s.onTimer ch f).driveTimer ch).timer ch = (f (s.timer ch)).drive s.now b :=
  ⟨_, (State.driveTimer_timer ((State.ChannelOnly.refl ch s).onTimer.channels ▸ h)).trans
    (congrArg _ (State.onTimer_timer_self h f))⟩

/-! ### The commands of one channel (R284 to R293) -/

/-- Settles O25: each command is one operation of its channel. -/
theorem timerCommandsActOnTheirChannelAlone : Obligations.TimerCommandsActOnTheirChannelAlone := by
  unfold Obligations.TimerCommandsActOnTheirChannelAlone
  intro ch s hch
  have hown {t : State} (f : Timer → Timer) (ht : t = (s.onTimer ch f).driveTimer ch) :
      (∀ c, c ≠ ch → t.timer c = s.timer c) ∧ t = { s with timing := { s.timing with timers := t.timing.timers } } := by
    subst ht
    exact ⟨(State.ChannelOnly.refl ch s).onTimer.driveTimer.others, rfl⟩
  refine ⟨fun hbit hmode hper hpos hclk => ?_, fun hbit hmode hpos => ?_, ?_, fun hmode hrun hwin hdel hpul htx => ?_,
    fun hmode hpul hend => ?_⟩
  case refine_1 =>
    have hc := (s.timer ch).cycles_iff.mpr hmode
    have hexec : exec (.timerValley ch) s = .next ((s.onTimer ch Timer.load).driveTimer ch) := by
      simp [exec, execTimerValley, hbit, hc, hper, hpos, hclk]
    obtain ⟨b, ht⟩ := State.onTimer_driveTimer_timer hch Timer.load
    refine ⟨_, hexec, ?_, ?_, ?_, ?_, ?_, hown _ rfl⟩
    all_goals rw [ht]
    all_goals simp [Timer.load_value_of_valley hc hper hpos]
  case refine_2 =>
    have hc := (s.timer ch).cycles_iff.mpr hmode
    have hexec : exec (.timerValley ch) s = .next ((s.onTimer ch Timer.load).runLf 0 ch) := by
      simp [exec, execTimerValley, hbit, hpos]
    have honly : s.ChannelOnly ch ((s.onTimer ch Timer.load).runLf 0 ch) := (State.ChannelOnly.refl ch s).onTimer.runLf
    have hload := State.onTimer_timer_self hch Timer.load
    obtain ⟨b, ht⟩ := State.runLf_timer (s := s.onTimer ch Timer.load) (ch := ch) (by simpa [State.onTimer] using hch) 0
    obtain ⟨h2, h3⟩ := State.runLf_bits (s := s.onTimer ch Timer.load) (ch := ch) (by simp [hload, hc]) 0
    rw [hload] at ht h2 h3
    simp only [Timer.load_per] at ht h2 h3
    refine ⟨_, hexec, ?_, ?_, h3, h2, fun hb => ?_, honly.others, honly.objects, honly.frame⟩
    · rw [ht]; split <;> simp
    · rw [ht]; split <;> simp
    · have hp : toLf (s.timer ch).shPer ≠ 0 := by simpa [hb] using h2
      have hpos' : 0 < toLf (s.timer ch).shPer := Nat.pos_of_ne_zero hp
      simp [State.timerCount, hb, ht, hc, hp, cycleCount, hpos']
  case refine_3 =>
    refine ⟨s.driveTimer ch, rfl, ⟨(State.ChannelOnly.refl ch s).driveTimer.others, rfl⟩, ?_⟩
    rw [State.driveTimer_timer hch]
    simp only [Timer.drive, eq_comm (a := (s.timer ch).level != (s.timer ch).pol)]
    rfl
  case refine_4 =>
    have hexec : exec (.strobePulseStart ch) s =
        .next ((s.onTimer ch fun t => { t with pulse := true }).driveTimer ch) := by
      exact if_pos ⟨hmode, hrun, hwin, hdel, by simp [hpul], htx⟩
    obtain ⟨b, ht⟩ := State.onTimer_driveTimer_timer hch fun t => { t with pulse := true }
    refine ⟨_, hexec, ?_, ?_, hown _ rfl⟩
    all_goals rw [ht]
    all_goals simp [hrun]
  case refine_5 =>
    have hexec : exec (.strobePulseEnd ch) s =
        .next ((s.onTimer ch fun t => { t with pulse := false, running := false }).driveTimer ch) := by
      exact if_pos ⟨hmode, hpul, hend⟩
    obtain ⟨b, ht⟩ := State.onTimer_driveTimer_timer hch fun t => { t with pulse := false, running := false }
    refine ⟨_, hexec, ?_, ?_, hown _ rfl⟩
    all_goals rw [ht]
    all_goals simp

/-! ### Restart (R290, R309) -/

/-- A restart makes the shadow values active at the phase position. -/
theorem Timer.restart_values (t : Timer) : t.restart.per = t.shPer ∧ t.restart.cmp = t.shCmp ∧ t.restart.mode = t.mode ∧
    t.restart.pos = if t.shPer = 0 then 0 else t.phase % (2 * t.shPer) := by
  unfold Timer.restart
  split <;> simp

theorem State.restartTimer_of_lf {s : State} {ch : Nat} (h : s.timing.lfOn = true) :
    s.restartTimer ch = (s.onTimer ch Timer.restart).rescaleLf ch := if_pos h

theorem State.restartTimer_of_not_lf {s : State} {ch : Nat} (h : ¬s.timing.lfOn = true) :
    s.restartTimer ch = (s.onTimer ch Timer.restart).driveTimer ch := if_neg h

/-- A channel that restarts takes its shadow values and its phase position, and on the LF clock its period in LF ticks. -/
theorem State.restartTimer_values {s : State} {ch : Nat} (hch : ch < s.timing.timers.length)
    (hc : (s.timer ch).cycles = true) :
    ((s.restartTimer ch).timer ch).per = (s.timer ch).shPer ∧ ((s.restartTimer ch).timer ch).cmp = (s.timer ch).shCmp ∧
      ((s.restartTimer ch).timer ch).pos =
        (if (s.timer ch).shPer = 0 then 0 else (s.timer ch).phase % (2 * (s.timer ch).shPer)) ∧
      (s.timing.lfOn = true → toLf (s.timer ch).shPer ≠ 0 →
        ((s.restartTimer ch).timer ch).lfPer = toLf (s.timer ch).shPer ∧ (s.restartTimer ch).timerBit ch 2 = true) := by
  obtain ⟨hper, hcmp, hmode, hpos⟩ := (s.timer ch).restart_values
  have hself := State.onTimer_timer_self hch Timer.restart
  have hch' : ch < (s.onTimer ch Timer.restart).timing.timers.length := by simpa [State.onTimer] using hch
  by_cases hlf : s.timing.lfOn = true
  · rw [State.restartTimer_of_lf hlf, State.rescaleLf]
    generalize rescale _ _ _ _ = pos
    have hc' : ((s.onTimer ch Timer.restart).timer ch).cycles = true := by
      simpa [hself, Timer.cycles, hmode] using hc
    obtain ⟨b, ht⟩ := State.runLf_timer hch' pos
    obtain ⟨h2, -⟩ := State.runLf_bits hc' pos
    rw [hself] at ht h2
    rw [ht, h2, hper]
    refine ⟨?_, ?_, ?_, fun _ hne => ?_⟩
    · split <;> simp [hper]
    · split <;> simp [hcmp]
    · split <;> simp [hpos]
    · simp [hself ▸ hc', hne]
  · rw [State.restartTimer_of_not_lf hlf, State.driveTimer_timer hch', hself]
    simp [hper, hcmp, hpos, hlf]

/-- Restarting changes channels one at a time. -/
theorem State.restartTimers_step (v ch : Nat) (s : State) :
    s.ChannelOnly ch (if bitAt v ch ∧ (s.timer ch).cycles then s.restartTimer ch else s) :=
  .ite (State.ChannelOnly.refl ch s).restartTimer (.refl ch s)

/-- On the 100 MHz clock a restart changes no object. -/
theorem State.restartTimers_dict (v : Nat) {s : State} (h : s.timing.lfOn = false) : (s.restartTimers v).dict = s.dict := by
  refine (List.foldlRecOn (motive := fun t : State => t.dict = s.dict ∧ t.timing.lfOn = false) _ _ ⟨rfl, h⟩ ?_).1
  intro t ht ch _
  dsimp only
  split
  · simpa [State.restartTimer, ht.2, State.driveTimer, State.onTimer] using ht
  · exact ht

/-- An admitted restart is that of the channels of its mask, counted. -/
theorem State.restartTimers_objects (v : Nat) (s : State) :
    sameObjects (if s.timing.lfOn = true then rangeFrom 0x500801 8 else []) s (s.restartTimers v) := by
  split
  · exact (State.eachTimer_timersOnly (State.restartTimers_step v) s).1
  · next h => exact (sameObjects.refl _ _).of_dict (State.restartTimers_dict v (by simpa using h))

/-! ### The capture prescalers (R300, R312) -/

theorem State.onCapture_capture (s : State) (ch : Nat) (f : Capture → Capture) (c : Nat) :
    (s.onCapture ch f).capture c = if c = ch ∧ c < s.timing.captures.length then f (s.capture c) else s.capture c :=
  nth_modifyNth ..

@[simp] theorem State.onCapture_rd (s : State) (ch : Nat) (f : Capture → Capture) (k : Nat) :
    (s.onCapture ch f).rd k = s.rd k := rfl

/-- One channel's prescaler returns to 0 where the mask names it. -/
def State.resetPrescaler (v ch : Nat) (s : State) : State :=
  if bitAt v ch then s.onCapture ch fun c => { c with pre := 0 } else s

/-- A channel that does not exist reads as its initial state, whose prescaler is 0. -/
theorem State.resetPrescaler_capture (v ch c : Nat) (s : State) :
    (s.resetPrescaler v ch).capture c =
      if c = ch ∧ v.testBit ch = true then { s.capture c with pre := 0 } else s.capture c := by
  unfold State.resetPrescaler bitAt
  by_cases hv : v.testBit ch = true
  · rw [if_pos hv, State.onCapture_capture]
    by_cases hc : c < s.timing.captures.length
    · simp [hv, hc]
    · have h0 : s.capture c = ⟨0, false, []⟩ := by simp [State.capture, nth, Nat.not_lt.mp hc]
      simp [h0]
  · simp [hv]

/-- `t` is `s` but for the capture channels. -/
def State.CapturesOnly (s t : State) : Prop := t = { s with timing := { s.timing with captures := t.timing.captures } }

theorem State.CapturesOnly.trans {s t u : State} (h1 : s.CapturesOnly t) (h2 : t.CapturesOnly u) : s.CapturesOnly u := by
  unfold State.CapturesOnly at *
  rw [h2, h1]

theorem State.resetPrescaler_only (v ch : Nat) (s : State) : s.CapturesOnly (s.resetPrescaler v ch) := by
  unfold State.resetPrescaler
  split <;> rfl

/-- The prescalers of the mask return to 0, those of the others stay. -/
theorem State.resetPrescalers_values (v : Nat) (s : State) :
    s.CapturesOnly (s.resetPrescalers v) ∧ ∀ ch < 4, (s.resetPrescalers v).capture ch =
      if v.testBit ch = true then { s.capture ch with pre := 0 } else s.capture ch := by
  have hfold : s.resetPrescalers v =
      (((s.resetPrescaler v 0).resetPrescaler v 1).resetPrescaler v 2).resetPrescaler v 3 := rfl
  rw [hfold]
  constructor
  · exact (((s.resetPrescaler_only v 0).trans (State.resetPrescaler_only v 1 _)).trans
      (State.resetPrescaler_only v 2 _)).trans (State.resetPrescaler_only v 3 _)
  · intro ch hch
    interval_cases ch <;> simp [State.resetPrescaler_capture]

/-! ### The commands of a mask, and the clock switch (O26, O27) -/

theorem State.onServe_shape (s : State) (tr : Transport) :
    ∃ d, s.onServe tr = { s with dict := d, answer := ⟨0, 0, [], false⟩ } := ⟨_, State.onServe_frame s tr⟩

theorem State.counted1_shape (s : State) (tr : Transport) (key : Nat) : ∃ d, s.counted1 tr key = { s with dict := d } :=
  ⟨_, State.counted1_frame s tr key⟩

/-- The channels of the mask that count in mode 1 or 2 restart, the others stay (R290). -/
def State.Restarted (v : Nat) (s t : State) : Prop :=
  ∀ ch < 8, if v.testBit ch = true ∧ ((s.timer ch).mode = 1 ∨ (s.timer ch).mode = 2) then
      (t.timer ch).per = (s.timer ch).shPer ∧ (t.timer ch).cmp = (s.timer ch).shCmp ∧
      (t.timer ch).pos = (if (s.timer ch).shPer = 0 then 0 else (s.timer ch).phase % (2 * (s.timer ch).shPer)) ∧
      (s.timing.lfOn = true → toLf (s.timer ch).shPer ≠ 0 → (t.timer ch).lfPer = toLf (s.timer ch).shPer ∧
        t.timerBit ch 2 = true)
    else t.timer ch = s.timer ch

theorem State.restartTimers_restarted (v : Nat) {s : State} (hlen : s.timing.timers.length = 8) :
    s.Restarted v (s.restartTimers v) := by
  intro ch hch
  obtain ⟨u, hu, ht⟩ := State.eachTimer_at (State.restartTimers_step v) hch s
  have hbit : (s.restartTimers v).timerBit ch 2 = bitAt _ 2 := congrArg (bitAt · 2) ht.status
  have htimer : (s.restartTimers v).timer ch = _ := ht.timer
  have hlf : u.timing.lfOn = s.timing.lfOn := by rw [hu.frame]
  have hcyc : (s.timer ch).cycles = true ↔ _ := (s.timer ch).cycles_iff
  rw [hbit, htimer]
  split
  · next h =>
    have hr : bitAt v ch = true ∧ (u.timer ch).cycles = true := by rw [hu.timer]; exact ⟨h.1, hcyc.mpr h.2⟩
    have hval := State.restartTimer_values (hu.channels ▸ hlen ▸ hch) hr.2
    rw [hu.timer, hlf] at hval
    rw [if_pos hr]
    exact hval
  · next h =>
    rw [if_neg (by rw [hu.timer]; exact fun hr => h ⟨hr.1, hcyc.mp hr.2⟩), hu.timer]

/-- Settles O26: a write counts, and its effect is that of the channels of its mask. -/
theorem restartAndPrescalerResetActOnTheirMask : Obligations.RestartAndPrescalerResetActOnTheirMask := by
  unfold Obligations.RestartAndPrescalerResetActOnTheirMask
  refine ⟨fun tr v s hlen h => ?_, fun tr v s h => ?_⟩
  · have hk : (⟨tr, 0x500901, 1, v⟩ : Txn).key ≠ 0x102009 := by simp
    have hrd (k) := State.rd_hostWrite h hk (State.restartTimers v) (j := k)
    have hsame := State.hostWrite_same h hk (State.restartTimers v) (State.restartTimers_objects v (s.onServe tr))
    obtain ⟨d0, hu⟩ := s.onServe_shape tr
    obtain ⟨d1, ts, he⟩ : ∃ d ts, (s.onServe tr).restartTimers v =
        { s.onServe tr with dict := d, timing := { (s.onServe tr).timing with timers := ts } } :=
      (State.eachTimer_timersOnly (State.restartTimers_step v) (s.onServe tr)).exists_eq
    obtain ⟨d2, hc⟩ := State.counted1_shape ((s.onServe tr).restartTimers v) tr 0x500901
    have heq : s.hostWrite ⟨tr, 0x500901, 1, v⟩ (State.restartTimers v) =
        { s with dict := d2, answer := ⟨0, 0, [], false⟩, timing := { s.timing with timers := ts } } := by
      rw [State.hostWrite_eq_counted1 h hk, hc, he, hu]
    have hres : State.Restarted v (s.onServe tr) ((s.onServe tr).restartTimers v) :=
      State.restartTimers_restarted v (by rw [hu]; exact hlen)
    have hlf : (s.onServe tr).timing.lfOn = s.timing.lfOn := by rw [hu]
    rw [hlf] at hsame
    refine ⟨_, rfl, by rw [heq], fun ch hch => ?_, hsame, by rw [heq]⟩
    have hown := hres ch hch
    have hfrom : (s.onServe tr).timer ch = s.timer ch := by rw [hu]; rfl
    have hto : (s.hostWrite ⟨tr, 0x500901, 1, v⟩ (State.restartTimers v)).timer ch =
        ((s.onServe tr).restartTimers v).timer ch := by
      rw [State.hostWrite_eq_counted1 h hk, hc]; rfl
    have hbit : (s.hostWrite ⟨tr, 0x500901, 1, v⟩ (State.restartTimers v)).timerBit ch 2 =
        ((s.onServe tr).restartTimers v).timerBit ch 2 := congrArg (bitAt · 2) (hrd _ (by omega) (by omega))
    simp only [hfrom, hlf] at hown
    rw [hto, hbit]
    exact hown
  · have hk : (⟨tr, 0x510C01, 1, v⟩ : Txn).key ≠ 0x102009 := by simp
    obtain ⟨hcap, hval⟩ := State.resetPrescalers_values v (s.onServe tr)
    obtain ⟨d0, hu⟩ := s.onServe_shape tr
    obtain ⟨cs, he⟩ : ∃ cs, (s.onServe tr).resetPrescalers v = (s.onServe tr).onTiming fun x => { x with captures := cs } :=
      ⟨_, hcap⟩
    obtain ⟨d2, hc⟩ := State.counted1_shape ((s.onServe tr).resetPrescalers v) tr 0x510C01
    have hdict : ((s.onServe tr).resetPrescalers v).dict = (s.onServe tr).dict := by rw [he]; rfl
    have heq : s.hostWrite ⟨tr, 0x510C01, 1, v⟩ (State.resetPrescalers v) =
        { s with dict := d2, answer := ⟨0, 0, [], false⟩, timing := { s.timing with captures := cs } } := by
      rw [State.hostWrite_eq_counted1 h hk, hc, he, hu]
      rfl
    refine ⟨_, rfl, by rw [heq], fun ch hch => ?_,
      State.hostWrite_same h hk (ks := []) _ ((sameObjects.refl _ _).of_dict hdict), by rw [heq]⟩
    have hto : (s.hostWrite ⟨tr, 0x510C01, 1, v⟩ (State.resetPrescalers v)).capture ch =
        ((s.onServe tr).resetPrescalers v).capture ch := by
      rw [State.hostWrite_eq_counted1 h hk, hc]; rfl
    have hfrom : (s.onServe tr).capture ch = s.capture ch := by rw [hu]; rfl
    rw [hto, hval ch hch, hfrom]

/-- Settles O27: the first LF tick after the stop is the one that the command waits for (R296). -/
theorem timersMoveToTheLfClock : Obligations.TimersMoveToTheLfClock := by
  unfold Obligations.TimersMoveToTheLfClock
  intro s hclk hdriven
  refine ⟨fun hbefore => if_neg ?_, fun hafter hlf => ?_⟩
  · simp only [lfTicks, Nat.div_eq_of_lt hbefore]
    simp
  · obtain ⟨hsame, hframe⟩ := State.eachTimer_timersOnly (fun ch s => (State.ChannelOnly.refl ch s).timerToLf) s
    generalize hu : s.eachTimer State.timerToLf = u at hsame hframe
    have hexec : exec .lfClockSwitch s = .next
        ((u.onTiming fun t => { t with lfOn := true }).wr 0x501101 (if u.rd 0x501102 = 1 then 1 else 2)) := by
      refine (if_pos ⟨by simp [hclk], by simp [hlf], hdriven, ?_⟩).trans (by rw [hu]; rfl)
      exact (Nat.one_le_div_iff (by decide)).mpr hafter
    have hmode : u.rd 0x501102 = s.rd 0x501102 := hsame _ (by decide)
    refine ⟨_, hexec, rfl, ?_, ?_, ?_⟩
    · rw [State.rd_wr, if_pos rfl, hmode]
    · exact hsame.trans (sameObjects_wr (u.onTiming fun t => { t with lfOn := true }) _ _) (by simp) (by simp)
    · obtain ⟨d, ts, rfl⟩ : ∃ d ts, u = { s with dict := d, timing := { s.timing with timers := ts } } := ⟨_, _, hframe⟩
      rfl

end Sys2Proof.Machine
end

section
/-!
PROOFS. Capture channels and the quadrature counter (R298 to R308): an edge of a capture input, an edge of the encoder, and the
reads and the preset of their objects (O20 to O24).
-/
namespace Sys2Proof.Machine

/-! ### Captures (R298 to R301) -/

theorem State.onCapture_capture_self {s : State} {ch : Nat} (h : ch < s.timing.captures.length) (f : Capture → Capture) :
    (s.onCapture ch f).capture ch = f (s.capture ch) := by
  simp [State.onCapture_capture, h]

theorem State.onCapture_capture_ne {s : State} {ch c : Nat} (h : c ≠ ch) (f : Capture → Capture) :
    (s.onCapture ch f).capture c = s.capture c := by
  simp [State.onCapture_capture, h]

@[simp] theorem State.onCapture_channels (s : State) (ch : Nat) (f : Capture → Capture) :
    (s.onCapture ch f).timing.captures.length = s.timing.captures.length := length_modifyNth ..

@[simp] theorem State.seePin_rd (s : State) (input : Nat) (level : Bool) (k : Nat) : (s.seePin input level).rd k = s.rd k := rfl

/-- The chosen sense, as object 0x5102 gives it (R298). -/
theorem captureSense_of_chosen {edge : Nat} {level : Bool} (h : edge = 2 ∨ edge = if level then 0 else 1) :
    captureSense edge level = true := by
  rcases h with rfl | rfl
  · rfl
  · cases level <;> rfl

/-- No pour source listens to the capture channels (R62, R85). -/
theorem State.sourceEvent_of_deaf {s : State} (harea : s.rd 0x210001 = 0) (hsrc : s.rd 0x210002 ≠ 2) (n : Nat) (t : Instant) :
    s.sourceEvent 2 n t = s := by
  simp [State.sourceEvent, harea, hsrc]

/-- In mode 1 an event joins the queue of four, or is lost and counted (R301). -/
theorem State.captureEvent_of_queue {s : State} {ch : Nat} {level : Bool} (hmode : s.rd (0x510101 + ch) = 1)
    (harea : s.rd 0x210001 = 0) (hsrc : s.rd 0x210002 ≠ 2) :
    s.captureEvent ch level =
      if 4 ≤ (s.capture ch).queue.length then (s.inc (0x510701 + ch)).inc (0x510801 + ch)
      else (s.inc (0x510701 + ch)).onCapture ch fun c =>
        { c with queue := c.queue ++ [captureEntry (s.edgeStamp (s.rd (0x510301 + ch))) level] } := by
  have hfilter : s.captureFilter ch = s.rd (0x510301 + ch) := if_neg (by omega)
  have hnot2 : ¬(s.inc (0x510701 + ch)).rd (0x510101 + ch) = 2 := by
    rw [State.rd_inc, if_neg (by omega)]; omega
  have hdeaf (u : State) (hu : ∀ k, k < 0x510701 → u.rd k = s.rd k) : u.sourceEvent 2 ch u.now = u :=
    State.sourceEvent_of_deaf ((hu _ (by omega)).trans harea) (by rw [hu _ (by omega)]; exact hsrc) _ _
  have hsame : (s.inc (0x510701 + ch)).capture ch = s.capture ch := rfl
  unfold State.captureEvent
  simp only [hfilter, if_neg hnot2, hsame]
  by_cases hfull : 4 ≤ (s.capture ch).queue.length
  · simp only [if_pos hfull]
    exact hdeaf _ fun k hk => by simp only [State.rd_inc]; rw [if_neg (by omega), if_neg (by omega)]
  · simp only [if_neg hfull]
    exact hdeaf _ fun k hk => by rw [State.onCapture_rd, State.rd_inc, if_neg (by omega)]

/-- Channel `ch` has taken the new level of its input, with this prescaler (R299, R300). -/
def State.edgeTaken (s : State) (ch : Nat) (level : Bool) (pre : Nat) : State :=
  (s.seePin (s.rd (0x510001 + ch)) level).onCapture ch fun c => { c with level := level, pre := pre }

section edgeTaken
variable (s : State) (ch : Nat) (level : Bool) (pre : Nat)

@[simp] theorem State.edgeTaken_rd (k : Nat) : (s.edgeTaken ch level pre).rd k = s.rd k := rfl

theorem State.edgeTaken_capture_self (h : ch < s.timing.captures.length) :
    (s.edgeTaken ch level pre).capture ch = { s.capture ch with level := level, pre := pre } :=
  State.onCapture_capture_self (s := s.seePin (s.rd (0x510001 + ch)) level) h _

theorem State.edgeTaken_capture_ne {c : Nat} (h : c ≠ ch) : (s.edgeTaken ch level pre).capture c = s.capture c :=
  State.onCapture_capture_ne (s := s.seePin (s.rd (0x510001 + ch)) level) h _

theorem State.edgeTaken_eq (p : Nat) :
    ((s.seePin (s.rd (0x510001 + ch)) level).onCapture ch fun c => { c with level := level }).onCapture ch
      (fun c => { c with pre := p }) = s.edgeTaken ch level p := by
  simp only [State.edgeTaken, State.onCapture, State.onTiming, modifyNth_modifyNth]

end edgeTaken

/-- An accepted edge of the chosen sense in mode 1: the prescaler counts it, or it makes an event (R300). -/
theorem State.captureInputEdge_of_edge {s : State} {ch : Nat} {level : Bool} (hch : ch < s.timing.captures.length)
    (hclk : s.timing.clk100 = true) (hnew : (s.capture ch).level ≠ level) (hmode : s.rd (0x510101 + ch) = 1)
    (hsense : captureSense (s.rd (0x510201 + ch)) level = true) :
    exec (.captureInputEdge ch level) s =
      if s.rd (0x510401 + ch) ≤ (s.capture ch).pre + 1 then .next ((s.edgeTaken ch level 0).captureEvent ch level)
      else .next (s.edgeTaken ch level ((s.capture ch).pre + 1)) := by
  have hstops : ¬((s.capture ch).level = level ∨ (!s.timing.clk100) = true) := by simp [hnew, hclk]
  have hcounts : ¬(s.rd (0x510101 + ch) = 0 ∨ (!captureSense (s.rd (0x510201 + ch)) level) = true) := by
    simp [hsense, hmode]
  have hpre : ((s.seePin (s.rd (0x510001 + ch)) level).onCapture ch fun c => { c with level := level }).capture ch =
      { s.capture ch with level := level } := State.onCapture_capture_self hch _
  refine (if_neg hstops).trans ((if_neg hcounts).trans ?_)
  simp only [hpre, State.onCapture_rd, State.seePin_rd, hmode, if_pos, State.edgeTaken_eq]

/-- The event of an edge that was taken, in mode 1. -/
theorem State.edgeTaken_captureEvent {s : State} {ch : Nat} {level : Bool} (hch : ch < s.timing.captures.length)
    (hmode : s.rd (0x510101 + ch) = 1) (harea : s.rd 0x210001 = 0) (hsrc : s.rd 0x210002 ≠ 2) :
    (s.edgeTaken ch level 0).captureEvent ch level =
      if 4 ≤ (s.capture ch).queue.length then ((s.edgeTaken ch level 0).inc (0x510701 + ch)).inc (0x510801 + ch)
      else ((s.edgeTaken ch level 0).inc (0x510701 + ch)).onCapture ch fun c =>
        { c with queue := c.queue ++ [captureEntry (s.edgeStamp (s.rd (0x510301 + ch))) level] } := by
  rw [State.captureEvent_of_queue ((s.edgeTaken_rd ..).trans hmode) ((s.edgeTaken_rd ..).trans harea)
    (by rw [State.edgeTaken_rd]; exact hsrc), s.edgeTaken_capture_self ch level 0 hch]
  rfl

/-- The bytes of a capture entry (R301). -/
theorem captureEntry_eq (st : Nat × Nat × Nat) (level : Bool) : captureEntry st level =
    leBytes 8 st.1 ++ leBytes 4 st.2.1 ++ leBytes 2 st.2.2 ++ [if level then 0 else 1, 0] := by
  have hsense : leBytes 1 (b2n !level) ++ [0] = [if level then 0 else 1, 0] := by cases level <;> rfl
  simp only [captureEntry, List.append_assoc, hsense]

/-! ### Reads (R254) -/

theorem State.committed_shape (s : State) (tr : Transport) : ∃ d, s.committed tr = { s with dict := d } :=
  ⟨_, State.committed_frame s tr⟩

theorem State.counted_shape (s : State) (tr : Transport) (key : Nat) : ∃ d, s.counted tr key = { s with dict := d } :=
  ⟨_, State.counted_frame s tr key⟩

theorem State.committed_rd (s : State) (tr : Transport) {k : Nat} (h1 : k / 256 ≠ 0x1020) (h2 : k ≠ 0xA00401) :
    (s.committed tr).rd k = s.rd k := s.committed_same tr k (notMem_accessCounters h1 h2 tr)

/-- Beside the access counters, an admitted read changes the objects that its effect changes. -/
theorem State.hostRead_same {s : State} {tr : Transport} {key : Nat} (h : s.admitsRead tr key) {eff : State → State}
    {ks : List Nat} (he : sameObjects ks (s.committed tr) (eff (s.committed tr))) :
    sameObjects (ks ++ accessCounters tr) s (s.hostRead tr key eff) := by
  rw [State.hostRead_admitted h]
  have h1 := (s.committed_same tr).trans he (List.subset_append_right ks _) (List.subset_append_left ..)
  exact h1.trans (State.counted_same _ tr key) (List.Subset.refl _) (List.subset_append_right ..)

/-- An object outside the access counters reads as the effect left it. -/
theorem State.rd_hostRead {s : State} {tr : Transport} {key : Nat} (h : s.admitsRead tr key) (eff : State → State) {k : Nat}
    (h1 : k / 256 ≠ 0x1020) (h2 : k ≠ 0xA00401) : (s.hostRead tr key eff).rd k = (eff (s.committed tr)).rd k := by
  rw [State.hostRead_admitted h]
  exact State.counted_same _ tr key k (notMem_accessCounters h1 h2 tr)

/-! ### The settled statement of the captures -/

/-- Settles O20: by the edge that is seen, and the two reads. -/
theorem captureEdgesAreQueuedAndReadsTakeTheOldestEntry : Obligations.CaptureEdgesAreQueuedAndReadsTakeTheOldestEntry := by
  unfold Obligations.CaptureEdgesAreQueuedAndReadsTakeTheOldestEntry
  refine ⟨fun ch level s hch hclk hnew hmode hsense harea hsrc hcount => ?_, fun ch level s hclk => ?_,
    fun tr ch s hch hlen => ⟨fun h => ?_, fun h => ?_⟩⟩
  · have hexec := State.captureInputEdge_of_edge hch hclk hnew hmode (captureSense_of_chosen hsense)
    refine ⟨fun hshort => ⟨_, hexec.trans (if_neg (Nat.not_le.mpr hshort)), ?_, fun c hc => ?_, rfl⟩,
      fun hevent => ⟨_, hexec.trans (if_pos hevent), ?_⟩⟩
    · exact s.edgeTaken_capture_self ch level _ hch
    · exact s.edgeTaken_capture_ne ch level _ hc
    · rw [State.edgeTaken_captureEvent hch hmode harea hsrc, captureEntry_eq]
      have hown := s.edgeTaken_capture_self ch level 0 hch
      have hothers := fun c (hc : c ≠ ch) => s.edgeTaken_capture_ne ch level 0 hc
      have hrd := s.edgeTaken_rd ch level 0
      have hinc : ((s.edgeTaken ch level 0).inc (0x510701 + ch)).rd (0x510701 + ch) = s.rd (0x510701 + ch) + 1 := by
        rw [State.rd_inc, if_pos rfl, hrd]; omega
      have hother : ∀ k, k ≠ 0x510701 + ch → ((s.edgeTaken ch level 0).inc (0x510701 + ch)).rd k = s.rd k := fun k hk => by
        rw [State.rd_inc, if_neg hk, hrd]
      by_cases hfull : 4 ≤ (s.capture ch).queue.length
      · simp only [if_pos hfull, if_neg (Nat.not_lt.mpr hfull)]
        refine ⟨?_, hown, ?_, hothers, fun k hk => ?_, rfl⟩
        · rw [State.rd_inc, if_neg (by omega), hinc]
        · rw [State.rd_inc, if_pos rfl, hother _ (by omega), countUp]
        · obtain ⟨hk1, hk2⟩ : k ≠ 0x510701 + ch ∧ k ≠ 0x510801 + ch := by simpa using hk
          rw [State.rd_inc, if_neg hk2, hother k hk1]
      · simp only [if_neg hfull, if_pos (Nat.not_le.mp hfull)]
        refine ⟨hinc, ?_, hother _ (by omega), fun c hc => ?_, fun k hk => hother k ?_, rfl⟩
        · have hcounted : ((s.edgeTaken ch level 0).inc (0x510701 + ch)).capture ch = _ := hown
          refine (State.onCapture_capture_self ((State.onCapture_channels ..).symm ▸ hch) _).trans ?_
          rw [hcounted]
          rfl
        · exact (State.onCapture_capture_ne hc _).trans (hothers c hc)
        · exact fun hm => hk (by simp [hm])
  · exact if_pos (Or.inr (by rw [show (s.seePin (s.rd (0x510001 + ch)) level).timing.clk100 = false from hclk]; rfl))
  · refine ⟨_, rfl, ?_, ?_, ?_, fun c hc => ?_, State.hostRead_same h (ks := []) fun _ _ => rfl, ?_⟩
    all_goals rw [State.hostRead_admitted h]
    all_goals obtain ⟨d, hd⟩ := s.committed_shape tr
    all_goals obtain ⟨d', hd'⟩ := State.counted_shape (State.readCapture ch (s.committed tr)) tr (0x510501 + ch)
    all_goals rw [hd', hd]
    · rfl
    · exact List.headD_eq_head?_getD
    · exact State.onCapture_capture_self (hlen ▸ hch) _
    · exact State.onCapture_capture_ne hc _
    · rfl
  · have hkey (n : Nat) (hn : n = 0x510901 ∨ n = 0x510A01) : (s.committed tr).rd (n + ch) = s.rd (n + ch) :=
      s.committed_rd tr (by omega) (by omega)
    have hbits : (s.hostRead tr (0x510901 + ch) (State.readCompatible ch)).rd (0x510A01 + ch) =
        clearBit (s.rd (0x510A01 + ch)) 0 := by
      rw [State.rd_hostRead h _ (by omega) (by omega), ← hkey _ (Or.inr rfl)]
      exact (State.rd_wr ..).trans (if_pos rfl)
    refine ⟨_, rfl, ?_, ?_, ?_, fun i hi => ?_, State.hostRead_same h ?_, ?_⟩
    · rw [State.hostRead_admitted h, State.counted_answer]; rfl
    · rw [State.hostRead_admitted h, State.counted_answer, ← hkey _ (Or.inl rfl)]; rfl
    · rw [hbits, testBit_clearBit, decide_eq_true rfl, Bool.not_true, Bool.and_false]
    · rw [hbits]; simp [testBit_clearBit, hi]
    · exact sameObjects_wr (s.committed tr) _ _
    · obtain ⟨d, hd⟩ := s.committed_shape tr
      obtain ⟨d', hd'⟩ := State.counted_shape (State.readCompatible ch (s.committed tr)) tr (0x510901 + ch)
      rw [State.hostRead_admitted h, hd', hd]
      rfl

/-! ### The quadrature counter (R303 to R308) -/

/-- Without the encoder grid a count does nothing more (R86). -/
theorem State.gridCheck_of_unused {s : State} (h : s.rd 0x210001 ≠ 1 ∨ s.rd 0x340101 ≠ 6) : s.gridCheck = s := if_pos h

/-- The counter one step on, modulo 2^32 (R303). -/
def State.nextPosition (s : State) (up : Bool) : Nat :=
  if up then (s.position + 1) % 2 ^ 32 else (s.position + 2 ^ 32 - 1) % 2 ^ 32

/-- EWRAP after one step of the counter (R304). -/
def State.nextWrap (s : State) (up : Bool) : Nat :=
  if up then (if s.position = 2 ^ 32 - 1 then (s.rd 0x520004 + 1) % 65536 else s.rd 0x520004)
  else if s.position = 0 then (s.rd 0x520004 + 65535) % 65536 else s.rd 0x520004

/-- One count moves position and EWRAP; only a wrap logs an event. -/
structure State.Counts (up : Bool) (s t : State) : Prop where
  position : t.position = s.nextPosition up
  wrap : t.rd 0x520004 = s.nextWrap up
  objects : sameObjects [0x520001, 0x520004, 0x100101, 0xC00007, 0xC00008] s t
  frame : t = { s with dict := t.dict, log := t.log, ring := t.ring }

theorem State.countEdge_counts {s : State} (h : s.rd 0x210001 ≠ 1 ∨ s.rd 0x340101 ≠ 6) (up : Bool) :
    s.Counts up (s.countEdge up) := by
  have hcounted := sameObjects_wr s 0x520001 (s.nextPosition up)
  have hunused : ∀ u, sameObjects [0x520001, 0x520004, 0x100101, 0xC00007, 0xC00008] s u → u.gridCheck = u := fun u hu =>
    State.gridCheck_of_unused (by rw [hu 0x210001 (by decide), hu 0x340101 (by decide)]; exact h)
  by_cases hwrap : (up = true ∧ s.position = 2 ^ 32 - 1) ∨ ((!up) = true ∧ s.position = 0)
  · have hstep : s.countEdge up = ((s.wr 0x520001 (s.nextPosition up)).wrapped up).gridCheck :=
      congrArg State.gridCheck (if_pos hwrap)
    have hw : (s.wr 0x520001 (s.nextPosition up)).wrapped up =
        ((s.wr 0x520001 (s.nextPosition up)).wr 0x520004 (s.nextWrap up)).logEvent 0x0701
          (leBytes 2 (s.nextWrap up) ++ leBytes 1 (b2n !up)) := by
      rcases hwrap with ⟨rfl, hp⟩ | ⟨hup, hp⟩
      · simp [State.wrapped, State.nextWrap, hp]
      · obtain rfl : up = false := by simpa using hup
        simp [State.wrapped, State.nextWrap, hp]
    have hlog := ((s.wr 0x520001 (s.nextPosition up)).wr 0x520004 (s.nextWrap up)).logEvent_same 0x0701
      (leBytes 2 (s.nextWrap up) ++ leBytes 1 (b2n !up))
    rw [← hw] at hlog
    have hall : sameObjects [0x520001, 0x520004, 0x100101, 0xC00007, 0xC00008] s
        ((s.wr 0x520001 (s.nextPosition up)).wrapped up) :=
      (hcounted.trans (sameObjects_wr _ 0x520004 _) (List.subset_append_left [0x520001] [0x520004])
        (List.subset_append_right [0x520001] [0x520004])).trans hlog (by simp) (by simp)
    rw [hstep, hunused _ hall]
    refine ⟨(hlog 0x520001 (by decide)).trans (by simp), (hlog 0x520004 (by decide)).trans (by simp), hall, ?_⟩
    rw [hw, State.logEvent_frame]
    rfl
  · have hstep : s.countEdge up = (s.wr 0x520001 (s.nextPosition up)).gridCheck :=
      congrArg State.gridCheck (if_neg hwrap)
    have hall : sameObjects [0x520001, 0x520004, 0x100101, 0xC00007, 0xC00008] s (s.wr 0x520001 (s.nextPosition up)) :=
      fun k hk => hcounted k fun hm => hk (by simp at hm; simp [hm])
    rw [hstep, hunused _ hall]
    refine ⟨(State.rd_wr ..).trans (if_pos rfl), (State.rd_wr ..).trans ?_, hall, rfl⟩
    unfold State.nextWrap
    cases up <;> simp_all

/-- The levels of A and B that the decoder holds, and those of its inputs, are the new ones (R303). -/
def State.levelsSeen (s : State) (a b : Bool) : State :=
  ((s.seePin 0 a).seePin 1 b).onTiming fun t => { t with a := a, b := b }

section levelsSeen
variable (s : State) (a b up : Bool)

theorem State.levelsSeen_nextPosition : (s.levelsSeen a b).nextPosition up = s.nextPosition up := rfl
theorem State.levelsSeen_nextWrap : (s.levelsSeen a b).nextWrap up = s.nextWrap up := rfl

end levelsSeen

theorem execQuadratureEdge_eq {s : State} (hclk : s.timing.clk100 = true) (a b : Bool) :
    exec (.quadratureEdge a b) s =
      if s.rd 0x520007 = 1 ∧ s.timing.a ≠ a ∧ s.timing.b ≠ b then .next ((s.levelsSeen a b).inc 0x52000A)
      else match quadCount (s.rd 0x520007) s.timing.a s.timing.b a b with
        | some up => .next ((s.levelsSeen a b).countEdge up)
        | none => .next (s.levelsSeen a b) := by
  have hruns : ¬(!((s.seePin 0 a).seePin 1 b).timing.clk100) = true := by simp [State.seePin, hclk]
  unfold exec execQuadratureEdge
  simp only [if_neg hruns]
  rfl

theorem State.wr_onTiming_frame (s : State) (k v : Nat) (f : Timing → Timing) : (s.wr k v).onTiming f =
    { s with dict := ((s.wr k v).onTiming f).dict, timing := ((s.wr k v).onTiming f).timing } := rfl

/-- Settles O22: ENC_Z and the sample of the position change. -/
theorem encoderZAndPositionChange : Obligations.EncoderZAndPositionChange := by
  unfold Obligations.EncoderZAndPositionChange
  intro s
  refine ⟨rfl, fun hclk => ⟨if_neg (by simp [hclk]), if_pos (Or.inr (by simp [hclk]))⟩, fun hclk => ?_, fun hclk hdue => ?_⟩
  · have hsame : sameObjects [0x520008, 0x520009] s (((s.seePin 2 true).wr 0x520008 s.position).inc 0x520009) :=
      fun k hk => by
        obtain ⟨h1, h2⟩ : k ≠ 0x520008 ∧ k ≠ 0x520009 := by simpa using hk
        rw [State.rd_inc, if_neg h2, State.rd_wr, if_neg h1, State.seePin_rd]
    refine ⟨_, if_pos (by simp [hclk]), ?_, ?_, hsame, rfl⟩
    · rw [State.rd_inc, if_neg (by decide)]; exact (State.rd_wr ..).trans (if_pos rfl)
    · rw [State.rd_inc, if_pos rfl, State.rd_wr, if_neg (by decide), State.seePin_rd, countUp]
  · have hruns : ¬(s.now < s.timing.sampleAt ∨ (!s.timing.clk100) = true) := by simp [hclk, Nat.not_lt.mpr hdue]
    refine ⟨_, if_neg hruns, ?_, ?_, ?_, ?_⟩
    · rw [State.onTiming_rd, State.rd_wr, if_pos rfl]
    · rw [State.onTiming_timing, State.wr_timing]
    · exact fun k hk => by rw [State.onTiming_rd, State.rd_wr, if_neg (by simpa using hk)]
    · exact State.wr_onTiming_frame ..

/-- The senses of the levels in the three modes (R303). -/
theorem quadCount_of_moves {mode : Nat} {a0 b0 a b : Bool}
    (hmoves : (mode = 1 ∧ (a ≠ a0 ∨ b ≠ b0) ∧ ¬(a ≠ a0 ∧ b ≠ b0)) ∨ ((mode = 2 ∨ mode = 3) ∧ a0 = false ∧ a = true)) :
    ∃ up, quadCount mode a0 b0 a b = some up ∧
      (up = true ↔ if mode = 1 then (if a ≠ a0 then a ≠ b0 else b = a0) else b = false) := by
  rcases hmoves with ⟨rfl, hmoves⟩ | ⟨rfl | rfl, rfl, rfl⟩
  · revert a0 b0 a b; decide
  · exact ⟨!b, rfl, by simp⟩
  · exact ⟨!b, rfl, by simp⟩

theorem quadCount_eq_none {mode : Nat} {a0 b0 a b : Bool} (hboth : ¬(mode = 1 ∧ a ≠ a0 ∧ b ≠ b0))
    (hmoves : ¬((mode = 1 ∧ (a ≠ a0 ∨ b ≠ b0) ∧ ¬(a ≠ a0 ∧ b ≠ b0)) ∨ ((mode = 2 ∨ mode = 3) ∧ a0 = false ∧ a = true))) :
    quadCount mode a0 b0 a b = none := by
  unfold quadCount
  split
  · revert a0 b0 a b; decide
  · revert a0 b0 a b; decide
  · revert a0 b0 a b; decide
  · rfl

/-- Settles O21: what the new levels count, or that they count nothing. -/
theorem quadratureEdgesCount : Obligations.QuadratureEdgesCount := by
  unfold Obligations.QuadratureEdgesCount
  intro a b s hunused
  dsimp only
  refine ⟨fun hclk => if_pos (by simp [State.seePin, hclk]), fun hclk => ?_⟩
  have hexec := execQuadratureEdge_eq hclk a b
  by_cases hboth : s.rd 0x520007 = 1 ∧ s.timing.a ≠ a ∧ s.timing.b ≠ b
  · rw [if_pos hboth] at hexec
    obtain ⟨hmode, ha, hb⟩ := hboth
    have hstill : ¬((s.rd 0x520007 = 1 ∧ (a ≠ s.timing.a ∨ b ≠ s.timing.b) ∧ ¬(a ≠ s.timing.a ∧ b ≠ s.timing.b)) ∨
        ((s.rd 0x520007 = 2 ∨ s.rd 0x520007 = 3) ∧ s.timing.a = false ∧ a = true)) := by
      simp [hmode, ha.symm, hb.symm]
    have hsame : sameObjects [0x52000A] s ((s.levelsSeen a b).inc 0x52000A) := fun k hk =>
      (State.rd_inc ..).trans (if_neg (by simpa using hk))
    refine ⟨_, hexec, rfl, fun _ => ⟨(State.rd_inc ..).trans (if_pos rfl), hsame⟩,
      fun hn => absurd ⟨hmode, ha.symm, hb.symm⟩ hn, fun hm => absurd hm hstill, fun hm => absurd hm hstill,
      fun k hk => hsame k fun hm => hk (by simp at hm; simp [hm]), rfl⟩
  · rw [if_neg hboth] at hexec
    have hnot : ¬(s.rd 0x520007 = 1 ∧ a ≠ s.timing.a ∧ b ≠ s.timing.b) := fun h => hboth ⟨h.1, h.2.1.symm, h.2.2.symm⟩
    by_cases hmoves : (s.rd 0x520007 = 1 ∧ (a ≠ s.timing.a ∨ b ≠ s.timing.b) ∧ ¬(a ≠ s.timing.a ∧ b ≠ s.timing.b)) ∨
        ((s.rd 0x520007 = 2 ∨ s.rd 0x520007 = 3) ∧ s.timing.a = false ∧ a = true)
    · obtain ⟨up, hcount, hup⟩ := quadCount_of_moves hmoves
      rw [hcount] at hexec
      obtain ⟨hpos, hwrap, hsame, hframe⟩ := State.countEdge_counts (s := s.levelsSeen a b) hunused up
      rw [State.levelsSeen_nextPosition] at hpos
      rw [State.levelsSeen_nextWrap] at hwrap
      dsimp only at hexec
      generalize State.countEdge up (s.levelsSeen a b) = t at *
      obtain ⟨d, l, r, rfl⟩ : ∃ d l r, t = { s.levelsSeen a b with dict := d, log := l, ring := r } := ⟨_, _, _, hframe⟩
      refine ⟨_, hexec, rfl, fun h => absurd h hnot, fun _ h => absurd hmoves h, fun _ h => ?_, fun _ h => ?_,
        fun k hk => hsame k fun hm => hk (by simp at hm; simp; omega), rfl⟩
      · obtain rfl := hup.mpr h
        exact ⟨hpos.trans (if_pos rfl), hwrap.trans (if_pos rfl)⟩
      · obtain rfl : up = false := by simpa using fun hu => h (hup.mp hu)
        exact ⟨hpos.trans (if_neg Bool.false_ne_true), hwrap.trans (if_neg Bool.false_ne_true)⟩
    · rw [quadCount_eq_none hnot hmoves] at hexec
      exact ⟨_, hexec, rfl, fun h => absurd h hnot, fun _ _ => rfl, fun h => absurd h hmoves, fun h => absurd h hmoves,
        fun _ _ => rfl, rfl⟩

/-! ### The objects of the position (R305, R306) -/

/-- The queued hand-over entries with an encoder condition (R306). -/
theorem State.encoderEntryQueued_iff (s : State) :
    s.encoderEntryQueued = true ↔ ∃ e ∈ s.stage.queue, ∃ x, e.bound = .encoder x := by
  simp only [State.encoderEntryQueued, List.any_eq_true]
  refine exists_congr fun e => and_congr_right fun _ => ?_
  cases e.bound <;> simp

/-- Settles O23: the effect of the write is the refusal or the new value. -/
theorem aPresetOfThePositionIsRefusedWhileItIsInUse : Obligations.APresetOfThePositionIsRefusedWhileItIsInUse := by
  unfold Obligations.APresetOfThePositionIsRefusedWhileItIsInUse
  intro tr v s h
  dsimp only
  have hk : (⟨tr, 0x520001, 4, v⟩ : Txn).key ≠ 0x102009 := by simp
  have hcond : (((s.onServe tr).rd 0x210001 = 1 ∧ (s.onServe tr).rd 0x340101 = 6) ∨
      (s.onServe tr).encoderEntryQueued = true) ↔
      (s.rd 0x210001 = 1 ∧ s.rd 0x340101 = 6) ∨ ∃ e ∈ s.stage.queue, ∃ x, e.bound = .encoder x := by
    rw [s.onServe_rd tr (by decide) (by decide), s.onServe_rd tr (by decide) (by decide), State.encoderEntryQueued_iff,
      State.onServe_frame]
  obtain ⟨d, hd⟩ := s.onServe_shape tr
  refine ⟨fun hused => ?_, fun hfree => ?_⟩
  · have heff : State.presetPosition v (s.onServe tr) = (s.onServe tr).refuse abortState := if_pos (hcond.mpr hused)
    obtain ⟨d', hd'⟩ := State.counted1_shape (State.presetPosition v (s.onServe tr)) tr 0x520001
    refine ⟨_, rfl, ?_, State.hostWrite_same h hk (ks := []) _ ?_, ?_⟩
    · rw [State.hostWrite_answer h hk, heff]; rfl
    · rw [heff]; exact fun _ _ => rfl
    · rw [State.hostWrite_eq_counted1 h hk, hd', heff, hd]; rfl
  · have heff : State.presetPosition v (s.onServe tr) = (s.onServe tr).wr 0x520001 v :=
      if_neg fun hc => hfree (hcond.mp hc)
    obtain ⟨d', hd'⟩ := State.counted1_shape (State.presetPosition v (s.onServe tr)) tr 0x520001
    have hrd (k : Nat) (h1 : k / 256 ≠ 0x1020) (h2 : k ≠ 0xA00401) :
        (s.hostWrite ⟨tr, 0x520001, 4, v⟩ (State.presetPosition v)).rd k = if k = 0x520001 then v else s.rd k := by
      rw [State.rd_hostWrite h hk _ h1 h2, heff, State.rd_wr, s.onServe_rd tr h1 h2]
    refine ⟨_, rfl, ?_, ?_, ?_, State.hostWrite_same h hk _ ?_, ?_⟩
    · rw [State.hostWrite_answer h hk, heff, hd]; rfl
    · exact (hrd _ (by decide) (by decide)).trans (if_pos rfl)
    · exact (hrd _ (by decide) (by decide)).trans (if_neg (by decide))
    · rw [heff]; exact sameObjects_wr (s.onServe tr) _ _
    · rw [State.hostWrite_eq_counted1 h hk, hd', heff, hd]; rfl

/-- The word latch of a transport (R305). -/
def State.highWord (s : State) : Transport → Nat
  | .ring => s.timing.wordRing
  | .twi => s.twi.wordLatch

/-- A read of the high word answers the word latch of its transport (R305). -/
theorem State.readValue_highWord (s : State) (tr : Transport) :
    (s.readValue tr 0x520003 false).answer.data = leBytes 2 (s.highWord tr) := by
  have hwords : s.wordsOf 0x520003 = [] := rfl
  cases tr <;>
    simp [State.readValue, hwords, State.needWords, State.present, State.view, State.view5, State.acceptData, State.highWord]

/-- A read of the whole position answers the counter (R305). -/
theorem State.readValue_position (s : State) (tr : Transport) :
    (s.readValue tr 0x520001 false).answer.data = leBytes 4 s.position := by
  have hwords : s.wordsOf 0x520001 = [] := rfl
  have hsize : objSize 0x520001 = 4 := by decide +kernel
  simp [State.readValue, hwords, State.needWords, State.present, State.view, State.view5, State.acceptData, hsize,
    State.position]

/-- The low word's read answers the low half and latches the high half, in its own transport (R305). -/
theorem State.readLowWord_eq (s : State) (tr : Transport) : State.readLowWord tr s =
    { s with answer := ⟨0, s.rd 0x110001, leBytes 2 s.position, false⟩
             timing := if tr = .ring then { s.timing with wordRing := s.position / 65536 } else s.timing
             twi := if tr = .twi then { s.twi with wordLatch := s.position / 65536 } else s.twi } := by
  cases tr <;> rfl

/-- Settles O24: the low word's read moves the latch of its own transport. -/
theorem aLowWordReadLatchesTheHighWordOfItsTransport : Obligations.ALowWordReadLatchesTheHighWordOfItsTransport := by
  unfold Obligations.ALowWordReadLatchesTheHighWordOfItsTransport
  intro tr s h
  have hpos : (s.committed tr).position = s.position := s.committed_rd tr (by decide) (by decide)
  have hdict : (State.readLowWord tr (s.committed tr)).dict = (s.committed tr).dict := by
    rw [State.readLowWord_eq]
  have hsame := State.hostRead_same h (ks := []) ((sameObjects.refl _ _).of_dict hdict)
  have hposition : (s.hostRead tr 0x520002 (State.readLowWord tr)).position = s.position := by
    rw [State.position, State.rd_hostRead h _ (by decide) (by decide)]
    exact (congrArg (Dict.get · 0x520001) hdict).trans hpos
  obtain ⟨d, hd⟩ := s.committed_shape tr
  obtain ⟨d', hd'⟩ := State.counted_shape (State.readLowWord tr (s.committed tr)) tr 0x520002
  have heq := (State.hostRead_admitted h (State.readLowWord tr)).trans hd'
  rw [State.readLowWord_eq, hpos, hd] at heq
  refine ⟨_, rfl, ?_⟩
  simp only [State.readValue_highWord, State.readValue_position, hposition]
  generalize s.hostRead tr 0x520002 (State.readLowWord tr) = t at *
  subst heq
  refine ⟨rfl, rfl, rfl, rfl, ?_, fun other => ?_, fun _ => trivial, hsame, rfl⟩
  · cases tr <;> rfl
  · cases tr <;> cases other <;> rfl

end Sys2Proof.Machine
end

section
/-!
PROOFS. The test access port (R375, R376, R399, R400): an instruction is loaded, acts in Hold or as BYPASS, and touches nothing
else (O60).
-/
namespace Sys2Proof.Machine

theorem State.pinsByScan_iff (s : State) : s.pinsByScan = true ↔ s.tapActs = .extest ∨ s.tapActs = .clamp := by
  simp [State.pinsByScan]

theorem State.pinsFloat_iff (s : State) : s.pinsFloat = true ↔ s.tapActs = .highz := by simp [State.pinsFloat]

/-- The level at a pin follows from the instruction as which the port acts (R375). -/
theorem State.pinLevel_eq (s : State) (p : OutPin) : s.pinLevel p =
    if s.tapActs = .extest ∨ s.tapActs = .clamp then s.scanLevel p else if s.tapActs = .highz then none else s.ownLevel p := by
  simp only [State.pinLevel, State.pinsByScan_iff, State.pinsFloat_iff]

/-- An instruction that takes the pins does so in Hold only (R375). -/
theorem State.tapInstr_tapActs (s : State) (i : JtagInstr) (h : i = .extest ∨ i = .clamp ∨ i = .highz) :
    (s.tapInstr i).tapActs = if s.rd 0xB02002 = 2 then i else .bypass := by
  have hinstr : (s.tapInstr i).jtag.instr = i := rfl
  have hheld : (s.tapInstr i).rd 0xB02002 = s.rd 0xB02002 := rfl
  rcases h with rfl | rfl | rfl <;> simp [State.tapActs, hinstr, State.inHold, hheld]

/-- What a loaded instruction does to the pins, as that as which the port acts. -/
theorem State.tapInstr_pins {s : State} {i act : JtagInstr} (h : (s.tapInstr i).tapActs = act) :
    ∃ t, Host.Outcome.next (s.tapInstr i) = (.next t : Host.Outcome State Fault Refusal) ∧
      t = { s with jtag := { s.jtag with instr := i } } ∧ t.tapActs = act ∧
      (t.pinsByScan = true ↔ act = .extest ∨ act = .clamp) ∧ (t.pinsFloat = true ↔ act = .highz) ∧
      (∀ p, t.pinLevel p =
        if act = .extest ∨ act = .clamp then s.scanLevel p else if act = .highz then none else s.ownLevel p) := by
  subst h
  exact ⟨_, rfl, rfl, rfl, State.pinsByScan_iff _, State.pinsFloat_iff _, fun p => State.pinLevel_eq _ p⟩

/-- A pin that is driven both ways takes its data cell where its enable cell is 1 (R400). -/
theorem State.scanLevel_of_driven (s : State) {p : OutPin} (h : p.openDrain = false) :
    s.scanLevel p = if s.jtag.update.testBit (p.dataCell + 1) = true then some (s.jtag.update.testBit p.dataCell) else none := by
  simp [State.scanLevel, bitAt, h]

/-- An open-drain pin is only pulled low (R400). -/
theorem State.scanLevel_of_openDrain (s : State) {p : OutPin} (h : p.openDrain = true) :
    s.scanLevel p = if s.jtag.update.testBit (p.dataCell + 1) = true ∧ s.jtag.update.testBit p.dataCell = false then some false
      else none := by
  simp only [State.scanLevel, bitAt, h, Bool.true_and, Bool.and_eq_true, Bool.not_eq_true']
  split
  · next hc => rw [hc.2]
  · rfl

/-- Settles O60: by the instruction that is loaded, and the cells of R400. -/
theorem testPortActsInEveryStateAndTakesPinsOnlyInHold : Obligations.TestPortActsInEveryStateAndTakesPinsOnlyInHold := by
  unfold Obligations.TestPortActsInEveryStateAndTakesPinsOnlyInHold
  intro s
  have hcell (n k : Nat) : k + 2 * n + 1 = k + 1 + 2 * n := by omega
  refine ⟨State.tapInstr_pins rfl, State.tapInstr_pins rfl, State.tapInstr_pins (s.tapInstr_tapActs _ (by simp)),
    State.tapInstr_pins (s.tapInstr_tapActs _ (by simp)), State.tapInstr_pins (s.tapInstr_tapActs _ (by simp)),
    fun n _ => ?_, fun n _ => ?_, s.scanLevel_of_driven rfl, s.scanLevel_of_openDrain rfl, s.scanLevel_of_openDrain rfl,
    s.scanLevel_of_openDrain rfl, ⟨_, rfl, rfl, rfl, rfl⟩, fun pins cells hp hc => ⟨_, rfl, ?_, rfl, rfl⟩⟩
  · rw [s.scanLevel_of_driven rfl, OutPin.dataCell, hcell]
  · rw [s.scanLevel_of_driven rfl, OutPin.dataCell, hcell]
  · simp only [State.tapInstr, State.onJtag, Nat.mod_eq_of_lt hp, Nat.mod_eq_of_lt hc]

end Sys2Proof.Machine
end

section
/-!
PROOFS. The held pour (R316): the naming of a pour and the release of the hold (O54).
-/
namespace Sys2Proof.Machine

theorem State.endHold_rd (s : State) (k : Nat) : s.endHold.rd k = s.rd k := rfl

/-- The pours that stay when a hold ends are those with packets left (R316). -/
theorem any_filter_left (l : List TPour) (v : Nat) :
    ((l.filter fun p => p.left != 0).any fun p => p.idx == v) = l.any fun p => p.idx == v && p.left != 0 := by
  induction l with
  | nil => rfl
  | cons p l ih => cases hp : p.left != 0 <;> simp [hp, ih]

/-- The state in which a hold that a name ends is followed by this hold state and index. -/
def State.heldAs (s : State) (v state : Nat) (held : Option Nat) : State :=
  ((s.endHold.wr 0x704001 v).wr 0x704002 state).onDma fun d => { d with heldIdx := held }

/-- A name that is not the one held: none, a pour of the tundish, or one to come or gone (R316). -/
theorem State.holdPour_of_new {s : State} {v : Nat} (h : s.dma.heldIdx ≠ some v) :
    State.holdPour v s =
      if v = 0 then s.heldAs v 0 none
      else if (s.lanes.tundish.any fun p => p.idx == v && p.left != 0) = true then s.heldAs v 2 (some v)
      else s.heldAs v (if s.toCome v = true then 1 else 3) none := by
  have htocome : (s.endHold.wr 0x704001 v).toCome v = s.toCome v := by
    unfold State.toCome
    rw [State.rd_wr, if_neg (by decide), State.endHold_rd]
    rfl
  have hother : ¬(v = s.rd 0x704001 ∧ s.dma.heldIdx = some v) := fun hn => h hn.2
  rw [← any_filter_left, ← htocome]
  exact if_neg hother

theorem State.heldAs_rd (s : State) (v state : Nat) (held : Option Nat) (k : Nat) : (s.heldAs v state held).rd k =
    if k = 0x704002 then state else if k = 0x704001 then v else s.rd k := by
  simp only [State.heldAs, State.onDma_rd, State.rd_wr, State.endHold_rd]

theorem State.heldAs_same (s : State) (v state : Nat) (held : Option Nat) :
    sameObjects [0x704001, 0x704002] s (s.heldAs v state held) := fun k hk => by
  obtain ⟨h1, h2⟩ : k ≠ 0x704001 ∧ k ≠ 0x704002 := by simpa using hk
  rw [State.heldAs_rd, if_neg h2, if_neg h1]

/-- Settles O54: the hold ends, and the new name decides the state. -/
theorem heldPourIsNamedFoundOrGone : Obligations.HeldPourIsNamedFoundOrGone := by
  unfold Obligations.HeldPourIsNamedFoundOrGone
  refine ⟨fun tr v s h hnew => ?_, fun tr s h => ?_⟩
  · have hk : (⟨tr, 0x704001, 8, v⟩ : Txn).key ≠ 0x102009 := by simp
    obtain ⟨d, hd⟩ := s.onServe_shape tr
    have htocome : (s.onServe tr).toCome v = s.toCome v := by
      unfold State.toCome
      rw [s.onServe_rd tr (by decide) (by decide), hd]
    obtain ⟨state, held, heff, hzero, hfound, hgone⟩ : ∃ state held,
        State.holdPour v (s.onServe tr) = (s.onServe tr).heldAs v state held ∧ (v = 0 → state = 0 ∧ held = none) ∧
        (v ≠ 0 → (s.lanes.tundish.any fun p => p.idx == v && p.left != 0) = true → state = 2 ∧ held = some v) ∧
        (v ≠ 0 → ¬(s.lanes.tundish.any fun p => p.idx == v && p.left != 0) = true →
          held = none ∧ state = if s.toCome v = true then 1 else 3) := by
      have heff := State.holdPour_of_new (s := s.onServe tr) (v := v) (by rw [hd]; exact hnew)
      rw [htocome, show (s.onServe tr).lanes = s.lanes by rw [hd]] at heff
      by_cases hv : v = 0
      · exact ⟨_, _, heff.trans (if_pos hv), fun _ => ⟨rfl, rfl⟩, fun h => absurd hv h, fun h => absurd hv h⟩
      · rw [if_neg hv] at heff
        by_cases ht : (s.lanes.tundish.any fun p => p.idx == v && p.left != 0) = true
        · exact ⟨_, _, heff.trans (if_pos ht), fun h => absurd h hv, fun _ _ => ⟨rfl, rfl⟩, fun _ h => absurd ht h⟩
        · exact ⟨_, _, heff.trans (if_neg ht), fun h => absurd h hv, fun _ h => absurd h ht, fun _ _ => ⟨rfl, rfl⟩⟩
    have hrd (k : Nat) (h1 : k / 256 ≠ 0x1020) (h2 : k ≠ 0xA00401) :=
      (State.rd_hostWrite h hk (State.holdPour v) h1 h2).trans (by rw [heff, State.heldAs_rd])
    obtain ⟨d', hd'⟩ := State.counted1_shape (State.holdPour v (s.onServe tr)) tr 0x704001
    have heq := State.hostWrite_eq_counted1 h hk (State.holdPour v)
    rw [hd', heff, hd] at heq
    have hdma : (s.hostWrite ⟨tr, 0x704001, 8, v⟩ (State.holdPour v)).dma.heldIdx = held := by rw [heq]; rfl
    refine ⟨_, rfl, ?_, (hrd _ (by decide) (by decide)).trans rfl, fun hv => ?_, fun hv ht => ?_, fun hv ht => ?_, ?_,
      State.hostWrite_same h hk _ (by rw [heff]; exact (s.onServe tr).heldAs_same _ _ _), ?_⟩
    · rw [heq]; rfl
    · rw [hrd _ (by decide) (by decide), hdma]; exact hzero hv
    · rw [hrd _ (by decide) (by decide), hdma]; exact hfound hv ht
    · rw [hrd _ (by decide) (by decide), hdma]; exact hgone hv ht
    · rw [heq]; rfl
    · rw [heq]; rfl
  · have hk : (⟨tr, 0x704004, 1, 1⟩ : Txn).key ≠ 0x102009 := by simp
    obtain ⟨d, hd⟩ := s.onServe_shape tr
    obtain ⟨d', hd'⟩ := State.counted1_shape (State.releaseHold (s.onServe tr)) tr 0x704004
    have heq := State.hostWrite_eq_counted1 h hk State.releaseHold
    have hsame := State.hostWrite_same h hk State.releaseHold (ks := [0x704002]) (sameObjects_wr (s.onServe tr).endHold _ _)
    have hstate : (s.hostWrite ⟨tr, 0x704004, 1, 1⟩ State.releaseHold).rd 0x704002 = 0 :=
      (State.rd_hostWrite h hk State.releaseHold (by decide) (by decide)).trans ((State.rd_wr ..).trans (if_pos rfl))
    refine ⟨_, congrArg Host.Outcome.next (State.hostCommand_one s tr _ _), ?_, hstate, ?_, ?_, hsame, ?_⟩
    all_goals rw [heq, hd', hd]
    all_goals rfl

end Sys2Proof.Machine
end

section
/-!
PROOFS. The housekeeping converter (R333 to R343): what the operations of its clients leave unchanged, the end of a sample, the
sequence, the injected requests and the self-calibration (O55).
-/
namespace Sys2Proof.Machine

/-! ### What the converter's own operations change -/

/-- `t` is `s` but for the listed objects and the converter. -/
structure State.HkOnly (ks : List Nat) (s t : State) : Prop where
  objects : sameObjects ks s t
  frame : t = { s with dict := t.dict, hk := t.hk }

namespace State.HkOnly

variable {ks ls : List Nat} {s t u : State}

theorem refl (ks : List Nat) (s : State) : HkOnly ks s s := ⟨sameObjects.refl _ _, rfl⟩

theorem trans (h1 : HkOnly ks s t) (h2 : HkOnly ks t u) : HkOnly ks s u where
  objects := h1.objects.trans h2.objects (List.Subset.refl _) (List.Subset.refl _)
  frame := by rw [h2.frame, h1.frame]

theorem mono (h : HkOnly ks s t) (hl : ks ⊆ ls) : HkOnly ls s t := ⟨fun k hk => h.objects k fun hm => hk (hl hm), h.frame⟩

theorem ite {c : Prop} [Decidable c] (ht : HkOnly ks s t) (hu : HkOnly ks s u) : HkOnly ks s (if c then t else u) := by
  split <;> assumption

theorem onHk (h : HkOnly ks s t) (f : Hk → Hk) : HkOnly ks s (t.onHk f) := h.trans ⟨fun _ _ => rfl, rfl⟩

theorem wr (h : HkOnly ks s t) {k : Nat} (hk : k ∈ ks) (v : Nat) : HkOnly ks s (t.wr k v) :=
  h.trans ⟨fun j hj => by rw [State.rd_wr, if_neg (by rintro rfl; exact hj hk)], rfl⟩

theorem inc (h : HkOnly ks s t) {k : Nat} (hk : k ∈ ks) : HkOnly ks s (t.inc k) :=
  h.trans ⟨fun j hj => by rw [State.rd_inc, if_neg (by rintro rfl; exact hj hk)], rfl⟩

theorem now (h : HkOnly ks s t) : t.now = s.now := by rw [h.frame]
theorem mram (h : HkOnly ks s t) : t.mram = s.mram := by rw [h.frame]
theorem therm (h : HkOnly ks s t) : t.therm = s.therm := by rw [h.frame]
theorem timing (h : HkOnly ks s t) : t.timing = s.timing := by rw [h.frame]
theorem ring (h : HkOnly ks s t) : t.ring = s.ring := by rw [h.frame]
theorem answer (h : HkOnly ks s t) : t.answer = s.answer := by rw [h.frame]

end State.HkOnly

/-! ### The next sample (R336, R340) -/

/-- What the choice of the next sample may change of the converter: its client, the request in service and the calibration. -/
structure Hk.Chosen (h g : Hk) : Prop where
  frame : g = { h with client := g.client, req := g.req, inj := g.inj, calAsked := g.calAsked, calAt := g.calAt, serving := g.serving }

theorem State.takeRequest_hk (s : State) : ∃ g, s.takeRequest = s.onHk (fun _ => g) ∧ s.hk.Chosen g := by
  unfold State.takeRequest
  split
  · exact ⟨_, rfl, ⟨rfl⟩⟩
  · exact ⟨s.hk, rfl, ⟨rfl⟩⟩

/-- The converter may begin a calibration that waits for no request; else only the converter changes. -/
theorem State.hkNext_cases (s : State) : (s.hk.calAsked = some 0 ∧ s.hkNext = s.beginHkCal) ∨
    ∃ g, s.hkNext = s.onHk (fun _ => g) ∧ s.hk.Chosen g := by
  unfold State.hkNext
  split
  · exact .inr ⟨s.hk, rfl, ⟨rfl⟩⟩
  · split
    · next h => exact .inl ⟨h, rfl⟩
    · exact .inr ⟨_, rfl, ⟨rfl⟩⟩
    · obtain ⟨g, hg, hc⟩ := s.takeRequest_hk
      refine .inr ?_
      rw [hg]
      dsimp only
      split
      · exact ⟨{ g with client := _ }, rfl, ⟨by rw [hc.frame]⟩⟩
      · split
        · exact ⟨{ g with client := _ }, rfl, ⟨by rw [hc.frame]⟩⟩
        · exact ⟨g, rfl, hc⟩

theorem State.hkNext_only (s : State) : s.HkOnly [0x600102] s.hkNext := by
  rcases s.hkNext_cases with ⟨-, h⟩ | ⟨g, h, -⟩ <;> rw [h]
  · exact ((State.HkOnly.refl _ s).wr (by simp) 1).onHk _
  · exact (State.HkOnly.refl _ s).onHk _

theorem State.hkNext_chosen (s : State) : s.hk.Chosen s.hkNext.hk := by
  rcases s.hkNext_cases with ⟨-, h⟩ | ⟨g, h, hc⟩ <;> rw [h]
  · exact ⟨rfl⟩
  · exact hc

theorem State.hkNext_dict {s : State} (h : s.hk.calAsked ≠ some 0) : s.hkNext.dict = s.dict := by
  rcases s.hkNext_cases with ⟨hc, -⟩ | ⟨g, hg, -⟩
  · exact absurd hc h
  · rw [hg]; rfl

/-- While the converter takes a sample, or calibrates, it starts none. -/
theorem State.hkNext_of_busy {s : State} (h : s.hk.client ≠ .idle) : s.hkNext = s := if_pos (Or.inl h)

section hkNext
variable (s : State)

theorem State.hkNext_injRes : s.hkNext.hk.injRes = s.hk.injRes := by rw [s.hkNext_chosen.frame]
theorem State.hkNext_due : s.hkNext.hk.due = s.hk.due := by rw [s.hkNext_chosen.frame]
theorem State.hkNext_entry : s.hkNext.hk.entry = s.hk.entry := by rw [s.hkNext_chosen.frame]
theorem State.hkNext_len : s.hkNext.hk.len = s.hk.len := by rw [s.hkNext_chosen.frame]
theorem State.hkNext_table : s.hkNext.hk.table = s.hk.table := by rw [s.hkNext_chosen.frame]
theorem State.hkNext_inSeq : s.hkNext.hk.inSeq = s.hk.inSeq := by rw [s.hkNext_chosen.frame]
theorem State.hkNext_delayUntil : s.hkNext.hk.delayUntil = s.hk.delayUntil := by rw [s.hkNext_chosen.frame]
theorem State.hkNext_offset : s.hkNext.hk.offset = s.hk.offset := by rw [s.hkNext_chosen.frame]
theorem State.hkNext_gain : s.hkNext.hk.gain = s.hk.gain := by rw [s.hkNext_chosen.frame]
theorem State.hkNext_weights : s.hkNext.hk.weights = s.hk.weights := by rw [s.hkNext_chosen.frame]

end hkNext

/-! ### The sequence (R338) -/

theorem State.beginPass_only (s : State) : s.HkOnly [0x600203, 0x600204] s.beginPass :=
  ((State.HkOnly.refl _ s).wr (by simp) 0).onHk _

theorem State.nextEntry_only (s : State) : s.HkOnly [0x600203, 0x600204] s.nextEntry :=
  .ite (((State.HkOnly.refl _ s).inc (by simp)).trans (State.beginPass_only _))
    (((State.HkOnly.refl _ s).wr (by simp) _).onHk _)

theorem State.entryDone_only (s : State) (e : Nat) : s.HkOnly [0x600203, 0x600204] (s.entryDone e) :=
  .ite s.nextEntry_only ((State.HkOnly.refl _ s).onHk _)

/-- An average of one sample is that sample. -/
theorem roundDiv_one (v : Int) : roundDiv v 1 = v := by
  unfold roundDiv
  rw [Int.fdiv_eq_ediv_of_nonneg _ (by decide)]
  omega

/-- The result of a sample is placed where it has one. -/
def State.placeSample (ch : Nat) (r : Option Int) (s : State) : State := r.elim s fun v => s.placeResult ch v

/-- A result of one sample. -/
theorem HkSum.add_zero_some (v : Int) : HkSum.zero.add (some v) = ⟨v, 1, false⟩ := by simp [HkSum.add]
theorem HkSum.add_zero_none : HkSum.zero.add none = ⟨0, 1, true⟩ := rfl

/-- The end of the one sample of an entry: its result, if it has one, is placed, and the sequence goes on. -/
theorem State.sequenceEnd_only {s : State} {e : Nat} (hseq : s.hk.seq = HkSum.zero) (havg : avgOf e = 1) (r : Option Int) :
    (s.placeSample (chanOf e) r).HkOnly [0x600203, 0x600204] (s.sequenceEnd e r) := by
  have hsample : (s.placeSample (chanOf e) r).HkOnly [0x600203, 0x600204] (s.sequenceSample e r) := by
    unfold State.sequenceSample
    rw [hseq, havg]
    cases r with
    | none =>
      rw [HkSum.add_zero_none]
      simp only [lt_irrefl, if_false, if_true]
      exact .ite (((State.HkOnly.refl _ s).onHk _).trans (State.entryDone_only _ _)) ((State.HkOnly.refl _ s).onHk _)
    | some v =>
      rw [HkSum.add_zero_some]
      simp only [lt_irrefl, if_false, Nat.cast_one, roundDiv_one, Bool.false_eq_true]
      exact .ite (((State.HkOnly.refl _ _).onHk _).trans (State.entryDone_only _ _)) ((State.HkOnly.refl _ _).onHk _)
  exact hsample.trans (.ite ((State.HkOnly.refl _ _).onHk _) (.ite (State.beginPass_only _) (.refl _ _)))

/-! ### The end of a sample (R333, R342) -/

theorem State.placeResult_frame (ch : Nat) (v : Int) (s : State) :
    s.placeResult ch v = { s with dict := (s.placeResult ch v).dict } := by
  unfold State.placeResult
  split <;> rfl

@[simp] theorem State.placeResult_mram (ch : Nat) (v : Int) (s : State) : (s.placeResult ch v).mram = s.mram := by
  rw [State.placeResult_frame]
@[simp] theorem State.placeResult_hk (ch : Nat) (v : Int) (s : State) : (s.placeResult ch v).hk = s.hk := by
  rw [State.placeResult_frame]
@[simp] theorem State.placeResult_therm (ch : Nat) (v : Int) (s : State) : (s.placeResult ch v).therm = s.therm := by
  rw [State.placeResult_frame]
@[simp] theorem State.placeResult_ringTime (ch : Nat) (v : Int) (s : State) : (s.placeResult ch v).ringTime = s.ringTime := by
  rw [State.placeResult_frame]; rfl

/-- The result of a channel below 23 is placed with VALID set; the others hold none (R333). -/
theorem State.rd_placeResult (ch : Nat) (v : Int) (s : State) (k : Nat) : (s.placeResult ch v).rd k =
    if 23 ≤ ch then s.rd k
    else if k = 0x601201 + ch then setBit (s.rd (0x601201 + ch)) 2
    else if k = 0x601001 + ch then ofSigned 32 v else s.rd k := by
  unfold State.placeResult State.markValid
  split
  · rfl
  · rw [State.rd_wr, State.rd_wr, State.rd_wr, if_neg (show 0x601201 + ch ≠ 0x601001 + ch by omega)]

theorem State.rd_placeResult_congr {s t : State} (h : ∀ k, s.rd k = t.rd k) (ch : Nat) (v : Int) (k : Nat) :
    (s.placeResult ch v).rd k = (t.placeResult ch v).rd k := by
  simp only [State.rd_placeResult, h]

theorem State.rd_placeResult_of_ne {ch k : Nat} {v : Int} {s : State} (h1 : k ≠ 0x601201 + ch) (h2 : k ≠ 0x601001 + ch) :
    (s.placeResult ch v).rd k = s.rd k := by
  rw [State.rd_placeResult, if_neg h1, if_neg h2, ite_self]

theorem State.placeResult_same (ch : Nat) (v : Int) (s : State) :
    sameObjects [0x601101 + ch, 0x601001 + ch, 0x601201 + ch] s (s.placeResult ch v) := fun k hk => by
  obtain ⟨-, h2, h3⟩ : k ≠ 0x601101 + ch ∧ k ≠ 0x601001 + ch ∧ k ≠ 0x601201 + ch := by simpa using hk
  exact State.rd_placeResult_of_ne h3 h2

/-- A good sample's code is placed. -/
theorem State.takeSample_good {s : State} {ch code : Nat} {dv : Int} {r : Int} (h : s.sampleResult ch code dv = some r)
    (k : Option Int → State → State) : s.takeSample ch code dv false k = k (some r) (s.placeCode ch code) := by
  simp [State.takeSample, State.goodSample, h, State.freeResult]

/-- A clamped sample places the clamp code, sets OOR with its side and is logged the first time; no alert bit is set (R342). -/
theorem State.clampSample_frame (ch : Nat) (low : Bool) (s : State) :
    s.clampSample ch low = { s with dict := (s.clampSample ch low).dict, log := (s.clampSample ch low).log
                                    ring := (s.clampSample ch low).ring } := by
  unfold State.clampSample
  dsimp only
  split
  · rfl
  · rw [State.logEvent_frame]; rfl

@[simp] theorem State.clampSample_mram (ch : Nat) (low : Bool) (s : State) : (s.clampSample ch low).mram = s.mram := by
  rw [State.clampSample_frame]
@[simp] theorem State.clampSample_hk (ch : Nat) (low : Bool) (s : State) : (s.clampSample ch low).hk = s.hk := by
  rw [State.clampSample_frame]
@[simp] theorem State.clampSample_therm (ch : Nat) (low : Bool) (s : State) : (s.clampSample ch low).therm = s.therm := by
  rw [State.clampSample_frame]

theorem State.clampSample_ringTime (ch : Nat) (low : Bool) (s : State) : (s.clampSample ch low).ringTime = s.ringTime := by
  unfold State.clampSample
  dsimp only
  split
  · rfl
  · exact congrArg Scene.nanos (State.logEvent_scene ..)

/-- The status of a channel whose sample was clamped (R342). -/
theorem State.clampSample_objects (ch : Nat) (low : Bool) (s : State) :
    sameObjects [0xC00007, 0xC00008] ((s.placeCode ch (clampCode low)).wr (0x601201 + ch)
      (s.rd (0x601201 + ch) / 4 * 4 + 2 * b2n low + 1)) (s.clampSample ch low) := by
  unfold State.clampSample
  dsimp only
  split
  · exact sameObjects.refl _ _
  · exact State.logEvent_same_of_noAlert rfl _

/-- The code and status of a channel whose sample was clamped (R342). -/
theorem State.rd_clampSample (ch : Nat) (low : Bool) (s : State) {k : Nat} (hk : k ≠ 0xC00007 ∧ k ≠ 0xC00008) :
    (s.clampSample ch low).rd k = if k = 0x601201 + ch then s.rd (0x601201 + ch) / 4 * 4 + 2 * b2n low + 1
      else if k = 0x601101 + ch then clampCode low else s.rd k := by
  rw [s.clampSample_objects ch low k (by simpa using hk), State.rd_wr, State.placeCode, State.rd_wr]

/-- OOR and its side (R342). -/
theorem testBit_clampStatus (old : Nat) (low : Bool) :
    (old / 4 * 4 + 2 * b2n low + 1).testBit 0 = true ∧ (old / 4 * 4 + 2 * b2n low + 1).testBit 1 = low := by
  constructor
  · rw [Nat.testBit_zero, decide_eq_true_iff]; omega
  · rw [Nat.testBit_succ, Nat.testBit_zero]
    cases low <;> simp [b2n] <;> omega

/-! ### The sample of the sequence -/

/-- The converter is idle after a sample (R336). -/
def State.sampled (s : State) : State := s.onHk fun h => { h with client := .idle }

theorem State.sampleEnd_of_sequence {s : State} (h : s.hk.client = .sequence) (code : Nat) (dv : Int) (clamped : Bool) :
    exec (.housekeepingSampleEnd code dv clamped) s =
      .next (s.sampled.takeSample (chanOf (nth s.hk.table s.hk.entry 0)) code dv clamped
        (State.sequenceEnd (nth s.hk.table s.hk.entry 0))).hkNext := by
  simp only [exec, execHousekeepingSampleEnd, h]
  rfl

theorem State.sampleEnd_of_injected {s : State} {req : Nat} (h : s.hk.client = .injected req) (code : Nat) (dv : Int)
    (clamped : Bool) : exec (.housekeepingSampleEnd code dv clamped) s =
      .next (s.sampled.takeSample (chanOf req) (if clamped = true then clampCode (code == 0) else code) dv clamped
        (State.injectedSample req (if clamped = true then clampCode (code == 0) else code))).hkNext := by
  simp only [exec, execHousekeepingSampleEnd, h]
  rfl

theorem State.sampleEnd_of_monitor {s : State} {ch : Nat} (h : s.hk.client = .monitor ch) (code : Nat) (dv : Int)
    (clamped : Bool) : exec (.housekeepingSampleEnd code dv clamped) s =
      .next (s.sampled.takeSample ch code dv clamped (State.monitorSample ch)).hkNext := by
  simp only [exec, execHousekeepingSampleEnd, h]
  rfl

/-- The objects of a sample's channel, once its good sample is placed. -/
theorem State.goodSample_objects {s : State} {ch code : Nat} {r : Int} {ks : List Nat} {t : State}
    (h : sameObjects ks ((s.placeCode ch code).placeResult ch r) t) (hch : ch < 26) (hks : ∀ k ∈ ks, k / 256 = 0x6002 ∨ k / 256 = 0x6001) :
    t.rd (0x601101 + ch) = code ∧
      (ch < 23 → t.rd (0x601001 + ch) = ofSigned 32 r ∧ (t.rd (0x601201 + ch)).testBit 2 = true) ∧
      sameObjects ([0x601101 + ch, 0x601001 + ch, 0x601201 + ch] ++ ks) s t := by
  have hfar : ∀ k, k / 256 ≠ 0x6002 → k / 256 ≠ 0x6001 → k ∉ ks := fun k h1 h2 hm => (hks k hm).elim h1 h2
  refine ⟨?_, fun hlow => ⟨?_, ?_⟩, ?_⟩
  · rw [h _ (hfar _ (by omega) (by omega)), State.rd_placeResult_of_ne (by omega) (by omega)]
    exact (State.rd_wr ..).trans (if_pos rfl)
  · rw [h _ (hfar _ (by omega) (by omega)), State.rd_placeResult, if_neg (by omega), if_neg (by omega), if_pos rfl]
  · rw [h _ (hfar _ (by omega) (by omega)), State.rd_placeResult, if_neg (by omega), if_pos rfl, testBit_setBit]
    simp
  · have hcode : sameObjects [0x601101 + ch, 0x601001 + ch, 0x601201 + ch] s (s.placeCode ch code) := fun k hk => by
      rw [State.placeCode, State.rd_wr, if_neg (by rintro rfl; simp at hk)]
    exact (hcode.trans (State.placeResult_same ch r _) (List.Subset.refl _) (List.Subset.refl _)).trans h
      (List.subset_append_left ..) (List.subset_append_right ..)

/-- The objects of a sample's channel, once its clamped sample is placed. -/
theorem State.clampedSample_objects {s : State} {ch code : Nat} {ks : List Nat} {t : State}
    (h : sameObjects ks (s.clampSample ch (code == 0)) t) (hch : ch < 26) (hks : ∀ k ∈ ks, k / 256 = 0x6002 ∨ k / 256 = 0x6001) :
    t.rd (0x601101 + ch) = (if code = 0 then 0 else 0x3FFF) ∧ (t.rd (0x601201 + ch)).testBit 0 = true ∧
      (t.rd (0x601201 + ch)).testBit 1 = (code == 0) ∧
      sameObjects ([0x601101 + ch, 0x601201 + ch] ++ ks ++ [0xC00007, 0xC00008]) s t := by
  have hfar : ∀ k, k / 256 ≠ 0x6002 → k / 256 ≠ 0x6001 → k ∉ ks := fun k h1 h2 hm => (hks k hm).elim h1 h2
  have hstatus : t.rd (0x601201 + ch) = s.rd (0x601201 + ch) / 4 * 4 + 2 * b2n (code == 0) + 1 := by
    rw [h _ (hfar _ (by omega) (by omega)), s.rd_clampSample ch _ (by omega), if_pos rfl]
  refine ⟨?_, ?_, ?_, fun k hk => ?_⟩
  · rw [h _ (hfar _ (by omega) (by omega)), s.rd_clampSample ch _ (by omega), if_neg (by omega), if_pos rfl]
    simp [clampCode]
  · rw [hstatus]; exact (testBit_clampStatus _ _).1
  · rw [hstatus]; exact (testBit_clampStatus _ _).2
  · obtain ⟨h1, h2, hk', h3, h4⟩ : k ≠ 0x601101 + ch ∧ k ≠ 0x601201 + ch ∧ k ∉ ks ∧ k ≠ 0xC00007 ∧ k ≠ 0xC00008 := by
      simpa [and_assoc] using hk
    rw [h k hk', s.rd_clampSample ch _ ⟨h3, h4⟩, if_neg h2, if_neg h1]

/-- The sequence takes the one sample of an entry: a result is placed, a clamped one marks the channel (R338, R342). -/
theorem State.sequenceSample_ends {s : State} {e : Nat} (code : Nat) (dv : Int) (hclient : s.hk.client = .sequence)
    (hseq : s.hk.seq = HkSum.zero) (he : nth s.hk.table s.hk.entry 0 = e) (havg : avgOf e = 1) (hch : chanOf e < 26) :
    (∀ r, s.sampleResult (chanOf e) code dv = some r → ∃ t, exec (.housekeepingSampleEnd code dv false) s = .next t ∧
      t.rd (0x601101 + chanOf e) = code ∧
      (chanOf e < 23 → t.rd (0x601001 + chanOf e) = ofSigned 32 r ∧ (t.rd (0x601201 + chanOf e)).testBit 2 = true) ∧
      sameObjects [0x601101 + chanOf e, 0x601001 + chanOf e, 0x601201 + chanOf e, 0x600102, 0x600203, 0x600204] s t ∧
      t.mram = s.mram) ∧
    (∃ t, exec (.housekeepingSampleEnd code dv true) s = .next t ∧
      t.rd (0x601101 + chanOf e) = (if code = 0 then 0 else 0x3FFF) ∧ (t.rd (0x601201 + chanOf e)).testBit 0 = true ∧
      (t.rd (0x601201 + chanOf e)).testBit 1 = (code == 0) ∧
      sameObjects [0x601101 + chanOf e, 0x601201 + chanOf e, 0x600102, 0x600203, 0x600204, 0xC00007, 0xC00008] s t ∧
      t.mram = s.mram) := by
  have hexec := State.sampleEnd_of_sequence hclient code dv
  rw [he] at hexec
  refine ⟨fun r hr => ⟨_, hexec false, ?_⟩, ⟨_, hexec true, ?_⟩⟩
  · rw [State.takeSample_good (s := s.sampled) hr]
    have hend := ((State.sequenceEnd_only (s := s.sampled.placeCode (chanOf e) code) hseq havg (some r)).mono
      (ls := [0x600102, 0x600203, 0x600204]) (by simp)).trans ((State.hkNext_only _).mono (by simp))
    obtain ⟨h1, h2, h3⟩ := State.goodSample_objects hend.objects hch (by decide)
    refine ⟨h1, h2, h3, ?_⟩
    rw [hend.mram]
    exact State.placeResult_mram (chanOf e) r _
  · have hend := ((State.sequenceEnd_only (s := s.sampled.clampSample (chanOf e) (code == 0))
      ((congrArg Hk.seq (State.clampSample_hk ..)).trans hseq) havg none).mono
      (ls := [0x600102, 0x600203, 0x600204]) (by simp)).trans ((State.hkNext_only _).mono (by simp))
    obtain ⟨h1, h2, h3, h4⟩ := State.clampedSample_objects hend.objects hch (by decide)
    exact ⟨h1, h2, h3, h4, hend.mram.trans (State.clampSample_mram ..)⟩

/-! ### The sample of a request (R339) -/
/-- The entry that an injected result makes (R339). -/
def State.resultEntry (s : State) (req code : Nat) (r : Int) (oor : Bool) : List Byte :=
  leBytes 8 s.ringTime ++ leBytes 4 (ofSigned 32 r) ++ leBytes 2 code ++ leBytes 1 (chanOf req) ++
    leBytes 1 (b2n oor + 2 * b2n (4 ≤ s.hk.injRes.length))

theorem State.queueResult_injRes (req code : Nat) (r : Int) (oor : Bool) (s : State) :
    (s.queueResult req code r oor).hk.injRes =
      (if 4 ≤ s.hk.injRes.length then s.hk.injRes.drop 1 else s.hk.injRes) ++ [s.resultEntry req code r oor] := by
  simp [State.queueResult, State.resultEntry, State.onHk]

/-- The last byte of the entry: OOR and LOST (R339). -/
theorem resultFlags (oor : Bool) (n : Nat) : leBytes 1 (b2n oor + 2 * b2n (4 ≤ n)) =
    [if 4 ≤ n then (if oor then 3 else 2) else (if oor then 1 else 0)] := by
  by_cases h : 4 ≤ n <;> cases oor <;> simp [h, b2n, leBytes]

/-- The result of a request of one good sample is placed and joins the queue (R339). -/
theorem State.injectedSample_good {s : State} {req : Nat} (hreq : s.hk.req = HkSum.zero) (havg : avgOf req = 1) (code : Nat)
    (v : Int) : s.injectedSample req code (some v) =
      ((s.onHk fun h => { h with serving := none, req := HkSum.zero, calAsked := h.calAsked.map (· - 1) }).placeResult
        (chanOf req) v).queueResult req code v false := by
  unfold State.injectedSample State.injectedDone
  rw [hreq, havg, HkSum.add_zero_some]
  simp only [lt_irrefl, if_false, Nat.cast_one, roundDiv_one, Bool.false_eq_true]

/-- The result of a request of one clamped sample is a free value (R342). -/
theorem State.injectedSample_clamped {s : State} {req : Nat} (hreq : s.hk.req = HkSum.zero) (havg : avgOf req = 1) (code : Nat) :
    s.injectedSample req code none =
      ((s.onHk fun h => { h with serving := none, req := HkSum.zero, calAsked := h.calAsked.map (· - 1) }).takeFree.2).queueResult
        req code (toSigned 32 (Config.freeValue s.free)) true := by
  unfold State.injectedSample State.injectedDone
  rw [hreq, havg, HkSum.add_zero_none]
  simp only [lt_irrefl, if_false, if_true]
  rfl

/-- A request of one sample that is not clamped (R339). -/
theorem State.injectedSample_ends {s : State} {req : Nat} (code : Nat) (dv : Int) (hclient : s.hk.client = .injected req)
    (hreq : s.hk.req = HkSum.zero) (havg : avgOf req = 1) (hch : chanOf req < 26) {r : Int}
    (hr : s.sampleResult (chanOf req) code dv = some r) :
    ∃ t, exec (.housekeepingSampleEnd code dv false) s = .next t ∧ t.rd (0x601101 + chanOf req) = code ∧
      t.hk.injRes = (if 4 ≤ s.hk.injRes.length then s.hk.injRes.drop 1 else s.hk.injRes) ++
        [leBytes 8 s.ringTime ++ leBytes 4 (ofSigned 32 r) ++ leBytes 2 code ++ leBytes 1 (chanOf req) ++
          [if 4 ≤ s.hk.injRes.length then 2 else 0]] ∧
      sameObjects [0x601101 + chanOf req, 0x601001 + chanOf req, 0x601201 + chanOf req, 0x600102] s t ∧ t.mram = s.mram := by
  refine ⟨_, State.sampleEnd_of_injected hclient code dv false, ?_⟩
  rw [if_neg Bool.false_ne_true, State.takeSample_good (s := s.sampled) hr,
    State.injectedSample_good (s := s.sampled.placeCode (chanOf req) code) hreq havg]
  generalize hv : ((s.sampled.placeCode (chanOf req) code).onHk fun h =>
    { h with serving := none, req := HkSum.zero, calAsked := h.calAsked.map (· - 1) }) = v
  have hlast := State.hkNext_only ((v.placeResult (chanOf req) r).queueResult req code r false)
  have hqueued : sameObjects [0x600102] ((s.placeCode (chanOf req) code).placeResult (chanOf req) r)
      ((v.placeResult (chanOf req) r).queueResult req code r false).hkNext := fun k hk => by
    rw [hlast.objects k hk, ← hv]
    exact State.rd_placeResult_congr (s := (s.sampled.placeCode (chanOf req) code).onHk _)
      (t := s.placeCode (chanOf req) code) (fun _ => rfl) _ _ _
  obtain ⟨hcode, -, hsame⟩ := State.goodSample_objects hqueued hch (by decide)
  refine ⟨hcode, ?_, hsame, ?_⟩
  · rw [State.hkNext_injRes, State.queueResult_injRes, State.resultEntry, resultFlags, State.placeResult_hk,
      State.placeResult_ringTime, ← hv]
    rfl
  · rw [hlast.mram]
    exact (State.placeResult_mram ..).trans (by rw [← hv]; rfl)

/-- A request of one clamped sample (R342). -/
theorem State.injectedSample_clamps {s : State} {req : Nat} (code : Nat) (dv : Int) (hclient : s.hk.client = .injected req)
    (hreq : s.hk.req = HkSum.zero) (havg : avgOf req = 1) (hch : chanOf req < 26) :
    ∃ t r, exec (.housekeepingSampleEnd code dv true) s = .next t ∧
      t.rd (0x601101 + chanOf req) = (if code = 0 then 0 else 0x3FFF) ∧
      t.hk.injRes = (if 4 ≤ s.hk.injRes.length then s.hk.injRes.drop 1 else s.hk.injRes) ++
        [leBytes 8 s.ringTime ++ leBytes 4 (ofSigned 32 r) ++ leBytes 2 (if code = 0 then 0 else 0x3FFF) ++
          leBytes 1 (chanOf req) ++ [if 4 ≤ s.hk.injRes.length then 3 else 1]] ∧
      sameObjects [0x601101 + chanOf req, 0x601201 + chanOf req, 0x600102, 0xC00007, 0xC00008] s t ∧ t.mram = s.mram := by
  have hclamp : clampCode (code == 0) = if code = 0 then 0 else 0x3FFF := by simp [clampCode]
  have hside : (clampCode (code == 0) == 0) = (code == 0) := by by_cases h : code = 0 <;> simp [clampCode, h]
  have htake (k : Option Int → State → State) (c : Nat) (u : State) :
      u.takeSample (chanOf req) c dv true k = k none (u.clampSample (chanOf req) (c == 0)) := rfl
  have hfree : (s.sampled.clampSample (chanOf req) (code == 0)).free = s.free := by rw [State.clampSample_frame]; rfl
  refine ⟨_, toSigned 32 (Config.freeValue s.free), State.sampleEnd_of_injected hclient code dv true, ?_⟩
  rw [if_pos rfl, htake, hside, ← hclamp,
    State.injectedSample_clamped (s := s.sampled.clampSample (chanOf req) (code == 0))
      ((congrArg Hk.req (State.clampSample_hk ..)).trans hreq) havg, hfree]
  generalize hv : ((s.sampled.clampSample (chanOf req) (code == 0)).onHk fun h =>
    { h with serving := none, req := HkSum.zero, calAsked := h.calAsked.map (· - 1) }).takeFree.2 = v
  have hqueue : (s.sampled.clampSample (chanOf req) (code == 0)).hk.injRes = s.hk.injRes :=
    (congrArg Hk.injRes (State.clampSample_hk (chanOf req) (code == 0) s.sampled)).trans rfl
  have hhk : v.hk.injRes = s.hk.injRes := by rw [← hv]; exact hqueue
  have htime : v.ringTime = s.ringTime := by
    rw [← hv]; exact State.clampSample_ringTime (chanOf req) (code == 0) s.sampled
  have hlast := State.hkNext_only (v.queueResult req (clampCode (code == 0)) (toSigned 32 (Config.freeValue s.free)) true)
  have hqueued : sameObjects [0x600102] (s.sampled.clampSample (chanOf req) (code == 0)) _ := fun k hk =>
    (hlast.objects k hk).trans (by rw [← hv]; rfl)
  obtain ⟨hcode, -, -, hsame⟩ := State.clampedSample_objects hqueued hch (by decide)
  refine ⟨hcode.trans hclamp.symm, ?_, hsame, ?_⟩
  · rw [State.hkNext_injRes, State.queueResult_injRes, State.resultEntry, resultFlags, hhk, htime]
    rfl
  · rw [hlast.mram]
    exact Eq.trans (by rw [← hv]; rfl) (State.clampSample_mram (chanOf req) (code == 0) s.sampled)

/-! ### The sample of the monitor (R340, R346) -/

theorem State.monitorSample_some (ch : Nat) (v : Int) (s : State) : State.monitorSample ch (some v) s =
    ((s.placeResult ch v).onHk fun h => { h with due := h.due.erase ch }).onTherm fun t =>
      { t with got := t.got ++ [(ch, some v)] } := rfl

theorem State.monitorSample_none (ch : Nat) (s : State) : State.monitorSample ch none s =
    (s.onHk fun h => { h with due := h.due.erase ch }).onTherm fun t => { t with got := t.got ++ [(ch, none)] } := rfl

/-- A sample of the monitor joins the samples taken. -/
theorem State.monitorSample_ends {s : State} {ch : Nat} (code : Nat) (dv : Int) (hclient : s.hk.client = .monitor ch)
    (hch : ch < 26) :
    (∀ r, s.sampleResult ch code dv = some r → ∃ t, exec (.housekeepingSampleEnd code dv false) s = .next t ∧
      t.therm = { s.therm with got := s.therm.got ++ [(ch, some r)] } ∧ t.hk.due = s.hk.due.erase ch ∧
      t.rd (0x601101 + ch) = code ∧ (ch < 23 → t.rd (0x601001 + ch) = ofSigned 32 r) ∧
      sameObjects [0x601101 + ch, 0x601001 + ch, 0x601201 + ch, 0x600102] s t) ∧
    (∃ t, exec (.housekeepingSampleEnd code dv true) s = .next t ∧
      t.therm = { s.therm with got := s.therm.got ++ [(ch, none)] } ∧ t.hk.due = s.hk.due.erase ch ∧
      t.rd (0x601101 + ch) = (if code = 0 then 0 else 0x3FFF) ∧ (t.rd (0x601201 + ch)).testBit 0 = true) := by
  refine ⟨fun r hr => ⟨_, State.sampleEnd_of_monitor hclient code dv false, ?_⟩,
    ⟨_, State.sampleEnd_of_monitor hclient code dv true, ?_⟩⟩
  · rw [State.takeSample_good (s := s.sampled) hr, State.monitorSample_some]
    generalize hv : ((s.sampled.placeCode ch code).placeResult ch r) = v
    have hhk : v.hk.due = s.hk.due := by rw [← hv, State.placeResult_hk]; rfl
    have htherm : v.therm = s.therm := by rw [← hv, State.placeResult_therm]; rfl
    have hlast := State.hkNext_only ((v.onHk fun h => { h with due := h.due.erase ch }).onTherm fun t =>
      { t with got := t.got ++ [(ch, some r)] })
    have hplaced : sameObjects [0x600102] ((s.placeCode ch code).placeResult ch r) _ := fun k hk =>
      (hlast.objects k hk).trans (by
        rw [State.onTherm_rd, State.onHk_rd, ← hv]
        exact State.rd_placeResult_congr (s := s.sampled.placeCode ch code) (t := s.placeCode ch code) (fun _ => rfl) _ _ _)
    obtain ⟨hcode, hresult, hsame⟩ := State.goodSample_objects hplaced hch (by decide)
    refine ⟨?_, ?_, hcode, fun hlow => (hresult hlow).1, hsame⟩
    · rw [hlast.therm, State.onTherm_therm, State.onHk_therm, htherm]
    · rw [State.hkNext_due, State.onTherm_hk, State.onHk_hk, hhk]
  · have htake : s.sampled.takeSample ch code dv true (State.monitorSample ch) =
      State.monitorSample ch none (s.sampled.clampSample ch (code == 0)) := rfl
    rw [htake, State.monitorSample_none]
    have hhk := State.clampSample_hk ch (code == 0) s.sampled
    have htherm := State.clampSample_therm ch (code == 0) s.sampled
    have hlast := State.hkNext_only (((s.sampled.clampSample ch (code == 0)).onHk fun h =>
      { h with due := h.due.erase ch }).onTherm fun t => { t with got := t.got ++ [(ch, none)] })
    have hplaced : sameObjects [0x600102] (s.sampled.clampSample ch (code == 0)) _ := hlast.objects
    obtain ⟨hcode, hbit, -, -⟩ := State.clampedSample_objects hplaced hch (by decide)
    refine ⟨?_, ?_, hcode, hbit⟩
    · rw [hlast.therm, State.onTherm_therm, State.onHk_therm, htherm]; rfl
    · rw [State.hkNext_due, State.onTherm_hk, State.onHk_hk, hhk]; rfl

/-! ### The sequence is written (R338) -/

theorem State.writeSequence_zero (s : State) : State.writeSequence 0 s =
    (s.wr 0x600201 0).onHk fun h => { h with inSeq := false, restart := false, delayUntil := none } := rfl

theorem State.beginPass_hk (s : State) : s.beginPass.hk = { s.hk with
    seq := HkSum.zero, rep := 0, entry := 0, table := (List.range 32).map fun i => s.rd (0x600301 + i)
    len := s.rd 0x600202, delayUntil := none, restart := false } := rfl

theorem State.rd_beginPass (s : State) (k : Nat) : s.beginPass.rd k = if k = 0x600203 then 0 else s.rd k :=
  State.rd_wr s 0x600203 0 k

/-- A write of 1 starts the sequence at entry 0, or again once the sample in progress has ended. -/
theorem State.writeSequence_one (s : State) : State.writeSequence 1 s =
    if s.hk.client = .sequence then (s.wr 0x600201 1).onHk fun h => { h with inSeq := true, restart := true }
    else (((s.wr 0x600201 1).onHk fun h => { h with inSeq := true }).beginPass).hkNext := rfl

/-- What a started sequence leaves. -/
theorem State.writeSequence_one_starts {s : State} (h : s.hk.client ≠ .sequence) :
    s.HkOnly [0x600201, 0x600203, 0x600102] (State.writeSequence 1 s) ∧ (State.writeSequence 1 s).rd 0x600201 = 1 ∧
      (State.writeSequence 1 s).hk.inSeq = true ∧ (State.writeSequence 1 s).rd 0x600203 = 0 ∧
      (State.writeSequence 1 s).hk.entry = 0 ∧ (State.writeSequence 1 s).hk.len = s.rd 0x600202 ∧
      (State.writeSequence 1 s).hk.table = (List.range 32).map fun i => s.rd (0x600301 + i) := by
  have hon : s.HkOnly [0x600201, 0x600203, 0x600102] ((s.wr 0x600201 1).onHk fun h => { h with inSeq := true }) :=
    ((State.HkOnly.refl _ s).wr (by simp) 1).onHk _
  have hrd : ∀ k, k ≠ 0x600201 → ((s.wr 0x600201 1).onHk fun h => { h with inSeq := true }).rd k = s.rd k := fun k hk => by
    rw [State.onHk_rd, State.rd_wr, if_neg hk]
  have hone : ((s.wr 0x600201 1).onHk fun h => { h with inSeq := true }).rd 0x600201 = 1 := by
    rw [State.onHk_rd, State.rd_wr, if_pos rfl]
  have hin : ((s.wr 0x600201 1).onHk fun h => { h with inSeq := true }).hk.inSeq = true := rfl
  rw [State.writeSequence_one, if_neg h]
  generalize (s.wr 0x600201 1).onHk (fun h => { h with inSeq := true }) = v at hon hrd hone hin
  have hpass : v.HkOnly [0x600201, 0x600203, 0x600102] v.beginPass := ((State.HkOnly.refl _ v).wr (by simp) 0).onHk _
  have hlast := v.beginPass.hkNext_only
  refine ⟨(hon.trans hpass).trans (hlast.mono (by simp)), ?_, ?_, ?_, ?_, ?_, ?_⟩
  · rw [hlast.objects _ (by decide), State.rd_beginPass, if_neg (by decide), hone]
  · rw [State.hkNext_inSeq, State.beginPass_hk]; exact hin
  · rw [hlast.objects _ (by decide), State.rd_beginPass, if_pos rfl]
  · rw [State.hkNext_entry, State.beginPass_hk]
  · rw [State.hkNext_len, State.beginPass_hk]; exact hrd _ (by decide)
  · rw [State.hkNext_table, State.beginPass_hk]
    exact List.map_congr_left fun i _ => hrd _ (by omega)

/-! ### The host's writes -/

@[simp] theorem State.onServe_hk (s : State) (tr : Transport) : (s.onServe tr).hk = s.hk := by rw [State.onServe_frame]
@[simp] theorem State.onServe_timing (s : State) (tr : Transport) : (s.onServe tr).timing = s.timing := by
  rw [State.onServe_frame]

section hostHk
variable {s : State} {w : Txn} (h : s.admits w) (hk : w.key ≠ 0x102009) {eff : State → State} {ks : List Nat}
include h hk

theorem State.hostWrite_hk (eff : State → State) : (s.hostWrite w eff).hk = (eff (s.onServe w.tr)).hk := by
  rw [State.hostWrite_eq_counted1 h hk, State.counted1_hk]

/-- An admitted write whose effect is the converter's. -/
theorem State.hostWrite_hkOnly (he : (s.onServe w.tr).HkOnly ks (eff (s.onServe w.tr))) :
    (s.hostWrite w eff).answer.abort = 0 ∧ sameObjects (ks ++ accessCounters w.tr) s (s.hostWrite w eff) ∧
      s.hostWrite w eff = { s with dict := (s.hostWrite w eff).dict, answer := (s.hostWrite w eff).answer
                                   hk := (s.hostWrite w eff).hk } := by
  refine ⟨?_, State.hostWrite_same h hk _ he.objects, ?_⟩
  · rw [State.hostWrite_answer h hk, he.answer]; rfl
  · rw [State.hostWrite_eq_counted1 h hk, State.counted1_frame, he.frame, State.onServe_frame]

end hostHk

/-- A write of the sequence object (R338). -/
theorem State.sequenceStop_stops {s : State} {tr : Transport} (h : s.admits ⟨tr, 0x600201, 1, 0⟩) :
    ∃ t, exec (.sequenceStop tr 0) s = .next t ∧ t.answer.abort = 0 ∧ t.rd 0x600201 = 0 ∧
      t.hk = { s.hk with inSeq := false, restart := false, delayUntil := none } ∧
      sameObjects (0x600201 :: accessCounters tr) s t ∧ t = { s with dict := t.dict, answer := t.answer, hk := t.hk } := by
  have hk : (⟨tr, 0x600201, 1, 0⟩ : Txn).key ≠ 0x102009 := by simp
  have honly : (s.onServe tr).HkOnly [0x600201] (State.writeSequence 0 (s.onServe tr)) := by
    rw [State.writeSequence_zero]
    exact ((State.HkOnly.refl _ _).wr (List.mem_singleton.mpr rfl) 0).onHk _
  obtain ⟨habort, hsame, hframe⟩ := State.hostWrite_hkOnly h hk honly
  refine ⟨_, rfl, habort, ?_, ?_, hsame, hframe⟩
  · rw [State.rd_hostWrite h hk _ (by decide) (by decide), State.writeSequence_zero, State.onHk_rd, State.rd_wr,
      if_pos rfl]
  · rw [State.hostWrite_hk h hk, State.writeSequence_zero, State.onHk_hk, State.wr_hk, State.onServe_hk]

theorem State.sequenceStart_starts {s : State} {tr : Transport} (h : s.admits ⟨tr, 0x600201, 1, 1⟩) :
    ∃ t, exec (.sequenceStart tr 1) s = .next t ∧ t.answer.abort = 0 ∧
      t.rd 0x600201 = 1 ∧ t.hk.inSeq = true ∧ (s.hk.client = .sequence → t.hk.restart = true) ∧
      (s.hk.client ≠ .sequence → t.rd 0x600203 = 0 ∧ t.hk.entry = 0 ∧ t.hk.len = s.rd 0x600202 ∧
        t.hk.table = (List.range 32).map fun i => s.rd (0x600301 + i)) ∧
      sameObjects ([0x600201, 0x600203, 0x600102] ++ accessCounters tr) s t ∧
      t = { s with dict := t.dict, answer := t.answer, hk := t.hk } := by
  have hk : (⟨tr, 0x600201, 1, 1⟩ : Txn).key ≠ 0x102009 := by simp
  have hrd := fun k h1 h2 => State.rd_hostWrite h hk (State.writeSequence 1) (j := k) h1 h2
  have hhk := State.hostWrite_hk h hk (State.writeSequence 1)
  by_cases hclient : s.hk.client = .sequence
  · have heff : State.writeSequence 1 (s.onServe tr) =
        ((s.onServe tr).wr 0x600201 1).onHk fun h => { h with inSeq := true, restart := true } := by
      rw [State.writeSequence_one, State.onServe_hk, if_pos hclient]
    have honly : (s.onServe tr).HkOnly [0x600201, 0x600203, 0x600102] (State.writeSequence 1 (s.onServe tr)) := by
      rw [heff]; exact ((State.HkOnly.refl _ _).wr (by simp) 1).onHk _
    obtain ⟨habort, hsame, hframe⟩ := State.hostWrite_hkOnly h hk honly
    refine ⟨_, rfl, habort, ?_, ?_, fun _ => ?_, fun hn => absurd hclient hn, hsame, hframe⟩
    · rw [hrd _ (by decide) (by decide), heff, State.onHk_rd, State.rd_wr, if_pos rfl]
    · rw [hhk, heff]; rfl
    · rw [hhk, heff]; rfl
  · obtain ⟨honly, hmode, hin, hshown, hentry, hlen, htable⟩ :=
      State.writeSequence_one_starts (s := s.onServe tr) (by rw [State.onServe_hk]; exact hclient)
    obtain ⟨habort, hsame, hframe⟩ := State.hostWrite_hkOnly h hk honly
    refine ⟨_, rfl, habort, ?_, ?_, fun hn => absurd hn hclient, fun _ => ⟨?_, ?_, ?_, ?_⟩, hsame, hframe⟩
    · rw [hrd _ (by decide) (by decide), hmode]
    · rw [hhk, hin]
    · rw [hrd _ (by decide) (by decide), hshown]
    · rw [hhk, hentry]
    · rw [hhk, hlen, s.onServe_rd tr (by decide) (by decide)]
    · rw [hhk, htable]
      exact List.map_congr_left fun i hi => s.onServe_rd tr (by have := List.mem_range.mp hi; omega) (by have := List.mem_range.mp hi; omega)

/-! ### Injected requests (R339) -/

/-- A fifth request is refused, counted and marked lost (R339). -/
theorem State.injectedRequest_refused {s : State} {tr : Transport} {v : Nat} (h : s.admits ⟨tr, 0x600401, 2, v⟩)
    (hfull : 4 ≤ s.hk.inj.length) :
    ∃ t, exec (.injectedRequest tr v) s = .next t ∧ t.answer.abort = 0x05010000 ∧
      t.rd 0x600403 = 1 ∧ t.rd 0x600404 = countUp (s.rd 0x600404) ∧ t.hk = s.hk ∧
      sameObjects ([0x600403, 0x600404, 0xC00007, 0xC00008] ++ accessCounters tr) s t := by
  have hk : (⟨tr, 0x600401, 2, v⟩ : Txn).key ≠ 0x102009 := by simp
  have heff : State.inject v (s.onServe tr) =
      ((((s.onServe tr).wr 0x600403 1).inc 0x600404).logEvent 0x0A05 (leBytes 1 (chanOf v))).refuse abortState :=
    if_pos (by rw [State.onServe_hk]; exact hfull)
  have hlog := State.logEvent_same_of_noAlert (code := 0x0A05) (data := leBytes 1 (chanOf v)) rfl
    (((s.onServe tr).wr 0x600403 1).inc 0x600404)
  have hcounts : sameObjects [0x600403, 0x600404] (s.onServe tr) (((s.onServe tr).wr 0x600403 1).inc 0x600404) :=
    fun k hk => by
      obtain ⟨h1, h2⟩ : k ≠ 0x600403 ∧ k ≠ 0x600404 := by simpa using hk
      rw [State.rd_inc, if_neg h2, State.rd_wr, if_neg h1]
  have hrd (k : Nat) (h1 : k / 256 = 0x6004) :
      (s.hostWrite ⟨tr, 0x600401, 2, v⟩ (State.inject v)).rd k = (((s.onServe tr).wr 0x600403 1).inc 0x600404).rd k := by
    rw [State.rd_hostWrite h hk _ (by omega) (by omega), heff]
    exact hlog k (by simp; omega)
  refine ⟨_, rfl, ?_, ?_, ?_, ?_, State.hostWrite_same h hk _ ?_⟩
  · rw [State.hostWrite_answer h hk, heff]; rfl
  · rw [hrd _ (by decide), State.rd_inc, if_neg (by decide), State.rd_wr, if_pos rfl]
  · rw [hrd _ (by decide), State.rd_inc, if_pos rfl, State.rd_wr, if_neg (by decide),
      s.onServe_rd tr (by decide) (by decide), countUp]
  · rw [State.hostWrite_hk h hk, heff]
    exact (State.logEvent_hk ..).trans (s.onServe_hk tr)
  · rw [heff]
    exact (hcounts.trans hlog (List.subset_append_left [0x600403, 0x600404] [0xC00007, 0xC00008])
      (List.subset_append_right [0x600403, 0x600404] _)).of_dict rfl

/-- A request is queued, and taken by a converter that is free (R336, R339). -/
theorem State.injectedRequest_queued {s : State} {tr : Transport} {v : Nat} (h : s.admits ⟨tr, 0x600401, 2, v⟩)
    (hroom : s.hk.inj.length < 4) {g : Hk}
    (hnext : ((s.onServe tr).onHk fun x => { x with inj := x.inj ++ [v] }).hkNext = (s.onServe tr).onHk fun _ => g) :
    ∃ t, exec (.injectedRequest tr v) s = .next t ∧ t.answer.abort = 0 ∧ t.hk = g ∧ sameObjects (accessCounters tr) s t := by
  have hk : (⟨tr, 0x600401, 2, v⟩ : Txn).key ≠ 0x102009 := by simp
  have heff : State.inject v (s.onServe tr) = (s.onServe tr).onHk fun _ => g :=
    (if_neg (by rw [State.onServe_hk]; exact Nat.not_le.mpr hroom)).trans hnext
  have honly : (s.onServe tr).HkOnly [] (State.inject v (s.onServe tr)) := by
    rw [heff]; exact (State.HkOnly.refl _ _).onHk _
  obtain ⟨habort, hsame, -⟩ := State.hostWrite_hkOnly h hk honly
  refine ⟨_, rfl, habort, ?_, hsame⟩
  rw [State.hostWrite_hk h hk, heff]
  rfl

/-- A converter that is free takes the one request that waits (R336, R339). -/
theorem State.hkNext_takes {s : State} {v : Nat} (hclient : s.hk.client = .idle) (hcal : s.hk.calAt = none)
    (hasked : s.hk.calAsked = none) (hdue : s.hk.due = []) (hserving : s.hk.serving = none) (hinj : s.hk.inj = [v])
    (hclk : s.timing.clk100 = true) : s.hkNext = s.onHk fun h =>
      { h with client := .injected v, serving := some v, req := HkSum.zero, inj := [] } := by
  have htake : s.takeRequest = s.onHk fun h => { h with serving := some v, req := HkSum.zero, inj := [] } := by
    simp [State.takeRequest, hserving, hinj]
  unfold State.hkNext
  rw [if_neg (by simp [hclient, hcal, hclk])]
  simp only [hasked, hdue, htake]
  rfl

/-- A read of the oldest result removes it (R339). -/
theorem State.injectedResult_read {s : State} {tr : Transport} (h : s.admitsRead tr 0x600405) :
    ∃ t, exec (.injectedResultRead tr) s = .next t ∧ t.answer.abort = 0 ∧
      t.answer.data = pad 16 ((s.hk.injRes.head?).getD []) ∧ t.hk = { s.hk with injRes := s.hk.injRes.tail } ∧
      sameObjects (accessCounters tr) s t ∧ t = { s with dict := t.dict, answer := t.answer, hk := t.hk } := by
  have hsame := State.hostRead_same h (eff := State.readInjected) (ks := []) fun _ _ => rfl
  obtain ⟨d, hd⟩ := s.committed_shape tr
  obtain ⟨d', hd'⟩ := State.counted_shape (State.readInjected (s.committed tr)) tr 0x600405
  have heq := (State.hostRead_admitted h State.readInjected).trans hd'
  rw [hd] at heq
  have hhead : nth s.hk.injRes 0 [] = (s.hk.injRes.head?).getD [] := by cases s.hk.injRes <;> rfl
  refine ⟨_, rfl, ?_, ?_, ?_, hsame, ?_⟩
  all_goals rw [heq]
  · rfl
  · rw [← hhead]; rfl
  · rw [← List.drop_one]; rfl
  · rfl

/-! ### Self-calibration (R340, R341) -/

/-- A calibration that nothing stands before begins at once (R340). -/
theorem State.hkNext_calibrates {s : State} (hclient : s.hk.client = .idle) (hcal : s.hk.calAt = none)
    (hasked : s.hk.calAsked = some 0) (hclk : s.timing.clk100 = true) : s.hkNext = s.beginHkCal := by
  unfold State.hkNext
  rw [if_neg (by simp [hclient, hcal, hclk])]
  simp only [hasked]

theorem State.beginHkCal_rd (s : State) : s.beginHkCal.rd 0x600102 = 1 := (State.rd_wr s 0x600102 1 _).trans (if_pos rfl)

theorem State.beginHkCal_hk (s : State) : s.beginHkCal.hk = { s.hk with calAsked := none, calAt := some s.now } := rfl

theorem State.selfCalibration_refused {s : State} {tr : Transport} (h : s.admits ⟨tr, 0x600101, 1, 1⟩)
    (hbusy : s.hk.calAsked.isSome = true ∨ s.hk.calAt.isSome = true) :
    ∃ t, exec (.housekeepingSelfCalibration tr 1) s = .next t ∧ t.answer.abort = 0x05010000 ∧
      sameObjects (accessCounters tr) s t ∧ t = { s with dict := t.dict, answer := t.answer } := by
  have hk : (⟨tr, 0x600101, 1, 1⟩ : Txn).key ≠ 0x102009 := by simp
  have heff : State.askHkCal (s.onServe tr) = (s.onServe tr).refuse abortState :=
    if_pos (by rw [State.onServe_hk]; exact hbusy)
  refine ⟨_, congrArg Host.Outcome.next (State.hostCommand_one s tr _ _), ?_,
    State.hostWrite_same h hk (ks := []) _ (by rw [heff]; exact fun _ _ => rfl), ?_⟩
  · rw [State.hostWrite_answer h hk, heff]; rfl
  · rw [State.hostWrite_eq_counted1 h hk, State.counted1_frame, heff, State.refuse, State.onServe_frame]

theorem State.selfCalibration_begins {s : State} {tr : Transport} (h : s.admits ⟨tr, 0x600101, 1, 1⟩)
    (hasked : s.hk.calAsked = none) (hcal : s.hk.calAt = none) (hclient : s.hk.client = .idle) (hinj : s.hk.inj = [])
    (hserving : s.hk.serving = none) (hclk : s.timing.clk100 = true) :
    ∃ t, exec (.housekeepingSelfCalibration tr 1) s = .next t ∧ t.answer.abort = 0 ∧ t.rd 0x600102 = 1 ∧
      t.hk = { s.hk with calAt := some s.now } ∧ sameObjects (0x600102 :: accessCounters tr) s t := by
  have hk : (⟨tr, 0x600101, 1, 1⟩ : Txn).key ≠ 0x102009 := by simp
  have hahead : (s.onServe tr).requestsAhead = 0 := by simp [State.requestsAhead, hinj, hserving, b2n]
  have heff : State.askHkCal (s.onServe tr) = ((s.onServe tr).onHk fun x => { x with calAsked := some 0 }).beginHkCal := by
    refine (if_neg (by simp [hasked, hcal])).trans ?_
    rw [hahead]
    exact State.hkNext_calibrates (by simp [hclient]) (by simp [hcal]) rfl (by simp [hclk])
  have honly : (s.onServe tr).HkOnly [0x600102] (State.askHkCal (s.onServe tr)) := by
    rw [heff]; exact (((State.HkOnly.refl [0x600102] _).onHk _).wr (List.mem_singleton.mpr rfl) 1).onHk _
  obtain ⟨habort, hsame, -⟩ := State.hostWrite_hkOnly h hk honly
  refine ⟨_, congrArg Host.Outcome.next (State.hostCommand_one s tr _ _), habort, ?_, ?_, hsame⟩
  · rw [State.rd_hostWrite h hk _ (by decide) (by decide), heff]
    exact State.beginHkCal_rd _
  · rw [State.hostWrite_hk h hk, heff, State.beginHkCal_hk, State.onHk_hk, State.onHk_now, State.onServe_hk,
      State.onServe_now, ← hasked]

/-- A calibration that has ended (R341). -/
theorem State.hkCalResult_fails {s : State} {offset : Int} (h : 64 < offset.natAbs) (gain : Int) (weights : List Int) (vbg inl : Nat) :
    s.hkCalResult offset gain weights vbg inl =
      (((s.onHk fun h => { h with calAt := none }).wr 0x600102 3).wr 0x600103 1).logEvent 0x0A06 (leBytes 1 1) := by
  have hcause : hkCalCause offset gain vbg inl = some 1 := if_pos h
  simp only [State.hkCalResult, hcause]

theorem State.hkCalResult_succeeds {s : State} {offset gain : Int} {vbg inl : Nat} (h1 : offset.natAbs ≤ 64)
    (h2 : gain.natAbs ≤ 3000) (h3 : 980000 ≤ vbg) (h4 : vbg ≤ 1020000) (h5 : inl ≤ 1024) (weights : List Int) :
    s.hkCalResult offset gain weights vbg inl =
      ((s.onHk fun h => { h with calAt := none }).wr 0x600102 2).onHk fun h =>
        { h with offset := offset, gain := gain, weights := weights } := by
  have hcause : hkCalCause offset gain vbg inl = none := by
    unfold hkCalCause
    rw [if_neg (by omega), if_neg (by omega), if_neg (by omega), if_neg (by omega)]
  simp only [State.hkCalResult, hcause]

/-- The end of a calibration is due 4.2 ms after its start (R340). -/
theorem State.calibrationEnd_due {s : State} {x : Instant} (hcal : s.hk.calAt = some x) (hclk : s.timing.clk100 = true)
    (hdue : x + ns 4200000 ≤ s.now) (offset gain : Int) (weights : List Int) (vbg inl : Nat) :
    ∃ f : Therm → Therm, exec (.housekeepingCalibrationEnd offset gain vbg inl weights) s =
      .next ((s.hkCalResult offset gain weights vbg inl).onTherm f).hkNext := by
  refine ⟨fun t => if (s.hkCalResult offset gain weights vbg inl).therm.assessed = true then t
    else { t with scanAt := (s.hkCalResult offset gain weights vbg inl).now
                  fillAt := (s.hkCalResult offset gain weights vbg inl).now }, ?_⟩
  simp only [exec, execHousekeepingCalibrationEnd, hcal, if_pos (And.intro hdue hclk)]
  split <;> rfl

/-- What the end of a calibration leaves (R341). -/
theorem State.calibrationEnd_ends {s : State} {x : Instant} (hcal : s.hk.calAt = some x) (hasked : s.hk.calAsked = none)
    (hclk : s.timing.clk100 = true) (offset gain : Int) (weights : List Int) (vbg inl : Nat) :
    (s.now < x + ns 4200000 → exec (.housekeepingCalibrationEnd offset gain vbg inl weights) s = .next s) ∧
    (x + ns 4200000 ≤ s.now → ∃ t, exec (.housekeepingCalibrationEnd offset gain vbg inl weights) s = .next t ∧
      t.mram = s.mram ∧
      (64 < offset.natAbs → t.rd 0x600102 = 3 ∧ t.rd 0x600103 = 1 ∧ t.hk.offset = s.hk.offset ∧ t.hk.gain = s.hk.gain ∧
        (t.rd 0x100101).testBit 11 = true) ∧
      (offset.natAbs ≤ 64 → gain.natAbs ≤ 3000 → 980000 ≤ vbg → vbg ≤ 1020000 → inl ≤ 1024 →
        t.hk.offset = offset ∧ t.hk.gain = gain ∧ t.hk.weights = weights ∧ t.rd 0x600102 = 2)) := by
  refine ⟨fun hearly => ?_, fun hdue => ?_⟩
  · have hnot : ¬(x + ns 4200000 ≤ s.now ∧ s.timing.clk100 = true) := fun h => Nat.not_le.mpr hearly h.1
    simp only [exec, execHousekeepingCalibrationEnd, hcal, if_neg hnot]
  · obtain ⟨f, hexec⟩ := State.calibrationEnd_due hcal hclk hdue offset gain weights vbg inl
    have hlast := State.hkNext_only ((s.hkCalResult offset gain weights vbg inl).onTherm f)
    have hdict (hn : (s.hkCalResult offset gain weights vbg inl).hk.calAsked ≠ some 0) (k : Nat) :
        ((s.hkCalResult offset gain weights vbg inl).onTherm f).hkNext.rd k =
          (s.hkCalResult offset gain weights vbg inl).rd k :=
      congrArg (Dict.get · k) (State.hkNext_dict (s := (s.hkCalResult offset gain weights vbg inl).onTherm f) hn)
    refine ⟨_, hexec, ?_, fun hfail => ?_, fun h1 h2 h3 h4 h5 => ?_⟩
    · rw [hlast.mram, State.onTherm_mram]
      unfold State.hkCalResult
      dsimp only
      split
      · exact State.logEvent_mram ..
      · rfl
    · have heq := State.hkCalResult_fails (s := s) hfail gain weights vbg inl
      have hhk : (s.hkCalResult offset gain weights vbg inl).hk = { s.hk with calAt := none } := by
        rw [heq]; exact State.logEvent_hk ..
      have hasked' : (s.hkCalResult offset gain weights vbg inl).hk.calAsked ≠ some 0 := by rw [hhk]; simp [hasked]
      rw [State.hkNext_offset, State.hkNext_gain, State.onTherm_hk, hhk]
      simp only [hdict hasked']
      rw [heq]
      have hlog := State.logEvent_same (((s.onHk fun h => { h with calAt := none }).wr 0x600102 3).wr 0x600103 1) 0x0A06
        (leBytes 1 1)
      refine ⟨?_, ?_, trivial, trivial, ?_⟩
      · rw [hlog _ (by decide), State.rd_wr, if_neg (by decide), State.rd_wr, if_pos rfl]
      · rw [hlog _ (by decide), State.rd_wr, if_pos rfl]
      · rw [State.logEvent_alerts]
        exact (testBit_setBit ..).trans (Bool.or_true _)
    · have heq := State.hkCalResult_succeeds (s := s) h1 h2 h3 h4 h5 weights
      have hasked' : (s.hkCalResult offset gain weights vbg inl).hk.calAsked ≠ some 0 := by
        rw [heq]; simp [hasked]
      rw [State.hkNext_offset, State.hkNext_gain, State.hkNext_weights, State.onTherm_hk, hdict hasked', heq]
      exact ⟨rfl, rfl, rfl, by rw [State.onHk_rd, State.rd_wr, if_pos rfl]⟩

/-! ### The post-delay (R338) -/

theorem State.postDelay_ends {s : State} {x : Instant} (hdelay : s.hk.delayUntil = some x) (hin : s.hk.inSeq = true)
    (hclk : s.timing.clk100 = true) :
    (s.now < x → exec .sequencePostDelayEnd s = .next s) ∧
    (x ≤ s.now → s.hk.entry + 1 < s.hk.len → ∃ t, exec .sequencePostDelayEnd s = .next t ∧
      t.rd 0x600203 = s.hk.entry + 1 ∧ t.hk.entry = s.hk.entry + 1 ∧ t.hk.delayUntil = none ∧
      sameObjects [0x600203, 0x600102] s t) ∧
    (x ≤ s.now → s.hk.len ≤ s.hk.entry + 1 → ∃ t, exec .sequencePostDelayEnd s = .next t ∧ t.rd 0x600203 = 0 ∧
      t.hk.entry = 0 ∧ t.rd 0x600204 = countUp (s.rd 0x600204) ∧ sameObjects [0x600203, 0x600204, 0x600102] s t) := by
  have hover (hx : x ≤ s.now) : exec .sequencePostDelayEnd s = .next s.nextEntry.hkNext := by
    simp only [exec, execSequencePostDelayEnd, hdelay, if_pos (And.intro hx (And.intro hin hclk))]
  have hlast := s.nextEntry.hkNext_only
  refine ⟨fun hearly => ?_, fun hx hmore => ?_, fun hx hend => ?_⟩
  · have hnot : ¬(x ≤ s.now ∧ s.hk.inSeq = true ∧ s.timing.clk100 = true) := fun h => Nat.not_le.mpr hearly h.1
    simp only [exec, execSequencePostDelayEnd, hdelay, if_neg hnot]
  · have hnext : s.nextEntry = (s.wr 0x600203 (s.hk.entry + 1)).onHk fun h =>
        { h with entry := h.entry + 1, rep := 0, delayUntil := none } := if_neg (Nat.not_le.mpr hmore)
    have honly : s.HkOnly [0x600203, 0x600102] s.nextEntry := by
      rw [hnext]; exact ((State.HkOnly.refl _ s).wr (by simp) _).onHk _
    refine ⟨_, hover hx, ?_, ?_, ?_, (honly.trans (hlast.mono (by simp))).objects⟩
    · rw [hlast.objects _ (by decide), hnext, State.onHk_rd, State.rd_wr, if_pos rfl]
    · rw [State.hkNext_entry, hnext]; rfl
    · rw [State.hkNext_delayUntil, hnext]; rfl
  · have hnext : s.nextEntry = (s.inc 0x600204).beginPass := if_pos hend
    have honly : s.HkOnly [0x600203, 0x600204, 0x600102] s.nextEntry := s.nextEntry_only.mono (by simp)
    refine ⟨_, hover hx, ?_, ?_, ?_, (honly.trans (hlast.mono (by simp))).objects⟩
    · rw [hlast.objects _ (by decide), hnext, State.rd_beginPass, if_pos rfl]
    · rw [State.hkNext_entry, hnext, State.beginPass_hk]
    · rw [hlast.objects _ (by decide), hnext, State.rd_beginPass, if_neg (by decide), State.rd_inc, if_pos rfl, countUp]

/-- Settles O55: the lemmas on samples, sequence, requests and calibration. -/
theorem housekeepingConvertsForTheSequenceAndForRequests : Obligations.HousekeepingConvertsForTheSequenceAndForRequests := by
  unfold Obligations.HousekeepingConvertsForTheSequenceAndForRequests
  refine ⟨fun code dv clamped s h => ?_, fun code dv s hclient _ hseq => ?_, fun code req dv s hclient hreq havg hch r hr => ?_,
    fun code req dv s hclient hreq havg hch => ?_, fun ch code dv s hclient hch => ?_, fun tr s => ?_,
    fun x s hdelay hin hclk => State.postDelay_ends hdelay hin hclk,
    fun offset gain weights vbg inl x s hcal hasked hclk => State.calibrationEnd_ends hcal hasked hclk _ _ _ _ _⟩
  · simp only [exec, execHousekeepingSampleEnd, h]
  · exact fun havg hch => State.sequenceSample_ends code dv hclient hseq rfl havg hch
  · exact State.injectedSample_ends code dv hclient hreq havg hch hr
  · exact State.injectedSample_clamps code dv hclient hreq havg hch
  · exact State.monitorSample_ends code dv hclient hch
  · refine ⟨State.sequenceStop_stops, State.sequenceStart_starts, fun v h => ⟨State.injectedRequest_refused h, fun hroom hbusy => ?_,
      fun hinj hidle hcal hasked hdue hserving hclk => ?_⟩, State.injectedResult_read, fun h =>
      ⟨State.selfCalibration_refused h, fun hasked hcal hclient hinj hserving hclk =>
        State.selfCalibration_begins h hasked hcal hclient hinj hserving hclk⟩⟩
    · refine State.injectedRequest_queued h hroom (g := { s.hk with inj := s.hk.inj ++ [v] })
        ((State.hkNext_of_busy (by rw [State.onHk_hk, State.onServe_hk]; exact hbusy)).trans ?_)
      rw [State.onHk, State.onHk, State.onServe_hk]
    · refine State.injectedRequest_queued h (by simp [hinj]) (g := { s.hk with client := .injected v, req := HkSum.zero, serving := some v })
        ((State.hkNext_takes (v := v) ?_ ?_ ?_ ?_ ?_ ?_ ?_).trans ?_)
      · rw [State.onHk_hk, State.onServe_hk]; exact hidle
      · rw [State.onHk_hk, State.onServe_hk]; exact hcal
      · rw [State.onHk_hk, State.onServe_hk]; exact hasked
      · rw [State.onHk_hk, State.onServe_hk]; exact hdue
      · rw [State.onHk_hk, State.onServe_hk]; exact hserving
      · rw [State.onHk_hk, State.onServe_hk, hinj]; rfl
      · rw [State.onHk_timing, State.onServe_timing]; exact hclk
      · refine congrArg (fun g => ({ s.onServe tr with hk := g } : State)) ?_
        simp only [State.onHk_hk, State.onServe_hk, hinj]

end Sys2Proof.Machine
end

section
/-!
PROOFS. What the operations of quench leave alone (R352, R353): clocks, power, two-wire interface, monitor, converters and the
objects of Hold, Sleep, the monitor and the uplinks, said once for each operation of the image path and of MRAM.
-/
namespace Sys2Proof.Machine

/-! ### What quench leaves alone -/

/-- The objects of Hold and Sleep, of the thermal monitor but for its counts, and of the uplinks' credit. -/
def guardedKey (k : Nat) : Bool :=
  k / 256 == 0xB020 || k / 256 == 0xB021 || k / 256 == 0x6A10 || k / 256 == 0x6A00 || k / 256 == 0x9010 || k / 256 == 0x9011 ||
    k == 0x6A1101

@[simp] theorem guardedKey_eq_false {k : Nat} : guardedKey k = false ↔ k / 256 ≠ 0xB020 ∧ k / 256 ≠ 0xB021 ∧
    k / 256 ≠ 0x6A10 ∧ k / 256 ≠ 0x6A00 ∧ k / 256 ≠ 0x9010 ∧ k / 256 ≠ 0x9011 ∧ k ≠ 0x6A1101 := by
  simp [guardedKey, and_assoc]

/-- What the image path and MRAM do not touch when pours, runs and uploads end. -/
structure Still where
  now      : Instant
  power    : Power
  twi      : Twi
  therm    : Therm
  hk       : Hk
  conv     : Conv
  timing   : Timing
  stage    : Stage
  released : Bool
  objects  : Nat → Option Nat

/-- The part of a state that quench leaves alone. -/
def State.still (s : State) : Still :=
  ⟨s.now, s.power, s.twi, s.therm, s.hk, s.conv, s.timing, s.stage, s.lanes.released,
    fun k => if guardedKey k = true then some (s.rd k) else none⟩

/-- Two states agree in what quench leaves alone where their objects and fields do. -/
theorem State.still_rd {s t : State} (h : t.still = s.still) {k : Nat} (hk : guardedKey k = true) : t.rd k = s.rd k := by
  have := congrFun (congrArg Still.objects h) k
  simpa [State.still, hk] using this

section
variable (s : State)

@[simp] theorem State.ite_still (c : Prop) [Decidable c] (s t : State) :
    (if c then s else t).still = if c then s.still else t.still := apply_ite ..

theorem State.foldl_still {α : Type} (f : State → α → State) (h : ∀ s a, (f s a).still = s.still) (l : List α)
    (s : State) : (l.foldl f s).still = s.still := by
  induction l generalizing s with
  | nil => rfl
  | cons a l ih => rw [List.foldl_cons, ih, h]

theorem foldl_fst_still {α β : Type} (f : State × β → α → State × β) (h : ∀ r a, (f r a).1.still = r.1.still)
    (l : List α) (r : State × β) : (l.foldl f r).1.still = r.1.still := by
  induction l generalizing r with
  | nil => rfl
  | cons a l ih => rw [List.foldl_cons, ih, h]

@[simp] theorem State.onCorr_still (f : Corr → Corr) : (s.onCorr f).still = s.still := rfl
@[simp] theorem State.onImage_still (f : Image → Image) : (s.onImage f).still = s.still := rfl
@[simp] theorem State.onTdi_still (f : Tdi → Tdi) : (s.onTdi f).still = s.still := rfl
@[simp] theorem State.onDma_still (f : Dma → Dma) : (s.onDma f).still = s.still := rfl
@[simp] theorem State.onFlask_still (n : Nat) (f : Flask → Flask) : (s.onFlask n f).still = s.still := rfl

theorem State.onLanes_still {f : Lanes → Lanes} (h : (f s.lanes).released = s.lanes.released) :
    (s.onLanes f).still = s.still := by
  change { s.still with released := (f s.lanes).released } = _
  rw [h]
  rfl

theorem State.still_of_objects {t : State} (hframe : { s.still with objects := t.still.objects } = t.still)
    (h : ∀ k, guardedKey k = true → t.rd k = s.rd k) : t.still = s.still := by
  rw [← hframe]
  refine congrArg (fun o => { s.still with objects := o }) (funext fun k => ?_)
  by_cases hk : guardedKey k = true <;> simp [State.still, hk, h k]

@[simp] theorem State.wr_still {k : Nat} (hk : guardedKey k = false) (v : Nat) : (s.wr k v).still = s.still :=
  s.still_of_objects rfl fun j hj => by rw [State.rd_wr, if_neg (by rintro rfl; simp [hk] at hj)]

@[simp] theorem State.add_still {k : Nat} (hk : guardedKey k = false) (n : Nat) : (s.add k n).still = s.still := s.wr_still hk _

@[simp] theorem State.inc_still {k : Nat} (hk : guardedKey k = false) : (s.inc k).still = s.still := s.wr_still hk _

@[simp] theorem State.logEvent_still (code : Nat) (data : List Byte) : (s.logEvent code data).still = s.still := by
  refine s.still_of_objects (by rw [State.logEvent_frame]; rfl) fun k hk => s.logEvent_same code data k ?_
  intro hm
  simp only [List.mem_cons, List.not_mem_nil, or_false] at hm
  rcases hm with rfl | rfl | rfl <;> simp [guardedKey] at hk

/-! ### Drops and admissions (R173 to R184) -/

@[simp] theorem State.watchHeads_still : s.watchHeads.still = s.still := rfl

@[simp] theorem State.headDropped_still (sp : Nat) : (s.headDropped sp).still = s.still := by
  unfold State.headDropped; split <;> rfl

@[simp] theorem State.bookSlagAll_still (n : Nat) : (s.bookSlagAll n).still = s.still := rfl

@[simp] theorem State.bookSlag_still (f n : Nat) : (s.bookSlag f n).still = s.still := rfl

@[simp] theorem State.notice_still (stamps : Packet) (f : Nat) : (s.notice stamps f).still = s.still := by
  unfold State.notice
  dsimp only
  rw [State.ite_still, State.onFlask_still, State.inc_still _ (by simp), State.onLanes_still _ rfl, ite_self]

@[simp] theorem State.recordDrop_still {key : Nat} (hk : guardedKey key = false) (stamps : Packet) (flasks : List Nat) :
    (s.recordDrop key stamps flasks).still = s.still := by
  unfold State.recordDrop
  dsimp only
  rw [State.bookSlagAll_still, State.foldl_still _ (fun s f => s.notice_still stamps f), State.ite_still,
    State.wr_still _ (by simp), ite_self, State.wr_still _ (by simp), State.inc_still _ hk]

@[simp] theorem State.dropPour_still {key : Nat} (hk : guardedKey key = false) (t : TPour) :
    (s.dropPour key t).still = s.still := by
  unfold State.dropPour
  dsimp only
  rw [State.watchHeads_still, State.recordDrop_still _ hk]
  simp only [State.ite_still, State.onDma_still, State.wr_still _ (show guardedKey 0x704002 = false by simp), ite_self,
    State.foldl_still _ (fun s sp => s.headDropped_still sp)]
  exact State.onLanes_still _ rfl

@[simp] theorem State.makeRoom_still (sizes : List Nat) (n : Nat) : (s.makeRoom sizes n).still = s.still := by
  induction n generalizing s with
  | zero => rfl
  | succ n ih =>
    unfold State.makeRoom
    split
    · rfl
    · split
      · rfl
      · rw [ih, State.dropPour_still _ (by simp)]

@[simp] theorem State.markBooked_still : s.markBooked.still = s.still := s.wr_still (by simp) _

@[simp] theorem State.beginHold_still (idx : Nat) : (s.beginHold idx).still = s.still := by
  unfold State.beginHold
  split
  · exact (State.onDma_still ..).trans (State.wr_still _ (by simp) _)
  · rfl

@[simp] theorem State.admitPour_still (stamps : Packet) (planes rows : Nat) (cells : List Nat) :
    (s.admitPour stamps planes rows cells).1.still = s.still := by
  unfold State.admitPour
  extract_lets sizes roomy t
  have hroomy : roomy.still = s.still := by simp only [roomy, State.ite_still, State.makeRoom_still, ite_self]
  clear_value roomy
  rw [apply_ite Prod.fst, State.ite_still, State.markBooked_still, State.beginHold_still, State.onLanes_still _ rfl,
    State.recordDrop_still _ (by simp), hroomy, ite_self]

/-! ### Web lines and the restart (R99 to R101) -/

@[simp] theorem State.offerWeb_still (rstrt : Bool) (r : State × List Packet) (w : WebLine) :
    (State.offerWeb rstrt r w).1.still = r.1.still := by
  unfold State.offerWeb
  dsimp only
  split
  · rfl
  · rw [apply_ite Prod.fst]
    split
    · exact State.admitPour_still ..
    · exact (State.onTdi_still ..).trans (State.admitPour_still ..)

@[simp] theorem State.complete_still (p : Packet) : (s.complete p).still = s.still := by
  unfold State.complete; split <;> rfl

@[simp] theorem State.sendWebs_still (ws : List WebLine) (rstrt : Bool) : (s.sendWebs ws rstrt).still = s.still := by
  rw [State.sendWebs, State.foldl_still _ fun s p => s.complete_still p]
  exact foldl_fst_still _ (State.offerWeb_still rstrt) ws (s, [])

@[simp] theorem State.gridReset_still : s.gridReset.still = s.still := State.wr_still _ (by simp) _

@[simp] theorem State.tdiRestart_still (nr : Option Nat) : (s.tdiRestart nr).still = s.still := by
  unfold State.tdiRestart
  dsimp only
  rw [State.gridReset_still, State.onTdi_still]
  split
  · rfl
  · split
    · rw [State.sendWebs_still, State.onTdi_still, State.add_still _ (by simp)]
    · rw [State.bookSlagAll_still, State.add_still _ (by simp)]

@[simp] theorem State.dropWeb_still (w : WebLine) : (s.dropWeb w).still = s.still := by
  unfold State.dropWeb
  dsimp only
  rw [State.onTdi_still, State.recordDrop_still _ (by simp)]

@[simp] theorem State.bookBand_still (n b : Nat) : (s.bookBand n b).still = s.still := by
  unfold State.bookBand
  dsimp only
  split
  · rfl
  · split
    · exact s.dropWeb_still _
    · rfl

@[simp] theorem State.finishLine_still (n : Nat) : (s.finishLine n).still = s.still := by
  have hbands := State.foldl_still (State.bookBand n) (fun s b => s.bookBand_still n b) (bandsOn s.tdi.cfg) s
  unfold State.finishLine
  dsimp only
  split
  · rfl
  · split
    · exact hbands
    · rw [State.onTdi_still, State.sendWebs_still, State.onTdi_still, hbands]

@[simp] theorem State.finishPours_still (n : Nat) : (s.finishPours n).still = s.still := by
  induction n generalizing s with
  | zero => rfl
  | succ n ih =>
    unfold State.finishPours
    split
    · rfl
    · split
      · rfl
      · rw [ih, State.ite_still, State.finishLine_still, State.onImage_still, ite_self]

@[simp] theorem State.settlePours_still : s.settlePours.still = s.still := s.finishPours_still _

/-! ### Pours, runs and uploads that end (R148, R158, R353) -/

@[simp] theorem State.closePour_still (p : Pour) : (s.closePour p).still = s.still := by
  unfold State.closePour
  exact State.foldl_still _ (fun s f => (State.onFlask_still ..).trans (s.bookSlag_still f _)) _ _

@[simp] theorem State.quenchImage_still : s.quenchImage.still = s.still := by
  unfold State.quenchImage
  dsimp only
  rw [State.settlePours_still, State.ite_still, State.tdiRestart_still, ite_self, State.onImage_still,
    State.foldl_still _ (fun s p => s.closePour_still p), State.onImage_still, State.ite_still, State.onImage_still,
    State.inc_still _ (by simp), ite_self]

@[simp] theorem State.bankState_still (n st : Nat) : (s.bankState n st).still = s.still := by
  unfold State.bankState State.writeHeader State.onBank
  split <;> rfl

@[simp] theorem State.spoilBank_still (b : Nat) : (s.spoilBank b).still = s.still := by
  rw [State.spoilBank, State.ite_still, State.onCorr_still, State.bankState_still, ite_self]

@[simp] theorem State.releaseStaging_still : s.releaseStaging.still = s.still := by
  unfold State.releaseStaging; split <;> rfl

@[simp] theorem State.calFail_still (cause : Nat) : (s.calFail cause).still = s.still := by
  unfold State.calFail
  split
  · rfl
  · rw [State.logEvent_still, State.wr_still _ (by simp), State.onImage_still, State.onCorr_still]

@[simp] theorem State.uploadFail_still : s.uploadFail.still = s.still := by
  unfold State.uploadFail
  split
  · rfl
  · rw [State.logEvent_still, State.wr_still _ (by simp), State.onCorr_still, State.ite_still, State.releaseStaging_still,
      ite_self, State.ite_still, State.spoilBank_still, ite_self]

@[simp] theorem State.quenchMram_still : s.quenchMram.still = s.still := by
  unfold State.quenchMram
  dsimp only
  rw [State.uploadFail_still, State.calFail_still]
  split
  · exact State.spoilBank_still ..
  · rfl

end

/-! ### A step of the monitor -/

/-- Of what quench leaves alone, `t` has that of `s` but for the listed objects, the monitor, the timers and the converters. -/
structure State.MonitorStep (ks : List Nat) (s t : State) : Prop where
  objects : ∀ k, guardedKey k = true → k ∉ ks → t.rd k = s.rd k
  kept : t.still = { s.still with therm := t.therm, timing := { s.timing with timers := t.timing.timers }, conv := t.conv
                                  objects := t.still.objects }

namespace State.MonitorStep

variable {ks ls : List Nat} {s t u : State}

theorem refl (ks : List Nat) (s : State) : MonitorStep ks s s := ⟨fun _ _ _ => rfl, rfl⟩

theorem power (h : MonitorStep ks s t) : t.power = s.power := congrArg Still.power h.kept
theorem twi (h : MonitorStep ks s t) : t.twi = s.twi := congrArg Still.twi h.kept
theorem stage (h : MonitorStep ks s t) : t.stage = s.stage := congrArg Still.stage h.kept
theorem hk (h : MonitorStep ks s t) : t.hk = s.hk := congrArg Still.hk h.kept
theorem released (h : MonitorStep ks s t) : t.lanes.released = s.lanes.released := congrArg Still.released h.kept
theorem now (h : MonitorStep ks s t) : t.now = s.now := congrArg Still.now h.kept
theorem timing (h : MonitorStep ks s t) : t.timing = { s.timing with timers := t.timing.timers } := congrArg Still.timing h.kept
theorem clk100 (h : MonitorStep ks s t) : t.timing.clk100 = s.timing.clk100 := by rw [h.timing]

theorem trans (h1 : MonitorStep ks s t) (h2 : MonitorStep ks t u) : MonitorStep ks s u where
  objects k hg hk := (h2.objects k hg hk).trans (h1.objects k hg hk)
  kept := by rw [h2.kept, h1.kept, h1.timing]

theorem mono (h : MonitorStep ks s t) (hl : ks ⊆ ls) : MonitorStep ls s t :=
  ⟨fun k hg hk => h.objects k hg fun hm => hk (hl hm), h.kept⟩

theorem ite {c : Prop} [Decidable c] (ht : MonitorStep ks s t) (hu : MonitorStep ks s u) :
    MonitorStep ks s (if c then t else u) := by
  split <;> assumption

theorem of_still (h : t.still = s.still) : MonitorStep ks s t where
  objects _ hg _ := State.still_rd h hg
  kept := by
    have htherm : t.therm = s.therm := congrArg Still.therm h
    have htiming : t.timing = s.timing := congrArg Still.timing h
    have hconv : t.conv = s.conv := congrArg Still.conv h
    rw [h, htherm, htiming, hconv]
    rfl

theorem still (h : MonitorStep ks s t) (hu : u.still = t.still) : MonitorStep ks s u := h.trans (of_still hu)

theorem logEvent (h : MonitorStep ks s t) {code : Nat} {data : List Byte} : MonitorStep ks s (t.logEvent code data) :=
  h.still (State.logEvent_still ..)

theorem onImage (h : MonitorStep ks s t) {f : Image → Image} : MonitorStep ks s (t.onImage f) := h.still rfl

theorem wr (h : MonitorStep ks s t) {k : Nat} (hk : k ∈ ks) {v : Nat} : MonitorStep ks s (t.wr k v) :=
  h.trans ⟨fun j _ hj => by rw [State.rd_wr, if_neg (by rintro rfl; exact hj hk)], rfl⟩

theorem inc (h : MonitorStep ks s t) {k : Nat} (hk : k ∈ ks) : MonitorStep ks s (t.inc k) := h.wr hk

theorem wr_free (h : MonitorStep ks s t) {k : Nat} (hk : guardedKey k = false) {v : Nat} : MonitorStep ks s (t.wr k v) :=
  h.still (State.wr_still _ hk _)

theorem inc_free (h : MonitorStep ks s t) {k : Nat} (hk : guardedKey k = false) : MonitorStep ks s (t.inc k) := h.wr_free hk

theorem onTherm (h : MonitorStep ks s t) {f : Therm → Therm} : MonitorStep ks s (t.onTherm f) :=
  h.trans ⟨fun _ _ _ => rfl, rfl⟩

theorem onConv (h : MonitorStep ks s t) {f : Conv → Conv} : MonitorStep ks s (t.onConv f) := h.trans ⟨fun _ _ _ => rfl, rfl⟩

theorem onSource (h : MonitorStep ks s t) {i : Nat} {f : Source → Source} : MonitorStep ks s (t.onSource i f) := h.onTherm

theorem timers (h : MonitorStep ks s t) (hu : t.TimersOnly u) : MonitorStep ks s u := by
  refine h.trans ⟨fun k hg _ => hu.1 k fun hm => ?_, ?_⟩
  · have := (mem_rangeFrom ..).mp hm
    have : guardedKey k = false := guardedKey_eq_false.mpr (by omega)
    simp [this] at hg
  · obtain ⟨d, ts, rfl⟩ := hu.exists_eq
    rfl

end State.MonitorStep

/-! ### Entry into quench (R352 to R354) -/

theorem State.forceTimers_timersOnly (s : State) : s.TimersOnly s.forceTimers :=
  State.eachTimer_timersOnly (fun ch s => (State.ChannelOnly.refl ch s).setTimerBit.driveTimer) s

theorem State.unforceTimers_timersOnly (s : State) : s.TimersOnly s.unforceTimers :=
  State.eachTimer_timersOnly (fun ch s => (State.ChannelOnly.refl ch s).setTimerBit.driveTimer) s

theorem State.abandonSelfCal_step (s : State) : s.MonitorStep [] s.abandonSelfCal :=
  .ite (.refl _ s) ((State.MonitorStep.refl _ s).wr_free (by simp)).onConv

theorem State.abandonSelfCal_conv (s : State) : s.abandonSelfCal.conv.calAt = none ∧ s.abandonSelfCal.therm = s.therm := by
  unfold State.abandonSelfCal
  split
  · next h => exact ⟨Option.isNone_iff_eq_none.mp h, rfl⟩
  · exact ⟨rfl, rfl⟩

/-- Entry into quench counts, and sets the monitor's quench; runs of the converters are over. -/
structure State.Quenched (s t : State) : Prop where
  step : s.MonitorStep [0x6A1101] t
  therm : t.therm = { s.therm with quench := true }
  count : t.rd 0x6A1101 = countUp (s.rd 0x6A1101)
  calAt : t.conv.calAt = none

theorem State.enterQuench_quenched (s : State) : s.Quenched s.enterQuench := by
  have hbegun : s.MonitorStep [0x6A1101] ((s.inc 0x6A1101).onTherm fun t => { t with quench := true }) :=
    ((State.MonitorStep.refl _ s).inc (by simp)).onTherm
  have hcount : ((s.inc 0x6A1101).onTherm fun t => { t with quench := true }).rd 0x6A1101 = countUp (s.rd 0x6A1101) :=
    (State.rd_inc s _ _).trans (if_pos rfl)
  have htherm : ((s.inc 0x6A1101).onTherm fun t => { t with quench := true }).therm = { s.therm with quench := true } := rfl
  unfold State.enterQuench
  generalize (s.inc 0x6A1101).onTherm (fun t => { t with quench := true }) = u at *
  have hforced := ((State.MonitorStep.of_still (ks := []) u.quenchImage_still).timers (State.forceTimers_timersOnly _)).trans
    (State.abandonSelfCal_step _)
  have hsame := hforced.still (State.quenchMram_still _)
  have hlast := State.quenchMram_still u.quenchImage.forceTimers.abandonSelfCal
  refine ⟨hbegun.trans (hsame.mono (by simp)), ?_, ?_, ?_⟩
  · have h1 : u.quenchImage.therm = u.therm := congrArg Still.therm u.quenchImage_still
    obtain ⟨d, ts, h2⟩ := (State.forceTimers_timersOnly u.quenchImage).exists_eq
    rw [← htherm, ← h1]
    refine (congrArg Still.therm hlast).trans ((State.abandonSelfCal_conv _).2.trans ?_)
    rw [h2]
  · rw [hsame.objects _ (by decide) (by simp), hcount]
  · exact (congrArg (fun x => (Still.conv x).calAt) hlast).trans (State.abandonSelfCal_conv _).1

/-- The quench state after a die's quench limit became set (R354). -/
def quenchSet (i v : Nat) : Nat := clearBit (clearBit (setBit v i) (2 + i)) 4

/-- A die's quench limit is set: the part is in quench, not acknowledged, with no re-arm. -/
structure State.DieQuenched (i : Nat) (s t : State) : Prop where
  step : s.MonitorStep [0x6A1101, 0x6A1002] t
  therm : t.therm = { s.therm with quench := true, rearmEnd := none }
  state : t.rd 0x6A1002 = quenchSet i (s.rd 0x6A1002)
  entered : s.therm.quench = false → t.rd 0x6A1101 = countUp (s.rd 0x6A1101) ∧ t.conv.calAt = none

theorem State.dieQuench_quenches (i : Nat) (s : State) : s.DieQuenched i (s.dieQuench i) := by
  have hset : s.MonitorStep [0x6A1101, 0x6A1002] ((((s.quenchBit i true).quenchBit (2 + i) false).quenchBit 4 false).onTherm
      fun t => { t with rearmEnd := none }) :=
    ((((State.MonitorStep.refl _ s).wr (by simp)).wr (by simp)).wr (by simp)).onTherm
  have hstate : ((((s.quenchBit i true).quenchBit (2 + i) false).quenchBit 4 false).onTherm
      fun t => { t with rearmEnd := none }).rd 0x6A1002 = quenchSet i (s.rd 0x6A1002) := by
    simp [State.quenchBit, quenchSet]
  have hcount : ((((s.quenchBit i true).quenchBit (2 + i) false).quenchBit 4 false).onTherm
      fun t => { t with rearmEnd := none }).rd 0x6A1101 = s.rd 0x6A1101 := by
    simp [State.quenchBit]
  have htherm : ((((s.quenchBit i true).quenchBit (2 + i) false).quenchBit 4 false).onTherm
      fun t => { t with rearmEnd := none }).therm = { s.therm with rearmEnd := none } := rfl
  unfold State.dieQuench
  extract_lets b u
  change s.MonitorStep _ u at hset
  change u.rd _ = _ at hstate hcount
  change u.therm = _ at htherm
  clear_value u
  have hquench : u.therm.quench = s.therm.quench := by rw [htherm]
  by_cases hq : s.therm.quench = true
  · rw [if_pos (hquench.trans hq)]
    exact ⟨hset, by rw [htherm, ← hq], hstate, fun hn => absurd hq (by simp [hn])⟩
  · rw [if_neg (by rw [hquench]; exact hq)]
    obtain ⟨hstep, hth, hc, hcal⟩ := u.enterQuench_quenched
    refine ⟨hset.trans (hstep.mono (by simp)), by rw [hth, htherm], ?_, fun _ => ⟨by rw [hc, hcount], hcal⟩⟩
    rw [hstep.objects _ (by decide) (by decide), hstate]

/-- The bits of the quench state. -/
theorem testBit_quenchSet {i : Nat} (hi : i < 2) (v : Nat) :
    (quenchSet i v).testBit i = true ∧ (quenchSet i v).testBit (2 + i) = false := by
  unfold quenchSet
  simp only [testBit_clearBit, testBit_setBit]
  constructor
  · have h4 : i ≠ 4 := by omega
    simp [h4]
  · simp

/-! ### Levels and steps (R349, R350) -/

theorem State.setLevel_step (i new : Nat) (v : Int) (s : State) :
    s.MonitorStep [0x6A0001 + i, 0x6A0004] (s.setLevel i new v) :=
  .ite (.refl _ s) (((State.MonitorStep.refl _ s).wr (by simp)).wr (by simp)).logEvent

theorem State.setLevel_level (i new : Nat) (v : Int) (s : State) (hi : i < 2) : (s.setLevel i new v).rd (0x6A0001 + i) = new := by
  unfold State.setLevel
  dsimp only
  split
  · next h => exact h.symm
  · rw [State.logEvent_same _ _ _ _ (by simp; omega), State.refreshLevel, State.rd_wr, if_neg (by omega), State.rd_wr, if_pos rfl]

theorem State.setLevel_therm (i new : Nat) (v : Int) (s : State) : (s.setLevel i new v).therm = s.therm := by
  unfold State.setLevel
  dsimp only
  split
  · rfl
  · rw [State.logEvent_therm]; rfl

theorem State.refreshStep_step (s : State) : s.MonitorStep [0x6A0005] s.refreshStep :=
  .ite (.refl _ s) ((State.MonitorStep.ite ((State.MonitorStep.refl _ s).inc_free (by simp)) (.refl _ s)).wr (by simp)).onImage

theorem State.refreshStep_therm (s : State) : s.refreshStep.therm = s.therm := by
  unfold State.refreshStep
  dsimp only
  split
  · rfl
  · split <;> rfl

/-- With the largest demanded step in force nothing changes. -/
theorem State.refreshStep_of_eq {s : State} (h : s.rd 0x6A0005 = maxNat (s.therm.sources.map Source.step)) :
    s.refreshStep = s := if_pos h.symm

/-! ### The comparator (R343) -/

/-- The comparator sets the quench of the logic die (R343). -/
structure State.ComparatorQuenched (s t : State) : Prop where
  step : s.MonitorStep [0x6A1101, 0x6A1002, 0x6A0002, 0x6A0004, 0x6A0005] t
  quench : t.therm.quench = true
  state : (t.rd 0x6A1002).testBit 1 = true

theorem State.comparatorQuench_quenches {s : State} (h : (s.rd 0x6A1002).testBit 1 = false) :
    s.ComparatorQuenched s.comparatorQuench := by
  have htaken : s.MonitorStep [0x6A1101, 0x6A1002, 0x6A0002, 0x6A0004, 0x6A0005] s.takeFree.2 := .of_still rfl
  have hbit : bitAt (s.takeFree.2.rd 0x6A1002) 1 = false := h
  unfold State.comparatorQuench
  dsimp only
  rw [if_neg (by rw [hbit]; exact Bool.false_ne_true)]
  generalize hu : State.onSource 1 _ s.takeFree.2 = u
  have hsource : s.MonitorStep [0x6A1101, 0x6A1002, 0x6A0002, 0x6A0004, 0x6A0005] u := by
    rw [← hu]; exact htaken.onSource
  have hlevel := hsource.trans ((u.setLevel_step 1 3 (toSigned 16 s.takeFree.1)).mono (by simp))
  obtain ⟨hstep, htherm, hstate, -⟩ := State.dieQuench_quenches 1 (u.setLevel 1 3 (toSigned 16 s.takeFree.1))
  have hlast := (State.dieQuench 1 (u.setLevel 1 3 (toSigned 16 s.takeFree.1))).refreshStep_step
  refine ⟨(hlevel.trans (hstep.mono (by simp))).trans (hlast.mono (by simp)), ?_, ?_⟩
  · rw [State.refreshStep_therm, htherm]
  · rw [hlast.objects _ (by decide) (by decide), hstate]
    exact (testBit_quenchSet (by decide) _).1

/-- Whatever the quench state, the comparator is a step of the monitor. -/
theorem State.comparatorQuench_step (s : State) :
    s.MonitorStep [0x6A1101, 0x6A1002, 0x6A0002, 0x6A0004, 0x6A0005] s.comparatorQuench := by
  by_cases h : (s.rd 0x6A1002).testBit 1 = true
  · have hsame : s.comparatorQuench = s.takeFree.2 := if_pos h
    rw [hsame]
    exact .of_still rfl
  · exact (State.comparatorQuench_quenches (by simpa using h)).step

end Sys2Proof.Machine
end

section
/-!
PROOFS. Hold, Sleep and the return of the clocks (R343, R373, R375, R377 to R379): what the return of the clocks leaves alone, the
requests, and the wake (O58).
-/
namespace Sys2Proof.Machine

/-! ### The clocks return (R297, R308, R329, R343) -/

/-- What the return of the clocks may change. -/
structure State.ClocksBack (s t : State) : Prop where
  objects : ∀ k, guardedKey k = true → t.rd k = s.rd k
  clk100 : t.timing.clk100 = true
  quench : t.therm.quench = s.therm.quench
  frame : t = { s with dict := t.dict, timing := t.timing, hk := t.hk, therm := t.therm, image := t.image, pace := t.pace
                       dma := t.dma }

theorem State.ChannelOnly.timerFromLf {ch : Nat} {s t : State} (h : s.ChannelOnly ch t) : s.ChannelOnly ch (t.timerFromLf ch) :=
  (State.ChannelOnly.ite h.onTimer h.onTimer).setTimerBit.setTimerBit.driveTimer

/-- A guarded object is no status object of a timer. -/
theorem notMem_timerStatus {k : Nat} (h : guardedKey k = true) : k ∉ rangeFrom 0x500801 8 := fun hm => by
  have hrange := (mem_rangeFrom ..).mp hm
  have hfree : guardedKey k = false := guardedKey_eq_false.mpr (by omega)
  simp [hfree] at h

/-- Guarded objects are none of those that the return of the clocks writes. -/
theorem ne_of_guardedKey {k j : Nat} (h : guardedKey k = true) (hj : guardedKey j = false) : k ≠ j := by
  rintro rfl
  simp [hj] at h

theorem State.clockReturn_back (s : State) : s.ClocksBack s.clockReturn := by
  have hobj := (State.eachTimer_timersOnly (fun ch s => (State.ChannelOnly.refl ch s).timerFromLf) s).1
  obtain ⟨d, ts, hframe⟩ := (State.eachTimer_timersOnly (fun ch s => (State.ChannelOnly.refl ch s).timerFromLf) s).exists_eq
  unfold State.clockReturn
  extract_lets u v
  change sameObjects _ s u at hobj
  change u = _ at hframe
  have hv : v.dict = u.dict := rfl
  have hclk : v.timing.clk100 = true := rfl
  have hvframe : v = { u with timing := v.timing } := rfl
  clear_value v u
  refine ⟨fun k hk => ?_, hclk, ?_, ?_⟩
  · rw [State.rd_inc, if_neg (ne_of_guardedKey hk (by simp)), State.rd_wr, if_neg (ne_of_guardedKey hk (by simp)),
      State.rd_wr, if_neg (ne_of_guardedKey hk (by simp))]
    exact (congrArg (Dict.get · k) hv).trans (hobj k (notMem_timerStatus hk))
  · rw [State.inc_therm, State.wr_therm, State.wr_therm, hvframe, hframe]
  · rw [hvframe, hframe]
    rfl

theorem State.hkClockReturn_only (s : State) : s.HkOnly [0x600203, 0x600204, 0x600102] s.hkClockReturn :=
  ((((State.HkOnly.refl _ s).onHk _).trans
    (.ite ((State.beginPass_only _).mono (by simp)) (.refl _ _)))).trans ((State.hkNext_only _).mono (by simp))

theorem State.clocksReturn_back (s : State) : s.ClocksBack s.clocksReturn := by
  obtain ⟨hobj, hclk, hquench, hframe⟩ := s.clockReturn_back
  have honly := s.clockReturn.hkClockReturn_only
  unfold State.clocksReturn
  generalize s.clockReturn = u at *
  generalize u.hkClockReturn = v at *
  refine ⟨fun k hk => ?_, ?_, ?_, ?_⟩
  · refine (honly.objects k ?_).trans (hobj k hk)
    intro hm
    simp only [List.mem_cons, List.not_mem_nil, or_false] at hm
    rcases hm with rfl | rfl | rfl <;> simp [guardedKey] at hk
  · exact (congrArg Timing.clk100 honly.timing).trans hclk
  · exact (congrArg Therm.quench honly.therm).trans hquench
  · rw [honly.frame, hframe]
    rfl

/-! ### Hold (R373, R375) -/

/-- Outside Hold the test access port has no pin. -/
theorem State.pins_of_notHeld {s : State} (h : s.rd 0xB02002 ≠ 2) : s.pinsByScan = false ∧ s.pinsFloat = false := by
  have hacts : s.tapActs ≠ .extest ∧ s.tapActs ≠ .clamp ∧ s.tapActs ≠ .highz := by
    unfold State.tapActs
    have hout : s.inHold = false := by simpa [State.inHold] using h
    rw [hout]
    cases s.jtag.instr <;> simp
  obtain ⟨hextest, hclamp, hhighz⟩ := hacts
  constructor
  · simp [State.pinsByScan, hextest, hclamp]
  · simp [State.pinsFloat, hhighz]

/-- Hold is left: its objects are 0, and where the clock had stopped it runs. -/
structure State.HoldLeft (s t : State) : Prop where
  request : t.rd 0xB02001 = 0
  state : t.rd 0xB02002 = 0
  power : t.power = s.power
  mram : t.mram = s.mram
  answer : t.answer = s.answer
  clk100 : s.rd 0xB02002 = 2 → t.timing.clk100 = true
  timing : s.rd 0xB02002 ≠ 2 → t.timing = s.timing

theorem State.leaveHold_leaves (s : State) : s.HoldLeft s.leaveHold := by
  have hrequest : ((s.wr 0xB02001 0).wr 0xB02002 0).rd 0xB02001 = 0 := by simp
  have hstate : ((s.wr 0xB02001 0).wr 0xB02002 0).rd 0xB02002 = 0 := by simp
  by_cases h : s.rd 0xB02002 = 2
  · have heq : s.leaveHold = ((s.wr 0xB02001 0).wr 0xB02002 0).clocksReturn := if_pos (by simpa using h)
    obtain ⟨hobj, hclk, -, hframe⟩ := ((s.wr 0xB02001 0).wr 0xB02002 0).clocksReturn_back
    rw [heq]
    exact ⟨(hobj _ (by decide)).trans hrequest, (hobj _ (by decide)).trans hstate, by rw [hframe]; rfl, by rw [hframe]; rfl,
      by rw [hframe]; rfl, fun _ => hclk, fun hn => absurd h hn⟩
  · have heq : s.leaveHold = (s.wr 0xB02001 0).wr 0xB02002 0 := if_neg (by simpa using h)
    rw [heq]
    exact ⟨hrequest, hstate, rfl, rfl, rfl, fun hy => absurd hy h, fun _ => rfl⟩

section
variable {tr : Transport} {s : State}

/-- An admitted write of 0 ends Hold. -/
theorem State.holdWrite_leaves (h : s.admits ⟨tr, 0xB02001, 1, 0⟩) :
    s.HoldLeft { s.hostWrite ⟨tr, 0xB02001, 1, 0⟩ (State.holdWrite 0) with answer := s.answer } ∧
      (s.hostWrite ⟨tr, 0xB02001, 1, 0⟩ (State.holdWrite 0)).answer.abort = 0 := by
  have hk : (⟨tr, 0xB02001, 1, 0⟩ : Txn).key ≠ 0x102009 := by simp
  have heff : State.holdWrite 0 (s.onServe tr) = (s.onServe tr).leaveHold := rfl
  obtain ⟨hrequest, hstate, hpower, hmram, hanswer, hclk, htiming⟩ := (s.onServe tr).leaveHold_leaves
  have hheld := s.onServe_rd tr (j := 0xB02002) (by decide) (by decide)
  obtain ⟨d, hd⟩ := State.counted1_shape (s.onServe tr).leaveHold tr 0xB02001
  have htime : (s.hostWrite ⟨tr, 0xB02001, 1, 0⟩ (State.holdWrite 0)).timing = (s.onServe tr).leaveHold.timing := by
    rw [State.hostWrite_eq_counted1 h hk, heff, hd]
  refine ⟨⟨?_, ?_, ?_, ?_, rfl, fun h2 => ?_, fun h2 => ?_⟩, ?_⟩
  · exact (State.rd_hostWrite h hk _ (by decide) (by decide)).trans hrequest
  · exact (State.rd_hostWrite h hk _ (by decide) (by decide)).trans hstate
  · exact (State.hostWrite_power h hk _).trans (hpower.trans (s.onServe_power tr))
  · exact (State.hostWrite_mram h hk _).trans (hmram.trans (s.onServe_mram tr))
  · exact (congrArg Timing.clk100 htime).trans (hclk (hheld.trans h2))
  · exact htime.trans ((htiming (by rwa [hheld])).trans (s.onServe_timing tr))
  · rw [State.hostWrite_answer h hk, heff, hanswer, s.onServe_frame tr]

/-- A write of 0 that ends Hold, in the terms of O58. -/
theorem State.holdWrite_zero (h : s.admits ⟨tr, 0xB02001, 1, 0⟩) :
    let t := s.hostWrite ⟨tr, 0xB02001, 1, 0⟩ (State.holdWrite 0)
    t.answer.abort = 0 ∧ t.rd 0xB02001 = 0 ∧ t.rd 0xB02002 = 0 ∧ t.pinsByScan = false ∧ t.pinsFloat = false ∧
      (s.rd 0xB02002 = 2 → t.timing.clk100 = true) ∧ (s.rd 0xB02002 ≠ 2 → t.timing = s.timing) ∧ t.mram = s.mram := by
  obtain ⟨hleft, habort⟩ := State.holdWrite_leaves h
  obtain ⟨hscan, hfloat⟩ := State.pins_of_notHeld (by rw [hleft.state]; decide)
  exact ⟨habort, hleft.request, hleft.state, hscan, hfloat, hleft.clk100, hleft.timing, hleft.mram⟩

/-- A request for Hold with TESTEN high (R373). -/
theorem State.holdRequest_one (h : s.admits ⟨tr, 0xB02001, 1, 1⟩) (htesten : s.power.testen = true) (hrun : s.rd 0xB02002 = 0) :
    ∃ t, exec (.holdRequest tr 1) s = .next t ∧ t.answer.abort = 0 ∧ t.rd 0xB02001 = 1 ∧ t.rd 0xB02002 = 1 ∧
      sameObjects ([0xB02001, 0xB02002] ++ accessCounters tr) s t ∧ t = { s with dict := t.dict, answer := t.answer } := by
  have hk : (⟨tr, 0xB02001, 1, 1⟩ : Txn).key ≠ 0x102009 := by simp
  have heff : State.holdWrite 1 (s.onServe tr) = ((s.onServe tr).wr 0xB02001 1).wr 0xB02002 1 := by
    simp [State.holdWrite, htesten, s.onServe_rd tr (j := 0xB02002) (by decide) (by decide), hrun]
  obtain ⟨d, hd⟩ := s.onServe_shape tr
  obtain ⟨d', hd'⟩ := State.counted1_shape (State.holdWrite 1 (s.onServe tr)) tr 0xB02001
  have hrd (k : Nat) (h1 : k / 256 ≠ 0x1020) (h2 : k ≠ 0xA00401) :=
    (State.rd_hostWrite h hk (State.holdWrite 1) h1 h2).trans (by rw [heff])
  refine ⟨_, rfl, ?_, (hrd _ (by decide) (by decide)).trans (by simp), (hrd _ (by decide) (by decide)).trans (by simp),
    State.hostWrite_same h hk _ ?_, ?_⟩
  · rw [State.hostWrite_answer h hk, heff, hd]; rfl
  · rw [heff]
    exact fun k hk => by
      obtain ⟨h1, h2⟩ : k ≠ 0xB02001 ∧ k ≠ 0xB02002 := by simpa using hk
      rw [State.rd_wr, if_neg h2, State.rd_wr, if_neg h1]
  · rw [State.hostWrite_eq_counted1 h hk, hd', heff, hd]; rfl

/-! ### Sleep (R377, R378) -/

/-- The state in which a sleep request was accepted. -/
def State.sleepAsked (s : State) : State := s.onPower fun p => { p with sleepAt := some (s.now + us 30) }

theorem State.sleepWrite_of_ready (h : s.settled = true ∧ s.quiet = false ∧ s.rd 0xB02002 = 0) : s.sleepWrite = s.sleepAsked :=
  if_pos (by simp [h])

theorem State.sleepWrite_of_not_ready (h : ¬(s.settled = true ∧ s.quiet = false ∧ s.rd 0xB02002 = 0)) :
    s.sleepWrite = s.refuse abortState := if_neg (by simpa [and_assoc] using h)

theorem State.ready_onServe (s : State) (tr : Transport) :
    ((s.onServe tr).settled = true ∧ (s.onServe tr).quiet = false ∧ (s.onServe tr).rd 0xB02002 = 0) ↔
      (s.settled = true ∧ s.quiet = false ∧ s.rd 0xB02002 = 0) := by
  rw [s.settled_onServe, s.onServe_rd tr (by decide) (by decide), State.quiet, s.onServe_therm, State.quiet]

theorem State.enterSleep_same (s : State) : sameObjects [0x120002, 0x120003, 0x120203, 0x900301, 0x900302] s s.enterSleep :=
  fun k hk => by
    simp only [List.mem_cons, List.not_mem_nil, or_false, not_or] at hk
    obtain ⟨hlink, hswitch, hsync, h1, h2⟩ := hk
    change ((((s.closeSwitch 0).wr 0x120203 0).wr 0x900301 0).wr 0x900302 0).rd k = _
    rw [State.rd_wr, if_neg h2, State.rd_wr, if_neg h1, State.rd_wr, if_neg hsync, State.rd_closeSwitch, if_neg hswitch,
      if_neg hlink]

theorem State.enterSleep_link (s : State) : s.enterSleep.rd 0x120002 = 0 := by
  change ((((s.closeSwitch 0).wr 0x120203 0).wr 0x900301 0).wr 0x900302 0).rd 0x120002 = 0
  simp [State.rd_closeSwitch]

/-- What Sleep leaves of power, answer, stage and MRAM, and the clocks and lanes that it stops. -/
theorem State.enterSleep_leaves (s : State) : s.enterSleep.power = { s.power with phase := .asleep, sleepAt := none } ∧
    s.enterSleep.answer = s.answer ∧ s.enterSleep.stage = s.stage ∧ s.enterSleep.mram = s.mram ∧
    s.enterSleep.timing.clk100 = false ∧ s.enterSleep.lanes.released = false ∧ s.enterSleep.ring.tx = [] ∧
    s.enterSleep.ring.ins = [] := by
  simp [State.enterSleep, State.stopTimerClock, State.closeSwitch]

/-- A sleep request that is accepted leads to Sleep. -/
theorem State.sleepRequest_sleeps (h : s.admits ⟨tr, 0xB02101, 1, 1⟩) (hawake : s.power.sleepAt = none)
    (hready : s.settled = true ∧ s.quiet = false ∧ s.rd 0xB02002 = 0) :
    ∃ t, exec (.sleepRequest tr 1) s = .next t ∧ t.answer.abort = 0 ∧ t.power = { s.power with phase := .asleep } ∧
      t.timing.clk100 = false ∧ t.lanes.released = false ∧ t.rd 0x120002 = 0 ∧ t.ring.tx = [] ∧ t.ring.ins = [] ∧
      sameObjects ([0x120002, 0x120003, 0x120203, 0x900301, 0x900302] ++ accessCounters tr) s t ∧ t.stage = s.stage ∧
      t.mram = s.mram := by
  have hk : (⟨tr, 0xB02101, 1, 1⟩ : Txn).key ≠ 0x102009 := by simp
  have heff : State.sleepWrite (s.onServe tr) = (s.onServe tr).sleepAsked :=
    State.sleepWrite_of_ready ((s.ready_onServe tr).mpr hready)
  have hpower : (s.hostWrite ⟨tr, 0xB02101, 1, 1⟩ State.sleepWrite).power = { s.power with sleepAt := some (s.now + us 30) } := by
    rw [State.hostWrite_power h hk, heff, State.sleepAsked, State.onServe_now]
    exact congrArg (fun p : Power => { p with sleepAt := some (s.now + us 30) }) (s.onServe_power tr)
  have hsame := State.hostWrite_same h hk State.sleepWrite (ks := []) (by rw [heff]; exact fun _ _ => rfl)
  have hexec : exec (.sleepRequest tr 1) s = .next (s.hostWrite ⟨tr, 0xB02101, 1, 1⟩ State.sleepWrite).enterSleep := by
    change execSleepRequest tr 1 s = _
    unfold execSleepRequest
    rw [State.hostCommand_one]
    dsimp only
    rw [if_neg (by rw [hpower, hawake]; exact Option.some_ne_none _)]
  have hansw : (s.hostWrite ⟨tr, 0xB02101, 1, 1⟩ State.sleepWrite).answer.abort = 0 := by
    rw [State.hostWrite_answer h hk, heff, s.onServe_frame tr]
    rfl
  have hstage : (s.hostWrite ⟨tr, 0xB02101, 1, 1⟩ State.sleepWrite).stage = s.stage := by
    rw [State.hostWrite_stage h hk, heff, State.sleepAsked, s.onServe_frame tr]
    rfl
  have hmram : (s.hostWrite ⟨tr, 0xB02101, 1, 1⟩ State.sleepWrite).mram = s.mram := by
    rw [State.hostWrite_mram h hk, heff, State.sleepAsked, s.onServe_frame tr]
    rfl
  clear heff
  generalize s.hostWrite ⟨tr, 0xB02101, 1, 1⟩ State.sleepWrite = u at *
  obtain ⟨hasleep, hanswer, hstaged, hkept, hclk, hlanes, htx, hins⟩ := u.enterSleep_leaves
  refine ⟨_, hexec, ?_, ?_, hclk, hlanes, u.enterSleep_link, htx, hins, hsame.trans u.enterSleep_same (List.subset_append_right ..)
    (List.subset_append_left ..), ?_, ?_⟩
  · rw [hanswer, hansw]
  · rw [hasleep, hpower, ← hawake]
  · rw [hstaged, hstage]
  · rw [hkept, hmram]

/-- A sleep request that a condition refuses changes nothing. -/
theorem State.sleepRequest_refused (h : s.admits ⟨tr, 0xB02101, 1, 1⟩)
    (hnot : ¬(s.settled = true ∧ s.quiet = false ∧ s.rd 0xB02002 = 0)) :
    ∃ t, exec (.sleepRequest tr 1) s = .next t ∧ t.answer.abort = 0x05010000 ∧ sameObjects (accessCounters tr) s t ∧
      t = { s with dict := t.dict, answer := t.answer } := by
  have heff : State.sleepWrite (s.onServe tr) = (s.onServe tr).refuse abortState :=
    State.sleepWrite_of_not_ready ((s.ready_onServe tr).not.mpr hnot)
  have hrefused := State.hostWrite_of_refuse h (by simp) heff
  refine ⟨_, ?_, hrefused⟩
  change execSleepRequest tr 1 s = _
  unfold execSleepRequest
  rw [State.hostCommand_one]
  exact congrArg Host.Outcome.next (if_pos (by rw [hrefused.2.2]))

end

/-! ### The wake (R379) -/

/-- What the end of a wake leaves, beside the transactions that go on. -/
structure State.Awake (s t : State) : Prop where
  serves : t.serves = true
  clk100 : t.timing.clk100 = true
  released : t.lanes.released = true
  credit : ∀ n < 32, t.rd (0x901001 + n) = 0 ∧ t.rd (0x901101 + n) = 0
  twi : t.twi = s.twi
  waiting : t.stage = s.stage
  wakeAt : t.power.wakeAt = none
  quenched : s.power.wakeQuench = true → (s.rd 0x6A1002).testBit 1 = false → t.therm.quench = true
  quench : s.power.wakeQuench = false → t.therm.quench = s.therm.quench ∧ t.mram = s.mram

/-- The uplinks' objects that hold their credit limits. -/
theorem mem_creditKeys {k : Nat} : k ∈ rangeFrom 0x901001 32 ++ rangeFrom 0x901101 32 ↔
    (0x901001 ≤ k ∧ k < 0x901001 + 32) ∨ (0x901101 ≤ k ∧ k < 0x901101 + 32) := by
  rw [List.mem_append, mem_rangeFrom, mem_rangeFrom]

/-- The state in which the clocks run and the lanes are released after a wake. -/
def State.clocked (s : State) : State :=
  ((s.onPower fun p => { p with phase := .service, wakeAt := none, wakeQuench := false }).clocksReturn.darkRestart.zero
    (rangeFrom 0x901001 32 ++ rangeFrom 0x901101 32)).releaseLanes

theorem State.wake_eq (s : State) : s.wake = if s.power.wakeQuench = true then s.clocked.comparatorQuench else s.clocked := rfl

theorem State.clocked_leaves (s : State) : s.clocked.timing.clk100 = true ∧ s.clocked.lanes.released = true ∧
    (∀ k, s.clocked.rd k = if k ∈ rangeFrom 0x901001 32 ++ rangeFrom 0x901101 32 then 0 else
      (s.onPower fun p => { p with phase := .service, wakeAt := none, wakeQuench := false }).clocksReturn.rd k) ∧
    s.clocked.twi = s.twi ∧ s.clocked.stage = s.stage ∧ s.clocked.mram = s.mram ∧
    s.clocked.power = { s.power with phase := .service, wakeAt := none, wakeQuench := false } ∧
    s.clocked.therm.quench = s.therm.quench := by
  obtain ⟨-, hclk, hquench, hframe⟩ :=
    (s.onPower fun p => { p with phase := .service, wakeAt := none, wakeQuench := false }).clocksReturn_back
  unfold State.clocked
  generalize State.clocksReturn _ = u at *
  obtain ⟨d, hd⟩ : ∃ d, u.darkRestart.zero (rangeFrom 0x901001 32 ++ rangeFrom 0x901101 32) =
      { u.darkRestart with dict := d } := ⟨_, State.zero_frame ..⟩
  have hrd (k : Nat) := u.darkRestart.rd_zero (rangeFrom 0x901001 32 ++ rangeFrom 0x901101 32) k
  generalize u.darkRestart.zero (rangeFrom 0x901001 32 ++ rangeFrom 0x901101 32) = z at *
  subst hd
  refine ⟨hclk, rfl, hrd, ?_, ?_, ?_, ?_, hquench⟩
  all_goals
    change Prod.fst (_, u) = _
    rw [hframe]
    rfl

/-- After a wake the part serves, with its clocks and lanes; the comparator's quench is that of its own step. -/
theorem State.wake_awakes (s : State) : s.Awake s.wake := by
  obtain ⟨hclk, hreleased, hrd, htwi, hstage, hmram, hpower, hquench⟩ := s.clocked_leaves
  have hobj := (s.onPower fun p => { p with phase := .service, wakeAt := none, wakeQuench := false }).clocksReturn_back.objects
  have hcredit (k : Nat) (hk : k ∈ rangeFrom 0x901001 32 ++ rangeFrom 0x901101 32) : s.clocked.rd k = 0 :=
    (hrd k).trans (if_pos hk)
  have hstate : s.clocked.rd 0x6A1002 = s.rd 0x6A1002 :=
    (hrd _).trans ((if_neg (mem_creditKeys.not.mpr (by decide))).trans (hobj _ (by decide)))
  have hmem (n : Nat) (hn : n < 32) : 0x901001 + n ∈ rangeFrom 0x901001 32 ++ rangeFrom 0x901101 32 ∧
      0x901101 + n ∈ rangeFrom 0x901001 32 ++ rangeFrom 0x901101 32 :=
    ⟨mem_creditKeys.mpr (by omega), mem_creditKeys.mpr (by omega)⟩
  rw [State.wake_eq]
  generalize s.clocked = u at *
  by_cases hw : s.power.wakeQuench = true
  · rw [if_pos hw]
    have hstep := u.comparatorQuench_step
    have hkept (k : Nat) (hg : guardedKey k = true) (hk : k / 256 ≠ 0x6A00 ∧ k / 256 ≠ 0x6A10 ∧ k / 256 ≠ 0x6A11) :
        u.comparatorQuench.rd k = u.rd k := hstep.objects k hg (by simp; omega)
    refine ⟨?_, hstep.clk100.trans hclk, hstep.released.trans hreleased, fun n hn => ⟨?_, ?_⟩, hstep.twi.trans htwi,
      hstep.stage.trans hstage, ?_, fun _ hbit => ?_, fun hn => absurd hw (by simp [hn])⟩
    · rw [State.serves, hstep.power, hpower]; rfl
    · rw [hkept _ (by simp [guardedKey]; omega) (by omega), hcredit _ (hmem n hn).1]
    · rw [hkept _ (by simp [guardedKey]; omega) (by omega), hcredit _ (hmem n hn).2]
    · rw [hstep.power, hpower]
    · exact (State.comparatorQuench_quenches (by rw [hstate]; exact hbit)).quench
  · rw [if_neg hw]
    refine ⟨?_, hclk, hreleased, fun n hn => ⟨hcredit _ (hmem n hn).1, hcredit _ (hmem n hn).2⟩, htwi, hstage, ?_,
      fun hy => absurd hy hw, fun _ => ⟨hquench, hmram⟩⟩
    · rw [State.serves, hpower]; rfl
    · rw [hpower]

/-- SCL is released, and the stretch that the wake made is kept (R274). -/
def State.sclFreed (s : State) : State :=
  match s.twi.held with
  | some t => (s.noteStretch t).onTwi fun x => { x with held := none }
  | none => s

theorem State.sclFreed_leaves (s : State) : (∀ k, k ≠ 0xA00405 → s.sclFreed.rd k = s.rd k) ∧
    ∃ d, s.sclFreed = { s with dict := d, twi := { s.twi with held := none } } := by
  unfold State.sclFreed
  split
  · exact ⟨fun k hk => (State.rd_wr ..).trans (if_neg hk), _, rfl⟩
  · next h => exact ⟨fun _ _ => rfl, s.dict, by rw [← h]⟩

theorem exec_wakeComplete {s : State} {x : Instant} (hwaking : s.power.phase = .waking) (hat : s.power.wakeAt = some x) :
    exec .wakeComplete s = if s.now < x + us 200 then .next s else
      .next (State.releaseScl s.wake.sclFreed.twi.bus.length s.wake.sclFreed).drainAll := by
  change execWakeComplete s = _
  unfold execWakeComplete
  rw [hat]
  dsimp only
  simp only [hwaking, ne_eq, not_true_eq_false, false_or]
  rfl

/-- With nothing that waits, nothing goes on. -/
theorem State.goesOn_of_empty {s : State} (hbus : s.twi.bus = []) (hwaiting : s.stage.waiting = []) :
    (State.releaseScl s.twi.bus.length s).drainAll = s := by
  rw [hbus]
  change s.drainAll = s
  unfold State.drainAll
  rw [hbus, hwaiting]
  rfl

/-! ### The obligation -/

theorem State.holdEntered_cases (s : State) :
    (s.serves = true → s.rd 0xB02002 = 1 → s.idle = true → exec .holdEntered s = .next (s.wr 0xB02002 2).stopTimerClock) ∧
    (s.rd 0xB02002 ≠ 1 ∨ s.idle = false → exec .holdEntered s = .next s) :=
  ⟨fun hserves hheld hidle => if_pos ⟨hserves, hheld, hidle⟩, fun hnot => if_neg fun ⟨_, hheld, hidle⟩ => by
    rcases hnot with hn | hn
    · exact hn hheld
    · simp [hidle] at hn⟩

/-- Settles O58: the requests by their conditions, the wake by what the return of the clocks leaves. -/
theorem holdAndSleepStopAndReturnTheClocks : Obligations.HoldAndSleepStopAndReturnTheClocks := by
  unfold Obligations.HoldAndSleepStopAndReturnTheClocks
  refine ⟨fun tr s => ⟨fun h => ⟨fun hlow => ?_, fun hhigh hrun => State.holdRequest_one h hhigh hrun⟩, fun h c hc => ?_,
      fun v hhigh => ?_, fun h hawake => ?_⟩,
    fun s => ⟨fun hserves hheld hidle => ?_, s.holdEntered_cases.2⟩, fun width s => ⟨fun hasleep hon hlong => ?_, fun hnot => ?_⟩,
    fun x s hwaking hat => ⟨fun hearly => ?_, fun hdue => ?_⟩⟩
  · have heff : State.holdWrite 1 (s.onServe tr) = (s.onServe tr).refuse abortState := by
      simp [State.holdWrite, hlow]
    exact ⟨_, rfl, State.hostWrite_of_refuse h (by simp) heff⟩
  · rcases List.mem_pair.mp hc with rfl | rfl
    · exact ⟨_, rfl, State.holdWrite_zero h⟩
    · exact ⟨_, if_neg (by simp), State.holdWrite_zero (s := s.testenLevel s.power.testen) h⟩
  · obtain ⟨-, hstate, hpower, hmram, -, hclk, -⟩ := (s.testenLevel false).leaveHold_leaves
    obtain ⟨hscan, hfloat⟩ := State.pins_of_notHeld (by rw [hstate]; decide)
    exact ⟨_, if_pos (by simp [hhigh]), hstate, hpower.trans (by simp [State.testenLevel, State.onPower]), hscan, hfloat, hclk,
      hmram⟩
  · exact ⟨State.sleepRequest_sleeps h hawake, State.sleepRequest_refused h⟩
  · exact ⟨_, s.holdEntered_cases.1 hserves hheld hidle, (State.rd_wr s 0xB02002 2 _).trans (if_pos rfl), rfl,
      sameObjects_wr s 0xB02002 2, rfl⟩
  · exact ⟨_, congrArg Host.Outcome.next (if_pos ⟨hasleep, hon, hlong⟩), rfl, (State.rd_wr s 0xB02103 2 _).trans (if_pos rfl),
      sameObjects_wr s 0xB02103 2, rfl⟩
  · refine congrArg Host.Outcome.next (if_neg ?_)
    rintro ⟨hasleep, hon, hlong⟩
    rcases hnot with hn | hn | hn
    · exact hn hasleep
    · exact hn hon
    · omega
  · rw [exec_wakeComplete hwaking hat, if_pos hearly]
  · obtain ⟨hserves, hclk, hreleased, hcredit, htwi, hstage, hwake, hquenched, hquench⟩ := s.wake_awakes
    have hexec := (exec_wakeComplete hwaking hat).trans (if_neg (not_lt.mpr hdue))
    obtain ⟨hobj, d, hd⟩ := s.wake.sclFreed_leaves
    have hbus : s.wake.sclFreed.twi.bus = s.twi.bus := by rw [hd, htwi]
    have hwaiting : s.wake.sclFreed.stage.waiting = s.stage.waiting := by rw [hd, hstage]
    refine ⟨s.wake.sclFreed, hexec, fun hb hw => ?_, ?_, ?_, ?_, fun n hn => ?_, ?_, hbus, hwaiting, ?_, fun h1 h2 => ?_,
      fun h1 => ?_⟩
    · rw [hexec, State.goesOn_of_empty (hbus.trans hb) (hwaiting.trans hw)]
    · rw [hd]; exact hserves
    · rw [hd]; exact hclk
    · rw [hd]; exact hreleased
    · rw [hobj _ (by omega), hobj _ (by omega)]; exact hcredit n hn
    · rw [hd]
    · rw [hd]; exact hwake
    · rw [hd]; exact hquenched h1 h2
    · rw [hd]; exact hquench h1

end Sys2Proof.Machine
end

section
/-!
PROOFS. The thermal monitor (R343 to R359): a period begins, a filtered sample at a limit, the comparator, the acknowledge and the
re-arm (O56).
-/
namespace Sys2Proof.Machine

/-! ### A period begins (R346) -/

theorem State.limitsOf_congr {s t : State} (h : ∀ k, 0x6A0201 ≤ k → k < 0x6A0400 → t.rd k = s.rd k) {i : Nat} (hi : i < 19) :
    t.limitsOf i = s.limitsOf i := by
  match i with
  | 0 => simp [State.limitsOf, h]
  | 1 => simp [State.limitsOf, h]
  | 2 => simp [State.limitsOf, h]
  | n + 3 => simp only [State.limitsOf, State.threshold, h (0x6A0301 + n) (by omega) (by omega)]

theorem State.armed_congr {s t : State} (h : ∀ k, 0x6A0201 ≤ k → k < 0x6A0400 → t.rd k = s.rd k) {i : Nat} (hi : i < 19) :
    t.armed i = s.armed i := by
  rw [State.armed, State.limitsOf_congr h hi, State.armed]

theorem State.mem_dueNow {s : State} {i : Nat} (hi : i < 19) (harmed : s.armed i = true) : sourceChan i ∈ s.dueNow true :=
  List.mem_append_left _ (List.mem_map_of_mem (List.mem_filter.mpr ⟨List.mem_range.mpr hi, by simp [harmed]⟩))

/-- The channels due are those that waited and the new ones. -/
theorem State.mem_addDue (l : List Nat) (s : State) (ch : Nat) : ch ∈ (s.addDue l).hk.due ↔ ch ∈ s.hk.due ∨ ch ∈ l := by
  change ch ∈ s.hk.due ++ l.filter (fun ch => !s.hk.due.contains ch) ↔ _
  by_cases h : ch ∈ s.hk.due <;> simp [h]

theorem State.beginFill_frame (s : State) : s.beginFill =
    { s with hk := s.beginFill.hk, therm := { s.therm with fillAt := s.beginFill.therm.fillAt } } := by
  unfold State.beginFill
  split <;> rfl

theorem State.due_beginFill {s : State} {ch : Nat} (h : ch ∈ s.hk.due) : ch ∈ s.beginFill.hk.due := by
  unfold State.beginFill
  split
  · exact h
  · exact (State.mem_addDue ..).mpr (.inl h)

/-- Once its scan is due, the monitor has a sample of every armed source to take. -/
theorem State.tickMonitor_scans {s : State} (hon : s.monitorOn = true) (hdue : s.therm.scanAt ≤ s.now) (hscan : s.therm.scan = false) :
    s.tickMonitor.therm.scan = true ∧ (∀ ch ∈ s.dueNow true, ch ∈ s.tickMonitor.hk.due) ∧
      s.tickMonitor.corr = s.corr ∧ s.tickMonitor.power = s.power := by
  have hbegun : s.beginScan = (s.addDue (s.dueNow true)).onTherm fun t => { t with scan := true } :=
    if_neg (by simp [hscan, hdue])
  have heq : s.tickMonitor = s.beginScan.beginFill.hkNext := if_pos (by simp [hon, hdue])
  have hmem (ch : Nat) (hch : ch ∈ s.dueNow true) : ch ∈ s.beginScan.hk.due := by
    rw [hbegun]; exact (State.mem_addDue ..).mpr (.inr hch)
  have hshape : s.beginScan.therm.scan = true ∧ s.beginScan.corr = s.corr ∧ s.beginScan.power = s.power := by
    rw [hbegun]; exact ⟨rfl, rfl, rfl⟩
  obtain ⟨hset, hcorr, hpower⟩ := hshape
  have hnext := s.beginScan.beginFill.hkNext_only
  rw [heq]
  refine ⟨?_, fun ch hch => ?_, ?_, ?_⟩
  · rw [hnext.therm, State.beginFill_frame, hset]
  · rw [State.hkNext_due]; exact State.due_beginFill (hmem ch hch)
  · rw [hnext.frame, State.beginFill_frame, hcorr]
  · rw [hnext.frame, State.beginFill_frame, hpower]

/-- A tick at which a period begins. -/
theorem State.tick_scans {s : State} (hreset : s.power.resetAt = none) (hsleep : s.power.sleepAt = none) (hins : s.ring.ins = [])
    (hspoil : s.corr.spoil = []) (hup : s.corr.upload = none) (hon : s.monitorOn = true) (hdue : s.therm.scanAt ≤ s.now)
    (hscan : s.therm.scan = false) :
    s.tick.therm.scan = true ∧ ∀ i < 19, s.armed i = true → sourceChan i ∈ s.tick.hk.due := by
  have hclocks := s.beforeClocks.tickClocks_timersOnly
  unfold State.tick
  rw [State.tickRing_eq_beforeClocks hins]
  generalize s.beforeClocks.tickClocks = u at hclocks ⊢
  have hrd (k : Nat) (hk : 0x600000 ≤ k) : u.rd k = s.rd k := hclocks.1 k (by rw [mem_rangeFrom]; omega)
  obtain ⟨d, ts, hu⟩ := hclocks.exists_eq
  have huon : u.monitorOn = true := by
    rw [State.monitorOn, hrd _ (by decide), hu]
    exact hon
  obtain ⟨hset, hmem, hcorr, hpower⟩ := State.tickMonitor_scans huon
    (by rw [hu]; exact hdue.trans (Nat.le_add_right _ _)) (by rw [hu]; exact hscan)
  rw [State.settleBanks_of_none, State.tickPower_of_none]
  · refine ⟨hset, fun i hi harmed => hmem _ (State.mem_dueNow hi ?_)⟩
    rw [State.armed_congr (fun k h1 _ => hrd k (by omega)) hi, harmed]
  · change u.tickMonitor.power.resetAt = none
    rw [hpower, hu]; exact hreset
  · change u.tickMonitor.power.sleepAt = none
    rw [hpower, hu]; exact hsleep
  · change u.tickMonitor.corr.spoil = []
    rw [hcorr, hu]; exact hspoil
  · change u.tickMonitor.corr.upload = none
    rw [hcorr, hu]; exact hup

/-! ### The end of a scan (R346) -/

/-- The dies count as assessed once each has a filtered sample (R357). -/
def State.assess (s : State) : State :=
  s.onTherm fun t => { t with assessed := t.assessed || (t.sources.take 3).all fun x => x.filt.isSome }

/-- The end of a period: the throttle step, the assessment and the schedule follow. -/
def State.periodEnd (s : State) : State :=
  let s := s.refreshStep.assess
  if s.therm.scan then s.endScan else s

/-- The monitor's one sample is used. -/
theorem exec_monitorPeriod {s : State} {ch : Nat} {r : Option Int} (hclk : s.timing.clk100 = true) (hdue : s.hk.due = [])
    (hgot : s.therm.got = [(ch, r)]) :
    exec .monitorPeriod s = .next ((s.onTherm fun t => { t with got := [] }).monitored ch r).periodEnd := by
  have hrun : exec .monitorPeriod s = .next (let u := s.useSamples.assess; if u.therm.scan then u.endScan else u) :=
    if_neg (by simp [hclk, hdue, hgot])
  rw [hrun, State.useSamples, hgot]
  rfl

theorem State.refreshStep_shape (s : State) : ∃ d im, s.refreshStep = { s with dict := d, image := im } := by
  unfold State.refreshStep
  dsimp only
  split
  · exact ⟨_, _, rfl⟩
  · split <;> exact ⟨_, _, rfl⟩

theorem State.refreshStep_same (s : State) : sameObjects [0x6A0005, 0x6A1102] s s.refreshStep := fun k hk => by
  obtain ⟨h1, h2⟩ : k ≠ 0x6A0005 ∧ k ≠ 0x6A1102 := by simpa using hk
  unfold State.refreshStep
  dsimp only
  split
  · rfl
  · rw [State.onImage_rd, State.rd_wr, if_neg h1]
    split
    · rw [State.rd_inc, if_neg h2]
    · rfl

theorem State.endScan_frame (s : State) : s.endScan = { s with dict := s.endScan.dict, therm := s.endScan.therm } := rfl

/-- What the end of a period leaves alone. -/
structure State.PeriodEnded (s t : State) : Prop where
  objects : sameObjects [0x6A0005, 0x6A1102, 0x6A0006] s t
  quench : t.therm.quench = s.therm.quench
  frame : t = { s with dict := t.dict, image := t.image, therm := t.therm }

theorem State.periodEnd_ends (s : State) : s.PeriodEnded s.periodEnd := by
  have hsame := s.refreshStep_same
  obtain ⟨d, im, hshape⟩ := s.refreshStep_shape
  unfold State.periodEnd
  generalize s.refreshStep = u at *
  dsimp only
  split
  · refine ⟨fun k hk => ?_, ?_, ?_⟩
    · obtain ⟨h1, h2, h3⟩ : k ≠ 0x6A0005 ∧ k ≠ 0x6A1102 ∧ k ≠ 0x6A0006 := by simpa using hk
      change (u.assess.wr 0x6A0006 _).rd k = _
      rw [State.rd_wr, if_neg h3]
      exact hsame k (by simp [h1, h2])
    · change u.therm.quench = _
      rw [hshape]
    · rw [State.endScan_frame, State.assess, hshape]
      rfl
  · refine ⟨fun k hk => hsame k (fun hm => hk ?_), ?_, ?_⟩
    · simp only [List.mem_cons, List.not_mem_nil, or_false] at hm ⊢
      tauto
    · change u.therm.quench = _
      rw [hshape]
    · rw [State.assess, hshape]
      rfl

/-- The next instant of a schedule lies in the future. -/
theorem lt_nextDue (now due : Nat) {period : Nat} (h : 0 < period) : now < nextDue now due period := by
  have hnext : now - due < ((now - due) / period + 1) * period := by
    rw [Nat.mul_comm]
    exact Nat.lt_mul_div_succ _ h
  unfold nextDue
  omega

/-- A source that is not armed takes no sample (R346). -/
theorem State.monitored_of_unarmed {s : State} {ch : Nat} (r : Option Int) (hch : ch < 17 ∨ 23 ≤ ch)
    (hoff : ∀ i < 19, sourceChan i = ch → s.armed i = false) : s.monitored ch r = s := by
  have hrail : ¬(17 ≤ ch ∧ ch < 23) := by omega
  unfold State.monitored
  rw [if_neg hrail]
  split
  · next i hfind =>
    have hmem := List.mem_range.mp (List.mem_of_find?_eq_some hfind)
    have hchan := List.find?_some hfind
    rw [hoff i hmem (by simpa using hchan)]
    rfl
  · rfl

/-! ### A filtered sample of a die (R347, R348) -/

theorem State.src_onSource {s : State} {i : Nat} (h : i < s.therm.sources.length) (f : Source → Source) :
    (s.onSource i f).src i = f (s.src i) :=
  (nth_modifyNth s.therm.sources i i f (Source.reset 4)).trans (if_pos ⟨rfl, h⟩)

@[simp] theorem State.onSource_sources_length (s : State) (i : Nat) (f : Source → Source) :
    (s.onSource i f).therm.sources.length = s.therm.sources.length := length_modifyNth ..

/-- The channel of a die names its source. -/
theorem find?_die {i : Nat} (hi : i < 3) : (List.range 19).find? (fun j => sourceChan j == sourceChan i) = some i := by
  interval_cases i <;> rfl

theorem State.armed_die (s : State) {i : Nat} (hi : i < 3) : s.armed i = true := by
  interval_cases i <;> rfl

/-- The die `i` with its filtered sample, before its limits take it. -/
def State.dieFiltered (i : Nat) (v m : Int) (s : State) : State :=
  ((s.onSource i (·.push (some v))).onSource i fun x => { x with filt := some m }).placeFiltered i true m

/-- The third raw sample of a die makes a filtered one, their median. -/
theorem State.monitored_die {i : Nat} {v a b : Int} {l : List (Option Int)} {s : State} (hi : i < 3)
    (hlen : s.therm.sources.length = 19) (hl : l.length ≤ 1) (hraws : (s.src i).raws = l ++ [some a, some b]) :
    s.monitored (sourceChan i) (some v) =
      let m := max (min a b) (min (max a b) v)
      let u := s.dieFiltered i v m
      if i = 2 then u.sampleMramDie (some m) else u.sampleDie i (some m) m := by
  have hchan : ¬(17 ≤ sourceChan i ∧ sourceChan i < 23) := by interval_cases i <;> decide
  have hunit : limitUnit (sourceChan i) v = v := if_neg (by interval_cases i <;> decide)
  have hpush : ((s.onSource i (·.push (some v))).src i).raws = [some a, some b, some v] := by
    rw [State.src_onSource (by omega), Source.push, hraws]
    match l with
    | [] => rfl
    | [_] => rfl
  unfold State.monitored
  rw [if_neg hchan, find?_die hi]
  dsimp only
  rw [s.armed_die hi, if_pos rfl]
  unfold State.rawSample
  rw [if_neg (by simp), Option.map_some, hunit]
  dsimp only
  rw [hpush, if_pos (show ([some a, some b, some v] : List (Option Int)).length = 3 from rfl)]
  exact if_pos hi

/-- What a filtered sample of die `i` writes before the limits take it. -/
def dieFilteredKeys (i : Nat) : List Nat := [0x6A0007 + i, 0x601001 + sourceChan i, 0x601201 + sourceChan i, 0x6A1106 + i]

theorem State.placeFiltered_shape (i : Nat) (f : Int) (s : State) : ∃ d, s.placeFiltered i true f = { s with dict := d } := ⟨_, rfl⟩

theorem State.rd_placeFiltered {i : Nat} (f : Int) (s : State) {k : Nat} (hk : k ∉ dieFilteredKeys i) :
    (s.placeFiltered i true f).rd k = s.rd k := by
  obtain ⟨h1, h2, h3, h4⟩ : k ≠ 0x6A0007 + i ∧ k ≠ 0x601001 + sourceChan i ∧ k ≠ 0x601201 + sourceChan i ∧ k ≠ 0x6A1106 + i := by
    simpa [dieFilteredKeys] using hk
  unfold State.placeFiltered
  dsimp only
  rw [if_pos rfl, State.rd_wr, if_neg h4, State.markValid, State.rd_wr, if_neg h3, State.rd_wr, if_neg h2, State.rd_wr, if_neg h1]

theorem State.placeFiltered_value {i : Nat} (hi : i < 3) (f : Int) (s : State) :
    (s.placeFiltered i true f).rd (0x6A0007 + i) = ofSigned 16 f := by
  have hchan : sourceChan i < 256 := by interval_cases i <;> decide
  unfold State.placeFiltered
  dsimp only
  rw [if_pos rfl, State.rd_wr, if_neg (by omega), State.markValid, State.rd_wr, if_neg (by omega), State.rd_wr, if_neg (by omega),
    State.rd_wr, if_pos rfl]

/-- A filtered sample of a die, before its limits take it. -/
structure State.DieFiltered (i : Nat) (m : Int) (s u : State) : Prop where
  objects : sameObjects (dieFilteredKeys i) s u
  value : u.rd (0x6A0007 + i) = ofSigned 16 m
  limits : (u.src i).limits = (s.src i).limits
  channels : u.therm.sources.length = s.therm.sources.length
  frame : u = { s with dict := u.dict, therm := { s.therm with sources := u.therm.sources } }

theorem State.dieFiltered_places {i : Nat} {s : State} (hi : i < 3) (hlen : i < s.therm.sources.length) (v m : Int) :
    s.DieFiltered i m (s.dieFiltered i v m) := by
  unfold State.dieFiltered
  have hrd := fun k hk => State.rd_placeFiltered (i := i) (k := k) m
    ((s.onSource i (·.push (some v))).onSource i fun x => { x with filt := some m }) hk
  have hvalue := State.placeFiltered_value hi m ((s.onSource i (·.push (some v))).onSource i fun x => { x with filt := some m })
  obtain ⟨d, hd⟩ := State.placeFiltered_shape i m ((s.onSource i (·.push (some v))).onSource i fun x => { x with filt := some m })
  rw [hd] at hrd hvalue ⊢
  refine ⟨hrd, hvalue, ?_, ?_, rfl⟩
  · change (((s.onSource i (·.push (some v))).onSource i fun x => { x with filt := some m }).src i).limits = _
    rw [State.src_onSource (by rwa [State.onSource_sources_length]), State.src_onSource hlen]
    rfl
  · change ((s.onSource i (·.push (some v))).onSource i fun x => { x with filt := some m }).therm.sources.length = _
    rw [State.onSource_sources_length, State.onSource_sources_length]

/-- A limit that is armed takes the filtered sample. -/
theorem State.sampleLimits_limit {s : State} {i k : Nat} {p : LimitSpec} {l : Limit} (v : Option Int)
    (hi : i < s.therm.sources.length) (hp : (s.limitsOf i)[k]? = some p) (harmed : p.armed = true)
    (hl : (s.src i).limits[k]? = some l) :
    ((s.sampleLimits i v).src i).limit k =
      l.sample (p.reached v) (p.left v) (k == 2 && !bitAt (s.rd 0x6A1002) (2 + i)) := by
  unfold State.sampleLimits
  dsimp only
  rw [State.src_onSource hi, Source.limit, nth, List.getD_eq_getElem?_getD, List.getElem?_mapIdx, hl, Option.map_some, hp]
  dsimp only
  rw [if_pos harmed]
  rfl

/-- The third filtered sample in a row at a limit sets it (R348). -/
theorem Limit.sample_third {l : Limit} (h : l.c = 2) (left latched : Bool) : (l.sample true left latched).set = true := by
  simp [Limit.sample, h]

theorem State.sampleLimits_frame (i : Nat) (v : Option Int) (s : State) : s.sampleLimits i v =
    { s with therm := { s.therm with sources := (s.sampleLimits i v).therm.sources } } := rfl

theorem Source.throttle_limits (x : Source) (was is reached left : Bool) (start ceiling : Nat) :
    (x.throttle was is reached left start ceiling).limits = x.limits := by
  unfold Source.throttle
  split_ifs <;> rfl

theorem State.moveStep_limits {s : State} {i : Nat} (hi : i < s.therm.sources.length) (k : Nat) (was : Bool) (v : Option Int) :
    ((s.moveStep i k was v).src i).limits = (s.src i).limits := by
  unfold State.moveStep
  split
  · rfl
  · rw [State.src_onSource hi, Source.throttle_limits]

theorem State.moveStep_frame (i k : Nat) (was : Bool) (v : Option Int) (s : State) : s.moveStep i k was v =
    { s with therm := { s.therm with sources := (s.moveStep i k was v).therm.sources } } := by
  unfold State.moveStep
  split <;> rfl

/-- A die whose quench limit becomes set: its level follows, and the part quenches (R352). -/
theorem State.sampleDie_quenches {i : Nat} {m : Int} {l0 l1 l2 : Limit} {s : State} (hi : i < 2) (hlen : i < s.therm.sources.length)
    (hlimits : (s.src i).limits = [l0, l1, l2]) (hcount : l2.c = 2) (hclear : l2.set = false)
    (hreached : toSigned 16 (s.rd (0x6A0203 + 3 * i)) ≤ m) :
    ∃ u, s.sampleDie i (some m) m = u.dieQuench i ∧ s.MonitorStep [0x6A0001 + i, 0x6A0004] u ∧
      u.therm.quench = s.therm.quench := by
  obtain ⟨p, hp, harmed, hat⟩ : ∃ p, (s.limitsOf i)[2]? = some p ∧ p.armed = true ∧ p.reached (some m) = true := by
    interval_cases i
    · exact ⟨_, rfl, rfl, by simpa [LimitSpec.reached] using hreached⟩
    · exact ⟨_, rfl, rfl, by simpa [LimitSpec.reached] using hreached⟩
  have hold : ((s.src i).limit 2).set = false := by
    rw [Source.limit, hlimits]
    exact hclear
  have hset : (((s.sampleLimits i (some m)).src i).limit 2).set = true := by
    rw [State.sampleLimits_limit (some m) hlen hp harmed (by rw [hlimits]; rfl), hat]
    exact Limit.sample_third hcount _ _
  have hframe := s.sampleLimits_frame i (some m)
  have hlen' : i < (s.sampleLimits i (some m)).therm.sources.length := by
    rw [State.sampleLimits, State.onSource_sources_length]; exact hlen
  have hstep : s.MonitorStep [0x6A0001 + i, 0x6A0004] (s.sampleLimits i (some m)) := (State.MonitorStep.refl _ s).onSource
  unfold State.sampleDie
  dsimp only
  generalize s.sampleLimits i (some m) = u at *
  have hmoved := State.moveStep_limits hlen' 1 ((s.src i).limit 1).set (some m)
  have hmframe := u.moveStep_frame i 1 ((s.src i).limit 1).set (some m)
  have hmstep : u.MonitorStep [] (u.moveStep i 1 ((s.src i).limit 1).set (some m)) := by
    unfold State.moveStep
    split
    · exact .refl _ _
    · exact (State.MonitorStep.refl _ _).onSource
  rw [hset, hold]
  simp only [Bool.not_true, Bool.and_false, Bool.false_eq_true, if_false]
  generalize u.moveStep i 1 ((s.src i).limit 1).set (some m) = w at *
  have hlevel := State.setLevel_therm i (w.src i).level m w
  have hsrc : (w.setLevel i (w.src i).level m).src i = w.src i := congrArg (fun t => nth (Therm.sources t) i (Source.reset 4)) hlevel
  have hwset : ((w.src i).limit 2).set = true := by
    rw [Source.limit, hmoved]; exact hset
  refine ⟨_, if_pos (by rw [hsrc, hwset]; rfl), (hstep.trans (hmstep.mono (by simp))).trans (State.setLevel_step ..), ?_⟩
  rw [hlevel, hmframe, hframe]

/-- The MRAM die's limit becomes set: the write inhibit is in force, counted and reported (R355). -/
theorem State.sampleMramDie_inhibits {m : Int} {l0 : Limit} {ls : List Limit} {s : State} (hlen : 2 < s.therm.sources.length)
    (hlimits : (s.src 2).limits = l0 :: ls) (hcount : l0.c = 2) (hfree : s.inhibited = false)
    (hreached : toSigned 16 (s.rd 0x6A0207) ≤ m) :
    let t := s.sampleMramDie (some m)
    t.inhibited = true ∧ t.rd 0x6A0009 = s.rd 0x6A0009 ∧ t.rd 0x6A1104 = countUp (s.rd 0x6A1104) ∧
      (t.rd 0x100101).testBit 8 = true ∧ t.mram = s.mram := by
  have hset : (((s.sampleLimits 2 (some m)).src 2).limit 0).set = true := by
    rw [State.sampleLimits_limit (some m) hlen (p := ⟨true, toSigned 16 (s.rd 0x6A0207), 48, true⟩) rfl rfl
      (by rw [hlimits]; rfl), show (LimitSpec.mk true _ _ true).reached (some m) = true by simpa [LimitSpec.reached] using hreached]
    exact Limit.sample_third hcount _ _
  have hoff : ¬b2n true = s.rd 0x6A0003 := by
    simp only [State.inhibited, beq_eq_false_iff_ne, ne_eq] at hfree
    exact fun hn => hfree hn.symm
  have hrd (k : Nat) : (s.sampleLimits 2 (some m)).rd k = s.rd k := rfl
  have hmram : (s.sampleLimits 2 (some m)).mram = s.mram := rfl
  unfold State.sampleMramDie
  dsimp only
  generalize s.sampleLimits 2 (some m) = u at *
  rw [hset, if_neg (by rw [hrd]; exact hoff), if_pos (show b2n true = 1 from rfl)]
  obtain ⟨c, hc⟩ : ∃ c, (((u.wr 0x6A0003 (b2n true)).resumeUpload).onPower fun p => { p with unwritten := none }) =
      ((u.wr 0x6A0003 (b2n true)).onCorr fun _ => c).onPower fun p => { p with unwritten := none } := ⟨_, rfl⟩
  rw [hc]
  have hw (k : Nat) : ((((u.wr 0x6A0003 (b2n true)).onCorr fun _ => c).onPower fun p => { p with unwritten := none }).inc
      0x6A1104).rd k = if k = 0x6A1104 then countUp (s.rd 0x6A1104) else if k = 0x6A0003 then 1 else s.rd k := by
    have hbefore (j : Nat) : (((u.wr 0x6A0003 (b2n true)).onCorr fun _ => c).onPower fun p => { p with unwritten := none }).rd j =
        if j = 0x6A0003 then 1 else s.rd j := by
      rw [← hrd j]; exact State.rd_wr u 0x6A0003 1 j
    rw [State.rd_inc, hbefore, hbefore, if_neg (show ¬0x6A1104 = 0x6A0003 by decide), countUp]
  generalize hv : State.inc _ 0x6A1104 = w at *
  have hwm : w.mram = s.mram := by rw [← hv, ← hmram]; rfl
  have hlog := w.logEvent_same 0x0A03 (leBytes 1 (b2n true))
  refine ⟨?_, ?_, ?_, ?_, ?_⟩
  · rw [State.inhibited, hlog _ (by decide), hw]; rfl
  · rw [hlog _ (by decide), hw]; rfl
  · rw [hlog _ (by decide), hw]; rfl
  · rw [State.logEvent_alerts]
    exact (testBit_setBit ..).trans (by simp)
  · rw [State.logEvent_mram, hwm]

/-! ### The comparator (R343) -/

theorem State.leaveHold_objects (s : State) {k : Nat} (hg : guardedKey k = true) (h1 : k ≠ 0xB02001) (h2 : k ≠ 0xB02002) :
    s.leaveHold.rd k = s.rd k := by
  have hw : ((s.wr 0xB02001 0).wr 0xB02002 0).rd k = s.rd k := by
    rw [State.rd_wr, if_neg h2, State.rd_wr, if_neg h1]
  unfold State.leaveHold
  dsimp only
  split
  · exact (((s.wr 0xB02001 0).wr 0xB02002 0).clocksReturn_back.objects k hg).trans hw
  · exact hw

/-- In Hold the comparator ends Hold and quenches (R343). -/
theorem State.comparatorTrip_quenches {s : State} (hclk : s.timing.clk100 = false) (hserves : s.serves = true)
    (hheld : s.rd 0xB02002 = 2) (hclear : (s.rd 0x6A1002).testBit 1 = false) :
    ∃ t, exec .thermalComparatorTrip s = .next t ∧ t.therm.quench = true ∧ t.rd 0xB02002 = 0 ∧ t.timing.clk100 = true ∧
      (t.rd 0x6A1002).testBit 1 = true := by
  have hphase : s.power.phase = .service := by simpa [State.serves] using hserves
  have hexec : exec .thermalComparatorTrip s = .next (s.wr 0xB02103 3).leaveHold.comparatorQuench := by
    change execThermalComparatorTrip s = _
    simp [execThermalComparatorTrip, hclk, hphase, hserves, hheld]
  have hleft := (s.wr 0xB02103 3).leaveHold_leaves
  have hstate : (s.wr 0xB02103 3).leaveHold.rd 0x6A1002 = s.rd 0x6A1002 :=
    ((s.wr 0xB02103 3).leaveHold_objects (by decide) (by decide) (by decide)).trans
      ((State.rd_wr s 0xB02103 3 _).trans (if_neg (by decide)))
  have hquenched := State.comparatorQuench_quenches (s := (s.wr 0xB02103 3).leaveHold) (by rw [hstate]; exact hclear)
  refine ⟨_, hexec, hquenched.quench, ?_, ?_, hquenched.state⟩
  · rw [hquenched.step.objects _ (by decide) (by decide), hleft.state]
  · rw [hquenched.step.clk100]
    exact hleft.clk100 ((State.rd_wr s 0xB02103 3 _).trans ((if_neg (by decide)).trans hheld))

/-! ### The acknowledge (R354) -/

/-- What the part does as it leaves quench, with the bit of the re-arm set. -/
structure State.QuenchLeft (s t : State) : Prop where
  step : s.MonitorStep [0x6A1002] t
  therm : t.therm = { s.therm with quench := false, rearmEnd := some (s.now + ms 2) }
  state : t.rd 0x6A1002 = setBit (s.rd 0x6A1002) 4
  answer : t.answer = s.answer

theorem State.leaveQuench_leaves (s : State) : s.QuenchLeft s.leaveQuench := by
  have htimers := (s.onTherm fun t => { t with quench := false, rearmEnd := some (s.now + ms 2) }).unforceTimers_timersOnly
  have hstate : (s.onTherm fun t => { t with quench := false, rearmEnd := some (s.now + ms 2) }).unforceTimers.rd 0x6A1002 =
      s.rd 0x6A1002 := htimers.1 _ (by rw [mem_rangeFrom]; decide)
  have hstep : s.MonitorStep [0x6A1002] (s.onTherm fun t => { t with quench := false, rearmEnd := some (s.now + ms 2) }).unforceTimers :=
    (State.MonitorStep.refl _ s).onTherm.timers htimers
  obtain ⟨d, ts, hu⟩ := htimers.exists_eq
  unfold State.leaveQuench
  dsimp only
  generalize State.unforceTimers _ = u at *
  have hrearmed : s.MonitorStep [0x6A1002] (u.darkRestart.quenchBit 4 true) := hstep.onConv.wr (by simp)
  have hset : (u.darkRestart.quenchBit 4 true).rd 0x6A1002 = setBit (s.rd 0x6A1002) 4 :=
    (State.rd_wr ..).trans ((if_pos rfl).trans (congrArg (setBit · 4) hstate))
  have htherm : (u.darkRestart.quenchBit 4 true).therm = { s.therm with quench := false, rearmEnd := some (s.now + ms 2) } := by
    change u.therm = _
    rw [hu]; rfl
  have hansw : (u.darkRestart.quenchBit 4 true).answer = s.answer := by
    change u.answer = _
    rw [hu]; rfl
  generalize u.darkRestart.quenchBit 4 true = w at *
  split
  · exact ⟨(hrearmed.wr_free (by simp)).onConv, htherm, (State.rd_wr w 0x300102 1 _).trans ((if_neg (by decide)).trans hset), hansw⟩
  · exact ⟨hrearmed, htherm, hset, hansw⟩

/-- A number whose two low bits are clear is a multiple of 4. -/
theorem mod_four_of_testBit {n : Nat} (h0 : n.testBit 0 = false) (h1 : n.testBit 1 = false) : n % 4 = 0 := by
  simp only [Nat.testBit_eq_decide_div_mod_eq, decide_eq_false_iff_not] at h0 h1
  omega

/-- The state after the host's acknowledge is noted, before the die may leave its limit. -/
def State.ackNoted (i : Nat) (s : State) : State := (s.quenchBit (2 + i) true).logEvent 0x0A02 (leBytes 1 i)

theorem State.acknowledge_of_set {i : Nat} {s : State} (h : (s.rd 0x6A1002).testBit i = true) :
    s.acknowledge i = if ((s.src i).limit 2).e = 3 then (s.ackNoted i).dieLeaves i else s.ackNoted i := by
  have hsrc : (s.ackNoted i).src i = s.src i := by
    rw [State.src, State.ackNoted, State.logEvent_therm]; rfl
  rw [← hsrc]
  exact if_neg (by simp [bitAt, h])

theorem State.acknowledge_of_clear {i : Nat} {s : State} (h : (s.rd 0x6A1002).testBit i = false) : s.acknowledge i = s :=
  if_pos (by simp [bitAt, h])

/-- The write names one die. -/
theorem State.acknowledgeQuench_one {i : Nat} (hi : i < 2) (s : State) :
    State.acknowledgeQuench (2 ^ i) s = (s.acknowledge i).refreshStep := by
  interval_cases i <;> rfl

theorem State.ackNoted_step (i : Nat) (s : State) : s.MonitorStep [0x6A1002] (s.ackNoted i) :=
  ((State.MonitorStep.refl _ s).wr (by simp)).logEvent

theorem State.ackNoted_state (i : Nat) (s : State) : (s.ackNoted i).rd 0x6A1002 = setBit (s.rd 0x6A1002) (2 + i) := by
  rw [State.ackNoted, State.logEvent_same _ _ _ _ (by decide)]
  exact (State.rd_wr ..).trans (if_pos rfl)

theorem State.ackNoted_rest (i : Nat) (s : State) : (s.ackNoted i).therm = s.therm ∧ (s.ackNoted i).answer = s.answer ∧
    (s.ackNoted i).mram = s.mram := by
  unfold State.ackNoted
  exact ⟨State.logEvent_therm .., State.logEvent_answer .., State.logEvent_mram ..⟩

/-- The last die leaves its quench limit: the part leaves quench (R354). -/
theorem State.dieLeaves_leaves {i : Nat} (hi : i < 2) {s : State} (hother : (s.rd 0x6A1002).testBit (1 - i) = false) :
    (s.dieLeaves i).therm.quench = false ∧ (s.dieLeaves i).therm.rearmEnd = some (s.now + ms 2) ∧
      (s.dieLeaves i).rd 0x6A1002 = setBit (clearBit (s.rd 0x6A1002) i) 4 ∧ (s.dieLeaves i).rd (0x6A0001 + i) = 2 ∧
      (s.dieLeaves i).answer = s.answer := by
  unfold State.dieLeaves
  dsimp only
  generalize hu : State.onSource i _ s = u
  have hurd : u.rd 0x6A1002 = s.rd 0x6A1002 := by rw [← hu]; rfl
  have hunow : u.now = s.now := by rw [← hu]; rfl
  have huansw : u.answer = s.answer := by rw [← hu]; rfl
  generalize (u.src i).filt.getD 0 = f
  have hbit : (u.quenchBit i false).rd 0x6A1002 = clearBit (s.rd 0x6A1002) i :=
    (State.rd_wr ..).trans ((if_pos rfl).trans (congrArg (clearBit · i) hurd))
  have hlevel := State.setLevel_level i 2 f (u.quenchBit i false) hi
  have hstep := State.setLevel_step i 2 f (u.quenchBit i false)
  have hansw : ((u.quenchBit i false).setLevel i 2 f).answer = s.answer := by
    refine Eq.trans ?_ huansw
    unfold State.setLevel
    dsimp only
    split
    · rfl
    · rw [State.logEvent_answer]; rfl
  have hstate := (hstep.objects 0x6A1002 (by decide) (by simp; omega)).trans hbit
  have hnow := hstep.now.trans hunow
  generalize (u.quenchBit i false).setLevel i 2 f = w at *
  have hall : w.rd 0x6A1002 % 4 = 0 := by
    rw [hstate]
    have hboth (j : Nat) (hj : j < 2) : (clearBit (s.rd 0x6A1002) i).testBit j = false := by
      rw [testBit_clearBit]
      by_cases hji : j = i
      · simp [hji]
      · rw [show j = 1 - i by omega, hother, Bool.false_and]
    exact mod_four_of_testBit (hboth 0 (by decide)) (hboth 1 (by decide))
  rw [if_pos hall]
  obtain ⟨hkept, htherm, hset, hanswer⟩ := w.leaveQuench_leaves
  refine ⟨by rw [htherm], by rw [htherm, hnow], by rw [hset, hstate], ?_, hanswer.trans hansw⟩
  rw [hkept.objects _ (by simp [guardedKey]; omega) (by simp; omega), hlevel]

section acknowledge
variable {s : State} {tr : Transport} {i : Nat} (hi : i < 2) (h : s.admits ⟨tr, 0x6A1001, 1, 2 ^ i⟩)
include hi h

theorem State.exec_acknowledgeQuench : ∃ d, exec (.acknowledgeQuench tr (2 ^ i)) s =
      .next { ((s.onServe tr).acknowledge i).refreshStep with dict := d } ∧
    ∀ k, k / 256 ≠ 0x1020 → k ≠ 0xA00401 → Dict.get d k = ((s.onServe tr).acknowledge i).refreshStep.rd k := by
  have hk : (⟨tr, 0x6A1001, 1, 2 ^ i⟩ : Txn).key ≠ 0x102009 := by simp
  have heq := State.hostWrite_eq_counted1 h hk (State.acknowledgeQuench (2 ^ i))
  have hrd := fun k h1 h2 => State.rd_hostWrite h hk (State.acknowledgeQuench (2 ^ i)) (j := k) h1 h2
  rw [State.acknowledgeQuench_one hi] at heq hrd
  obtain ⟨d, hd⟩ := State.counted1_shape ((s.onServe tr).acknowledge i).refreshStep tr 0x6A1001
  rw [heq, hd] at hrd
  exact ⟨d, congrArg Host.Outcome.next (heq.trans hd), hrd⟩

/-- An acknowledge of a die without quench changes nothing. -/
theorem State.acknowledgeQuench_ignored (hclear : (s.rd 0x6A1002).testBit i = false)
    (hsteps : s.rd 0x6A0005 = maxNat (s.therm.sources.map Source.step)) :
    ∃ t, exec (.acknowledgeQuench tr (2 ^ i)) s = .next t ∧ t.answer.abort = 0 ∧ sameObjects (accessCounters tr) s t ∧
      t = { s with dict := t.dict, answer := t.answer } := by
  have hk : (⟨tr, 0x6A1001, 1, 2 ^ i⟩ : Txn).key ≠ 0x102009 := by simp
  have heff : State.acknowledgeQuench (2 ^ i) (s.onServe tr) = s.onServe tr := by
    rw [State.acknowledgeQuench_one hi, State.acknowledge_of_clear (by rwa [s.onServe_rd tr (by decide) (by decide)])]
    refine State.refreshStep_of_eq ?_
    rw [s.onServe_rd tr (by decide) (by decide), s.onServe_therm, hsteps]
  obtain ⟨d, hd⟩ := s.onServe_shape tr
  obtain ⟨d', hd'⟩ := State.counted1_shape (State.acknowledgeQuench (2 ^ i) (s.onServe tr)) tr 0x6A1001
  refine ⟨_, rfl, ?_, State.hostWrite_same h hk (ks := []) _ (by rw [heff]; exact sameObjects.refl _ _), ?_⟩
  · rw [State.hostWrite_answer h hk, heff, hd]
  · rw [State.hostWrite_eq_counted1 h hk, hd', heff, hd]

/-- An acknowledge while the die is hot is noted only. -/
theorem State.acknowledgeQuench_noted (hset : (s.rd 0x6A1002).testBit i = true) (hhot : ((s.src i).limit 2).e ≠ 3) :
    ∃ t, exec (.acknowledgeQuench tr (2 ^ i)) s = .next t ∧ t.answer.abort = 0 ∧
      (∀ j, (t.rd 0x6A1002).testBit j = ((s.rd 0x6A1002).testBit j || j == 2 + i)) ∧ t.therm = s.therm ∧ t.mram = s.mram := by
  obtain ⟨d, hexec, hd⟩ := State.exec_acknowledgeQuench hi h
  have hserved := s.onServe_rd tr (j := 0x6A1002) (by decide) (by decide)
  obtain ⟨d0, hs⟩ := s.onServe_shape tr
  have hack : (s.onServe tr).acknowledge i = (s.onServe tr).ackNoted i := by
    rw [State.acknowledge_of_set (by rw [hserved]; exact hset)]
    exact if_neg (by rw [State.src, s.onServe_therm]; exact hhot)
  rw [hack] at hexec hd
  obtain ⟨htherm, hansw, hmram⟩ := (s.onServe tr).ackNoted_rest i
  have hstate := hd 0x6A1002 (by decide) (by decide)
  rw [State.refreshStep_same _ _ (by decide), State.ackNoted_state, hserved] at hstate
  generalize (s.onServe tr).ackNoted i = u at *
  obtain ⟨d', im, hshape⟩ := u.refreshStep_shape
  rw [hshape] at hexec
  refine ⟨_, hexec, ?_, fun j => ?_, htherm.trans (s.onServe_therm tr), hmram.trans (s.onServe_mram tr)⟩
  · change u.answer.abort = 0
    rw [hansw, hs]
  · refine (congrArg (Nat.testBit · j) hstate).trans ?_
    rw [testBit_setBit]
    rfl

/-- An acknowledge once the limit is left ends quench, and the part re-arms. -/
theorem State.acknowledgeQuench_leaves (hset : (s.rd 0x6A1002).testBit i = true) (hother : (s.rd 0x6A1002).testBit (1 - i) = false)
    (hcold : ((s.src i).limit 2).e = 3) :
    ∃ t, exec (.acknowledgeQuench tr (2 ^ i)) s = .next t ∧ t.answer.abort = 0 ∧ t.therm.quench = false ∧
      t.therm.rearmEnd = some (s.now + ms 2) ∧ (t.rd 0x6A1002).testBit i = false ∧ (t.rd 0x6A1002).testBit 4 = true ∧
      t.rd (0x6A0001 + i) = 2 := by
  obtain ⟨d, hexec, hd⟩ := State.exec_acknowledgeQuench hi h
  have hserved := s.onServe_rd tr (j := 0x6A1002) (by decide) (by decide)
  obtain ⟨d0, hs⟩ := s.onServe_shape tr
  have hack : (s.onServe tr).acknowledge i = ((s.onServe tr).ackNoted i).dieLeaves i := by
    rw [State.acknowledge_of_set (by rw [hserved]; exact hset)]
    exact if_pos (by rw [State.src, s.onServe_therm]; exact hcold)
  rw [hack] at hexec hd
  obtain ⟨-, hansw, -⟩ := (s.onServe tr).ackNoted_rest i
  have hnow := ((s.onServe tr).ackNoted_step i).now.trans (s.onServe_now tr)
  have hstate := (s.onServe tr).ackNoted_state i
  rw [hserved] at hstate
  generalize (s.onServe tr).ackNoted i = u at *
  obtain ⟨hquench, hrearm, hbits, hlevel, hanswer⟩ := State.dieLeaves_leaves hi (s := u) (by
    rw [hstate, testBit_setBit, hother]
    simp; omega)
  have hread := hd 0x6A1002 (by decide) (by decide)
  have hreadLevel := hd (0x6A0001 + i) (by omega) (by omega)
  rw [State.refreshStep_same _ _ (by decide), hbits] at hread
  rw [State.refreshStep_same _ _ (by simp; omega), hlevel] at hreadLevel
  generalize u.dieLeaves i = w at *
  obtain ⟨d', im, hshape⟩ := w.refreshStep_shape
  rw [hshape] at hexec
  refine ⟨_, hexec, ?_, hquench, by rw [hrearm, hnow], ?_, ?_, hreadLevel⟩
  · change w.answer.abort = 0
    rw [hanswer, hansw, hs]
  · refine (congrArg (Nat.testBit · i) hread).trans ?_
    rw [testBit_setBit, testBit_clearBit]
    simp; omega
  · refine (congrArg (Nat.testBit · 4) hread).trans ?_
    simp [testBit_setBit]

end acknowledge

/-! ### The obligation -/

/-- A period in which only an unarmed source was sampled changes the schedule alone. -/
theorem State.monitorPeriod_idle {ch : Nat} {r : Option Int} {s : State} (hclk : s.timing.clk100 = true) (hdue : s.hk.due = [])
    (hgot : s.therm.got = [(ch, r)]) (hscan : s.therm.scan = true) (hch : ch < 17 ∨ 23 ≤ ch)
    (hoff : ∀ i < 19, sourceChan i = ch → s.armed i = false) (hsteps : s.rd 0x6A0005 = maxNat (s.therm.sources.map Source.step)) :
    exec .monitorPeriod s = .next ((s.onTherm fun t => { t with got := [] }).assess.endScan) := by
  rw [exec_monitorPeriod hclk hdue hgot, State.monitored_of_unarmed (s := s.onTherm fun t => { t with got := [] }) r hch hoff, State.periodEnd,
    State.refreshStep_of_eq (s := s.onTherm fun t => { t with got := [] }) hsteps]
  exact congrArg Host.Outcome.next (if_pos hscan)

/-- A period whose sample of the pixel or logic die reaches its quench limit for the third time. -/
theorem State.monitorPeriod_quenches {i : Nat} {v a b : Int} {l : List (Option Int)} {l0 l1 l2 : Limit} {s : State} (hi : i < 2)
    (hclk : s.timing.clk100 = true) (hdue : s.hk.due = []) (hgot : s.therm.got = [(sourceChan i, some v)])
    (hlen : s.therm.sources.length = 19) (hl : l.length ≤ 1) (hraws : (s.src i).raws = l ++ [some a, some b])
    (hlimits : (s.src i).limits = [l0, l1, l2]) (hcount : l2.c = 2) (hclear : l2.set = false)
    (hreached : toSigned 16 (s.rd (0x6A0203 + 3 * i)) ≤ max (min a b) (min (max a b) v)) :
    ∃ t, exec .monitorPeriod s = .next t ∧ t.therm.quench = true ∧
      t.rd (0x6A0007 + i) = ofSigned 16 (max (min a b) (min (max a b) v)) ∧ (t.rd 0x6A1002).testBit i = true ∧
      (t.rd 0x6A1002).testBit (2 + i) = false ∧
      (s.therm.quench = false → t.rd 0x6A1101 = countUp (s.rd 0x6A1101) ∧ t.conv.calAt = none) ∧ t.power.fuses = s.power.fuses := by
  have hexec := exec_monitorPeriod hclk hdue hgot
  rw [State.monitored_die (s := s.onTherm fun t => { t with got := [] }) (by omega) hlen hl hraws] at hexec
  generalize max (min a b) (min (max a b) v) = m at *
  dsimp only at hexec
  rw [if_neg (by omega)] at hexec
  have hplaced := State.dieFiltered_places (s := s.onTherm fun t => { t with got := [] }) (i := i) (by omega)
    (by change i < s.therm.sources.length; omega) v m
  generalize State.dieFiltered i v m _ = u at *
  obtain ⟨hobj, hvalue, hulimits, hchannels, hframe⟩ := hplaced
  have hkeys : ∀ k ∈ dieFilteredKeys i, k = 0x6A0007 + i ∨ k < 0x610000 ∨ k = 0x6A1106 + i := by
    have hchan : sourceChan i < 256 := by interval_cases i <;> decide
    simp only [dieFilteredKeys, List.mem_cons, List.not_mem_nil, or_false]
    omega
  have hurd (k : Nat) (hk : 0x610000 ≤ k) (h1 : k ≠ 0x6A0007 + i) (h2 : k ≠ 0x6A1106 + i) : u.rd k = s.rd k :=
    hobj k fun hm => by have := hkeys k hm; omega
  obtain ⟨w, hw, hwstep, hwquench⟩ := State.sampleDie_quenches (s := u) (m := m) hi
    (by rw [hchannels]; change i < s.therm.sources.length; omega) (hulimits.trans hlimits) hcount hclear
    (by rw [hurd _ (by omega) (by omega) (by omega)]; exact hreached)
  rw [hw] at hexec
  obtain ⟨hqstep, hqtherm, hqstate, hqentered⟩ := w.dieQuench_quenches i
  obtain ⟨heobj, hequench, heframe⟩ := (w.dieQuench i).periodEnd_ends
  have hedge (k : Nat) (hk : k ∉ [0x6A0005, 0x6A1102, 0x6A0006]) := heobj k hk
  obtain ⟨hbit, hack⟩ := testBit_quenchSet hi (w.rd 0x6A1002)
  refine ⟨_, hexec, ?_, ?_, ?_, ?_, fun hq => ?_, ?_⟩
  · rw [hequench, hqtherm]
  · rw [hedge _ (by simp; omega), hqstep.objects _ (by simp [guardedKey]; omega) (by simp; omega),
      hwstep.objects _ (by simp [guardedKey]; omega) (by simp; omega), hvalue]
  · rw [hedge _ (by decide), hqstate]; exact hbit
  · rw [hedge _ (by decide), hqstate]; exact hack
  · obtain ⟨hc, hcal⟩ := hqentered (by rw [hwquench, hframe]; exact hq)
    refine ⟨?_, ?_⟩
    · rw [hedge _ (by decide), hc, hwstep.objects _ (by decide) (by simp; omega), hurd _ (by omega) (by omega) (by omega)]
    · rw [heframe]; exact hcal
  · have hp : (w.dieQuench i).power = s.power := by rw [hqstep.power, hwstep.power, hframe]; rfl
    rw [heframe]
    exact congrArg Power.fuses hp

/-- A period whose sample of the MRAM die reaches its limit for the third time. -/
theorem State.monitorPeriod_inhibits {v a b : Int} {l : List (Option Int)} {l0 : Limit} {ls : List Limit} {s : State}
    (hclk : s.timing.clk100 = true) (hdue : s.hk.due = []) (hgot : s.therm.got = [(25, some v)])
    (hlen : s.therm.sources.length = 19) (hl : l.length ≤ 1) (hraws : (s.src 2).raws = l ++ [some a, some b])
    (hlimits : (s.src 2).limits = l0 :: ls) (hcount : l0.c = 2) (hfree : s.inhibited = false)
    (hreached : toSigned 16 (s.rd 0x6A0207) ≤ max (min a b) (min (max a b) v)) :
    ∃ t, exec .monitorPeriod s = .next t ∧ t.inhibited = true ∧ t.rd 0x6A0009 = ofSigned 16 (max (min a b) (min (max a b) v)) ∧
      t.rd 0x6A1104 = countUp (s.rd 0x6A1104) ∧ (t.rd 0x100101).testBit 8 = true ∧ t.mram = s.mram := by
  have hexec := exec_monitorPeriod hclk hdue hgot
  have hdie := State.monitored_die (s := s.onTherm fun t => { t with got := [] }) (i := 2) (v := v) (by decide) hlen hl hraws
  change State.monitored 25 (some v) _ = _ at hdie
  rw [hdie] at hexec
  generalize max (min a b) (min (max a b) v) = m at *
  dsimp only at hexec
  rw [if_pos rfl] at hexec
  have hplaced := State.dieFiltered_places (s := s.onTherm fun t => { t with got := [] }) (i := 2) (by decide)
    (by change 2 < s.therm.sources.length; omega) v m
  generalize State.dieFiltered 2 v m _ = u at *
  obtain ⟨hobj, hvalue, hulimits, hchannels, hframe⟩ := hplaced
  obtain ⟨hinhibited, hreported, hcounted, halert, hmram⟩ := State.sampleMramDie_inhibits (s := u) (m := m)
    (by rw [hchannels]; change 2 < s.therm.sources.length; omega) (hulimits.trans hlimits) hcount
    (by rw [State.inhibited, hobj _ (by decide)]; exact hfree) (by rw [hobj _ (by decide)]; exact hreached)
  generalize u.sampleMramDie (some m) = w at *
  obtain ⟨heobj, -, heframe⟩ := w.periodEnd_ends
  refine ⟨_, hexec, ?_, ?_, ?_, ?_, ?_⟩
  · rw [State.inhibited, heobj _ (by decide)]; exact hinhibited
  · rw [heobj _ (by decide), hreported]; exact hvalue
  · rw [heobj _ (by decide), hcounted, hobj _ (by decide)]; rfl
  · rw [heobj _ (by decide)]; exact halert
  · rw [heframe]
    refine hmram.trans ?_
    rw [hframe]; rfl

/-- Settles O56: by the period that begins or ends, the sample of each die, the comparator, the acknowledge and the re-arm. -/
theorem thermalLimitsQuenchThrottleAndInhibit : Obligations.ThermalLimitsQuenchThrottleAndInhibit := by
  unfold Obligations.ThermalLimitsQuenchThrottleAndInhibit
  refine ⟨fun s hp hreset hsleep hins hspoil hup hon hdue hscan => ?_, fun s hnot => ?_,
    fun ch r s hclk hdue hgot hscan hch hoff hsteps => ?_,
    fun i v a b l l0 l1 l2 s hi hclk hdue hgot hlen hl hraws hlimits hcount hclear hreached =>
      State.monitorPeriod_quenches hi hclk hdue hgot hlen hl hraws hlimits hcount hclear hreached,
    fun v a b l l0 ls s hclk hdue hgot hlen hl hraws hlimits hcount hfree hreached =>
      State.monitorPeriod_inhibits hclk hdue hgot hlen hl hraws hlimits hcount hfree hreached,
    fun s => ⟨fun hclk => if_pos hclk, fun hclk hasleep => ?_, fun hclk hwaking => ?_, State.comparatorTrip_quenches⟩,
    fun tr i s hi h hlen => ⟨State.acknowledgeQuench_ignored hi h, State.acknowledgeQuench_noted hi h,
      State.acknowledgeQuench_leaves hi h⟩,
    fun x s hat => ⟨fun hearly => ?_, fun hdue hcal => ?_⟩⟩
  · have hstep : step s = .next s.tick := by simp only [step, hp]
    exact ⟨_, hstep, State.tick_scans hreset hsleep hins hspoil hup hon hdue hscan⟩
  · refine if_pos ?_
    rcases hnot with hn | hn | hn
    · simp [hn]
    · simp [hn]
    · simp [hn]
  · refine ⟨_, State.monitorPeriod_idle hclk hdue hgot hscan hch hoff hsteps, (State.rd_wr _ 0x6A0006 _ _).trans (if_pos rfl),
      lt_nextDue _ _ (by split <;> decide), rfl, rfl, rfl, rfl, rfl, sameObjects_wr _ 0x6A0006 _, rfl⟩
  · have hexec : exec .thermalComparatorTrip s = .next (s.startWake 3) := by
      change execThermalComparatorTrip s = _
      simp [execThermalComparatorTrip, hclk, hasleep]
    exact ⟨_, hexec, rfl, rfl, (State.rd_wr s 0xB02103 3 _).trans (if_pos rfl), sameObjects_wr s 0xB02103 3⟩
  · change execThermalComparatorTrip s = _
    simp [execThermalComparatorTrip, hclk, hwaking, State.onPower]
  · change execReArmEnd s = _
    simp [execReArmEnd, hat, Nat.not_le.mpr hearly]
  · have hexec : exec .reArmEnd s = .next ((s.onTherm fun x => { x with rearmEnd := none }).quenchBit 4 false) := by
      change execReArmEnd s = _
      simp [execReArmEnd, hat, hdue, hcal]
    refine ⟨_, hexec, rfl, ?_, sameObjects_wr _ 0x6A1002 _⟩
    refine (congrArg (Nat.testBit · 4) ((State.rd_wr _ 0x6A1002 _ _).trans (if_pos rfl))).trans ?_
    exact (testBit_clearBit ..).trans (by simp)

end Sys2Proof.Machine
end

section
/-!
PROOFS. The two-wire controller (R276 to R282): bus errors, the list that is sent, and how a transfer ends (O52).
-/
namespace Sys2Proof.Machine

/-! ### Bus errors (R276) -/

theorem State.dropBusTxn_same (s : State) : sameObjects [0xA00405] s s.dropBusTxn := by
  unfold State.dropBusTxn
  split
  · exact sameObjects.refl _ _
  · exact (sameObjects_wr s 0xA00405 _).of_dict rfl

theorem State.dropBusTxn_frame (s : State) :
    s.dropBusTxn = { s with dict := s.dropBusTxn.dict, twi := { s.twi with bus := s.twi.bus.tail } } := by
  unfold State.dropBusTxn
  split
  · next h => rw [h, List.tail_nil, ← h]
  · next h => rw [h]; rfl

/-- A bus error is counted, recorded and logged, and discards the transaction for which SCL is held. -/
structure State.BusErrorNoted (cause : Nat) (s t : State) : Prop where
  count : t.rd 0xA00402 = countUp (s.rd 0xA00402)
  cause : t.rd 0xA00403 = cause
  logged : s.log.queue.length < 64 → t.log.queue.length = s.log.queue.length + 1
  objects : sameObjects [0xA00402, 0xA00403, 0xA00405, 0xC00007, 0xC00008] s t
  twi : t.twi = { s.twi with bus := s.twi.bus.tail }
  stage : t.stage = s.stage

theorem State.busError_notes (cause : Nat) (s : State) : s.BusErrorNoted cause (s.busError cause) := by
  have hdropped := s.dropBusTxn_same
  have hframe := s.dropBusTxn_frame
  unfold State.busError
  generalize s.dropBusTxn = u at *
  have hlog := State.logEvent_same_of_noAlert (code := 0x0901) (data := leBytes 1 cause) rfl ((u.inc 0xA00402).wr 0xA00403 cause)
  have hrd (k : Nat) : ((u.inc 0xA00402).wr 0xA00403 cause).rd k =
      if k = 0xA00403 then cause else if k = 0xA00402 then countUp (u.rd 0xA00402) else u.rd k := by
    rw [State.rd_wr, State.rd_inc, countUp]
  refine ⟨?_, ?_, fun hroom => ?_, fun k hk => ?_, ?_, ?_⟩
  · rw [hlog _ (by decide), hrd, if_neg (by decide), if_pos rfl, hdropped _ (by decide)]
  · rw [hlog _ (by decide), hrd, if_pos rfl]
  · have hqueue : ((u.inc 0xA00402).wr 0xA00403 cause).log = s.log := by rw [hframe]; rfl
    obtain ⟨e, he, -⟩ := State.logEvent_of_room (s := (u.inc 0xA00402).wr 0xA00403 cause) (by rw [hqueue]; exact hroom) 0x0901
      (leBytes 1 cause)
    rw [he, hqueue]
    exact List.length_append
  · simp only [List.mem_cons, List.not_mem_nil, or_false, not_or] at hk
    obtain ⟨h1, h2, h3, h4, h5⟩ := hk
    rw [hlog _ (by simp [h4, h5]), hrd, if_neg h2, if_neg h1, hdropped _ (by simpa using h3)]
  · rw [State.logEvent_twi, State.wr_twi, State.inc_twi, hframe]
  · rw [State.logEvent_stage, State.wr_stage, State.inc_stage, hframe]

/-! ### The list is sent (R280, R282) -/

/-- A list that waits is none: nothing follows the transfer that ended. -/
theorem State.nextSends_of_none {s : State} (h : s.twi.sends = []) : s.nextSends = s := by
  unfold State.nextSends
  rw [h]
  exact ite_self _

theorem State.sendListNow_starts {s : State} (htransfer : s.twi.transfer = none) (hsends : s.twi.sends = [])
    (hrst : s.twi.rstLow = false) : s.sendListNow = s.beginList (s.rd 0xA01101) := by
  have hfree : ¬((s.twi.transfer.any fun x => !x.boot) || !s.twi.sends.isEmpty) = true := by simp [htransfer, hsends]
  have hgo : ¬(s.twi.transfer.isSome = true ∨ s.twi.rstLow = true) := by simp [htransfer, hrst]
  exact (if_neg hfree).trans (if_neg hgo)

theorem State.beginList_some {s : State} {list e : Nat} (h : nextDriver list 0 = some e) :
    s.beginList list = s.onTwi fun t => { t with transfer := some (driverTransfer list e s.now) } := by
  simp only [State.beginList, h]

theorem State.beginList_none {s : State} {list : Nat} (h : nextDriver list 0 = none) :
    s.beginList list = (s.wr 0xA01003 0).wr 0xA01103 0 := by
  simp only [State.beginList, h]

theorem State.onServe_twi (s : State) (tr : Transport) : (s.onServe tr).twi = s.twi := by rw [State.onServe_frame]

theorem State.exec_sendListNow (tr : Transport) (s : State) : exec (.sendListNow tr 1) s =
    .next (s.hostWrite ⟨tr, 0xA01102, 1, 1⟩ State.sendListNow) :=
  congrArg Host.Outcome.next (State.hostCommand_one s tr _ _)

section sendList
variable {tr : Transport} {s : State}

/-- A send that is admitted while none is under way begins its list. -/
theorem State.sendListNow_begins (htransfer : s.twi.transfer = none) (hsends : s.twi.sends = []) (hrst : s.twi.rstLow = false) :
    State.sendListNow (s.onServe tr) = (s.onServe tr).beginList (s.rd 0xA01101) := by
  rw [State.sendListNow_starts (by rwa [s.onServe_twi]) (by rwa [s.onServe_twi]) (by rwa [s.onServe_twi]),
    s.onServe_rd tr (by decide) (by decide)]

variable (h : s.admits ⟨tr, 0xA01102, 1, 1⟩)
include h

theorem State.hostWrite_sendListNow_twi : (s.hostWrite ⟨tr, 0xA01102, 1, 1⟩ State.sendListNow).twi =
    (State.sendListNow (s.onServe tr)).twi := by
  obtain ⟨d, hd⟩ := State.counted1_shape (State.sendListNow (s.onServe tr)) tr 0xA01102
  rw [State.hostWrite_eq_counted1 h (by simp), hd]

theorem State.sendListNow_sends {e : Nat} (htransfer : s.twi.transfer = none) (hsends : s.twi.sends = [])
    (hrst : s.twi.rstLow = false) (he : nextDriver (s.rd 0xA01101) 0 = some e) :
    ∃ t, exec (.sendListNow tr 1) s = .next t ∧ t.answer.abort = 0 ∧
      t.twi = { s.twi with transfer := some ⟨false, e, 0, s.now, true, s.rd 0xA01101, driverBytes (s.rd 0xA01101) e, 0⟩ } ∧
      sameObjects (accessCounters tr) s t := by
  have hk : (⟨tr, 0xA01102, 1, 1⟩ : Txn).key ≠ 0x102009 := by simp
  have heff := (State.sendListNow_begins (tr := tr) htransfer hsends hrst).trans (State.beginList_some he)
  refine ⟨_, State.exec_sendListNow tr s, ?_, ?_,
    State.hostWrite_same h hk (ks := []) _ (by rw [heff]; exact sameObjects.refl _ _)⟩
  · rw [State.hostWrite_answer h hk, heff, s.onServe_frame tr]
    rfl
  · rw [State.hostWrite_sendListNow_twi h, heff, State.onServe_now]
    exact congrArg (fun t : Twi => { t with transfer := some (driverTransfer (s.rd 0xA01101) e s.now) }) (s.onServe_twi tr)

theorem State.sendListNow_done (htransfer : s.twi.transfer = none) (hsends : s.twi.sends = []) (hrst : s.twi.rstLow = false)
    (he : nextDriver (s.rd 0xA01101) 0 = none) :
    ∃ t, exec (.sendListNow tr 1) s = .next t ∧ t.answer.abort = 0 ∧ t.twi = s.twi ∧ t.rd 0xA01003 = 0 ∧ t.rd 0xA01103 = 0 ∧
      sameObjects ([0xA01003, 0xA01103] ++ accessCounters tr) s t := by
  have hk : (⟨tr, 0xA01102, 1, 1⟩ : Txn).key ≠ 0x102009 := by simp
  have heff := (State.sendListNow_begins (tr := tr) htransfer hsends hrst).trans (State.beginList_none he)
  have hrd (k : Nat) (h1 : k / 256 ≠ 0x1020) (h2 : k ≠ 0xA00401) :=
    (State.rd_hostWrite h hk State.sendListNow h1 h2).trans (by rw [heff, State.rd_wr, State.rd_wr])
  refine ⟨_, State.exec_sendListNow tr s, ?_, ?_, (hrd 0xA01003 (by decide) (by decide)).trans rfl,
    (hrd 0xA01103 (by decide) (by decide)).trans rfl, State.hostWrite_same h hk _ ?_⟩
  · rw [State.hostWrite_answer h hk, heff, s.onServe_frame tr]
    rfl
  · rw [State.hostWrite_sendListNow_twi h, heff]
    exact s.onServe_twi tr
  · rw [heff]
    exact fun k hk => by
      obtain ⟨h1, h2⟩ : k ≠ 0xA01003 ∧ k ≠ 0xA01103 := by simpa using hk
      rw [State.rd_wr, if_neg h2, State.rd_wr, if_neg h1]

theorem State.sendListNow_refused {x : Transfer} (hx : s.twi.transfer = some x) (hboot : x.boot = false) :
    ∃ t, exec (.sendListNow tr 1) s = .next t ∧ t.answer.abort = 0x05010000 ∧ sameObjects (accessCounters tr) s t ∧
      t = { s with dict := t.dict, answer := t.answer } := by
  have heff : State.sendListNow (s.onServe tr) = (s.onServe tr).refuse abortState :=
    if_pos (by simp [s.onServe_twi, hx, hboot])
  exact ⟨_, State.exec_sendListNow tr s, State.hostWrite_of_refuse h (by simp) heff⟩

end sendList

/-! ### A transfer ends (R281) -/

/-- The end of a transfer in its status objects, before it is counted and reported. -/
def State.transferNoted (x : Transfer) (code : Nat) (s : State) : State :=
  let s := (s.onTwi fun t => { t with transfer := none }).wr 0xA01003 code
  if x.boot then s else s.wr 0xA01103 (256 * x.entry + code)

theorem State.transferNoted_frame (x : Transfer) (code : Nat) (s : State) : s.transferNoted x code =
    { s with dict := (s.transferNoted x code).dict, twi := { s.twi with transfer := none } } := by
  unfold State.transferNoted
  dsimp only
  split <;> rfl

theorem State.rd_transferNoted (x : Transfer) (code : Nat) (s : State) (k : Nat) : (s.transferNoted x code).rd k =
    if k = 0xA01103 ∧ x.boot = false then 256 * x.entry + code else if k = 0xA01003 then code else s.rd k := by
  unfold State.transferNoted
  cases hb : x.boot
  · simp only [Bool.false_eq_true, if_false, and_true, State.rd_wr]
    rfl
  · simp only [if_true, Bool.true_eq_false, and_false, if_false, State.rd_wr]
    rfl

/-- The data of the event of a failed transfer: its code and the address that it failed at (R262). -/
def State.failureData (x : Transfer) (code : Nat) (s : State) : List Byte :=
  leBytes 1 code ++ leBytes 1 (if x.boot then s.rd 0xA01002 else driverEntry x.list x.entry % 128)

/-- The end of a transfer, with no list that waits. -/
theorem State.endTransfer_eq {s : State} (hsends : s.twi.sends = []) (x : Transfer) (code : Nat) : ∃ data,
    s.endTransfer x code = if code = 0 then s.transferNoted x code
      else ((s.transferNoted x code).inc 0xA01005).logEvent 0x0903 data := by
  have hquiet : (s.transferNoted x code).twi.sends = [] := by rw [State.transferNoted_frame]; exact hsends
  refine ⟨(s.transferNoted x code).failureData x code, State.nextSends_of_none ?_⟩
  split
  · exact hquiet
  · rw [State.logEvent_twi]; exact hquiet

/-- A transfer that ends with success leaves its status. -/
theorem State.endTransfer_success {s : State} (hsends : s.twi.sends = []) (x : Transfer) :
    s.endTransfer x 0 = s.transferNoted x 0 := by
  obtain ⟨data, h⟩ := State.endTransfer_eq hsends x 0
  exact h.trans (if_pos rfl)

/-- A transfer that fails is counted and reported with its entry (R281, R282). -/
structure State.TransferFailed (x : Transfer) (code : Nat) (s t : State) : Prop where
  twi : t.twi = { s.twi with transfer := none }
  status : t.rd 0xA01003 = code
  entry : t.rd 0xA01103 = if x.boot = true then s.rd 0xA01103 else 256 * x.entry + code
  count : t.rd 0xA01005 = countUp (s.rd 0xA01005)
  alert : (t.rd 0x100101).testBit 10 = true
  bootPower : x.boot = true → t.power = { s.power with mouldReady := some none }
  listPower : x.boot = false → t.power = s.power
  objects : sameObjects [0xA01003, 0xA01004, 0xA01005, 0xA01103, 0x100101, 0xC00007, 0xC00008] s t
  mram : t.mram = s.mram

theorem State.failTransfer_fails {s : State} (hsends : s.twi.sends = []) (x : Transfer) {code : Nat} (hcode : code ≠ 0) :
    s.TransferFailed x code (s.failTransfer x code) := by
  obtain ⟨data, heq⟩ := State.endTransfer_eq hsends x code
  rw [if_neg hcode] at heq
  have hrd := s.rd_transferNoted x code
  have hframe := s.transferNoted_frame x code
  have hdict : (s.failTransfer x code).dict = (s.endTransfer x code).dict := by
    unfold State.failTransfer
    dsimp only
    split <;> rfl
  have hpower : (s.failTransfer x code).power = if x.boot = true then { (s.endTransfer x code).power with mouldReady := some none }
      else (s.endTransfer x code).power := by
    unfold State.failTransfer
    dsimp only
    split <;> rfl
  have hshape : (s.failTransfer x code).twi = (s.endTransfer x code).twi ∧
      (s.failTransfer x code).mram = (s.endTransfer x code).mram := by
    unfold State.failTransfer
    dsimp only
    split <;> exact ⟨rfl, rfl⟩
  obtain ⟨htwi, hmram⟩ := hshape
  have hread (k : Nat) : (s.failTransfer x code).rd k = (s.endTransfer x code).rd k := congrArg (Dict.get · k) hdict
  generalize s.failTransfer x code = t at *
  rw [heq] at hread hpower htwi hmram
  rw [State.logEvent_power, State.inc_power] at hpower
  rw [State.logEvent_twi, State.inc_twi] at htwi
  rw [State.logEvent_mram, State.inc_mram] at hmram
  have hlog := ((s.transferNoted x code).inc 0xA01005).logEvent_same 0x0903 data
  have hcounted (k : Nat) : ((s.transferNoted x code).inc 0xA01005).rd k =
      if k = 0xA01005 then countUp ((s.transferNoted x code).rd 0xA01005) else (s.transferNoted x code).rd k := by
    rw [State.rd_inc, countUp]
  have halert : ((((s.transferNoted x code).inc 0xA01005).logEvent 0x0903 data).rd 0x100101).testBit 10 = true :=
    State.logEvent_setsAlert _ rfl
  generalize s.transferNoted x code = u at *
  refine ⟨by rw [htwi, hframe], ?_, ?_, ?_, by rw [hread]; exact halert, fun hb => ?_, fun hb => ?_, fun k hk => ?_,
    by rw [hmram, hframe]⟩
  · rw [hread, hlog _ (by decide), hcounted, if_neg (by decide), hrd, if_neg (by simp), if_pos rfl]
  · rw [hread, hlog _ (by decide), hcounted, if_neg (by decide), hrd]
    cases x.boot <;> simp
  · rw [hread, hlog _ (by decide), hcounted, if_pos rfl, hrd, if_neg (by simp), if_neg (by decide)]
  · rw [hpower, if_pos hb, hframe]
  · rw [hpower, if_neg (by simp [hb]), hframe]
  · simp only [List.mem_cons, List.not_mem_nil, or_false, not_or] at hk
    obtain ⟨h1, -, h3, h4, h5, h6, h7⟩ := hk
    rw [hread, hlog _ (by simp [h5, h6, h7]), hcounted, if_neg h3, hrd, if_neg (by simp [h4]), if_neg h1]

/-! ### A transaction fails (R281) -/

/-- A lost arbitration or a missing acknowledge of the address is counted first. -/
def State.attemptNoted (code : Nat) (s : State) : State :=
  if code = 3 ∨ code = 4 then (s.inc 0xA01004).logEvent 0x0902 (leBytes 1 code) else s

theorem State.attemptNoted_same (code : Nat) (s : State) : sameObjects [0xA01004, 0xC00007, 0xC00008] s (s.attemptNoted code) :=
  fun k hk => by
    simp only [List.mem_cons, List.not_mem_nil, or_false, not_or] at hk
    obtain ⟨h1, h2, h3⟩ := hk
    unfold State.attemptNoted
    split
    · rw [State.logEvent_same_of_noAlert (code := 0x0902) rfl _ _ (by simp [h2, h3]), State.rd_inc, if_neg h1]
    · rfl

theorem State.attemptNoted_rest (code : Nat) (s : State) : (s.attemptNoted code).twi = s.twi ∧
    (s.attemptNoted code).power = s.power ∧ (s.attemptNoted code).mram = s.mram ∧ (s.attemptNoted code).now = s.now := by
  unfold State.attemptNoted
  split
  · exact ⟨State.logEvent_twi .., State.logEvent_power .., State.logEvent_mram .., State.logEvent_now ..⟩
  · exact ⟨rfl, rfl, rfl, rfl⟩

theorem State.attemptNoted_count (s : State) : (s.attemptNoted 3).rd 0xA01004 = countUp (s.rd 0xA01004) := by
  unfold State.attemptNoted
  rw [if_pos (by decide), State.logEvent_same _ _ _ _ (by decide), State.rd_inc, if_pos rfl, countUp]

/-- The transfer with its transaction asked for again. -/
def Transfer.again (x : Transfer) (now : Instant) : Transfer :=
  { x with attempts := x.attempts + 1, askedAt := now, waitFree := true }

theorem State.attemptFails_eq (x : Transfer) (code : Nat) (s : State) : s.attemptFails x code =
    if code = 1 ∨ code = 3 then
      if 3 ≤ x.attempts + 1 then (s.attemptNoted code).failTransfer x 7
      else (s.attemptNoted code).onTwi fun t => { t with transfer := some (x.again (s.attemptNoted code).now) }
    else (s.attemptNoted code).failTransfer x code := rfl

/-- A failure after the transaction was noted is a failure of the transfer. -/
theorem State.TransferFailed.of_noted {x : Transfer} {noted code : Nat} {s t : State}
    (h : (s.attemptNoted noted).TransferFailed x code t) : s.TransferFailed x code t := by
  obtain ⟨htwi, hstatus, hentry, hcount, halert, hboot, hlist, hobj, hmram⟩ := h
  obtain ⟨ntwi, npower, nmram, -⟩ := s.attemptNoted_rest noted
  have nobj := s.attemptNoted_same noted
  refine ⟨by rw [htwi, ntwi], hstatus, ?_, ?_, halert, fun hb => by rw [hboot hb, npower], fun hb => by rw [hlist hb, npower],
    nobj.trans hobj (by simp) (List.Subset.refl _), hmram.trans nmram⟩
  · rw [hentry, nobj _ (by decide)]
  · rw [hcount, nobj _ (by decide)]

/-- A transaction that the third attempt loses, or that ends with any other error, fails the transfer. -/
theorem State.attemptFails_fails {x : Transfer} {code last : Nat} {s : State} (hsends : s.twi.sends = [])
    (h : ((code = 1 ∨ code = 3) ∧ 2 ≤ x.attempts ∧ last = 7) ∨ (code ∈ [2, 4, 5, 6, 8, 9] ∧ last = code)) :
    s.TransferFailed x last (s.attemptFails x code) := by
  have hquiet : (s.attemptNoted code).twi.sends = [] := by rw [(s.attemptNoted_rest code).1]; exact hsends
  refine State.TransferFailed.of_noted (noted := code) ?_
  rw [State.attemptFails_eq]
  rcases h with ⟨hretry, hlast, rfl⟩ | ⟨hcode, rfl⟩
  · rw [if_pos hretry, if_pos (by omega)]
    exact State.failTransfer_fails hquiet x (by decide)
  · simp only [List.mem_cons, List.not_mem_nil, or_false] at hcode
    rw [if_neg (by omega)]
    exact State.failTransfer_fails hquiet x (by omega)

/-! ### The obligation -/

/-- What O52 says of a transfer that fails. -/
theorem State.TransferFailed.report {x : Transfer} {code : Nat} {s t : State} {o : Host.Outcome State Fault Refusal}
    (ho : o = .next t) (h : s.TransferFailed x code t) :
    ∃ t, o = .next t ∧ t.twi = { s.twi with transfer := none } ∧ t.rd 0xA01003 = code ∧
      t.rd 0xA01103 = (if x.boot then (if x.boot then s.rd 0xA01103 else 256 * x.entry)
        else (if x.boot then s.rd 0xA01103 else 256 * x.entry) + code) ∧
      t.rd 0xA01005 = countUp (s.rd 0xA01005) ∧ (t.rd 0x100101).testBit 10 = true ∧
      (x.boot = true → t.power = { s.power with mouldReady := some none }) ∧ (x.boot = false → t.power = s.power) ∧
      sameObjects [0xA01003, 0xA01004, 0xA01005, 0xA01103, 0x100101, 0xC00007, 0xC00008] s t ∧ t.mram = s.mram := by
  refine ⟨t, ho, h.twi, h.status, ?_, h.count, h.alert, h.bootPower, h.listPower, h.objects, h.mram⟩
  rw [h.entry]
  cases x.boot <;> rfl

section transfer
variable {x : Transfer} {s : State} (hx : s.twi.transfer = some x) (hsends : s.twi.sends = []) (hrst : s.twi.rstLow = false)
include hx hrst

/-- The transaction of a transfer, of a list or of the boot fetch, ends with an error. -/
theorem State.exec_attemptFails {status : Nat} (h0 : status ≠ 0) (h9 : status ≤ 9) (img : List Byte) :
    exec (if x.boot = true then Instr.bootMouldFetch status img else .controllerTransferEnd status) s =
      .next (s.attemptFails x status) := by
  have hin : ¬9 < status := Nat.not_lt.mpr h9
  cases hb : x.boot
  · change execControllerTransferEnd status s = _
    simp [execControllerTransferEnd, hx, hb, hrst, h0, hin]
  · change execBootMouldFetch status img s = _
    simp [execBootMouldFetch, hx, hb, hrst, h0, hin]

/-- The transaction of a list's entry ends with success. -/
theorem State.exec_transferEnd_zero (hb : x.boot = false) : exec (.controllerTransferEnd 0) s =
    match nextDriver x.list (x.entry + 1) with
    | some e => .next (s.onTwi fun t => { t with transfer := some (driverTransfer x.list e s.now) })
    | none => .next (s.endTransfer x 0) := by
  change execControllerTransferEnd 0 s = _
  simp only [execControllerTransferEnd, hx, hb, hrst]
  rfl

/-- The boot fetch ends with success. -/
theorem State.exec_bootFetch_zero (hb : x.boot = true) (hdue : x.askedAt + us 368730 ≤ s.now) (img : List Byte) :
    exec (.bootMouldFetch 0 img) s =
      match readImage (imageField (pad 16384 img) 4 1) (pad 16384 img) with
      | .inl _ => .next ((s.endTransfer x 0).bootEnds (some (pad 16384 img)))
      | .inr _ => .next (s.failTransfer x 0x08) := by
  have hready : ¬(9 < 0 ∨ (!x.boot) = true ∨ s.twi.rstLow = true ∨ (0 = 0 ∧ s.now < x.askedAt + fetchTime)) := by
    simp [hb, hrst, fetchTime, Nat.not_lt.mpr hdue]
  change execBootMouldFetch 0 img s = _
  unfold execBootMouldFetch
  rw [hx]
  dsimp only
  rw [if_neg hready]
  rfl

end transfer

/-- Settles O52: by how a transfer begins, goes on, is tried again and ends. -/
theorem controllerTransfersRetryEndAndReport : Obligations.ControllerTransfersRetryEndAndReport := by
  unfold Obligations.ControllerTransfersRetryEndAndReport
  refine ⟨fun cause s hphase h1 h5 h4 hrst => ?_, fun tr s h => ⟨fun htransfer hsends hrst =>
      ⟨fun e he => State.sendListNow_sends h htransfer hsends hrst he, State.sendListNow_done h htransfer hsends hrst⟩,
      fun x => State.sendListNow_refused h⟩, fun x s hx hsends hrst => ?_⟩
  · obtain ⟨hcount, hcause, hlogged, hobj, htwi, hstage⟩ := s.busError_notes cause
    have hexec : exec (.twiBusError cause) s = .next (s.busError cause) := by
      refine congrArg Host.Outcome.next (if_neg ?_)
      rintro (hn | hn | hn | hn | ⟨hn, hoff⟩)
      · exact hphase hn
      · simp [hrst] at hn
      · omega
      · omega
      · exact h4 hn hoff
    exact ⟨_, hexec, hcount, hcause, hlogged, hobj, htwi, hstage⟩
  · refine ⟨fun status img => ⟨fun hstatus => ⟨fun hfew => ?_, fun hlast => ?_⟩, fun hstatus => ?_⟩, fun hb e he => ?_,
      fun hb he => ?_, fun hb hearly img => ?_, fun hb hdue img => ⟨fun d hd => ?_, fun cause hcause => ?_⟩, fun hn hfree => ?_,
      fun hfree hdue => ?_, fun hearly => ?_⟩
    · have hexec := State.exec_attemptFails hx hrst (status := status) (by omega) (by omega) img
      rw [State.attemptFails_eq, if_pos hstatus, if_neg (show ¬3 ≤ x.attempts + 1 by omega)] at hexec
      obtain ⟨ntwi, -, nmram, nnow⟩ := s.attemptNoted_rest status
      have hcount := s.attemptNoted_count
      have hkept : status = 1 → s.attemptNoted status = s := fun h1 => if_neg (by omega)
      refine ⟨_, hexec, ?_, ?_, fun h3 => ?_, fun h1 => ?_, nmram⟩
      · exact congrArg (fun now => some (x.again now)) nnow
      · rw [← ntwi]; rfl
      · subst h3; exact hcount
      · change (s.attemptNoted status).dict = _
        rw [hkept h1]
    · exact (State.attemptFails_fails hsends (.inl ⟨hstatus, hlast, rfl⟩)).report
        (State.exec_attemptFails hx hrst (by omega) (by omega) img)
    · have hrange : status ≠ 0 ∧ status ≤ 9 := by
        simp only [List.mem_cons, List.not_mem_nil, or_false] at hstatus
        omega
      exact (State.attemptFails_fails hsends (.inr ⟨hstatus, rfl⟩)).report
        (State.exec_attemptFails hx hrst hrange.1 hrange.2 img)
    · have hexec := State.exec_transferEnd_zero hx hrst hb
      rw [he] at hexec
      exact ⟨_, hexec, rfl⟩
    · have hexec := State.exec_transferEnd_zero hx hrst hb
      rw [he] at hexec
      dsimp only at hexec
      rw [State.endTransfer_success hsends] at hexec
      have hrd := s.rd_transferNoted x 0
      have hframe := s.transferNoted_frame x 0
      refine ⟨_, hexec, by rw [hframe], ?_, ?_, fun k hk => ?_, by rw [hframe]⟩
      · rw [hrd, if_neg (by simp), if_pos rfl]
      · rw [hrd, if_pos ⟨rfl, hb⟩]; rfl
      · obtain ⟨h1, h2⟩ : k ≠ 0xA01003 ∧ k ≠ 0xA01103 := by simpa using hk
        rw [hrd, if_neg (by simp [h2]), if_neg h1]
    · change execBootMouldFetch 0 img s = _
      simp [execBootMouldFetch, hx, hb, hrst, fetchTime, hearly]
    · have hexec := State.exec_bootFetch_zero hx hrst hb hdue img
      rw [hd] at hexec
      dsimp only at hexec
      rw [State.endTransfer_success hsends] at hexec
      have hrd := s.rd_transferNoted x 0
      have hframe := s.transferNoted_frame x 0
      refine ⟨_, hexec, ?_, ?_, ?_, fun k hk => ?_⟩
      · rw [hframe]; rfl
      · rw [hframe]; rfl
      · exact (hrd _).trans ((if_neg (by simp)).trans (if_pos rfl))
      · exact (hrd _).trans ((if_neg (by simp [hb])).trans (if_neg (by simpa using hk)))
    · have hexec := State.exec_bootFetch_zero hx hrst hb hdue img
      rw [hcause] at hexec
      exact (State.failTransfer_fails hsends x (by decide)).report hexec
    · change execControllerRetry s = _
      simp [execControllerRetry, hx, hn, hfree, hrst, State.onTwi]
    · refine (State.failTransfer_fails hsends x (by decide)).report (code := 5) ?_
      change execBusNotFreeTimeout s = _
      simp [execBusNotFreeTimeout, hx, hfree, hdue]
    · change execBusNotFreeTimeout s = _
      simp [execBusNotFreeTimeout, hx, Nat.not_le.mpr hearly]

end Sys2Proof.Machine
end

section
/-!
PROOFS. An address match in Sleep while SCL counts as held (O51; R275, R379): the wake keeps the instant from which SCL was held.
-/
namespace Sys2Proof.Machine

/-- A part in Sleep that answers address 0x30, and that has held SCL low since an instant other than the present one. -/
def heldAsleep : State :=
  { State.reset with
    power := { State.reset.power with phase := .asleep }
    twi := { State.reset.twi with addrs := [0, 0x130], held := some (State.reset.now + 1) } }

theorem heldAsleep_answers : (heldAsleep.twiMatch 0x30).isSome = true := by decide +kernel

/-- The address match wakes the part, and SCL stays held from the earlier instant. -/
theorem heldAsleep_wakes : exec (.twiWake 0x30) heldAsleep =
    .next ((heldAsleep.startWake 1).onTwi fun t => { t with held := some (State.reset.now + 1) }) := by
  have hlive : ¬(heldAsleep.twi.rstLow = true ∨ (heldAsleep.twiMatch 0x30).isNone = true) := by decide +kernel
  change execTwiWake 0x30 heldAsleep = _
  exact (if_neg hlive).trans rfl

/-- Refutes O51: its clause on the wake does not ask that SCL is not held yet, and where it is held the wake keeps the instant from
which it has been. -/
theorem not_twoWireTransactionsCommitReadBackAndAreDiscarded :
    ¬ Obligations.TwoWireTransactionsCommitReadBackAndAreDiscarded := by
  unfold Obligations.TwoWireTransactionsCommitReadBackAndAreDiscarded
  rintro ⟨-, -, -, -, hwakes⟩
  obtain ⟨t, hnext, -, -, hheld, -⟩ := hwakes 0x30 heldAsleep rfl rfl heldAsleep_answers
  obtain rfl := Host.Outcome.next.inj (heldAsleep_wakes.symm.trans hnext)
  have hsame : State.reset.now + 1 = State.reset.now := Option.some.inj hheld
  exact absurd hsame (Nat.succ_ne_self _)

end Sys2Proof.Machine
end
